-- ==== Sys2Proof/Word.lean ====
section
/-! DEFINITION. The word types of the ESN-8440: bytes (R7) and 32-bit register words (R10). -/

namespace Sys2Proof

/-- A byte of memory (00_scope, Notation: 8 bits). -/
abbrev Byte := BitVec 8

/-- A register or Kennu word (R10: every register is 32 bits wide). -/
abbrev Word := BitVec 32

end Sys2Proof
end

