-- ==== Sys2Proof/Config.lean ====
section
/-! DEFINITION. What one part fixes (the variant of R1, R2) and the FREE VALUES: opaque constants for every value the
spec leaves to cryptography, to chance, to the host or to the implementation. Nothing can evaluate them. -/

namespace Sys2Proof

/-- The three ordering variants of R2. -/
inductive Variant where
  | L | M | S
  deriving DecidableEq, Repr

namespace Variant

/-- Host ports of the variant (R2). -/
def ports : Variant → Nat
  | L => 4 | M => 2 | S => 1
/-- Active symmetric lanes of the variant (R2). -/
def lanes : Variant → Nat
  | L => 8 | M => 6 | S => 4
/-- Active Crucible units of the variant (R2). -/
def crus : Variant → Nat
  | L => 2 | M => 2 | S => 1
/-- Queue pairs of the variant (R2). -/
def qps : Variant → Nat
  | L => 16384 | M => 8192 | S => 4096
/-- Device contexts of the variant (R2). -/
def contexts : Variant → Nat
  | L => 4096 | M => 4096 | S => 2048
/-- Stream slots of the variant (R2). -/
def streams : Variant → Nat
  | L => 1024 | M => 1024 | S => 512
/-- Enrolled field devices of the variant (R2). -/
def enrolled : Variant → Nat
  | L => 262144 | M => 131072 | S => 65536
/-- FAULTN default style of R2: true is pulse. -/
def faultnPulse : Variant → Bool
  | L => true | M => false | S => false
/-- HS_ID.VARIANT code (02, HS_ID). -/
def code : Variant → Nat
  | L => 0x4C | M => 0x4D | S => 0x53
/-- Standing reservation of leave tokens (R446). -/
def standing : Variant → Nat
  | L => 420 | M => 340 | S => 300

end Variant
end Sys2Proof

namespace Sys2Proof.Config

/-! ### Free values (no body: nothing can evaluate them) -/

/-- A fresh natural number for every count: chance, timing and anything the spec leaves to an implementation. -/
opaque free : Nat → Nat
/-- The byte a host returns for a core read of a host-memory window (R35): host memory is outside the part. -/
opaque hostByte : Nat → Nat → Byte

/-! ### What one part, one maker or one run fixes -/

/-- A unit's own result check finds a fault (R211): unit, count. A sound unit never does; nothing fixes when one fails. -/
opaque unitFaults : Nat → Nat → Bool
/-- Byte 0 of the tag's UID: the maker's ISO/IEC 7816-6 code, which the spec does not give (R347). -/
opaque uid0 : Byte
/-- The firmware version GET IDENTITY reports (R353): 4 bytes of the firmware image. -/
opaque fwVersion : Nat → Byte
/-- Byte `k` of random output number `i` (DRBG output, nonces, random keys). -/
opaque rndByte : Nat → Nat → Byte
/-- `n` bytes of random output number `i`, each free. -/
def rnd (i n : Nat) : List Byte := (List.range n).map (rndByte i)

/-- The unit (pool 0-2, unit) whose lane buffer, Crucible scratch or return stack an SRAM macro serves, if any (R427): the
spec gives the macros no numbers. -/
opaque macroOwner : Nat → Option (Nat × Nat)

end Sys2Proof.Config
end

