-- ==== Sys2Proof/Syntax.lean ====
section
/-! DEFINITION. The commands of the ESN-8440, one constructor per row of spec/opcode_table.json, and their operands. -/

namespace Sys2Proof

/-- A physical Kennu pair (R270): 0 A, 1 B, 2 C. -/
abbrev Pair := Fin 3
/-- A host port, and the host domain of the same number (R6, R56). -/
abbrev Port := Fin 4
/-- A Kennu general register (10, Registers). -/
abbrev GReg := Fin 16

/-- Who performs a register access (00, Actors and requesters). -/
inductive Rq where
  | pair (p : Pair)   -- firmware on a physical pair
  | debug             -- the debug master behind the JTAG pins
  deriving DecidableEq, Repr

/-- The condition field of R282 (code 0xF is no condition: it is the UNDEF row). -/
inductive Cond where
  | ze | nz | ul | uge | ug | ule | sl | sge | sg | sle | ng | nn | ov | nov | al
  deriving DecidableEq, Repr

/-- How a read of host memory returns (R55): its bytes, or one of the three failures of R103. -/
inductive ReadRes where
  | ok (d : List Byte)
  | unsuccessful
  | poisoned
  | timeout
  deriving DecidableEq, Repr

/-- The operand of a bit instruction (R281 format B, R286): flag D, the optional index register (X, RX) and BADDR. -/
structure BitOp where
  d : Bool
  rx : Option GReg
  baddr : BitVec 16
  deriving DecidableEq, Repr

/-- A command of the block: one constructor per row of spec/opcode_table.json, in its order. Operands are what
arrives with the command from outside the model: the requester, the port, the pair, the data read. -/
inductive Instr where
  /-- REGISTER_WRITE (R11): A write to a register that has no row of its own: the value is set, or the write is ignored or refused as a violation. -/
  | registerWrite (rq : Rq) (addr : Nat) (v : Word)
  /-- SOFT_RESET (R16): A write of BLK_CTRL.SRST sets SRST_BUSY and begins resetting the block's work and registers as its chapter states. -/
  | softReset (rq : Rq) (blk inst : Nat) (en : Bool)
  /-- SOFT_RESET_COMPLETE (R17): A soft reset ends: SRST_BUSY clears and the register accesses held during it are carried out. -/
  | softResetComplete (blk inst : Nat)
  /-- BLOCK_DISABLE (R16): A write of BLK_CTRL.EN stops the block accepting new work or lets it run. -/
  | blockDisable (rq : Rq) (blk inst : Nat) (en : Bool)
  /-- EVENT_CLEAR (R18): A write of ones to BLK_EVT clears events; a set in the same cycle wins and BLK_EVTCNT counts the collision. -/
  | eventClear (rq : Rq) (blk inst : Nat) (mask collide : Word)
  /-- FIRMWARE_FENCE (R14): A write of 1 to a BLK_FENCE bit fences that sub-unit as a FENCE reaction would, until the next Start. -/
  | firmwareFence (rq : Rq) (blk inst : Nat) (mask : Word)
  /-- BLOCK_LOCK (R11): A write of BLK_LOCK.LOCK makes every RWL field of the instance read-only until the next Start. -/
  | blockLock (rq : Rq) (blk inst : Nat)
  /-- SQ_TAIL (R79): A host write of SQ_TAIL is checked and, if accepted, moves the QP's tail. -/
  | sqTail (p : Port) (q : Nat) (v : Word)
  /-- CQ_HINT (R92): A host write of CQ_HINT is checked and, if accepted, advances the consumed index C. -/
  | cqHint (p : Port) (q : Nat) (v : Word)
  /-- INLINE_PUSH (R83): A 64- or 128-byte write to INLINE0 posts one or two entries, or spills them to the ring when the store is full. -/
  | inlinePush (p : Port) (q : Nat) (e0 : List Byte) (e1 : Option (List Byte))
  /-- FETCH_TURN (R121): The port's Ladle chooses an eligible QP and issues the read of up to 16 posted entries. -/
  | fetchTurn (p : Port)
  /-- ENTRY_READ_COMPLETION (R81): Fetched entries arrive and are taken in slot order, then pass admission, window check and key resolution. -/
  | entryReadCompletion (q : Nat) (ents : List (List Byte)) (fail : Option (Fin 3))
  /-- OWN_REREAD (R82): One µs after an entry read with OWN 0 it is read again, and if OWN is still 0 it fails admission. -/
  | ownReread (q : Nat) (e : List Byte)
  /-- INPUT_READ_COMPLETION (R103): A Ladle read of job input, record or stream state returns, successfully or with an error. -/
  | inputReadCompletion (job off : Nat) (r : ReadRes)
  /-- LADLE_READ_TIMEOUT (R55): A Ladle read passes its completion timeout and its job ends with HOST_MEM_FAULT. -/
  | ladleReadTimeout (job off : Nat)
  /-- CREDIT_PERIOD (R122): Every 1 µs each domain's dispatch credit for each engine kind grows by its share. -/
  | creditPeriod
  /-- JOB_DISPATCH (R122): A free unit takes the oldest ready job chosen by domain credit, class and round robin, or its next segment. -/
  | jobDispatch (cru : Bool) (cont : Option (Fin 9))
  /-- COMPLETION_WRITE (R90): A completion that waited for a free CQ slot is written as one posted 16-byte write and W advances. -/
  | completionWrite (q : Nat)
  /-- CQ_READ_AHEAD (R91): The Ladle reads 64 CQ entries to learn which slots are free, repeating at doubling intervals while a completion waits. -/
  | cqReadAhead (q : Nat)
  /-- CQ_READ_AHEAD_COMPLETION (R91): A CQ read-ahead returns and C advances over entries whose OWN reads 0, or the QP faults. -/
  | cqReadAheadCompletion (q : Nat) (owns : Option (List Bool))
  /-- OPEN_FRAME (R178): A telemetry frame is checked, decrypted and its counter judged at commit. -/
  | openFrame (job : Nat)
  /-- SEAL_FRAME (R177): A command payload is sealed under the next TX counter into a field frame. -/
  | sealFrame (job : Nat)
  /-- ENC (R182): Payload is encrypted or wrapped under a slot key in the chosen mode. -/
  | enc (job : Nat)
  /-- DEC (R182): Payload is decrypted or unwrapped under a slot key, checking any tag. -/
  | dec (job : Nat)
  /-- MAC_GEN (R182): A CMAC or GMAC tag is computed under a slot key. -/
  | macGen (job : Nat)
  /-- MAC_VER (R182): A CMAC or GMAC tag is verified under a slot key. -/
  | macVer (job : Nat)
  /-- XTS_ENC (R186): Data units are encrypted with XTS under incrementing tweaks. -/
  | xtsEnc (job : Nat)
  /-- XTS_DEC (R186): Data units are decrypted with XTS under incrementing tweaks. -/
  | xtsDec (job : Nat)
  /-- STREAM_SAVE (R190): A bound stream slot's state is written out wrapped or in the clear. -/
  | streamSave (job : Nat)
  /-- STREAM_RESTORE (R191): Saved stream state is checked and bound to a free stream slot. -/
  | streamRestore (job : Nat)
  /-- PK_SIGN (R202): A digest or message is signed with a slot's private key on a Crucible unit. -/
  | pkSign (job : Nat)
  /-- PK_VERIFY (R204): A signature is verified against a public key from the input. -/
  | pkVerify (job : Nat)
  /-- PK_AGREE (R203): A shared secret is agreed with a peer point into a filled slot. -/
  | pkAgree (job : Nat)
  /-- PK_KEYGEN (R210): A key pair is generated into a filled slot and the public value written. -/
  | pkKeygen (job : Nat)
  /-- RSA_PRIV (R211): A raw RSA private operation runs with a slot key and its result is checked. -/
  | rsaPriv (job : Nat)
  /-- RSA_PUB (R204): A raw RSA public operation runs with n and e from the input. -/
  | rsaPub (job : Nat)
  /-- RANDOM (R228): Random bytes are generated from the domain's DRBG instance, with optional prediction resistance. -/
  | random (job : Nat)
  /-- RESEED (R228): The domain's DRBG instance is reseeded with additional input. -/
  | reseed (job : Nat)
  /-- WRAP (R257): A slot is exported as a KWP blob under a KEK, or erased. -/
  | wrap (job : Nat)
  /-- UNWRAP (R258): A key blob is unwrapped into an empty slot with a masked policy. -/
  | unwrap (job : Nat)
  /-- DERIVE (R259): A key is derived by the SP 800-108 KDF from a source slot into a destination slot. -/
  | derive (job : Nat)
  /-- ENROL_PUT (R160): A device record is enrolled anew or rewrapped and written out. -/
  | enrolPut (job : Nat)
  /-- ENROL_RETIRE (R162): A device's vault slot is marked RETIRED. -/
  | enrolRetire (job : Nat)
  /-- CTX_FLUSH (R163): One or all contexts of the domain are evicted, optionally writing exact state. -/
  | ctxFlush (job : Nat)
  /-- TAGSTORE_READ (R366): Tag-store bytes are read under one marker for a host. -/
  | tagstoreRead (job : Nat)
  /-- TAGSTORE_WRITE (R367): A host writes the general tag store in one commit and may take or drop the write lock. -/
  | tagstoreWrite (job : Nat)
  /-- TAG_BUSY_TIMEOUT (R368): A host tag-store job not begun 20 ms after reaching execution completes with TAG_BUSY. -/
  | tagBusyTimeout (job : Nat)
  /-- NOP (R75): A job that uses no engine passes through to completion and may close a heat. -/
  | nop (job : Nat)
  /-- CREATE_QP (R113): An admin command makes a new I/O queue pair live. -/
  | createQp (job : Nat)
  /-- DESTROY_QP (R114): An admin command ends or drains a QP's jobs, writes its completions and removes it. -/
  | destroyQp (job : Nat)
  /-- DESTROY_TMO_EXPIRY (R114): The DESTROY_QP time limit expires, ending running jobs and releasing unreported ones. -/
  | destroyTmoExpiry (q : Nat)
  /-- QUERY_QP (R111): An admin command writes 64 bytes of a QP's state. -/
  | queryQp (job : Nat)
  /-- SET_SHARE (R116): An admin command sets the domain's engine share within its quota. -/
  | setShare (job : Nat)
  /-- BIND_TABLE (R136): An admin command binds or unbinds the domain's enrolment table. -/
  | bindTable (job : Nat)
  /-- SET_WINDOW (R118): An admin command sets or clears host-memory window 1–15. -/
  | setWindow (job : Nat)
  /-- GET_CAPS (R119): An admin command writes the capacities, limits and quotas in force. -/
  | getCaps (job : Nat)
  /-- GET_FAULTS (R120): An admin command writes records of the domain's fault view, newest first. -/
  | getFaults (job : Nat)
  /-- DRBG_INSTANTIATE (R227): An admin command instantiates the domain's DRBG instance with a personalisation string. -/
  | drbgInstantiate (job : Nat)
  /-- ADMIN_ENABLE (R53): A host write of HS_ADMIN_CFG.ENABLE checks the bootstrap configuration and makes the admin QP live or reports CFG_ERR. -/
  | adminEnable (p : Port) (off : Nat) (v : Word)
  /-- PERST_ASSERT (R60): PERSTpN asserted starts a domain reset of port p. -/
  | perstAssert (p : Port)
  /-- PERST_DEASSERT (R64): PERSTpN deasserted starts link training within 20 ms. -/
  | perstDeassert (p : Port)
  /-- HOT_RESET (R60): A hot reset received on port p starts a domain reset. -/
  | hotReset (p : Port)
  /-- LINK_DOWN (R60): The link going from DL_Up to DL_Down starts a domain reset. -/
  | linkDown (p : Port)
  /-- FUNCTION_LEVEL_RESET (R60): A Function Level Reset starts a domain reset. -/
  | functionLevelReset (p : Port)
  /-- D3HOT_TO_D0 (R60): A transition from D3hot to D0 starts a domain reset. -/
  | d3hotToD0 (p : Port)
  /-- PORT_EN (R60): A firmware write of HPT_CFG.PORT_EN holds the port in reset with a domain reset, or releases it. -/
  | portEn (rq : Rq) (p : Port) (v : Word)
  /-- DOMAIN_RESET_COMPLETE (R60): HS_GEN is incremented, HOST_RESET is recorded and RESETTING clears. -/
  | domainResetComplete (p : Port)
  /-- LINK_UP (R64): The port reaches DL_Up and BAR2 answers. -/
  | linkUp (p : Port) (speed : Fin 5) (x1 : Bool)
  /-- L1_ENTRY (R65): In Hold, a link idle for 8 µs with L1 enabled enters ASPM L1. -/
  | l1Entry (p : Port)
  /-- HS_BEAT (R50): Every 1 ms of IOSC time in Service and Hold the heartbeat increments. -/
  | hsBeat
  /-- ASSIGN (R69): A management ASSIGN frame gives the candidate unit its address. -/
  | assign (u : Byte) (d : List Byte) (crc : Byte)
  /-- RELEASE (R69): A management RELEASE frame makes the unit or units drop their addresses. -/
  | release (u : Byte) (d : List Byte) (crc : Byte)
  /-- IDENTITY (R69): A management IDENTITY frame selects the unit to return its identity. -/
  | identity (u : Byte) (d : List Byte) (crc : Byte)
  /-- HEALTH (R69): A management HEALTH frame selects the unit to return its health summary. -/
  | health (u : Byte) (d : List Byte) (crc : Byte)
  /-- CAPACITY (R69): A management CAPACITY frame selects the unit to return capacities and spares. -/
  | capacity (u : Byte) (d : List Byte) (crc : Byte)
  /-- FAULT_READ (R69): A management FAULT_READ frame selects the unit to return one Skimmer record. -/
  | faultRead (u : Byte) (d : List Byte) (crc : Byte)
  /-- MLINK_RESPONSE_READY (R70): The selected unit's response becomes ready within 200 µs of the write's STOP. -/
  | mlinkResponseReady
  /-- MLINK_READ (R69): A management read transaction returns the selected unit's response, or 0xFF. -/
  | mlinkRead
  /-- MLINK_SCL_TIMEOUT (R69): SCL held low for more than 25 ms makes the unit release MSDA and discard its frame state. -/
  | mlinkSclTimeout
  /-- MCHIN_CHANGE (R68): A change of MCHIN makes MCHOUT follow within 10 µs and may make the unit the candidate. -/
  | mchinChange (high : Bool)
  /-- VAULT_TABLE_READ_RETURN (R143): An install's vault-table read returns the slot's status, epoch and counters. -/
  | vaultTableReadReturn
  /-- RECORD_FETCH_COMPLETION (R143): An install's 128-byte record arrives and is queued for a lane, or fails its jobs. -/
  | recordFetchCompletion (d : Port) (idx : Nat) (r : ReadRes)
  /-- INSTALL_DONE (R143): A lane ends a record unwrap and check, and the context is installed or the parked jobs fail. -/
  | installDone (n : Fin 9)
  /-- INSTALL_ENTRY_FREE (R145): An install waiting for an unpinned cache entry takes one once a job unpins. -/
  | installEntryFree (d : Port) (idx : Nat)
  /-- VAULT_PAGE_FLUSH_TIMER (R151): FLUSH × 100 µs after its first word, a part-filled LOG page is programmed. -/
  | vaultPageFlushTimer
  /-- VAULT_PAGE_DURABLE (R151): A vault page program completes and verifies, and jobs waiting on it proceed. -/
  | vaultPageDurable
  /-- VAULT_COMPACTION (R152): With fewer than 64 free sectors the vault rewrites the oldest sector's live groups and erases it. -/
  | vaultCompaction
  /-- VAULT_REFRESH (R152): At least every 24 h of RTC time a REFRESH MARK is written and old sectors compacted. -/
  | vaultRefresh (old : Bool)
  /-- VAULT_STALL (R153): No vault page made durable for 50 ms ends every waiting job and sets STALLED. -/
  | vaultStall
  /-- VAULT_LEAVE_RETRY (R153): A vault page refused leave asks again every 1 ms. -/
  | vaultLeaveRetry
  /-- CLOSE (R156): A write of CTX_CTRL.CLOSE in Hold writes exact group pages and a CLOSE MARK. -/
  | closeVault (rq : Rq)
  /-- VAULT_CLOSE_COMPLETE (R156): The CLOSE MARK becomes durable and CLOSED is set. -/
  | vaultCloseComplete
  /-- OPEN (R156): A write of CTX_CTRL.OPEN writes an OPEN MARK if the vault is closed. -/
  | openVault (rq : Rq)
  /-- VAULT_RANGE_WRITE (R135): A write of a domain's vault range is recorded in a MARK page and then takes effect. -/
  | vaultRangeWrite (rq : Rq) (d : Port) (cnt : Bool) (v : Word)
  /-- CKL_WRITE (R151): A write of CTX_CFG.CKL programs the open LOG page and starts a new page under the new interval. -/
  | cklWrite (rq : Rq) (v : Word)
  /-- LANE_ACTIVATION_DONE (R168): A waking lane ends its seeding and known-answer test and becomes idle, or is fenced. -/
  | laneActivationDone (n : Fin 9) (kat : Bool)
  /-- LANE_IDLE_TIMEOUT (R168): A lane idle for SYM_CFG.IDLE µs goes dormant and releases its tokens. -/
  | laneIdleTimeout (n : Fin 9)
  /-- LANE_SEED_ARRIVAL (R171): An expander seed from the internal DRBG reaches a lane, resuming a paused or unseeded lane. -/
  | laneSeedArrival (n : Fin 9) (waited : Nat)
  /-- LANE_SEED_TIMEOUT (R171): A lane without a seed for 50 ms becomes UNSEEDED and its jobs end with ENGINE_UNAVAILABLE. -/
  | laneSeedTimeout (n : Fin 9) (late : List Nat)
  /-- CRU_DURATION_END (R206): A Crucible job reaches D − 4,096 cycles of its fixed duration and the unit starts its wipe. -/
  | cruDurationEnd (u : Fin 3)
  /-- CRU_WIPE_DONE (R212): A unit's scratch wipe ends, the result is released and the tokens freed. -/
  | cruWipeDone (u : Fin 3)
  /-- CRU_RNG_TIMEOUT (R209): A Crucible job without random material 50 ms after becoming ready completes with RNG_FAIL. -/
  | cruRngTimeout (job : Nat)
  /-- SELFTEST (R218): A write of CRU_UCTRL.SELFTEST requests a unit test at its next idle moment. -/
  | selftest (rq : Rq) (u : Fin 3) (v : Word)
  /-- CRU_TEST_DONE (R197): A unit's known-answer tests end and it becomes idle or fenced. -/
  | cruTestDone (u : Fin 3) (fail : Option (Fin 256))
  /-- CRU_FW_GO (R215): A write of CRU_FW_CMD.GO starts a firmware port job on the next free unit. -/
  | cruFwGo (rq : Rq) (v : Word)
  /-- SEED_WORD_READY (R220): The conditioner completes a 128-bit seed word into the seed buffer. -/
  | seedWordReady
  /-- SOURCE_STARTUP_PASS (R223): A noise source passes its start-up tests and joins service. -/
  | sourceStartupPass (n : Fin 10)
  /-- RNG_HEALTH_FAIL (R231): A serving source fails a continuous test; it is fenced and suspect instances and jobs are cut. -/
  | rngHealthFail (n : Fin 16) (test : Fin 16) (first : Nat)
  /-- RNG_RUN (R224): The internal instance is instantiated and the RNG enters RUN. -/
  | rngRun
  /-- INTERNAL_RESEED (R226): Every INT_RESEED × 10 ms the internal instance reseeds. -/
  | internalReseed
  /-- RESEED_INT (R226): A write of RNG_CTRL.RESEED_INT reseeds the internal instance now. -/
  | reseedInt (rq : Rq) (v : Word)
  /-- RNG_FWRND_READ (R226): A read of RNG_FWRND_LO delivers 32 fresh random bits once to firmware. -/
  | rngFwrndRead (rq : Rq)
  /-- RNG_WAIT_TIMEOUT (R230): A RANDOM, RESEED or DRBG_INSTANTIATE without material for 50 ms completes with RNG_FAIL. -/
  | rngWaitTimeout (job : Nat)
  /-- RNG_CAPTURE (R237): A write of RNG_CAPT.EN starts or ends raw-bit capture of one source. -/
  | rngCapture (rq : Rq) (v : Word)
  /-- GENERATE (R244): KST_FW_CMD OP GENERATE fills a slot with a random key. -/
  | generate (rq : Rq) (n : Fin 4096) (typ : Fin 256)
  /-- KST_SET_SHARE (R57): KST_FW_CMD OP SET_SHARE sets a slot's share mask. -/
  | kstSetShare (rq : Rq) (n : Fin 4096)
  /-- NARROW (R248): KST_FW_CMD OP NARROW ANDs a mask into a slot's policy. -/
  | narrow (rq : Rq) (n : Fin 4096)
  /-- KST_ERASE (R244): KST_FW_CMD OP ERASE empties a slot. -/
  | kstErase (rq : Rq) (n : Fin 4096)
  /-- IMAGE_RECORD_DURABLE (R251): A key-image record becomes durable and the change waiting on it completes. -/
  | imageRecordDurable
  /-- IMAGE_STALL (R253): An image record not durable within 50 ms undoes its change and ends its job. -/
  | imageStall
  /-- COMMISSION (R262): A ceremony opened with KIND 1 makes and splits K_cust and raises the lifecycle to COMMISSIONED. -/
  | commission (rq : Rq) (m n : Fin 16)
  /-- RESTORE (R264): A ceremony opened with KIND 2 rebuilds K_cust from shares and restores the keys by a warm Start. -/
  | restore (rq : Rq)
  /-- RAISE (R262): A ceremony opened with KIND 3 makes a new K_bb and raises VENDOR to SHIPPED. -/
  | raise (rq : Rq)
  /-- DECOMMISSION (R265): A ceremony opened with KIND 4 quenches with K_bb and sets DECOM_PENDING. -/
  | decommission (rq : Rq)
  /-- ABORT (R262): A write of KST_CER_CMD.ABORT ends the ceremony as FAILED. -/
  | abort (rq : Rq)
  /-- CEREMONY_CARD_RESULT (R263): A custodian card's share answer or failure is judged and coded, and may complete the quorum. -/
  | ceremonyCardResult (n : Fin 2) (resp : Option (List Byte)) (put : Bool)
  /-- CEREMONY_TIMEOUT (R262): A ceremony running past CER_TMO seconds fails and erases its secrets. -/
  | ceremonyTimeout
  /-- QUENCH (R266): A write of KST_QCTL.QUENCH with its key erases the volatile key store and enters Lockdown. -/
  | quench (rq : Rq)
  /-- ADD (R284): Kennu ADD adds two registers. -/
  | kAdd (p : Pair) (c : Cond) (sf : Bool) (rd ra rb : GReg)
  /-- SUB (R284): Kennu SUB subtracts two registers. -/
  | kSub (p : Pair) (c : Cond) (sf : Bool) (rd ra rb : GReg)
  /-- AND (R284): Kennu AND of two registers. -/
  | kAnd (p : Pair) (c : Cond) (sf : Bool) (rd ra rb : GReg)
  /-- OR (R284): Kennu OR of two registers. -/
  | kOr (p : Pair) (c : Cond) (sf : Bool) (rd ra rb : GReg)
  /-- XOR (R284): Kennu XOR of two registers. -/
  | kXor (p : Pair) (c : Cond) (sf : Bool) (rd ra rb : GReg)
  /-- SHL (R284): Kennu shift left by a register amount. -/
  | kShl (p : Pair) (c : Cond) (sf : Bool) (rd ra rb : GReg)
  /-- SHR (R284): Kennu logical shift right by a register amount. -/
  | kShr (p : Pair) (c : Cond) (sf : Bool) (rd ra rb : GReg)
  /-- SAR (R284): Kennu arithmetic shift right by a register amount. -/
  | kSar (p : Pair) (c : Cond) (sf : Bool) (rd ra rb : GReg)
  /-- ROR (R284): Kennu rotate right by a register amount. -/
  | kRor (p : Pair) (c : Cond) (sf : Bool) (rd ra rb : GReg)
  /-- ADDC (R284): Kennu add with carry. -/
  | kAddc (p : Pair) (c : Cond) (sf : Bool) (rd ra rb : GReg)
  /-- SUBC (R284): Kennu subtract with borrow. -/
  | kSubc (p : Pair) (c : Cond) (sf : Bool) (rd ra rb : GReg)
  /-- CMP (R284): Kennu compare setting NZCV. -/
  | kCmp (p : Pair) (c : Cond) (ra rb : GReg)
  /-- TST (R284): Kennu test setting NZ. -/
  | kTst (p : Pair) (c : Cond) (ra rb : GReg)
  /-- MOV (R284): Kennu register move. -/
  | kMov (p : Pair) (c : Cond) (sf : Bool) (rd rb : GReg)
  /-- ADDV (R292): Kennu add raising an arithmetic exception on signed overflow. -/
  | kAddv (p : Pair) (c : Cond) (sf : Bool) (rd ra rb : GReg)
  /-- SUBV (R292): Kennu subtract raising an arithmetic exception on signed overflow. -/
  | kSubv (p : Pair) (c : Cond) (sf : Bool) (rd ra rb : GReg)
  /-- ADDI (R281): Kennu add immediate. -/
  | kAddi (p : Pair) (c : Cond) (rd ra : GReg) (imm : BitVec 14)
  /-- ANDI (R281): Kennu AND with zero-extended immediate. -/
  | kAndi (p : Pair) (c : Cond) (rd ra : GReg) (imm : BitVec 14)
  /-- ORI (R281): Kennu OR with zero-extended immediate. -/
  | kOri (p : Pair) (c : Cond) (rd ra : GReg) (imm : BitVec 14)
  /-- XORI (R281): Kennu XOR with zero-extended immediate. -/
  | kXori (p : Pair) (c : Cond) (rd ra : GReg) (imm : BitVec 14)
  /-- SHLI (R281): Kennu shift left by an immediate. -/
  | kShli (p : Pair) (c : Cond) (rd ra : GReg) (imm : Fin 32)
  /-- SHRI (R281): Kennu logical shift right by an immediate. -/
  | kShri (p : Pair) (c : Cond) (rd ra : GReg) (imm : Fin 32)
  /-- SARI (R281): Kennu arithmetic shift right by an immediate. -/
  | kSari (p : Pair) (c : Cond) (rd ra : GReg) (imm : Fin 32)
  /-- CMPI (R284): Kennu compare with immediate. -/
  | kCmpi (p : Pair) (c : Cond) (ra : GReg) (imm : BitVec 14)
  /-- MOVW (R281): Kennu load a 16-bit immediate into one halfword, clearing the other. -/
  | kMovw (p : Pair) (c : Cond) (rd : GReg) (hw : Bool) (imm : BitVec 16)
  /-- MOVK (R281): Kennu replace one halfword with a 16-bit immediate. -/
  | kMovk (p : Pair) (c : Cond) (rd : GReg) (hw : Bool) (imm : BitVec 16)
  /-- ADDVI (R292): Kennu add immediate raising an arithmetic exception on overflow. -/
  | kAddvi (p : Pair) (c : Cond) (rd ra : GReg) (imm : BitVec 14)
  /-- SETB (R288): Kennu set a bit in bit RAM or a mapped bit. -/
  | kSetb (p : Pair) (c : Cond) (b : BitOp)
  /-- CLRB (R288): Kennu clear a bit, or write a W1C clear of a mapped event bit. -/
  | kClrb (p : Pair) (c : Cond) (b : BitOp)
  /-- TSTB (R288): Kennu test a bit into Z and C. -/
  | kTstb (p : Pair) (c : Cond) (b : BitOp)
  /-- MOVB (R288): Kennu move a bit to or from C. -/
  | kMovb (p : Pair) (c : Cond) (b : BitOp)
  /-- ANDB (R288): Kennu AND a bit into C. -/
  | kAndb (p : Pair) (c : Cond) (b : BitOp)
  /-- ORB (R288): Kennu OR a bit into C. -/
  | kOrb (p : Pair) (c : Cond) (b : BitOp)
  /-- XORB (R288): Kennu XOR a bit into C. -/
  | kXorb (p : Pair) (c : Cond) (b : BitOp)
  /-- LDW (R285): Kennu load word. -/
  | kLdw (p : Pair) (c : Cond) (rd ra : GReg) (imm : BitVec 14)
  /-- LDH (R285): Kennu load halfword zero-extended. -/
  | kLdh (p : Pair) (c : Cond) (rd ra : GReg) (imm : BitVec 14)
  /-- LDHS (R285): Kennu load halfword sign-extended. -/
  | kLdhs (p : Pair) (c : Cond) (rd ra : GReg) (imm : BitVec 14)
  /-- LDB (R285): Kennu load byte zero-extended. -/
  | kLdb (p : Pair) (c : Cond) (rd ra : GReg) (imm : BitVec 14)
  /-- LDBS (R285): Kennu load byte sign-extended. -/
  | kLdbs (p : Pair) (c : Cond) (rd ra : GReg) (imm : BitVec 14)
  /-- STW (R285): Kennu store word. -/
  | kStw (p : Pair) (c : Cond) (rd ra : GReg) (imm : BitVec 14)
  /-- STH (R285): Kennu store halfword. -/
  | kSth (p : Pair) (c : Cond) (rd ra : GReg) (imm : BitVec 14)
  /-- STB (R285): Kennu store byte. -/
  | kStb (p : Pair) (c : Cond) (rd ra : GReg) (imm : BitVec 14)
  /-- LDD (R285): Kennu load doubleword into a register pair. -/
  | kLdd (p : Pair) (c : Cond) (rd ra : GReg) (imm : BitVec 14)
  /-- STD (R285): Kennu store doubleword from a register pair. -/
  | kStd (p : Pair) (c : Cond) (rd ra : GReg) (imm : BitVec 14)
  /-- PUSH (R278): Kennu push a register onto the data stack. -/
  | kPush (p : Pair) (c : Cond) (rd : GReg)
  /-- POP (R278): Kennu pop a register from the data stack. -/
  | kPop (p : Pair) (c : Cond) (rd : GReg)
  /-- XCHG (R285): Kennu atomic exchange with a word of system SRAM. -/
  | kXchg (p : Pair) (c : Cond) (rd ra rb : GReg)
  /-- MUL (R289): Kennu unsigned multiply issued to MH:ML. -/
  | kMul (p : Pair) (c : Cond) (ra rb : GReg)
  /-- MULS (R289): Kennu signed multiply issued to MH:ML. -/
  | kMuls (p : Pair) (c : Cond) (ra rb : GReg)
  /-- MAC (R289): Kennu unsigned multiply-accumulate issued. -/
  | kMac (p : Pair) (c : Cond) (ra rb : GReg)
  /-- MACS (R289): Kennu signed multiply-accumulate issued. -/
  | kMacs (p : Pair) (c : Cond) (ra rb : GReg)
  /-- MUL_RESULT_LAND (R289): Three cycles after issue, a multiplier result lands in MH:ML. -/
  | mulResultLand (p : Pair)
  /-- DIV (R290): Kennu unsigned divide issued to QT and RM. -/
  | kDiv (p : Pair) (c : Cond) (ra rb : GReg)
  /-- DIVS (R290): Kennu signed divide issued to QT and RM. -/
  | kDivs (p : Pair) (c : Cond) (ra rb : GReg)
  /-- DIV_RESULT_LAND (R290): Eighteen cycles after issue, QT and RM land. -/
  | divResultLand (p : Pair)
  /-- MFS (R277): Kennu read of a special register. -/
  | kMfs (p : Pair) (c : Cond) (rd : GReg) (sr : Fin 32)
  /-- MTS (R277): Kennu write of a special register. -/
  | kMts (p : Pair) (c : Cond) (sr : Fin 32) (rd : GReg)
  /-- SFCTL_PUSH (R310): An MTS of SFCTL.PUSH pushes the shadow frame onto the return stack. -/
  | sfctlPush (p : Pair) (c : Cond) (disc : Bool)
  /-- SFCTL_DISCARD (R310): An MTS of SFCTL.DISCARD abandons the shadow frame. -/
  | sfctlDiscard (p : Pair) (c : Cond)
  /-- BRA (R281): Kennu relative branch. -/
  | kBra (p : Pair) (c : Cond) (off : BitVec 22)
  /-- CALL (R279): Kennu relative call pushing a return word. -/
  | kCall (p : Pair) (c : Cond) (off : BitVec 22)
  /-- BR (R285): Kennu branch through a register. -/
  | kBr (p : Pair) (c : Cond) (ra : GReg)
  /-- CALLR (R279): Kennu call through a register. -/
  | kCallr (p : Pair) (c : Cond) (ra : GReg)
  /-- RET (R279): Kennu return popping a return word. -/
  | kRet (p : Pair) (c : Cond)
  /-- TRAP (R304): Kennu trap through descriptor 128 + n. -/
  | kTrap (p : Pair) (c : Cond) (n : Fin 128)
  /-- RETX (R305): Kennu return from an exception, restoring the frame. -/
  | kRetx (p : Pair) (c : Cond)
  /-- CORE_NOP (R284): Kennu misc FN 0x00, no operation. -/
  | kNop (p : Pair) (c : Cond)
  /-- WFE (R284): Kennu suspend issue until an interrupt is pending. -/
  | kWfe (p : Pair) (c : Cond)
  /-- WFE_WAKE (R307): An interrupt becomes pending for a pair in WFE and issue resumes. -/
  | wfeWake (p : Pair)
  /-- BARRIER (R284): Kennu wait until earlier loads and stores are performed. -/
  | kBarrier (p : Pair) (c : Cond)
  /-- SWPB (R318): Kennu swap of the pair's Gate bank after a barrier, if the bank is well-formed. -/
  | kSwpb (p : Pair) (c : Cond)
  /-- ESYNC (R284): Kennu wait until products and quotients land and pending arithmetic exceptions are taken. -/
  | kEsync (p : Pair) (c : Cond)
  /-- INTERRUPT_ENTRY (R307): A pending enabled interrupt is taken at an instruction boundary. -/
  | interruptEntry (p : Pair)
  /-- LOCKSTEP_MISMATCH (R273): Lockstep comparison fails; the pair stops and is fenced. -/
  | lockstepMismatch (p : Pair)
  /-- ECC_UNCORRECTED (R276): An uncorrectable error in a pair's register file or return stack halts it. -/
  | eccUncorrected (p : Pair)
  /-- PAIR_TAKEOVER (R274): The Riser starts a spare pair in the failed pair's role, or reassigns roles when none is left. -/
  | pairTakeover (p : Pair)
  /-- PAIR_RESTART (R312): A write of GAT_PAIR_CTL.RESTART restarts a pair halted in a double stack fault. -/
  | pairRestart (rq : Rq) (target : Fin 4)
  /-- PROGRAM (R330): FLC command PROGRAM programs one blank page of main flash. -/
  | program (rq : Rq)
  /-- ERASE (R331): FLC command ERASE erases one sector with its marks. -/
  | erase (rq : Rq)
  /-- BLANK_CHECK (R332): FLC command BLANK_CHECK reads a sector at erase margin. -/
  | blankCheck (rq : Rq)
  /-- OTP_PROGRAM (R340): FLC command OTP_PROGRAM programs one OTP word. -/
  | otpProgram (rq : Rq)
  /-- SUSP (R328): A write of FLC_CMD.SUSP suspends the port's erase. -/
  | susp (rq : Rq) (op : Fin 16)
  /-- RESM (R328): A write of FLC_CMD.RESM resumes an erase suspended by SUSP. -/
  | resm (rq : Rq) (op : Fin 16)
  /-- FLASH_OP_COMPLETE (R333): A flash program, erase, blank check or OTP program ends with its result, marking wear on a verify failure. -/
  | flashOpComplete (b : Fin 6) (ok : Bool) (pulses : Fin 256)
  /-- ERASE_SUSPENDED (R328): An erase suspension takes effect; tokens are released and waiting reads served. -/
  | eraseSuspended (b : Fin 4) (why : Fin 3)
  /-- ERASE_AUTO_RESUME (R328): After RES_GAP × 10 µs without reads an automatically suspended erase resumes. -/
  | eraseAutoResume (b : Fin 4)
  /-- TORN_HEAL (R338): Listed torn sectors are healed by erase at Service entry or when AUTOHEAL is set. -/
  | tornHeal
  /-- SECTOR_COPY (R343): A condemned sector's pages are copied to a spare and the field map updated. -/
  | sectorCopy (b : Fin 4) (n : Fin 2048)
  /-- FIELD_ON (R349): A reader's field is detected; FLDDET asserts and the tag guard begins. -/
  | fieldOn
  /-- FIELD_LOST (R349): The field falls; the tag loses its volatile state and FLDDET releases. -/
  | fieldLost
  /-- GUARD_END (R350): The tag's guard ends and it enters IDLE. -/
  | guardEnd
  /-- REQA (R347): ISO/IEC 14443 REQA moves an idle tag to READY with ATQA. -/
  | reqa
  /-- WUPA (R347): ISO/IEC 14443 WUPA wakes an idle or halted tag. -/
  | wupa
  /-- ANTICOLLISION (R347): ISO/IEC 14443 anticollision of a cascade level. -/
  | anticollision (cl2 : Bool) (n : Fin 40) (v : Nat)
  /-- SELECT_CASCADE (R347): ISO/IEC 14443 SELECT of cascade level 1 or 2 answers SAK. -/
  | selectCascade (cl2 : Bool) (d : List Byte)
  /-- HLTA (R347): ISO/IEC 14443 HLTA halts the tag. -/
  | hlta
  /-- RATS (R347): RATS enters layer 4 and sends the ATS. -/
  | rats
  /-- PPS (R347): A PPS after the ATS sets the bit rates. -/
  | pps (dr ds : Fin 4)
  /-- DESELECT (R347): S(DESELECT) halts the tag and erases buffers and session keys. -/
  | deselect
  /-- SELECT (R352): APDU SELECT of an application AID opens it. -/
  | select (cla : Byte) (p : BitVec 16) (d : List Byte) (le : Fin 256)
  /-- GET_IDENTITY (R353): APDU GET IDENTITY returns the unit's identity. -/
  | getIdentity (cla : Byte) (p : BitVec 16) (d : List Byte) (le : Fin 256)
  /-- GET_STATUS (R353): APDU GET STATUS returns mode, lifecycle and flags. -/
  | getStatus (cla : Byte) (p : BitVec 16) (d : List Byte) (le : Fin 256)
  /-- READ_TAMPER (R408): APDU READ TAMPER returns the live flag summary or mirror entries. -/
  | readTamper (cla : Byte) (p : BitVec 16) (d : List Byte) (le : Fin 256)
  /-- READ_BINARY (R360): APDU READ BINARY returns tag-store bytes. -/
  | readBinary (cla : Byte) (p : BitVec 16) (d : List Byte) (le : Fin 256)
  /-- UPDATE_BINARY (R360): APDU UPDATE BINARY writes the general store in one commit. -/
  | updateBinary (cla : Byte) (p : BitVec 16) (d : List Byte) (le : Fin 256)
  /-- PUT_TICKET (R365): APDU PUT TICKET stores a ticket object in the ticket record. -/
  | putTicket (cla : Byte) (p : BitVec 16) (d : List Byte) (le : Fin 256)
  /-- PASSWORD (R355): APDU PASSWORD counts an attempt, compares and enters SECURED on a match. -/
  | password (cla : Byte) (p : BitVec 16) (d : List Byte) (le : Fin 256)
  /-- AUTH1 (R356): APDU AUTH1 returns the tag challenge RndB. -/
  | auth1 (cla : Byte) (p : BitVec 16) (d : List Byte) (le : Fin 256)
  /-- AUTH2 (R356): APDU AUTH2 checks the reader's proof and opens a secure-messaging session. -/
  | auth2 (cla : Byte) (p : BitVec 16) (d : List Byte) (le : Fin 256)
  /-- READ_FAULTS (R353): APDU READ FAULTS returns one Skimmer record in the recovery application. -/
  | readFaults (cla : Byte) (p : BitVec 16) (d : List Byte) (le : Fin 256)
  /-- COMMIT_ENERGY_READY (R362): CFLD reaches 3.30 V and a waiting commit proceeds to erase and program. -/
  | commitEnergyReady
  /-- WTX_RESEND (R362): Before each FWT expires while a commit waits, the tag sends S(WTX) again. -/
  | wtxResend
  /-- COMMIT_ENERGY_TIMEOUT (R362): After 200 ms without reserve the commit answers 64 01 and writes nothing. -/
  | commitEnergyTimeout
  /-- TAG_COMMIT_DONE (R362): A tag-store commit's shadow writes verify and its marker is programmed. -/
  | tagCommitDone (bad : Option (Fin 16))
  /-- MARKER_PRE_ERASE (R364): With four or fewer blank marker pages the tag erases the other marker sector. -/
  | markerPreErase
  /-- SET_PASSWORD (R355): TAG_CRED_CMD OP SET_PASSWORD commits a new password. -/
  | setPassword (rq : Rq) (v : Word)
  /-- SET_FLAGS (R355): TAG_CRED_CMD OP SET_FLAGS commits credential flags and TRY_MAX. -/
  | setFlags (rq : Rq) (v : Word)
  /-- LOAD_KEY (R356): TAG_CRED_CMD OP LOAD_KEY copies a slot key into K_TAG with a new reservation. -/
  | loadKey (rq : Rq) (v : Word)
  /-- RESET_TRIES (R355): TAG_CRED_CMD OP RESET_TRIES commits TRIES 0. -/
  | resetTries (rq : Rq) (v : Word)
  /-- ERASE_CRED (R356): TAG_CRED_CMD OP ERASE_CRED erases the credential record. -/
  | eraseCred (rq : Rq) (v : Word)
  /-- CLEAR_TICKET (R365): TAG_CRED_CMD OP CLEAR_TICKET clears the ticket record. -/
  | clearTicket (rq : Rq) (v : Word)
  /-- SD_CARD_DETECT (R376): SDCDN falls and the card debounce begins. -/
  | sdCardDetect
  /-- SD_DEBOUNCE_DONE (R374): SDCDN low for 50 ms: the card is present and initialised. -/
  | sdDebounceDone (fail : Fin 3) (cid : List Byte) (blocks : Nat) (ccs : Fin 4) (wide hs wp : Bool) (h0 h1 : List Byte)
  /-- SD_REMOVAL (R376): SDCDN read high twice: the clock stops, lines are released and tokens returned. -/
  | sdRemoval
  /-- SD_IDLE (R375): No card operation for IDLE ms: the card goes idle and releases its tokens. -/
  | sdIdle
  /-- WRITE_GEN (R381): CRD_CUST_CMD OP 1 writes a custody generation to the card. -/
  | writeGen (rq : Rq)
  /-- VERIFY (R386): CRD_CUST_CMD OP 2 reads and checks the current generation. -/
  | verify (rq : Rq)
  /-- DISCARD_JOURNAL (R383): CRD_CUST_CMD OP 3 writes a DISCARD record dropping pending entries. -/
  | discardJournal (rq : Rq)
  /-- JOURNAL_RECORD_DURABLE (R380): A journal record becomes durable and the card write or generation step waiting on it proceeds. -/
  | journalRecordDurable (wp : Bool)
  /-- JOURNAL_TIMEOUT (R382): A journal record not durable within 50 ms ends the custody command. -/
  | journalTimeout
  /-- CARD_WRITE_DONE (R381): A card write's busy ends and its status is checked before its DONE. -/
  | cardWriteDone (res : Fin 3)
  /-- CARD_BUSY_TIMEOUT (R382): A card busy beyond 500 ms fails the write. -/
  | cardBusyTimeout
  /-- JOURNAL_RESOLUTION (R384): Pending journal entries of the bound card are judged, committed, rebuilt or abandoned. -/
  | journalResolution (wp : Bool) (vs : List (Fin 3))
  /-- CC_PRESENT (R388): A custodian presence input held present for 50 ms marks the card present. -/
  | ccPresent (n : Fin 2)
  /-- CC_REMOVED (R389): A custodian presence input leaves its level and deactivation starts within 10 µs. -/
  | ccRemoved (n : Fin 2)
  /-- CC_ATR (R388): A custodian card's ATR arrives and protocol, PPS and clock are set. -/
  | ccAtr (n : Fin 2) (a b t1 : Bool) (ta : Byte) (ta2bad pps : Bool)
  /-- CC_ATR_TIMEOUT (R388): No ATR within 40,000 clocks deactivates the card or retries at class A. -/
  | ccAtrTimeout (n : Fin 2) (a : Bool)
  /-- CC_CLASSA_RETRY (R388): Ten ms after a class B refusal, activation is made at class A. -/
  | ccClassaRetry (n : Fin 2)
  /-- FLASK_WINDOW (R396): On the cell, a 60 µs sampling window of every sampled source starts at a multiple of PERIOD. -/
  | flaskWindow (k : Nat) (live : BitVec 14) (light : BitVec 16)
  /-- FLASK_SAMPLE (R395): With main power, a periodic check of meshes, loops, temperature, VBAT or integrity is made. -/
  | flaskSample (checked live : BitVec 14) (temp : Option Byte)
  /-- FLASK_CONTINUOUS_TRIP (R395): A continuously monitored cause (VCORE, clock glitch, light) is detected. -/
  | flaskContinuousTrip (live : BitVec 14) (light : BitVec 16)
  /-- FLAG_CLEAR (R400): A write of FLK_CLR quoting COUNT clears a source's flag. -/
  | flagClear (rq : Rq) (v : Word)
  /-- RTC_SET (R405): A write of FLK_RTC_SET_HI advances the RTC and sets RTC_VALID. -/
  | rtcSet (rq : Rq) (v : Word)
  /-- RTC_MEASURE (R405): A write of FLK_RTC_MEAS.GO starts a 1 s BKOSC measurement. -/
  | rtcMeasure (rq : Rq)
  /-- RTC_MEASURE_DONE (R405): The BKOSC measurement ends and ERR is reported. -/
  | rtcMeasureDone (err : BitVec 16)
  /-- MIRROR_ENTRY_WRITE (R407): A queued tamper mirror entry is programmed into the tag bank. -/
  | mirrorEntryWrite
  /-- FAULT_MESSAGE_TAKEN (R411): The Skimmer takes a held fault message, recording or coalescing it. -/
  | faultMessageTaken (ms : Nat)
  /-- SKIMMER_PASS (R416): The Skimmer applies the union of reactions of the messages since its last pass. -/
  | skimmerPass
  /-- AUDIT_FLUSH_TIMER (R418): FLUSH ms after its first entry a part-filled audit page is programmed. -/
  | auditFlushTimer
  /-- AUDIT_PAGE_DURABLE (R418): An audit log page becomes durable and its records may be overwritten. -/
  | auditPageDurable
  /-- AUDIT_SECTOR_ERASE (R419): With fewer than 8 free log sectors the oldest is copied forward and erased. -/
  | auditSectorErase
  /-- FAULT_CLEAR (R422): A write of SKM_CLR with its key closes open faults whose cause is gone. -/
  | faultClear (rq : Rq) (v : Word)
  /-- FAULTN_DRIVE (R423): A write of SKM_PIN.DRIVE asserts or releases FAULTN. -/
  | faultnDrive (rq : Rq) (drive : Bool)
  /-- FAULTN_PULSE_EXPIRY (R423): The FAULTN pulse timer expires and FAULTN follows DRIVE. -/
  | faultnPulseExpiry
  /-- SPARE_IN (R429): A fenced serving unit is replaced by an eligible spare brought into service. -/
  | spareIn (pool : Fin 4)
  /-- FIELD_MAP_WRITE (R433): A field map entry becomes durable in one copy and is written to the other. -/
  | fieldMapWrite
  /-- XTAL_WINDOW (R439): `edges` crystal edges were counted in the window. -/
  | xtalWindow (edges : Fin 1024)
  /-- XTAL_JUDGED (R438): The crystal is judged stable by its method. -/
  | xtalJudged
  /-- PLL_REFERENCE_CHANGE (R440): Once the crystal is judged and repair done, each PLL domain ramps down, relocks to XTAL and ramps up. -/
  | pllReferenceChange
  /-- RAMP_STEP (R441): Domain 0 CORE, 1 ENG, 2 FAB, 3 FL. -/
  | rampStep (k : Fin 4)
  /-- CLOCK_LOSS (R443): The sources that fail together, coded as R444. -/
  | clockLoss (srcs : List Nat)
  /-- SOURCE_RETURN (R445): Every failed source is judged again and a warm Start begins. -/
  | sourceReturn
  /-- HREFCLK_RETURN_TIMEOUT (R445): HREFCLKp still absent 100 ms after the others return; the warm Start proceeds without it. -/
  | hrefclkReturnTimeout
  /-- LEAVE_GRANT (R447): The head leave request fits the budget and is granted whole. -/
  | leaveGrant
  /-- LEAVE_WAIT (R448): The request at place `n` of the queue; its wait in 100 us units. -/
  | leaveWait (n : Nat) (w : Fin 65536)
  /-- PWR_BUDGET (R446): A write of PWR_BUDGET sets the budget and refuses waiting requests that became impossible. -/
  | pwrBudget (rq : Rq) (v : Word)
  /-- MAIN_POWER_GOOD (R449): All main supplies are within range and PORN high, starting a cold Start. -/
  | mainPowerGood
  /-- MAIN_POWER_LOST (R449): A main supply leaves its range or PORN falls, ending every main mode. -/
  | mainPowerLost
  /-- RSTN (R497): RSTN low then high starts a cold Start. -/
  | rstn
  /-- COLD_START (R456): The device runs the Start steps from POR to DONE. -/
  | coldStart (xtal : Bool) (bad rows : List (Nat × Nat))
  /-- WARM_START (R457): The device runs the Start steps keeping the state a warm Start keeps. -/
  | warmStart (bad : List (Nat × Nat)) (recs : List (List Byte))
  /-- SERVICE (R451): SYS_MREQ REQ 1 requests Service from Start or Hold. -/
  | service (rq : Rq)
  /-- HOLD (R454): SYS_MREQ REQ 2 starts Hold entry from Service. -/
  | hold (rq : Rq)
  /-- HOLD_COMPLETE (R454): Hold entry drains, programs checkpoints, stops lanes and gates PLL_ENG; the mode becomes Hold. -/
  | holdComplete
  /-- LOCKDOWN (R455): SYS_MREQ REQ 3 or another Lockdown cause enters Lockdown. -/
  | lockdown (rq : Rq)
  /-- COLD (R458): A write of SYS_RST.COLD starts a cold Start. -/
  | cold (rq : Rq)
  /-- WARM (R458): A write of SYS_RST.WARM starts a warm Start outside Lockdown. -/
  | warm (rq : Rq)
  /-- SERVICE_PAIR_RELEASE (R271): A write of SYS_PAIR.RELEASE starts the SERVICE pair. -/
  | servicePairRelease (rq : Rq)
  /-- DBGACC_READ (R466): A DBGACC scan with OP 1 performs a debug read within the debug reach. -/
  | dbgaccRead (addr : Word)
  /-- DBGACC_WRITE (R466): A DBGACC scan with OP 2 performs a debug write within the debug reach. -/
  | dbgaccWrite (addr data : Word)
  /-- DBGACC_CLEAR_ERROR (R466): A DBGACC scan with OP 3 clears the sticky debug error. -/
  | dbgaccClearError
  /-- TICKET_GO (R472): A write of DBG_TKT_CMD.GO starts the checks of a DEBUG ticket. -/
  | ticketGo (rq : Rq) (len : Fin 2048)
  /-- TICKET_VERIFY_DONE (R473): The ticket signature check ends and the ticket is accepted or refused. -/
  | ticketVerifyDone
  /-- TICKET_CLOSE (R474): A write of DBG_TKT_CMD.CLOSE ends TICKETED. -/
  | ticketClose (rq : Rq)
  /-- TICKET_TIMER_EXPIRY (R474): The DURATION timer expires and TICKETED ends. -/
  | ticketTimerExpiry
  /-- TCTR_WRITE (R475): A write of DBG_TCTR sets the counter floor and LOADED, refused below VALUE. -/
  | tctrWrite (rq : Rq) (v : Word)
  /-- HALT (R469): DBG_PAIRCTL.HALT stops a pair at its next boundary. -/
  | halt (rq : Rq) (p : Fin 4)
  /-- STEP (R469): DBG_PAIRCTL.STEP runs one instruction or entry of a halted pair. -/
  | step (rq : Rq) (p : Fin 4)
  /-- RESUME (R469): DBG_PAIRCTL.RESUME restarts a pair halted by debug. -/
  | resume (rq : Rq) (p : Fin 4)
  /-- CREG_ACCESS (R469): An access to DBG_CREG_DATA reads or writes a register of a pair halted by debug. -/
  | cregAccess (rq : Rq) (wr : Option Word)
  /-- IDENTITY_INJECTION (R465): A write of DBG_INJ_CMD.GO makes the device's secrets, vendor set and raises FOUNDRY to VENDOR. -/
  | identityInjection (rq : Rq) (m n : Fin 16)
  /-- EXTEST (R477): EXTEST at Update-IR takes the pins, entering Lockdown first outside FOUNDRY. -/
  | extest
  /-- CLAMP (R477): CLAMP at Update-IR holds the pins from the boundary register, entering Lockdown first outside FOUNDRY. -/
  | clamp
  /-- HIGHZ (R477): HIGHZ at Update-IR floats the chained outputs, entering Lockdown first outside FOUNDRY. -/
  | highz
  /-- IDCODE (R476): IDCODE selects the identification register. -/
  | idcode
  /-- SAMPLE_PRELOAD (R476): SAMPLE/PRELOAD selects the boundary register without taking the pins. -/
  | samplePreload
  /-- DBGACC (R476): The DBGACC instruction selects the 66-bit debug access register. -/
  | dbgacc
  /-- BYPASS (R476): BYPASS, or any other code, selects the one-bit bypass register. -/
  | bypass (code : Fin 16)
  /-- TAP_RESET (R476): TRSTN or Test-Logic-Reset resets the TAP and returns the pins to functional control. -/
  | tapReset
  /-- VBAT_LOSS (R393): VBAT falls below 2.0 V while main power is absent and the backup domain, K_bb included, is lost. -/
  | vbatLoss
  /-- UNDEF (R283): a word with a reserved OP or FN, a non-zero field marked 0, or (c none) COND 0xF, takes the undefined-instruction exception. -/
  | undef (p : Pair) (c : Option Cond)
  /-- REFUSED_FETCH (R298): A pair's instruction fetch is refused under R20 or R285 and vector 4 is entered with the fetch address. -/
  | refusedFetch (p : Pair)
  /-- UNSUPPORTED_REQUEST (R54): A host request that is no doorbell, inline, BAR2 or bootstrap access (I/O, atomic, locked, message, BAR2 offset beyond 0x1FFF, or any request in D3hot) is refused with UR and logged. -/
  | unsupportedRequest (p : Port) (bar : Fin 8) (off : Nat) (shape : Bool)
  /-- D3HOT_ENTRY (R54): The host places the port's function in D3hot, after which every memory request gets UR. -/
  | d3hotEntry (p : Port)
  /-- L1_EXIT (R65): A link in ASPM L1 returns to L0, on host traffic or on Lockdown entry. -/
  | l1Exit (p : Port)
  /-- CC_OVERCURRENT (R388): A custodian card draws more than the 45 mA limit; the slot enters OVERCURRENT, deactivates and the ceremony gets card result 1. -/
  | ccOvercurrent (n : Fin 2)
  /-- TAG_BAD_FRAME (R347): A frame with a bad CRC_A or parity, or any frame not expected in READY or ACTIVE, returns the tag to IDLE or HALT without answer. -/
  | tagBadFrame
  /-- UNSUPPORTED_INS (R354): An APDU with an unaccepted CLA or INS, or one breaking a PUT TICKET chain, is answered with 6E 00, 6D 00 or 68 83. -/
  | unsupportedIns (cla ins : Byte) (p : BitVec 16) (d : List Byte) (le : Fin 256)
  /-- MLINK_BAD_FRAME (R70): A management write frame with an unknown CMD, a wrong LEN or a bad CRC naming this unit is refused with an error frame or selects no unit, and is counted in MLK_ERRCNT. -/
  | mlinkBadFrame (u cmd : Byte) (d : List Byte) (crc : Byte)
  /-- BOUNDARY_UPDATE (R477): At Update-DR under EXTEST or CLAMP the boundary register's new values drive the chained pins. -/
  | boundaryUpdate (cells : BitVec 46)
  deriving DecidableEq, Repr

end Sys2Proof
end

