-- ==== Sys2Proof/Decode.lean ====
section
/-! DEFINITION. The decoder over the rows of the opcode table that give bits: none does, since every row is a command that
reaches the block from outside (log entry 1). -/

namespace Sys2Proof

/-- The command a word spells by the table's bits: none, for no row of spec/opcode_table.json gives bits. -/
def decodeTableWord (_nbits _w : Nat) : Option Instr := none

end Sys2Proof
end

