-- ==== Sys2Proof/Machine/Regs.lean ====
section
/-! DEFINITION. The register map: the core address of every block-specific register (from each chapter's register
tables, with the region bases of R8 and the strides of R34) and the table of writable fields and reset values. -/

namespace Sys2Proof.Machine

/-! ### Addresses -/

namespace R
def HPT_LINK : Nat := 0x20400040
def HPT_DRST : Nat := 0x20400044
def HPT_VIOL : Nat := 0x20400048
def HPT_CFG : Nat := 0x2040004C
def MLK_STAT : Nat := 0x21100040
def MLK_CFG : Nat := 0x21100044
def MLK_ERRCNT : Nat := 0x21100048
def TUN_CFG : Nat := 0x20500040
def TUN_OCC : Nat := 0x20500044
def TUN_ERR : Nat := 0x20500048
def TUN_DOM_QP : Nat := 0x20500080
def TUN_DOM_SHQ : Nat := 0x20500084
def TUN_DOM_INFL : Nat := 0x20500088
def TUN_DOM_PARK : Nat := 0x2050008C
def TUN_DOM_USE : Nat := 0x20500090
def TUN_DOM_ENQ : Nat := 0x20500094
def TUN_QSEL : Nat := 0x20500100
def CTX_CFG : Nat := 0x20600040
def CTX_CTRL : Nat := 0x20600044
def CTX_VSTAT : Nat := 0x20600048
def CTX_OCC : Nat := 0x2060004C
def CTX_HITS : Nat := 0x20600050
def CTX_MISSES : Nat := 0x20600054
def CTX_WAITS : Nat := 0x20600058
def CTX_VSEQ_LO : Nat := 0x20600060
def CTX_VSEQ_HI : Nat := 0x20600064
def CTX_DOM_VB : Nat := 0x20600080
def CTX_DOM_VC : Nat := 0x20600084
def CTX_DOM_TE : Nat := 0x20600088
def CTX_DOM_CR : Nat := 0x2060008C
def CTX_PEEK_SEL : Nat := 0x206000C0
def CTX_PEEK0 : Nat := 0x206000C4
def CTX_PEEK1 : Nat := 0x206000C8
def CTX_PEEK2 : Nat := 0x206000CC
def CTX_PEEK3 : Nat := 0x206000D0
def CTX_PEEK4 : Nat := 0x206000D4
def SYM_LSTAT : Nat := 0x20700040
def SYM_BLK_LO : Nat := 0x20700044
def SYM_BLK_HI : Nat := 0x20700048
def SYM_JOBS : Nat := 0x2070004C
def SYM_FAILS : Nat := 0x20700050
def SYM_MASK : Nat := 0x20700054
def SYM_PAUSE : Nat := 0x20700058
def SYM_KAT : Nat := 0x2070005C
def SYM_CFG : Nat := 0x20700100
def SYM_MAP : Nat := 0x20700104
def SYM_STRM : Nat := 0x20700108
def SYM_ZERO : Nat := 0x2070010C
def SYM_NONCE : Nat := 0x20700110
def SYM_STRM_SEL : Nat := 0x20700114
def SYM_STRM_V0 : Nat := 0x20700118
def SYM_STRM_V1 : Nat := 0x2070011C
def CRU_USTAT : Nat := 0x20800040
def CRU_JOBS : Nat := 0x20800044
def CRU_ENDS : Nat := 0x20800048
def CRU_WIPES : Nat := 0x2080004C
def CRU_KAT : Nat := 0x20800050
def CRU_UCTRL : Nat := 0x20800054
def CRU_CFG : Nat := 0x20800100
def CRU_MAP : Nat := 0x20800104
def CRU_RNDW : Nat := 0x20800108
def CRU_FW_CMD : Nat := 0x20801040
def CRU_FW_KEY : Nat := 0x20801044
def CRU_FW_PAR : Nat := 0x20801048
def CRU_FW_POL : Nat := 0x2080104C
def CRU_FW_IN : Nat := 0x20801050
def CRU_FW_INLEN : Nat := 0x20801054
def CRU_FW_OUT : Nat := 0x20801058
def CRU_FW_OUTLEN : Nat := 0x2080105C
def CRU_FW_STAT : Nat := 0x20801060
def CRU_FW_RES : Nat := 0x20801064
def RNG_CFG : Nat := 0x20900040
def RNG_HCFG : Nat := 0x20900044
def RNG_STAT : Nat := 0x20900048
def RNG_INST : Nat := 0x2090004C
def RNG_CTRL : Nat := 0x20900050
def RNG_SRCSEL : Nat := 0x20900054
def RNG_SRCSTAT : Nat := 0x20900058
def RNG_FAILS : Nat := 0x2090005C
def RNG_WAITS : Nat := 0x20900060
def RNG_FWRND_LO : Nat := 0x20900064
def RNG_FWRND_HI : Nat := 0x20900068
def RNG_CAPT : Nat := 0x2090006C
def KST_STAT : Nat := 0x20A00040
def KST_IMG : Nat := 0x20A00044
def KST_ERR : Nat := 0x20A00048
def KST_CFG : Nat := 0x20A0004C
def KST_DOM_SL : Nat := 0x20A00050
def KST_SEL : Nat := 0x20A00060
def KST_SV0 : Nat := 0x20A00064
def KST_SV1 : Nat := 0x20A00068
def KST_SV_INV_LO : Nat := 0x20A0006C
def KST_SV_INV_HI : Nat := 0x20A00070
def KST_FW_CMD : Nat := 0x20A00080
def KST_FW_ARG : Nat := 0x20A00084
def KST_FW_STAT : Nat := 0x20A00088
def KST_CER_CMD : Nat := 0x20A000A0
def KST_CER_STAT : Nat := 0x20A000A4
def KST_INSP_SEL : Nat := 0x20A000C0
def KST_QCTL : Nat := 0x20A000F0
def GAT_STAT : Nat := 0x20F00040
def GAT_SWAPS : Nat := 0x20F00044
def GAT_OVL : Nat := 0x20F00048
def GAT_DENY : Nat := 0x20F0004C
def GAT_IRQ_RTE : Nat := 0x20F00050
def GAT_KEN_EN : Nat := 0x20F00054
def GAT_PAIR_CTL : Nat := 0x20F00058
def GAT_BASE1 : Nat := 0x20F01040
def GAT_BASE2 : Nat := 0x20F02040
def GAT_LIMIT1 : Nat := 0x20F01044
def GAT_LIMIT2 : Nat := 0x20F02044
def GAT_ATTR1 : Nat := 0x20F01048
def GAT_ATTR2 : Nat := 0x20F02048
def FLC_CMD : Nat := 0x20B00040
def FLC_ADDR : Nat := 0x20B00044
def FLC_STATUS : Nat := 0x20B00048
def FLC_RES : Nat := 0x20B0004C
def FLC_CFG : Nat := 0x20B00050
def FLC_TORN : Nat := 0x20B00054
def FLC_TORN_E : Nat := 0x20B00058
def FLC_BSTAT : Nat := 0x20B00080
def FLC_SUSPCNT : Nat := 0x20B00084
def FLC_ECC : Nat := 0x20B00088
def FLC_WEAR : Nat := 0x20B0008C
def FLC_XO_BASE : Nat := 0x20B00100
def FLC_XO_LIM : Nat := 0x20B00104
def FLC_PBUF : Nat := 0x20B01040
def TAG_STAT : Nat := 0x20C00040
def TAG_SEQ : Nat := 0x20C00044
def TAG_LOCK : Nat := 0x20C00048
def TAG_CNT : Nat := 0x20C0004C
def TAG_HCNT : Nat := 0x20C00050
def TAG_AFAIL : Nat := 0x20C00054
def TAG_CRED_CMD : Nat := 0x20C00060
def TAG_CRED_PW0 : Nat := 0x20C00064
def TAG_CRED_PW1 : Nat := 0x20C00068
def TAG_CRED_STAT : Nat := 0x20C0006C
def TAG_TKT : Nat := 0x20C00070
def CRD_SD_STAT : Nat := 0x20D00040
def CRD_SD_CFG : Nat := 0x20D00044
def CRD_CUST_CMD : Nat := 0x20D00048
def CRD_CUST_STAT : Nat := 0x20D0004C
def CRD_GEN : Nat := 0x20D00050
def CRD_JNL : Nat := 0x20D00054
def CRD_SD_ERR : Nat := 0x20D00058
def CRD_CC_STAT : Nat := 0x20D00080
def CRD_CC_ERR : Nat := 0x20D00084
def CRD_CC_CFG : Nat := 0x20D000A0
def FLK_STAT : Nat := 0x20E00040
def FLK_FLAG : Nat := 0x20E00044
def FLK_PEND : Nat := 0x20E00048
def FLK_CLR : Nat := 0x20E0004C
def FLK_LIVE : Nat := 0x20E00050
def FLK_CFG : Nat := 0x20E00054
def FLK_RESP : Nat := 0x20E00058
def FLK_LIGHT : Nat := 0x20E0005C
def FLK_TEMP : Nat := 0x20E00060
def FLK_RTC_LO : Nat := 0x20E00064
def FLK_RTC_HI : Nat := 0x20E00068
def FLK_RTC_SET_LO : Nat := 0x20E0006C
def FLK_RTC_SET_HI : Nat := 0x20E00070
def FLK_RTC_TRIM : Nat := 0x20E00074
def FLK_RTC_MEAS : Nat := 0x20E00078
def FLK_MSEQ : Nat := 0x20E0007C
def FLK_MCNT : Nat := 0x20E00080
def FLK_TS_LO : Nat := 0x20E000C0
def FLK_TS_HI : Nat := 0x20E000C4
def SKM_STAT : Nat := 0x20200040
def SKM_CFG : Nat := 0x20200044
def SKM_PIN : Nat := 0x20200048
def SKM_CLR : Nat := 0x2020004C
def SKM_SEQ : Nat := 0x20200050
def SKM_LOSS : Nat := 0x20200054
def SKM_RSEL : Nat := 0x20200058
def SKM_RV : Nat := 0x2020005C
def SKM_OSEL : Nat := 0x20200080
def SKM_OV0 : Nat := 0x20200084
def SKM_OV1 : Nat := 0x20200088
def SKM_KCFG : Nat := 0x20201040
def RIS_STAT : Nat := 0x20300040
def RIS_CFG : Nat := 0x20300044
def RIS_TREND : Nat := 0x20300048
def RIS_PSEL : Nat := 0x2030004C
def RIS_POOL0 : Nat := 0x20300050
def RIS_POOL1 : Nat := 0x20300054
def RIS_MAP : Nat := 0x20300058
def RIS_MSEQ : Nat := 0x2030005C
def CLK_STAT : Nat := 0x20100040
def CLK_XSTAB : Nat := 0x20100044
def CLK_XTOL : Nat := 0x20100048
def CLK_XWIN : Nat := 0x2010004C
def CLK_XCNT : Nat := 0x20100050
def CLK_DOM : Nat := 0x20100054
def CLK_LOSS : Nat := 0x20100058
def PWR_BUDGET : Nat := 0x20100080
def PWR_STAT : Nat := 0x20100084
def PWR_PEND : Nat := 0x20100088
def PWR_MAXWAIT : Nat := 0x2010008C
def PWR_WAITS : Nat := 0x20100090
def PWR_REFUSED : Nat := 0x20100094
def SYS_MODE : Nat := 0x20000040
def SYS_MREQ : Nat := 0x20000044
def SYS_RST : Nat := 0x20000048
def SYS_RCAUSE : Nat := 0x2000004C
def SYS_SMS : Nat := 0x20000050
def SYS_STIME : Nat := 0x20000054
def SYS_PAIR : Nat := 0x20000058
def SYS_VAR : Nat := 0x2000005C
def SYS_CSEL : Nat := 0x20000060
def SYS_CAPV : Nat := 0x20000064
def SYS_LIMV : Nat := 0x20000068
def DBG_STAT : Nat := 0x21000040
def DBG_TKT_CMD : Nat := 0x21000044
def DBG_TKT_STAT : Nat := 0x21000048
def DBG_TCTR : Nat := 0x2100004C
def DBG_PAIRCTL : Nat := 0x21000050
def DBG_PAIRSTAT : Nat := 0x21000054
def DBG_CREG_SEL : Nat := 0x21000058
def DBG_CREG_DATA : Nat := 0x2100005C
def DBG_INJ_CMD : Nat := 0x21000060
def DBG_INJ_STAT : Nat := 0x21000064
def DBG_DENY : Nat := 0x21000068
def TUN_QV : Nat := 0x20500104
def KST_INSP : Nat := 0x20A000C4
end R

/-! ### Writable fields and reset values -/

/-- A row of the register map: `count` registers from `base`, `stride` bytes apart; the RW mask, the RWL mask and the
value after a cold Start (for a value set by Start: 0, written by Machine/Start.lean). -/
structure RegRow where
  base : Nat
  count : Nat
  stride : Nat
  rw : Nat
  rwl : Nat
  rst : Nat
  deriving DecidableEq, Repr

/-- Does address `a` fall on a register of the row? -/
def RegRow.hit (r : RegRow) (a : Nat) : Bool :=
  decide (r.base ≤ a) && decide ((a - r.base) % r.stride = 0) && decide ((a - r.base) / r.stride < r.count)

/-- Writable registers, part 1. -/
def regRows1 : List RegRow :=
  [ ⟨0x2040004C, 4, 0x40000, 0x0, 0x1, 0x0⟩  -- HPT_CFG
  , ⟨0x21100044, 1, 0x4, 0x0, 0x3, 0x3⟩  -- MLK_CFG
  , ⟨0x20500040, 1, 0x4, 0x0, 0x1FFF1FFF, 0x1000040⟩  -- TUN_CFG
  , ⟨0x20500080, 4, 0x20, 0x0, 0x7FFF7FFF, 0x0⟩  -- TUN_DOM_QP[d]
  , ⟨0x20500084, 4, 0x20, 0x0, 0x7F, 0x0⟩  -- TUN_DOM_SHQ[d]
  , ⟨0x20500088, 4, 0x20, 0x0, 0x3FFF3FFF, 0x0⟩  -- TUN_DOM_INFL[d]
  , ⟨0x2050008C, 4, 0x20, 0x0, 0x1FFF1FFF, 0x0⟩  -- TUN_DOM_PARK[d]
  , ⟨0x20500094, 4, 0x20, 0x0, 0x7FFFF, 0x0⟩  -- TUN_DOM_ENQ[d]
  , ⟨0x20500100, 1, 0x4, 0x3FFF, 0x0, 0x0⟩  -- TUN_QSEL
  , ⟨0x20600040, 1, 0x4, 0x0, 0x1FFF, 0xC0A⟩  -- CTX_CFG
  , ⟨0x20600080, 4, 0x10, 0x0, 0x3FFFF, 0x0⟩  -- CTX_DOM_VB[d]
  , ⟨0x20600084, 4, 0x10, 0x0, 0x7FFFF, 0x0⟩  -- CTX_DOM_VC[d]
  , ⟨0x2060008C, 4, 0x10, 0x0, 0x1FFF, 0x0⟩  -- CTX_DOM_CR[d]
  , ⟨0x206000C0, 1, 0x4, 0x3FFFF, 0x0, 0x0⟩  -- CTX_PEEK_SEL
  , ⟨0x20700100, 1, 0x4, 0x0, 0xFFFFF, 0x20064⟩  -- SYM_CFG
  , ⟨0x20700114, 1, 0x4, 0x3FF, 0x0, 0x0⟩  -- SYM_STRM_SEL
  , ⟨0x20800100, 1, 0x4, 0x0, 0xFFFF, 0x10⟩  -- CRU_CFG
  , ⟨0x20801040, 1, 0x4, 0xFFFF, 0x0, 0x0⟩  -- CRU_FW_CMD
  , ⟨0x20801044, 1, 0x4, 0xFFF0FFF, 0x0, 0x0⟩  -- CRU_FW_KEY
  , ⟨0x20801048, 1, 0x4, 0x1FFF, 0x0, 0x0⟩  -- CRU_FW_PAR
  ]

/-- Writable registers, part 2. -/
def regRows2 : List RegRow :=
  [ ⟨0x2080104C, 1, 0x4, 0xFFFFFFFF, 0x0, 0x0⟩  -- CRU_FW_POL
  , ⟨0x20801050, 1, 0x4, 0xFFFFFFFF, 0x0, 0x0⟩  -- CRU_FW_IN
  , ⟨0x20801054, 1, 0x4, 0x7FFF, 0x0, 0x0⟩  -- CRU_FW_INLEN
  , ⟨0x20801058, 1, 0x4, 0xFFFFFFFF, 0x0, 0x0⟩  -- CRU_FW_OUT
  , ⟨0x2080105C, 1, 0x4, 0x3FF, 0x0, 0x0⟩  -- CRU_FW_OUTLEN
  , ⟨0x20900040, 1, 0x4, 0x0, 0x1FFF0F, 0x146404⟩  -- RNG_CFG
  , ⟨0x20900044, 1, 0x4, 0x0, 0x3FF00FF, 0x3480065⟩  -- RNG_HCFG
  , ⟨0x20900054, 1, 0x4, 0xF, 0x0, 0x0⟩  -- RNG_SRCSEL
  , ⟨0x2090006C, 1, 0x4, 0x800F0000, 0x0, 0x0⟩  -- RNG_CAPT
  , ⟨0x20A0004C, 1, 0x4, 0x0, 0xFFF, 0x258⟩  -- KST_CFG
  , ⟨0x20A00050, 4, 0x4, 0x0, 0x1FFF0FFF, 0x0⟩  -- KST_DOM_SL[d]
  , ⟨0x20A00060, 1, 0x4, 0xFFF, 0x0, 0x0⟩  -- KST_SEL
  , ⟨0x20A00080, 1, 0x4, 0xFFF0FFF, 0x0, 0x0⟩  -- KST_FW_CMD
  , ⟨0x20A00084, 1, 0x4, 0xFFFFFFFF, 0x0, 0x0⟩  -- KST_FW_ARG
  , ⟨0x20A000A0, 1, 0x4, 0xFFF, 0x0, 0x0⟩  -- KST_CER_CMD
  , ⟨0x20A000C0, 1, 0x4, 0x3FFFF, 0x0, 0x0⟩  -- KST_INSP_SEL
  , ⟨0x20F00040, 1, 0x4, 0x0, 0x0, 0x1⟩  -- GAT_STAT
  , ⟨0x20F00050, 1, 0x4, 0x0, 0x3FFFF, 0x0⟩  -- GAT_IRQ_RTE
  , ⟨0x20F00054, 1, 0x4, 0x3F, 0x0, 0x0⟩  -- GAT_KEN_EN
  , ⟨0x20F01040, 32, 0x10, 0x0, 0xFFFFFFC0, 0x0⟩  -- GAT_BASE
  ]

/-- Writable registers, part 3. -/
def regRows3 : List RegRow :=
  [ ⟨0x20F02040, 32, 0x10, 0x0, 0xFFFFFFC0, 0x0⟩  -- GAT_BASE
  , ⟨0x20F01044, 32, 0x10, 0x0, 0xFFFFFFC0, 0x0⟩  -- GAT_LIMIT
  , ⟨0x20F02044, 32, 0x10, 0x0, 0xFFFFFFC0, 0x0⟩  -- GAT_LIMIT
  , ⟨0x20F01048, 32, 0x10, 0x0, 0x1FF, 0x0⟩  -- GAT_ATTR
  , ⟨0x20F02048, 32, 0x10, 0x0, 0x1FF, 0x0⟩  -- GAT_ATTR
  , ⟨0x20B00040, 1, 0x4, 0xF, 0x0, 0x0⟩  -- FLC_CMD
  , ⟨0x20B00044, 1, 0x4, 0xFFFFFFFF, 0x0, 0x0⟩  -- FLC_ADDR
  , ⟨0x20B00050, 1, 0x4, 0x0, 0xFFFF0F10, 0x5100310⟩  -- FLC_CFG
  , ⟨0x20B00100, 8, 0x8, 0x0, 0xFFFFF003, 0x0⟩  -- FLC_XO_BASE[i]
  , ⟨0x20B00104, 8, 0x8, 0x0, 0xFFFFF000, 0x0⟩  -- FLC_XO_LIM[i]
  , ⟨0x20B01040, 64, 0x4, 0xFFFFFFFF, 0x0, 0x0⟩  -- FLC_PBUF[k]
  , ⟨0x20C00060, 1, 0x4, 0xF0FFFFF, 0x0, 0x0⟩  -- TAG_CRED_CMD
  , ⟨0x20D00044, 1, 0x4, 0x0, 0x3FFFF, 0x30064⟩  -- CRD_SD_CFG
  , ⟨0x20D00048, 1, 0x4, 0xF, 0x0, 0x0⟩  -- CRD_CUST_CMD
  , ⟨0x20D000A0, 1, 0x4, 0x0, 0x7, 0x4⟩  -- CRD_CC_CFG
  , ⟨0x20E00044, 1, 0x4, 0x0, 0x0, 0x2000⟩  -- FLK_FLAG
  , ⟨0x20E00054, 1, 0x4, 0x0, 0xF07FF, 0x80⟩  -- FLK_CFG
  , ⟨0x20E00058, 1, 0x4, 0x0, 0xFFFFFFF, 0xD56A55F⟩  -- FLK_RESP
  , ⟨0x20E00074, 1, 0x4, 0x0, 0xFFFF, 0x0⟩  -- FLK_RTC_TRIM
  , ⟨0x20200044, 1, 0x4, 0x0, 0xFFFFFF, 0x640A14⟩  -- SKM_CFG
  ]

/-- Writable registers, part 4. -/
def regRows4 : List RegRow :=
  [ ⟨0x20200048, 1, 0x4, 0x1, 0x0, 0x0⟩  -- SKM_PIN
  , ⟨0x20200058, 1, 0x4, 0x1FF, 0x0, 0x0⟩  -- SKM_RSEL
  , ⟨0x20200080, 1, 0x4, 0x7F, 0x0, 0x0⟩  -- SKM_OSEL
  , ⟨0x20201040, 64, 0x4, 0x0, 0xF, 0x0⟩  -- SKM_KCFG[k]
  , ⟨0x20300044, 1, 0x4, 0x0, 0xFFF, 0x25A⟩  -- RIS_CFG
  , ⟨0x20300048, 1, 0x4, 0x0, 0xFFFFFF, 0x100420⟩  -- RIS_TREND
  , ⟨0x2030004C, 1, 0x4, 0xF, 0x0, 0x0⟩  -- RIS_PSEL
  , ⟨0x20100044, 1, 0x4, 0x0, 0xFFF, 0x1D5⟩  -- CLK_XSTAB
  , ⟨0x20100048, 1, 0x4, 0x0, 0xFFFF, 0x3A98⟩  -- CLK_XTOL
  , ⟨0x2010004C, 1, 0x4, 0x0, 0xFF, 0x10⟩  -- CLK_XWIN
  , ⟨0x20100080, 1, 0x4, 0x0, 0x3FF, 0x3B6⟩  -- PWR_BUDGET
  , ⟨0x2010008C, 1, 0x4, 0x0, 0xFFFF, 0xC8⟩  -- PWR_MAXWAIT
  , ⟨0x20000060, 1, 0x4, 0xF, 0x0, 0x0⟩  -- SYS_CSEL
  , ⟨0x2100004C, 1, 0x4, 0xFFFFFFFF, 0x0, 0x0⟩  -- DBG_TCTR
  , ⟨0x21000058, 1, 0x4, 0x33F, 0x0, 0x0⟩  -- DBG_CREG_SEL
  , ⟨0x2100005C, 1, 0x4, 0xFFFFFFFF, 0x0, 0x0⟩  -- DBG_CREG_DATA
  ]

/-- Every register with a writable field or a stated reset value. -/
def regRows : List RegRow := regRows1 ++ regRows2 ++ regRows3 ++ regRows4

/-- The row of address `a`. -/
def regRow (a : Nat) : Option RegRow := regRows.find? (fun r => r.hit a)

/-- The default SKM_KCFG word of a fault kind (R413): REACT [1:0], OPEN [2], MIRROR [3]. -/
def kcfgReset (k : Nat) : Nat :=
  if k = 0x04 ∨ k = 0x10 then 0
  else if k = 0x06 ∨ k = 0x29 ∨ k = 0x31 then 8
  else if k = 0x08 ∨ k = 0x11 ∨ k = 0x18 ∨ k = 0x19 ∨ k = 0x1A then 13
  else if k ∈ [0x01, 0x02, 0x03, 0x05, 0x09, 0x0A, 0x12, 0x13, 0x14, 0x15, 0x20, 0x21, 0x22, 0x28, 0x2A, 0x2B,
      0x2C, 0x30, 0x38] then 12
  else 0

/-- The value of a register after a cold Start (R13). -/
def regReset (a : Nat) : Word :=
  if a = R.SYS_STIME then BitVec.ofNat 32 (Config.free 6)
  else if R.SKM_KCFG ≤ a ∧ a < R.SKM_KCFG + 256 then BitVec.ofNat 32 (kcfgReset ((a - R.SKM_KCFG) / 4))
  else match regRow a with
    | some r => BitVec.ofNat 32 r.rst
    | none => 0

end Sys2Proof.Machine
end

