-- ==== Sys2Proof/Machine/Tbl.lean ====
section
/-! DEFINITION. Sparse tables in ONE canonical form: keys strictly rising, no entry equal to the default of its key.
They hold memory, registers, queue pairs, key slots and every other collection the spec numbers. -/

namespace Sys2Proof.Machine

/-- A sparse table: pairs of key and value. -/
abbrev Tbl (α : Type) := List (Nat × α)

/-- The value at key `k`; an unlisted key holds its default `d k`. -/
def Tbl.get {α : Type} (d : Nat → α) : Tbl α → Nat → α
  | [], k => d k
  | (j, v) :: t, k => if j = k then v else Tbl.get d t k

/-- Removes key `k`. -/
def Tbl.del {α : Type} : Tbl α → Nat → Tbl α
  | [], _ => []
  | (j, v) :: t, k => if j = k then Tbl.del t k else (j, v) :: Tbl.del t k

/-- Inserts `(k, v)` in key order (`k` is not listed). -/
def Tbl.ins {α : Type} : Tbl α → Nat → α → Tbl α
  | [], k, v => [(k, v)]
  | (j, u) :: t, k, v => if k < j then (k, v) :: (j, u) :: t else (j, u) :: Tbl.ins t k v

/-- Writes `v` at key `k`; writing the default removes the entry, so that equal tables are equal data. -/
def Tbl.set {α : Type} [DecidableEq α] (d : Nat → α) (t : Tbl α) (k : Nat) (v : α) : Tbl α :=
  if v = d k then Tbl.del t k else Tbl.ins (Tbl.del t k) k v

/-- Every key of `t` is above `k`. -/
def Tbl.above {α : Type} (k : Nat) (t : Tbl α) : Bool := t.all (fun e => decide (k < e.1))

/-- The canonical form: keys strictly rising and no entry equal to its default. -/
def Tbl.wf {α : Type} [DecidableEq α] (d : Nat → α) : Tbl α → Bool
  | [] => true
  | (j, v) :: t => Tbl.above j t && decide (v ≠ d j) && Tbl.wf d t

/-- Drops every entry whose key satisfies `p` (those keys then hold their defaults). -/
def Tbl.clear {α : Type} (p : Nat → Bool) (t : Tbl α) : Tbl α := t.filter (fun e => !p e.1)

end Sys2Proof.Machine
end

