-- ==== Sys2Proof/Machine/State.lean ====
section
/-! DEFINITION. The state of the ESN-8440 as plain data, and the state after reset (00 R13: the Reset column is the
value after a cold Start). -/

namespace Sys2Proof.Machine

/-! ### Stops -/

/-- Faults of the model. -/
inductive Fault where
  /-- Raised by no meaning: every event the spec describes has an effect. Safe. -/
  | unreachable
  deriving DecidableEq, Repr

/-- Refusals of the model. -/
inductive Refusal where
  /-- A row of the opcode table without a meaning yet; raised by Machine/Dispatch.lean only. Safe. -/
  | notModelled (mnemonic : String)
  deriving DecidableEq, Repr

/-! ### Modes and lifecycle -/

/-- The six operating modes (R449). -/
inductive Mode where
  | backup | field | start | service | hold | lockdown
  deriving DecidableEq, Repr

/-- Lifecycle states (R462). -/
inductive Life where
  | foundry | vendor | shipped | commissioned | decommissioned
  deriving DecidableEq, Repr

/-! ### Common header and fault messages -/

/-- A fault message (R411) and the host domain whose job raised it (R52; 4 for none). -/
structure Msg where
  blk : Nat
  inst : Nat
  kind : Nat
  sev : Nat
  addr : Nat
  dom : Nat
  deriving DecidableEq, Repr

/-- A register access held during a soft reset (R17): a write of `some v`, or a read. -/
structure HeldAcc where
  rq : Rq
  addr : Nat
  val : Option Word
  deriving DecidableEq, Repr

/-- The common page header of a block instance (R9). -/
structure Hdr where
  en : Bool := true
  srstBusy : Bool := false
  evt : Word := 0
  evtEn : Word := 0
  evtCnt : Nat := 0
  faultLo : Word := 0
  faultHi : Word := 0
  faultCap : Word := 0       -- BLK_FAULTH as a read of BLK_FAULT captured it
  fence : Word := 0
  lock : Bool := false
  held : List HeldAcc := []
  deriving DecidableEq, Repr

/-! ### Kennu pairs -/

/-- Why a pair executes or not (R271, R273, R276, R284, R311, R469). -/
inductive PRun where
  | held          -- in reset: spare, or SERVICE before its release
  | running
  | waiting       -- in WFE
  | halted        -- Lockdown's SERVICE halt, or a clock failure
  | debugHalt     -- halted by debug (R469)
  | doubleFault
  | mismatch
  deriving DecidableEq, Repr

/-- A return-stack word and its hidden tag (R279): `frame` true is FRAME, false CALL. -/
structure RWord where
  val : Word := 0
  frame : Bool := false
  deriving DecidableEq, Repr

/-- One physical pair (10, 11). -/
structure KPair where
  g : Tbl Word := []
  pc : Word := 0
  cs : Word := 0
  rsp : Nat := 0
  rsb : Nat := 0
  rsl : Nat := 0x1000
  ml : Word := 0
  mh : Word := 0
  qt : Word := 0
  rm : Word := 0
  edtb : Word := 0x0001F000
  aea : Word := 0
  aec : Word := 0
  cycHi : Word := 0
  esr : Word := 0
  ear : Word := 0
  sf0 : Word := 0
  sf1 : Word := 0
  sf2 : Word := 0
  sf3 : Word := 0
  imask : Word := 0
  xcnt : Word := 0
  rstack : Tbl RWord := []
  bits : Tbl Byte := []
  mulQ : List (BitVec 64) := []
  divQ : Option (Word × Word) := none
  aepLeft : Nat := 0
  role : Nat := 0
  takeover : Bool := false
  run : PRun := .held
  fenced : Bool := false
  haltEvt : Bool := false
  takeEvt : Bool := false
  stepOne : Bool := false
  deriving DecidableEq, Repr

/-! ### Host ports and the Tundish (02, 03, 04) -/

/-- A posted write placed in a port's outbound staging (R31, R128), in order. -/
structure Tlp where
  port : Nat
  addr : Nat
  data : List Byte
  ro : Bool          -- Relaxed Ordering attribute (R47)
  deriving DecidableEq, Repr

/-- A record of a domain's fault view (R52). -/
structure FRec where
  lo : Word
  hi : Word
  seq : Nat
  deriving DecidableEq, Repr

/-- A host port and its domain (02). -/
structure HPort where
  linkUp : Bool := false
  training : Bool := false
  perst : Bool := false
  speed : Nat := 0
  x1 : Bool := false
  l1 : Bool := false
  roEn : Bool := true        -- Enable Relaxed Ordering of Device Control (R47)
  d3 : Bool := false
  resetting : Bool := false
  gen : Word := 0
  asq : Nat := 0
  acq : Nat := 0
  bwin : Nat := 0
  bwinLen : Nat := 0
  sqN : Nat := 0
  cqN : Nat := 0
  adminEn : Bool := false
  cfgErr : Nat := 0
  cfgError : Bool := false
  drbg : Bool := false       -- the domain's DRBG instance is instantiated (R227)
  share : Nat := 0           -- share in force (R116)
  newShare : Option Nat := none
  view : List FRec := []     -- newest first, at most 32
  viewCnt : Word := 0
  viewHead : Nat := 0
  rr : Tbl Nat := []         -- fetch round-robin pointer per class (R121)
  aer : List Nat := []       -- errors logged through AER: 1 UR, 2 CA, newest first (R55)
  parkQ : List Nat := []     -- jobs waiting for a park entry, in order (R127)
  deriving DecidableEq, Repr

/-- A host-memory window (R58); `len` 0 is no window. -/
structure Win where
  base : Nat := 0
  len : Nat := 0
  lr : Bool := false
  lw : Bool := false
  cr : Bool := false
  cw : Bool := false
  coreEn : Bool := false
  coreOff : Nat := 0
  deriving DecidableEq, Repr

/-- A submission entry and whether its OWN bit is judged as pushed (R84, R85). -/
structure Ent where
  bytes : List Byte
  pushed : Bool
  deriving DecidableEq, Repr

/-- An entry read in progress (R80): first slot, entries asked, and whether the access after them was refused by the
window check (R106). -/
structure Fetch where
  slot : Nat
  n : Nat
  refused : Bool
  deriving DecidableEq, Repr

/-- States of a queue pair (QUERY_QP table; `absent` does not exist). -/
inductive QState where
  | absent | active | faulted | destroying
  deriving DecidableEq, Repr

/-- A queue pair (03, 04). `free` counts CQ slots known to be free, from W; `outst` entries outstanding (R91, R92). -/
structure QP where
  st : QState := .absent
  dom : Nat := 0
  prio : Nat := 0
  weight : Nat := 1
  infl : Nat := 0
  sqN : Nat := 0
  cqN : Nat := 0
  sqBase : Nat := 0
  cqBase : Nat := 0
  t : Nat := 0
  h : Nat := 0
  w : Nat := 0
  free : Nat := 0
  outst : Nat := 0
  lastTail : Word := 0       -- last value written to SQ_TAIL (R48)
  lastHint : Word := 0
  dbErr : Nat := 0
  faultSlot : Nat := 0
  faultStatus : Nat := 0
  faultRing : Nat := 0
  jobsCov : Nat := 0
  cqWaits : Nat := 0
  waiting : Bool := false    -- a completion waits for a free CQ slot
  closing : Bool := false    -- a closing completion is due (R99)
  fetch : Option Fetch := none
  reread : Option (List Ent) := none   -- OWN 0 at the head of these entries, to be read again (R82)
  chain : List Ent := []     -- entries of the open chain
  inl : Tbl Ent := []        -- inline entries not yet taken, by slot (R83)
  spilled : List Nat := []   -- slots holding spilled inline entries (R85)
  drain : Bool := false
  tmoGone : Bool := false
  reported : Nat := 0        -- jobs covered since DESTROY_QP (R114 step 6)
  released : Nat := 0
  ra : Option (Nat × Nat) := none   -- a CQ read-ahead in progress: first slot and entries read (R91)
  judge : Bool := false      -- the count of free slots is to be judged (R91)
  pend : Option (Nat × Nat × Nat × Nat) := none   -- a failed entry read: status, cause, slot, address (R106)
  ringMsg : Option (Nat × Nat × Nat) := none      -- the completion it owes: status, cause, slot
  frozen : List (Bool × Bool × Nat × List Nat) := []   -- completions due when DESTROY_QP came: ORDR, EARLY, last, covered
  tmo : Nat := 0             -- DESTROY_QP's limit in ms
  deriving DecidableEq, Repr

/-- What a key handle resolved to (R142). -/
inductive KeyRef where
  | none
  | slot (n : Nat)
  | ctx (idx : Nat)
  deriving DecidableEq, Repr

/-- What an executing job waits for. -/
inductive JWait where
  | ckpt            -- a counter-vault checkpoint (R150)
  | mark            -- a MARK or ENROL page of the vault (R136, R160)
  | image           -- a key-image record (R251)
  | rng             -- random material (R209, R230)
  | tag             -- the tag store (R368)
  | destroy (q : Nat)
  deriving DecidableEq, Repr

/-- Where a job stands between fetch and completion (R27). -/
inductive JStage where
  | held            -- an admin command behind another (R108)
  | parkWait        -- a miss without a park entry (R127)
  | parked          -- in the miss park
  | input           -- its input is being read
  | ready           -- waits for a unit or for the Tundish
  | running         -- on lane or Crucible unit `unit`
  | wait (w : JWait)
  | done
  deriving DecidableEq, Repr

/-- Slot states (R244), in the order of KST_SV0.STATE. -/
inductive SlotSt where
  | empty | reserved | loaded
  deriving DecidableEq, Repr

/-- A key slot (R242-R245, R252). -/
structure KSlot where
  st : SlotSt := .empty
  typ : Nat := 0
  nbits : Nat := 0
  policy : Word := 0
  inv : Nat := 0             -- invocation counter
  invR : Nat := 0            -- its durable reservation R
  invP : Option Nat := none  -- an INVOC record not yet durable
  mat : List Byte := []
  dirty : Bool := false
  deriving DecidableEq, Repr

/-- A job holding an in-flight slot (R94): its entries, progress and, once finished, its result. -/
structure Job where
  id : Nat
  qp : Nat
  dom : Nat
  tag : Nat
  op : Nat
  ordr : Bool
  cmpl : Bool
  ents : List (List Byte)
  stage : JStage
  key : KeyRef := .none
  ks : KSlot := {}           -- the slot key it resolved, kept until it ends (R248, R267)
  kek : List Byte := []      -- the KEK of a WRAP
  unit : Nat := 0
  input : List Byte := []
  seg : Nat := 0             -- bulk segments done (R128)
  res : List Byte := []      -- output held until it may be posted (R187, R206)
  aux : Nat := 0             -- opcode-specific progress
  posted : Nat := 0          -- output bytes already posted by segments
  fill : Option Nat := none  -- the key slot it holds RESERVED (R203)
  stream : Option Nat := none   -- the stream slot it uses (R188)
  status : Nat := 0
  result : Word := 0
  detail : Word := 0
  fin : Nat := 0             -- order of finishing
  commit : Nat := 0          -- an OPEN's place among the commits that wait (R148)
  deriving DecidableEq, Repr

/-! ### Power leave (17) -/

/-- What a leave request is for (R447). -/
inductive Purpose where
  | vaultPage | vaultErase | image | imageErase | audit | auditErase | journal | journalErase | fieldMap
  | heal (bank sector : Nat) | lane (n : Nat) | cru (n : Nat) | flash | sd | cc (slot : Nat)
  deriving DecidableEq, Repr

/-- A leave request or grant: the block instance that asks, its tokens and what for. -/
structure Leave where
  blk : Nat
  inst : Nat
  tok : Nat
  what : Purpose
  waited : Bool
  deriving DecidableEq, Repr

/-! ### Flash operations (12) -/

/-- A flash operation asked for (R335): its bank (0-3, 5 the OTP row), class, operation code (FLC_BSTAT.OP; 7 an OTP word),
sector, client block, tokens, and what for. -/
structure FReq where
  bank : Nat
  cls : Nat
  op : Nat
  sector : Nat
  blk : Nat
  tok : Nat
  what : Purpose
  deriving DecidableEq, Repr

/-- The operation a bank has taken (R327, R328): whether its leave is granted; `susp` 0 running, 1 suspended by firmware,
2 automatically; whether firmware has asked for a suspension. -/
structure FOp where
  rq : FReq
  granted : Bool := false
  susp : Nat := 0
  ask : Bool := false
  deriving DecidableEq, Repr

/-- A torn sector (R337, R338): listed by the scan of a Start, and its heal. -/
structure Torn where
  bank : Nat
  sector : Nat
  listed : Bool
  healing : Bool
  deriving DecidableEq, Repr

/-! ### Skimmer and Riser (16) -/

/-- A record of the ring (R417). -/
structure SRec where
  msg : Msg
  seq : Nat
  rtc : Nat
  rep : Nat
  deriving DecidableEq, Repr

/-- An open fault (R421); `cnt` 0 is a free entry. -/
structure OpenF where
  kind : Nat := 0
  blk : Nat := 0
  inst : Nat := 0
  sev : Nat := 0
  cnt : Nat := 0
  first : Nat := 0
  deriving DecidableEq, Repr

/-- An audit page (R418, R419). -/
structure APage where
  copy : Bool
  ents : List SRec
  deriving DecidableEq, Repr

/-- The fault collector. -/
structure Skm where
  ring : List SRec := []     -- newest first, at most 512
  seq : Nat := 0
  react : List Msg := []     -- messages entered since the last pass (R416)
  opens : Tbl OpenF := []
  full : Bool := false
  reasserted : Bool := false
  pulsing : Bool := false
  pulse : Bool := false      -- FAULTN style: pulse
  styled : Bool := false     -- the style has been read (R423)
  page : List SRec := []     -- entries of the open audit page
  pages : List APage := []   -- pages to program; the first may be in programming
  lost : Nat := 0
  lostDue : Bool := false
  early : List Msg := []     -- the early buffer (R420)
  earlyOn : Bool := false
  log : List (Nat × SRec) := []   -- entries of the log, with their page, counted since the log began
  logPage : Nat := 0         -- next page
  logTail : Nat := 0         -- first page of the oldest sector not erased
  erasing : Bool := false
  deriving DecidableEq, Repr

/-- A field map entry (R433). -/
structure MapEnt where
  typ : Nat
  pool : Nat
  unit : Nat
  spare : Nat
  kind : Nat
  seq : Nat
  rtc : Nat
  rtcOk : Bool
  deriving DecidableEq, Repr

/-- The spares and repair manager. -/
structure Ris where
  ents : List MapEnt := []   -- the map in force: entries made, oldest first
  copy1 : Nat := 0           -- entries of it durable in copy 1
  copy2 : Nat := 0           -- and in copy 2
  seq : Nat := 0             -- SEQ of the newest durable entry
  half1 : Nat := 0           -- entries written to the active half of copy 1
  half2 : Nat := 0
  ok1 : Bool := true
  ok2 : Bool := true
  due : List (Nat × Nat) := []   -- serving units fenced and not yet dealt with: pool, unit
  subs : List (Nat × Nat × Nat) := []   -- substitutions in progress: pool, unit replaced, spare
  wear : List (Nat × Nat) := []   -- corrected-error counts (R430), least recently incremented first
  evalDone : Bool := false
  deriving DecidableEq, Repr

/-! ### Contexts and the counter vault (05) -/

/-- What the vault knows of a vault slot: the exact counters and doubt state (vault table) and the durable and pending
bases with their intervals (R140, R147-R150, R154). -/
structure VSlot where
  status : Nat := 0          -- 0 NONE, 1 ENROLLED, 2 RETIRED
  epoch : Nat := 0
  tx : Nat := 1              -- TX next
  rx : Nat := 0              -- RX high-water mark
  doubt : Bool := false
  fHi : Nat := 0             -- F
  lLo : Nat := 0             -- L
  rekey : Bool := false
  txD : Nat := 0             -- durable TX basis D and its interval
  txI : Nat := 4096
  txP : Option Nat := none   -- pending TX basis P
  txAt : Nat := 0            -- SEQ of the page that made D durable
  rxD : Nat := 0
  rxI : Nat := 4096
  rxP : Option Nat := none
  rxAt : Nat := 0
  rxExact : Bool := false
  deriving DecidableEq, Repr

/-- A device context (R141, R146); the counters' one home is the vault table. -/
structure Ctx where
  dom : Nat
  idx : Nat
  suite : Nat
  kep : Nat
  policy : Nat
  root : List Byte
  fkey : List Byte
  pub : List Byte
  map : BitVec 64            -- bit k stands for counter h - k
  deriving DecidableEq, Repr

/-- An install in progress (R143). -/
structure Install where
  dom : Nat
  idx : Nat
  vault : Bool               -- the vault-table read has returned
  record : Option (List Byte)   -- the record read
  lane : Option Nat          -- the lane running the unwrap
  ready : Option Ctx         -- unwrapped, waiting for a cache entry (R145)
  deriving DecidableEq, Repr

/-- A checkpoint word (R150): TX or RX, vault slot, basis. -/
structure CkWord where
  tx : Bool
  slot : Nat
  basis : Nat
  deriving DecidableEq, Repr

/-- A vault page waiting to be programmed, or being programmed (R151), and the job it finishes. A MARK page may record a
domain's new table epoch (domain, epoch) or vault range (domain, base, count). -/
inductive VPage where
  | log (ckl : Nat) (ws : List CkWord)
  | group (g : Nat) (exact : Bool) (states : List (Nat × VSlot)) (who : Option Nat)
  | mark (kind : Nat) (epoch : Option (Nat × Nat)) (range : Option (Nat × Nat × Nat)) (who : Option Nat)
  deriving DecidableEq, Repr

/-- A domain's enrolment table and its recorded vault range and table epoch (R133-R138). -/
structure Bind where
  bound : Bool := false
  unbinding : Bool := false
  base : Nat := 0
  records : Nat := 0
  epoch : Nat := 0
  keySlot : Nat := 0
  kwrap : List Byte := []     -- K_wrap and K_mac, derived when the table is bound (R172)
  kmac : List Byte := []
  recEpoch : Option Nat := none
  vbase : Nat := 0
  vcnt : Nat := 0
  deriving DecidableEq, Repr

/-- The vault's log and state (R149-R156). -/
structure Vault where
  seq : Nat := 0             -- SEQ of the newest durable page
  tail : Nat := 0            -- SEQ of the last page of the erased sectors: the log holds tail + 1 to seq
  logCkl : Nat := 12         -- interval of the open LOG page
  logWs : List CkWord := []  -- words of the open LOG page
  pages : List VPage := []   -- pages to program, in order; the first may be in programming
  prog : Bool := false       -- the first page is being programmed
  refused : Bool := false    -- its leave was refused (R153)
  markAt : Nat := 0          -- SEQ of the newest MARK page
  gAt : Tbl Nat := []        -- SEQ of the newest GROUP page of each group
  rangeBusy : Bool := false
  stalled : Bool := false
  compacting : Bool := false
  closing : Bool := false
  closed : Bool := false
  opened : Bool := false
  lastClean : Bool := false
  ready : Bool := false
  deriving DecidableEq, Repr

/-! ### Lanes and streams (06) -/

/-- Lane states, in the order of SYM_LSTAT.STATE. -/
inductive LaneSt where
  | spare | dormant | waking | idle | busy | paused | unseeded | fenced
  deriving DecidableEq, Repr

/-- What a lane runs. -/
inductive LaneWork where
  | none
  | job (id : Nat)
  | install (d i : Nat)
  deriving DecidableEq, Repr

/-- A symmetric lane (R166-R171). -/
structure Lane where
  st : LaneSt := .spare
  work : LaneWork := .none
  done : Nat := 0            -- blocks of the work already processed
  blocks : Nat := 0          -- AES blocks since Start, modulo 2^48
  since : Nat := 0           -- blocks since the last seed
  seed : Option Nat := none  -- the expander's seed: a number of a free value
  next : Option Nat := none  -- the next seed, drawn ahead (R171)
  deriving DecidableEq, Repr

/-- A stream slot (R188, Stream state table). -/
structure Stream where
  bound : Bool := false
  dom : Nat := 0
  qp : Nat := 0
  key : Nat := 0
  op : Nat := 0
  mode : Nat := 0
  blocks : Nat := 0
  aad : Nat := 0
  chain : List Byte := []
  ghash : List Byte := []
  j0 : List Byte := []
  held : List Byte := []
  deriving DecidableEq, Repr

/-! ### Crucible units (07) -/

/-- Unit states, in the order of CRU_USTAT.STATE. -/
inductive UnitSt where
  | spare | test | idle | leave | busy | wipe | fenced
  deriving DecidableEq, Repr

/-- What a unit will report when its wipe ends: status, stage 6 cause, detail, output and the key it fills. -/
structure COut where
  status : Nat
  cause : Nat
  detail : Nat
  data : List Byte
  key : List Byte
  deriving DecidableEq, Repr

/-- A Crucible unit (R195-R197). -/
structure CUnit where
  st : UnitSt := .spare
  job : Option Nat := none   -- job held; a port job is `none` with `fw`
  fw : Bool := false
  out : Option COut := none
  testDue : Bool := false
  since : Nat := 0           -- jobs since the last test (R218)
  up : Bool := false         -- its tests have passed: counted in capacity (R197)
  klass : Nat := 0           -- class of the current job (R207)
  deriving DecidableEq, Repr

/-! ### Random number generation (08) -/

/-- RNG states, in the order of RNG_STAT.STATE. -/
inductive RngSt where
  | off | startup | run | recover | failed
  deriving DecidableEq, Repr

/-- Source states, in the order of RNG_SRCSTAT.STATE. -/
inductive SrcSt where
  | spare | settle | test | serving | fenced | capture
  deriving DecidableEq, Repr

/-- A noise source (R219-R223). -/
structure Src where
  st : SrcSt := .spare
  last : Nat := 0            -- test code of its last failure
  rct : Nat := 0
  apt : Nat := 0
  deriving DecidableEq, Repr

/-- The RNG block. Seed words are named by their order of output; their values are free. -/
structure Rng where
  st : RngSt := .off
  srcs : Tbl Src := []
  buf : List Nat := []       -- seed words in the buffer, oldest first
  word : Nat := 0            -- seed words output so far
  internal : Bool := false
  lastW : Tbl Nat := []      -- newest word taken by an instance, plus 1: 0-3 host, 4 internal
  reqs : Tbl Nat := []       -- generate requests since the last seeding of a host instance
  waitQ : List Nat := []     -- jobs waiting for words, in order (R229)
  due : Bool := false        -- an internal reseed waits for its words (R226)
  fwData : Word := 0
  fwValid : Bool := false
  capSrc : Option Nat := none   -- the source in capture (R237)
  capWords : List Word := []
  deriving DecidableEq, Repr

/-! ### Key store (09) -/

/-- The body of an image record (Image record types table). -/
inductive ImgBody where
  | seal (kcv : List Byte)
  | slot (owner : Nat) (k : KSlot)
  | erase
  | invoc (r : Nat)
  | ranges (l : List Nat)
  | custody (setId : List Byte) (m n : Nat) (key : List Byte)
  deriving DecidableEq, Repr

/-- Who waits for an image record, and the slot to restore if it stalls (R251, R253). -/
inductive ImgWait where
  | none
  | job (id : Nat) (slot : Nat) (undo : KSlot)
  | fw (slot : Nat) (undo : KSlot)
  deriving DecidableEq, Repr

/-- An image record, with the key its body is wrapped under (R250). -/
structure ImgRec where
  slot : Nat
  seq : Nat
  page : Nat                 -- its first page, counted since the image was erased
  key : List Byte
  body : ImgBody
  who : ImgWait
  deriving DecidableEq, Repr

/-- A ceremony (R262, R263). -/
structure Cer where
  st : Nat := 0              -- KST_CER_STAT.STATE
  kind : Nat := 0
  acc : Nat := 0
  last : Nat := 0
  m : Nat := 0
  n : Nat := 0
  fail : Nat := 0
  setId : List Byte := []
  secret : List Byte := []   -- K_cust just made
  shares : List (Nat × List Byte) := []
  kcv : List Byte := []
  deriving DecidableEq, Repr

/-- The key store's internal keys, image log and ceremony (R238, R249-R256). -/
structure Kst where
  unsealed : Bool := false
  imgOk : Bool := false
  restore : Bool := false
  kseal : Option (List Byte) := none
  keph : Option (List Byte) := none
  kcust : Option (List Byte) := none
  setId : List Byte := []    -- of the CUSTODY record
  setM : Nat := 0
  setN : Nat := 0
  log : List ImgRec := []    -- durable records, oldest first
  queue : List ImgRec := []  -- records to program, in order
  seq : Nat := 0
  page : Nat := 0            -- next page of the region, counted since it was erased
  tail : Nat := 0            -- first page not yet erased by compaction
  prog : Bool := false       -- the first record is being programmed
  cer : Cer := {}
  deriving DecidableEq, Repr

/-! ### Dispatch (R122) -/

/-- A domain's round of one class and engine kind: its current QP and the jobs dispatched in this visit. -/
structure Round where
  qp : Nat := 0
  n : Nat := 0
  deriving DecidableEq, Repr

/-! ### Flask (15) -/

/-- An entry of the tamper mirror before it is programmed (R406). -/
structure MirE where
  time : Nat
  src : Nat
  event : Nat
  cnt : Nat
  deriving DecidableEq, Repr

/-- Flask: the backup domain's contents (R393) and the mirror queue. Its flags and RTC stand in State. -/
structure Flk where
  kbb : Option (List Byte) := none
  decom : Bool := false
  pend : Nat := 0
  pendLock : Bool := false
  time : Tbl Nat := []
  cnt : Tbl Nat := []
  light : Nat := 0
  vbat : Bool := true        -- VBAT at or above 2.0 V
  live : Nat := 0            -- causes present at the last sample
  cleared : Nat := 0         -- flags cleared since the source's last sample (R395)
  clrMiss : Bool := false
  sent : Tbl Nat := []       -- RTC of a source's last message and entry, plus 1 (R398)
  mq : List MirE := []       -- mirror entries waiting, at most 16
  mpos : Nat := 0            -- next slot of the mirror, counted since it began
  mseq : Nat := 0            -- SEQ of the newest entry
  temp : Option Nat := none
  setLo : Word := 0
  meas : Bool := false       -- a measurement is in progress
  deriving DecidableEq, Repr

/-! ### Tag (13) -/

/-- Who makes a commit of the tag store (R362), and what follows it. -/
inductive TagWho where
  | update                   -- UPDATE BINARY
  | ticket                   -- PUT TICKET
  | pwTry (ok : Bool)        -- PASSWORD, TRIES + 1; whether the digits match
  | pwOk                     -- PASSWORD, TRIES 0
  | auth1                    -- AUTH1's reservation
  | host (job : Nat)
  | cred (op : Nat)
  | decom                    -- the Start of R265
  | gone (ticket : Bool)     -- a reader's command whose field has fallen
  deriving DecidableEq, Repr

/-- A commit in progress: the records changed and their new contents. -/
structure TCommit where
  who : TagWho
  recs : List (Nat × List Byte)
  waits : Bool               -- step 2: waits for the energy reserve
  deriving DecidableEq, Repr

/-- A command APDU as it arrives: CLA, INS, P1 P2, data field, Le. -/
structure Apdu where
  cla : Nat
  ins : Nat
  p : Nat
  data : List Byte
  le : Nat
  deriving DecidableEq, Repr

/-- The tag. -/
structure Tag where
  field : Bool := false
  proto : Nat := 0           -- TAG_STAT.PROTO
  fromHalt : Bool := false   -- READY was entered from HALT
  level : Nat := 0           -- cascade levels selected
  l4 : Bool := false
  pps : Bool := false        -- a PPS is accepted now
  app : Nat := 0
  access : Nat := 0
  dr : Nat := 0
  ds : Nat := 0
  cfld : Bool := false       -- CFLD at or above 3.30 V
  tx : List Byte := []       -- the last frame sent to the reader
  rndB : Option (List Byte) := none
  ksEnc : List Byte := []
  ksMac : List Byte := []
  cc : Nat := 0
  ctr : Option Nat := none   -- challenge counter c; none resumes at AUTH_RES (R356)
  chain : Option (List Byte) := none
  commit : Option TCommit := none
  held : Option Apdu := none   -- a reader command waiting for a host job or credential command to end (R368)
  hostQ : List Nat := []     -- host jobs waiting, in order
  hostOn : Option Nat := none
  credOp : Option Word := none   -- the command word of a credential command not yet begun
  lock : Nat := 0            -- holders of the host write lock, one bit each
  seq : Nat := 0
  map : Nat := 0             -- COPYMAP in force
  page : Option Nat := none  -- page of the newest valid marker
  toIdle : Bool := false     -- the protocol returns to IDLE once the commit ends (R352)
  pw0 : Word := 0
  pw1 : Word := 0
  deriving DecidableEq, Repr

/-! ### Cards (14) -/

/-- A journal record (R380). -/
structure JRec where
  typ : Nat
  seq : Nat
  card : List Byte
  gen : Nat
  first : Nat := 0
  count : Nat := 0
  area : Nat := 0
  hash : List Byte := []
  ref : Nat := 0
  page : Nat := 0
  deriving DecidableEq, Repr

/-- The header of a generation on the card (R378). -/
structure CHdr where
  gen : Nat
  setId : List Byte
  kcv : List Byte
  m : Nat
  n : Nat
  deriving DecidableEq, Repr

/-- Where a generation being written stands (R381). -/
inductive GStage where
  | start        -- its GEN_START is asked
  | opening      -- the OPEN of the write in hand is asked
  | writing      -- the card writes
  | closing      -- its DONE is asked
  | ending       -- its GEN_END is asked
  deriving DecidableEq, Repr

/-- A generation being written (R381): its number and area, the slots captured as changed, the writes still to make
(first block and bytes), and whether it stops after the write in hand (R392). -/
structure GenRun where
  gen : Nat
  area : Nat
  snap : List (Nat × KSlot)
  todo : List (Nat × List Byte)
  stage : GStage := .start
  stop : Bool := false
  deriving DecidableEq, Repr

/-- A custodian slot (R387-R389). -/
structure CSlot where
  st : Nat := 0              -- CRD_CC_STAT.STATE
  klass : Nat := 0
  proto : Nat := 0
  fd : Nat := 0
  clk : Nat := 0
  used : Bool := false       -- read once since its insertion (R263)
  again : Bool := false      -- activation at class A is due
  clsA : Bool := false       -- the activation is at class A
  nopps : Bool := false      -- the activation is made without PPS
  deriving DecidableEq, Repr

/-- The cards and their journal. -/
structure Crd where
  st : Nat := 0              -- CRD_SD_STAT.STATE
  present : Bool := false
  tooSmall : Bool := false
  wp : Bool := false
  ccs : Nat := 0
  wide : Bool := false
  hs : Bool := false
  card : List Byte := []     -- identity
  hdrs : List (Nat × CHdr) := []   -- valid headers by area
  top : Nat := 0             -- the highest GEN found in either header
  op : Nat := 0              -- custody command in progress
  run : Option GenRun := none
  bad : Bool := false        -- the initialisation in hand is to fail
  ver : Nat := 0             -- what a VERIFY waiting for leave will find
  resolving : Bool := false
  jq : List JRec := []       -- journal records to program
  jprog : Bool := false
  log : List JRec := []      -- durable records, oldest first
  jseq : Nat := 0
  jpage : Nat := 0
  jtail : Nat := 0
  slots : Tbl CSlot := []
  deriving DecidableEq, Repr

/-! ### Clocks, modes and Starts (17) -/

/-- A PLL domain: its divider (CLK_DOM coding) and what it ramps to: 0 nothing, 1 full rate, 2 IOSC and relock, 3 IOSC
and gated. -/
structure PDom where
  div : Nat := 0
  aim : Nat := 0
  deriving DecidableEq, Repr

/-- The clocks. -/
structure Clk where
  judged : Bool := false
  refX : Bool := false
  compat : Bool := false     -- METHOD, from OTP
  doms : Tbl PDom := []      -- 0 CORE, 1 ENG, 2 FAB, 3 FL
  waiting : Bool := false    -- R443
  before : Mode := .start    -- the mode at the failure
  judgeAt : Nat := 0         -- units counted since the judgement began
  hrefOff : Nat := 0         -- ports held because their clock has not returned (R445)
  deriving DecidableEq, Repr

/-- A Start not yet carried out: warm or cold, its cause (SYS_RCAUSE), and a Lockdown reason it must end in. -/
structure StartReq where
  warm : Bool
  cause : Nat
  lock : Nat
  deriving DecidableEq, Repr

/-- SYS. -/
structure Sys where
  reason : Nat := 0          -- LOCK_REASON
  holdPend : Bool := false
  reqRefused : Bool := false
  start : Option StartReq := none
  released : Bool := false
  beat : Word := 0
  deriving DecidableEq, Repr

/-! ### Debug, boundary scan (18) and the management link (02) -/

/-- The debug block and the TAP. -/
structure Dbg where
  st : Nat := 0              -- DSTATE
  scope : Nat := 0
  minutes : Nat := 0
  verify : Option (List Byte) := none   -- the ticket being verified
  verdict : Option Bool := none   -- whether its signature has verified
  loaded : Bool := false
  injStep : Nat := 0
  injOn : Bool := false
  ir : Nat := 1              -- instruction of the TAP
  bnd : Nat := 0             -- boundary register
  pins : Bool := false       -- the boundary register holds the pins
  addr : Word := 0           -- DBGACC: what the next scan captures
  data : Word := 0
  ack : Nat := 0
  deriving DecidableEq, Repr

/-- The management link. -/
structure Mlk where
  addr : Option Nat := none
  chin : Bool := false
  resp : Option (List Byte) := none
  ready : Bool := false
  tx : List Byte := []       -- what the last read transaction returned
  deriving DecidableEq, Repr

/-- The machine. `fresh` is the model's own counter of free values, not the spec's. -/
structure State where
  pending : List Instr
  fresh : Nat
  variant : Variant
  mode : Mode
  life : Life
  regs : Tbl Word
  mem : Tbl Byte
  hdrs : Tbl Hdr
  pairs : Tbl KPair
  inbox : List Msg
  ports : Tbl HPort
  wins : Tbl Win
  qps : Tbl QP
  jobs : List Job
  nextJob : Nat
  nextFin : Nat
  staging : List Tlp
  leavePend : List Leave
  leaveHeld : List Leave
  vslots : Tbl VSlot
  binds : Tbl Bind
  ctxs : List Ctx  -- least recently used first
  installs : List Install
  closedIdx : List (Nat × Nat × Nat)  -- closed domain and index, and the closing job (R158)
  vault : Vault
  lanes : Tbl Lane
  streams : Tbl Stream
  units : Tbl CUnit
  fwJob : Option Job
  fwWait : Option Job  -- a port job queued behind a ticket's verification (R472)
  rng : Rng
  slots : Tbl KSlot
  kst : Kst
  credit : Tbl Int  -- C(d, k) in 1/640 cycles of PLL_ENG, key 2d + k: lanes 0, Crucible 1
  rounds : Tbl Round
  rtc : Nat  -- the backup RTC (R405), advanced by a free amount whenever it is read
  dbgErr : Bool  -- the sticky ERROR of DBGACC (R466)
  flashQ : List FReq  -- operations waiting for their bank, in the order asked
  flashOn : List FOp  -- operations the banks have taken
  flcAddr : Nat  -- the firmware command in hand: its address and data as GO found them (R329)
  flcData : List Byte
  torn : List Torn
  weak : List (Nat × Nat)  -- WEAK sectors: bank, sector (R333)
  lostSec : List (Nat × Nat)  -- lost logical sectors (R344)
  flashUsed : Tbl Nat  -- spare sectors used, by bank
  skm : Skm
  ris : Ris
  rtcValid : Bool  -- FLK_STAT.RTC_VALID (R405)
  clkFailed : Nat  -- failed clock sources, one bit each (R443)
  flags : Nat  -- the Flask flags, one bit per source (R397)
  flk : Flk
  tag : Tag
  crd : Crd
  clk : Clk
  sys : Sys
  dbg : Dbg
  mlk : Mlk
  sramBad : List Nat  -- system-SRAM macros refused to every requester (R427)
  deriving DecidableEq, Repr

/-- HPT_CFG of four ports, and the Tundish's shares: TUN_DOM_QP, SHQ, INFL, PARK and ENQ of four domains (R64, R110, R124,
R125). -/
def resetShares : Tbl Word :=
  [(0x2040004C, 0x1), (0x2044004C, 0x1), (0x2048004C, 0x1), (0x204C004C, 0x1)] ++
  [(0x20500080, 0xFFF0004), (0x20500084, 0x10), (0x20500088, 0x14000400), (0x2050008C, 0xA000200),
   (0x20500094, 0x10000), (0x205000A0, 0xFFF1003), (0x205000A4, 0x10), (0x205000A8, 0x14000400),
   (0x205000AC, 0xA000200), (0x205000B4, 0x10000), (0x205000C0, 0xFFF2002), (0x205000C4, 0x10),
   (0x205000C8, 0x14000400), (0x205000CC, 0xA000200), (0x205000D4, 0x10000), (0x205000E0, 0xFFF3001),
   (0x205000E4, 0x10), (0x205000E8, 0x14000400), (0x205000EC, 0xA000200), (0x205000F4, 0x10000)]

/-- The vault ranges (R134), CRU_KAT after the units' tests, and the slot ranges (R243). -/
def resetRanges : Tbl Word :=
  [(0x20600084, 0x10000), (0x20600090, 0x10000), (0x20600094, 0x10000), (0x206000A0, 0x20000),
   (0x206000A4, 0x10000), (0x206000B0, 0x30000), (0x206000B4, 0x10000)] ++
  [(0x20800050, 0x1), (0x20810050, 0x1), (0x20820050, 0x1), (0x20A00050, 0x3C00100), (0x20A00054, 0x3C004C0),
   (0x20A00058, 0x3C00880), (0x20A0005C, 0x3C00C40)]

/-- The registers whose value after reset is set during Start (reset "Start" in the register tables): SYS_RCAUSE (power-on),
SYS_SMS (DONE) and those above. Every other register holds its own reset value. -/
def resetRegs : Tbl Word :=
  [(0x2000004C, 1), (0x20000050, 0x83FF)] ++ resetShares ++ resetRanges

/-- The machine right after reset: a new part (-L) after a cold Start (R13, R456) with the crystal judged and every unit
sound. Flash, the tag bank and OTP are erased, so the lifecycle state is FOUNDRY (R462); the backup domain has just been
lost (R394). Firmware has not yet left mode Start. Values the spec gives no number (the generations, the duration of the
Start, K_eph) are free values; the rest that it leaves open is in log entries 1, 3 and 4. -/
def State.reset : State where
  pending := []
  fresh := 7
  variant := .L
  mode := .start
  life := .foundry
  regs := resetRegs
  mem := []
  hdrs := [(0, { evt := 0x8 }), (32, { evt := 0xC }), (288, { evt := 0x4 })]
  pairs := [(0, { role := 1, run := .running }), (1, { role := 2, run := .held })]
  inbox := []
  ports := (List.range 4).map (fun d => (d, { share := 16, training := true, gen := BitVec.ofNat 32 (Config.free (d + 1)) }))
  wins := []
  qps := []
  jobs := []
  nextJob := 0
  nextFin := 1
  staging := []
  leavePend := []
  leaveHeld := []
  vslots := []
  binds := []
  ctxs := []
  installs := []
  closedIdx := []
  vault := { ready := true }
  lanes := (List.range 8).map (fun n => (n, { st := .dormant }))
  streams := []
  units := [(0, { st := .idle, up := true }), (1, { st := .idle, up := true })]
  fwJob := none
  fwWait := none
  rng := { st := .run, srcs := (List.range 8).map (fun n => (n, { st := .serving })), word := 3, internal := true,
           lastW := [(4, 3)] }
  slots := []
  kst := { keph := some (Config.rnd 5 32) }
  credit := []
  rounds := []
  rtc := 0
  dbgErr := false
  flashQ := []
  flashOn := []
  flcAddr := 0
  flcData := []
  torn := []
  weak := []
  lostSec := []
  flashUsed := []
  skm := { styled := true, pulse := true }
  ris := { evalDone := true }
  rtcValid := false
  clkFailed := 0
  flags := 0x2000
  flk := { cnt := [(13, 1)] }
  tag := {}
  crd := {}
  clk := { judged := true, refX := true, doms := (List.range 4).map (fun n => (n, { div := 1 })) }
  sys := {}
  dbg := { st := 2 }
  mlk := {}
  sramBad := []

end Sys2Proof.Machine
end

