-- ==== Sys2Proof/Machine/Ops.lean ====
section
/-! DEFINITION. The named operations every command shares: bit fields, byte order, memory, the register file, the
common page header, events and fault messages (00, 01 R33, R34). -/

namespace Sys2Proof.Machine

/-! ### Bit fields and byte order (R7) -/

/-- Field [hi:lo] of a word as a number. -/
def bits (w : Word) (hi lo : Nat) : Nat := (w.toNat >>> lo) % 2 ^ (hi + 1 - lo)

/-- Bit `n` of a word. -/
def bit (w : Word) (n : Nat) : Bool := w.getLsbD n

/-- A number as a 32-bit word, wrapping. -/
def w32 (n : Nat) : Word := BitVec.ofNat 32 n

/-- 1 for true. -/
def b2n (b : Bool) : Nat := if b then 1 else 0

/-- `w` with bit `n` set to `b`. -/
def putBit (w : Word) (n : Nat) (b : Bool) : Word :=
  if b then w ||| (1#32 <<< n) else w &&& ~~~(1#32 <<< n)

/-- `w` with field [hi:lo] replaced by `v`. -/
def putField (w : Word) (hi lo v : Nat) : Word :=
  let m := w32 ((2 ^ (hi + 1 - lo) - 1) * 2 ^ lo)
  (w &&& ~~~m) ||| (w32 (v * 2 ^ lo) &&& m)

/-- The `n` bytes of `v`, little-endian. -/
def leBytes : Nat → Nat → List Byte
  | 0, _ => []
  | n + 1, v => BitVec.ofNat 8 v :: leBytes n (v / 256)

/-- The number a little-endian byte string spells. -/
def fromLe : List Byte → Nat
  | [] => 0
  | b :: t => b.toNat + 256 * fromLe t

/-- The number a big-endian byte string spells (wire formats). -/
def fromBe (l : List Byte) : Nat := fromLe l.reverse

/-- `n` bytes of `v`, big-endian. -/
def beBytes (n v : Nat) : List Byte := (leBytes n v).reverse

/-- The `n` bytes of `l` from offset `o`, zero where `l` ends. -/
def slice (l : List Byte) (o n : Nat) : List Byte :=
  (List.range n).map (fun i => l.getD (o + i) 0)

/-- The little-endian field of `n` bytes at offset `o`. -/
def leAt (l : List Byte) (o n : Nat) : Nat := fromLe (slice l o n)

/-- `x + 1` up to the ceiling `m` (saturating counters). -/
def satSucc (m x : Nat) : Nat := if x < m then x + 1 else m

/-! ### Block codes (R8) and fault kinds (R413) -/

namespace Blk
def SYS : Nat := 0x00
def CLK : Nat := 0x01
def SKM : Nat := 0x02
def RIS : Nat := 0x03
def HPT : Nat := 0x04
def TUN : Nat := 0x05
def CTX : Nat := 0x06
def SYM : Nat := 0x07
def CRU : Nat := 0x08
def RNG : Nat := 0x09
def KST : Nat := 0x0A
def FLC : Nat := 0x0B
def TAG : Nat := 0x0C
def CRD : Nat := 0x0D
def FLK : Nat := 0x0E
def GAT : Nat := 0x0F
def DBG : Nat := 0x10
def MLK : Nat := 0x11
def KEN : Nat := 0x12
end Blk

namespace Kind
def ACCESS_VIOLATION : Nat := 0x01
def HOST_WINDOW : Nat := 0x02
def DEBUG_DENIED : Nat := 0x03
def DOORBELL_VALUE : Nat := 0x04
def RING_FAULT : Nat := 0x05
def HOST_RESET : Nat := 0x06
def LOCKSTEP_MISMATCH : Nat := 0x08
def CORE_DOUBLE_FAULT : Nat := 0x09
def MPU_OVERLAP : Nat := 0x0A
def ECC_CORRECTED : Nat := 0x10
def ECC_UNCORRECTED : Nat := 0x11
def FLASH_WEAR : Nat := 0x12
def FLASH_TORN : Nat := 0x13
def VAULT_STALL : Nat := 0x14
def KEY_IMAGE : Nat := 0x15
def RNG_HEALTH : Nat := 0x18
def LANE_SELFTEST : Nat := 0x19
def CRU_SELFTEST : Nat := 0x1A
def CLOCK_LOSS : Nat := 0x20
def LEAVE_IMPOSSIBLE : Nat := 0x21
def TAMPER : Nat := 0x22
def REPAIR_EXHAUSTED : Nat := 0x28
def SPARE_IN : Nat := 0x29
def WEAR_TREND : Nat := 0x2A
def BIST_FAIL : Nat := 0x2B
def REPAIR_MAP : Nat := 0x2C
def CARD_JOURNAL : Nat := 0x30
def CEREMONY : Nat := 0x31
def LOG_LOSS : Nat := 0x38
end Kind

/-- The severity of a kind (R413; TAMPER's 3 is given by its sender). -/
def kindSev (k : Nat) : Nat :=
  if k = 0x20 then 3
  else if k ∈ [0x03, 0x08, 0x09, 0x11, 0x14, 0x15, 0x18, 0x19, 0x1A, 0x22, 0x28] then 2
  else if k ∈ [0x01, 0x02, 0x05, 0x0A, 0x12, 0x13, 0x21, 0x2B, 0x2C, 0x30, 0x38] then 1
  else 0

/-- Instances of a block (R8). -/
def blkInsts (b : Nat) : Nat :=
  if b = Blk.HPT then 4 else if b = Blk.SYM then 9 else if b = Blk.CRU then 3 else if b ≤ 0x11 then 1 else 0

/-- Stride between instances (R34). -/
def blkStride (b : Nat) : Nat := if b = Blk.HPT then 0x40000 else 0x10000

/-- 4 KiB pages of one instance (R34). -/
def blkPages (b : Nat) : Nat :=
  if b = Blk.HPT ∨ b = Blk.CTX then 16 else if b = Blk.TUN then 64
  else if b = Blk.RNG ∨ b = Blk.FLC then 8 else if b = Blk.MLK then 2 else 4

/-- Core address of page 0 of an instance. -/
def blkBase (b i : Nat) : Nat := 0x20000000 + b * 0x100000 + i * (if blkInsts b ≤ 1 then 0 else blkStride b)

/-! ### The core address map (R33) -/

/-- What a core address names. -/
inductive Area where
  | rom
  | flash (bank : Nat)
  | tagBank
  | otp
  | sram
  | reg (blk inst page off : Nat)
  | host (d off : Nat)
  | none
  deriving DecidableEq, Repr

/-- The register a region address names, if it lies in a page of an instance (R11, R34). -/
def regArea (a : Nat) : Area :=
  let o := a - 0x20000000
  let b := o / 0x100000
  let r := o % 0x100000
  let st := if blkInsts b ≤ 1 then 0x100000 else blkStride b
  let i := r / st
  let q := r % st
  if i < blkInsts b ∧ q < blkPages b * 0x1000 then .reg b i (q / 0x1000) (q % 0x1000) else .none

/-- The core map of R33. -/
def area (a : Nat) : Area :=
  if a < 0x20000 then .rom
  else if 0x08000000 ≤ a ∧ a < 0x0A000000 then .flash ((a - 0x08000000) / 0x800000)
  else if 0x0C000000 ≤ a ∧ a < 0x0C010000 then .tagBank
  else if 0x0C800000 ≤ a ∧ a < 0x0C802000 then .otp
  else if 0x10000000 ≤ a ∧ a < 0x10800000 then .sram
  else if 0x20000000 ≤ a ∧ a < 0x21200000 then regArea a
  else if 0x40000000 ≤ a ∧ a < 0x80000000 then
    .host ((a - 0x40000000) / 0x10000000) ((a - 0x40000000) % 0x10000000)
  else .none

/-- What a byte that nothing has written reads as: erased flash, tag bank and OTP read 0xFF (R260, R323), the boot ROM
and system SRAM 0. DESIGN CHOICE, log entry 2. -/
def memDefault (a : Nat) : Byte :=
  if 0x08000000 ≤ a ∧ a < 0x0D000000 then 0xFF else 0

/-- The canonical form of memory (strictly rising addresses, no entry equal to what an unlisted address reads as). -/
def memWf (m : Tbl Byte) : Bool := Tbl.wf memDefault m

namespace State

/-! ### Memory -/

/-- The byte at core address `a`. -/
def byte (s : State) (a : Nat) : Byte := Tbl.get memDefault s.mem a

/-- Writes one byte. -/
def setByte (s : State) (a : Nat) (v : Byte) : State := { s with mem := Tbl.set memDefault s.mem a v }

/-- The `n` bytes from `a`. -/
def bytes (s : State) (a : Nat) : Nat → List Byte
  | 0 => []
  | n + 1 => s.byte a :: s.bytes (a + 1) n

/-- Writes bytes from `a` upwards. -/
def setBytes (s : State) (a : Nat) : List Byte → State
  | [] => s
  | b :: t => (s.setByte a b).setBytes (a + 1) t

/-- Fills `n` bytes from `a`. -/
def fill (s : State) (a n : Nat) (v : Byte) : State := s.setBytes a (List.replicate n v)

/-- Gives every byte from `lo` to `hi - 1` its default value (an erase, or a loss of power). -/
def forget (s : State) (lo hi : Nat) : State :=
  { s with mem := Tbl.clear (fun a => decide (lo ≤ a) && decide (a < hi)) s.mem }

/-! ### The register file -/

/-- The stored word of a block-specific register. -/
def reg (s : State) (a : Nat) : Word := Tbl.get regReset s.regs a

/-- Stores a register word. -/
def setReg (s : State) (a : Nat) (v : Word) : State := { s with regs := Tbl.set regReset s.regs a v }

/-- Field [hi:lo] of a register. -/
def fld (s : State) (a hi lo : Nat) : Nat := bits (s.reg a) hi lo

/-- Sets field [hi:lo] of a register. -/
def setFld (s : State) (a hi lo v : Nat) : State := s.setReg a (putField (s.reg a) hi lo v)

/-- Counts one in field [hi:lo], saturating at its ceiling. -/
def count (s : State) (a hi lo : Nat) : State :=
  s.setFld a hi lo (satSucc (2 ^ (hi + 1 - lo) - 1) (s.fld a hi lo))

/-- Counts one in field [hi:lo], wrapping. -/
def countWrap (s : State) (a hi lo : Nat) : State := s.setFld a hi lo ((s.fld a hi lo + 1) % 2 ^ (hi + 1 - lo))

/-! ### Common headers -/

/-- The header of block `b`, instance `i`. -/
def hdr (s : State) (b i : Nat) : Hdr := Tbl.get (fun _ => {}) s.hdrs (b * 32 + i)

/-- Replaces a header. -/
def setHdr (s : State) (b i : Nat) (h : Hdr) : State :=
  { s with hdrs := Tbl.set (fun _ => {}) s.hdrs (b * 32 + i) h }

/-- Sets event bit `n` of a block instance (R18: hardware sets a W1C bit). -/
def event (s : State) (b i n : Nat) : State :=
  let h := s.hdr b i
  s.setHdr b i { h with evt := putBit h.evt n true }

/-- Fences sub-unit `n`: its BLK_FENCE bit, and the FENCE event when the bit rises (R14). -/
def setFence (s : State) (b i n : Nat) : State :=
  let h := s.hdr b i
  if bit h.fence n then s
  else s.setHdr b i { h with fence := putBit h.fence n true, evt := putBit h.evt 1 true }

/-- Is any sub-unit of the instance fenced? -/
def isFenced (s : State) (b i n : Nat) : Bool := bit (s.hdr b i).fence n

/-! ### Fault messages (R15, R20, R411) -/

/-- Sends a message: the detecting instance keeps it in BLK_FAULT and BLK_FAULTH and sets its FAULT event; the Skimmer
takes it later (FAULT_MESSAGE_TAKEN). -/
def send (s : State) (m : Msg) (db di : Nat) : State :=
  let h := s.hdr db di
  let s := s.setHdr db di { h with
    faultLo := w32 m.addr
    faultHi := w32 (m.blk * 0x8000000 + m.inst * 0x400000 + m.kind * 0x10000 + m.sev * 0x4000 +
      m.addr / 0x100000000 % 256)
    evt := putBit h.evt 0 true }
  { s with inbox := s.inbox ++ [m] }

/-- A message named by its own block (R15, last case), of the kind's own severity. -/
def fault (s : State) (b i kind addr : Nat) : State :=
  s.send ⟨b, i, kind, kindSev kind, addr % 2 ^ 40, 4⟩ b i

/-- A message of one block detected by another, raised for host domain `dom` (4 for none). -/
def faultBy (s : State) (b i kind addr dom db di : Nat) : State :=
  s.send ⟨b, i, kind, kindSev kind, addr % 2 ^ 40, dom⟩ db di

/-! ### Free values -/

/-- Takes a fresh free value: the continuation gets the value and the state with the counter advanced. -/
def withFree (s : State) (k : Nat → State → State) : State :=
  k (Config.free s.fresh) { s with fresh := s.fresh + 1 }

end State

/-- A list entry replaced at a position (unchanged beyond the end). -/
def setAt {α : Type} (l : List α) (n : Nat) (v : α) : List α := l.set n v

end Sys2Proof.Machine
end

