-- ==== Sys2Proof/Machine/Aes.lean ====
section
/-! DEFINITION. The AES block (06, Algorithms: FIPS 197), with keys of 16, 24 or 32 bytes. The tables are those of the
standard the spec names: PRESUMED, log entry 34. -/

namespace Sys2Proof.Machine

/-- 256 byte values packed 32 to a number, least significant first: entry `b`. -/
def packed (t : List Nat) (b : Nat) : Nat := (t.getD (b / 32) 0 >>> (8 * (b % 32))) % 256

/-- The S-box, packed. -/
def sboxRows : List Nat :=
  [0xc072a49cafa2d4adf04759fa7dc982ca76abd7fe2b670130c56f6bf27b777c63,
   0x75b227ebe28012079a059618c323c7041531d871f1e5a534ccf73f362693fdb7,
   0xcf584c4a39becb6a5bb1fc20ed00d153842fe329b3d63b52a05a6e1b1a2c8309,
   0xd2f3ff1021dab6bcf5389d928f40a351a89f3c507f02f94585334d43fbaaefd0,
   0xdb0b5ede14b8ee4688902a22dc4f816073195d643d7ea7c41744975fec130ccd,
   0x08ae7a65eaf4566ca94ed58d6d37c8e779e4959162acd3c25c2406490a3a32e0,
   0x9e1dc186b95735610ef6034866b53e708a8bbd4b1f74dde8c6b4a61c2e2578ba,
   0x16bb54b00f2d99416842e6bf0d89a18cdf2855cee9871e9b948ed9691198f8e1]

/-- The inverse S-box, packed. -/
def invSboxRows : List Nat :=
  [0xcbe9dec444438e3487ff2f9b8239e37cfbd7f3819ea340bf38a53630d56a0952,
   0x25d18b6d49a25b76b224d92866a12e084ec3fa420b954cee3d23c2a632947b54,
   0x849d8da75746155edab9edfd5048706c92b6655dcc5ca4d41698688664f6f872,
   0x6b8a130103bdafc1020f3fca8f1e2cd00645b3b80558e4f70ad3bc8c00abd890,
   0x6edf751ce837f9e28535ade72274ac9673e6b4f0cecff297eadc674f4111913a,
   0xf45acd78fec0db9a2079d2c64b3e56fc1bbe18aa0e62b76f89c5291d711af147,
   0xef9cc9939f7ae52d0d4ab519a97f51605fec8027591012b131c7078833a8dd1f,
   0x7d0c2155631469e126d677ba7e042b17619953833cbbebc8b0f52aae4d3be0a0]

/-- SubBytes of one byte. -/
def subByte (b : Nat) : Nat := packed sboxRows b

/-- Multiplication by x in GF(2^8). -/
def xtime (a : Nat) : Nat := (a * 2) % 256 ^^^ (if a ≥ 128 then 0x1B else 0)

/-- One MixColumns column; the state is 16 bytes, column by column. -/
def mixCol (a b c d : Nat) : List Nat :=
  let t := a ^^^ b ^^^ c ^^^ d
  [a ^^^ t ^^^ xtime (a ^^^ b), b ^^^ t ^^^ xtime (b ^^^ c), c ^^^ t ^^^ xtime (c ^^^ d), d ^^^ t ^^^ xtime (d ^^^ a)]

/-- MixColumns over the columns. -/
def mixCols : List Nat → List Nat
  | a :: b :: c :: d :: r => mixCol a b c d ++ mixCols r
  | _ => []

/-- InvMixColumns is MixColumns after this step on each column. -/
def unmixPre : List Nat → List Nat
  | a :: b :: c :: d :: r =>
    let u := xtime (xtime (a ^^^ c))
    let v := xtime (xtime (b ^^^ d))
    (a ^^^ u) :: (b ^^^ v) :: (c ^^^ u) :: (d ^^^ v) :: unmixPre r
  | _ => []

/-- ShiftRows. -/
def shiftRows (s : List Nat) : List Nat := [0, 5, 10, 15, 4, 9, 14, 3, 8, 13, 2, 7, 12, 1, 6, 11].map (s.getD · 0)

/-- InvShiftRows. -/
def unshiftRows (s : List Nat) : List Nat := [0, 13, 10, 7, 4, 1, 14, 11, 8, 5, 2, 15, 12, 9, 6, 3].map (s.getD · 0)

/-- One word of the key schedule: the word before it, its number `i`, words `nk` in the key, the round constant. -/
def keyWord (nk i rc : Nat) (old prev : List Nat) : List Nat :=
  let t := if i % nk = 0 then
      match (prev.drop 1 ++ prev.take 1).map subByte with
      | h :: r => (h ^^^ rc) :: r
      | [] => []
    else if nk = 8 ∧ i % 8 = 4 then prev.map subByte else prev
  List.zipWith (· ^^^ ·) old t

/-- The key schedule: `fuel` words from the last `nk` words (oldest first), number and round constant given. -/
def keyWords (nk : Nat) : Nat → Nat → Nat → List (List Nat) → List Nat
  | 0, _, _, _ => []
  | fuel + 1, i, rc, ws =>
    let w := keyWord nk i rc (ws.headD []) (ws.getLastD [])
    w ++ keyWords nk fuel (i + 1) (if i % nk = 0 then xtime rc else rc) (ws.drop 1 ++ [w])

/-- A list cut into words of four. -/
def fours : List Nat → List (List Nat)
  | a :: b :: c :: d :: r => [a, b, c, d] :: fours r
  | _ => []

/-- The list cut into round keys of sixteen bytes; `fuel` bounds their number. -/
def roundKeys : Nat → List Nat → List (List Nat)
  | 0, _ => []
  | n + 1, l => l.take 16 :: roundKeys n (l.drop 16)

/-- The expanded key: one round key more than there are rounds (10, 12 or 14). A key of another length is padded with
zeros to the next one. -/
def aesKey (k : List Byte) : List (List Nat) :=
  let nk := if k.length ≤ 16 then 4 else if k.length ≤ 24 then 6 else 8
  let b := (k.map BitVec.toNat ++ List.replicate 32 0).take (4 * nk)
  roundKeys (nk + 7) (b ++ keyWords nk (4 * (nk + 7) - nk) nk 1 (fours b))

/-- AddRoundKey. -/
def addKey (k s : List Nat) : List Nat := List.zipWith (· ^^^ ·) s k

/-- The rounds after the first AddRoundKey. -/
def aesRounds : List (List Nat) → List Nat → List Nat
  | [], s => s
  | [k], s => addKey k (shiftRows (s.map subByte))
  | k :: ks, s => aesRounds ks (addKey k (mixCols (shiftRows (s.map subByte))))

/-- The inverse rounds, with the round keys last first. -/
def aesUnrounds : List (List Nat) → List Nat → List Nat
  | [], s => s
  | [k], s => addKey k ((unshiftRows s).map (packed invSboxRows))
  | k :: ks, s => aesUnrounds ks (mixCols (unmixPre (addKey k ((unshiftRows s).map (packed invSboxRows)))))

/-- The sixteen bytes of a block; a short block is padded with zeros. -/
def aesIn (b : List Byte) : List Nat := ((b.map BitVec.toNat) ++ List.replicate 16 0).take 16

/-- AES encryption of one block. -/
def aesEnc (k b : List Byte) : List Byte :=
  (match aesKey k with
   | [] => []
   | r :: rs => aesRounds rs (addKey r (aesIn b))).map (BitVec.ofNat 8)

/-- AES decryption of one block. -/
def aesDec (k b : List Byte) : List Byte :=
  (match (aesKey k).reverse with
   | [] => []
   | r :: rs => aesUnrounds rs (addKey r (aesIn b))).map (BitVec.ofNat 8)

end Sys2Proof.Machine
end

