-- ==== Sys2Proof/Machine/Sha.lean ====
section
/-! DEFINITION. SHA-256 and SHA-512 (07 R201, 12, 14, 18: FIPS 180-4). The constants are those of the standard the spec
names: PRESUMED, log entry 34. -/

namespace Sys2Proof.Machine

/-- The round constants of SHA-512; those of SHA-256 are the upper halves of the first 64. -/
def shaK : List Nat :=
  [0x428A2F98D728AE22, 0x7137449123EF65CD, 0xB5C0FBCFEC4D3B2F, 0xE9B5DBA58189DBBC,
   0x3956C25BF348B538, 0x59F111F1B605D019, 0x923F82A4AF194F9B, 0xAB1C5ED5DA6D8118,
   0xD807AA98A3030242, 0x12835B0145706FBE, 0x243185BE4EE4B28C, 0x550C7DC3D5FFB4E2,
   0x72BE5D74F27B896F, 0x80DEB1FE3B1696B1, 0x9BDC06A725C71235, 0xC19BF174CF692694] ++
  [0xE49B69C19EF14AD2, 0xEFBE4786384F25E3, 0x0FC19DC68B8CD5B5, 0x240CA1CC77AC9C65,
   0x2DE92C6F592B0275, 0x4A7484AA6EA6E483, 0x5CB0A9DCBD41FBD4, 0x76F988DA831153B5,
   0x983E5152EE66DFAB, 0xA831C66D2DB43210, 0xB00327C898FB213F, 0xBF597FC7BEEF0EE4,
   0xC6E00BF33DA88FC2, 0xD5A79147930AA725, 0x06CA6351E003826F, 0x142929670A0E6E70] ++
  [0x27B70A8546D22FFC, 0x2E1B21385C26C926, 0x4D2C6DFC5AC42AED, 0x53380D139D95B3DF,
   0x650A73548BAF63DE, 0x766A0ABB3C77B2A8, 0x81C2C92E47EDAEE6, 0x92722C851482353B,
   0xA2BFE8A14CF10364, 0xA81A664BBC423001, 0xC24B8B70D0F89791, 0xC76C51A30654BE30,
   0xD192E819D6EF5218, 0xD69906245565A910, 0xF40E35855771202A, 0x106AA07032BBD1B8] ++
  [0x19A4C116B8D2D0C8, 0x1E376C085141AB53, 0x2748774CDF8EEB99, 0x34B0BCB5E19B48A8,
   0x391C0CB3C5C95A63, 0x4ED8AA4AE3418ACB, 0x5B9CCA4F7763E373, 0x682E6FF3D6B2B8A3,
   0x748F82EE5DEFB2FC, 0x78A5636F43172F60, 0x84C87814A1F0AB72, 0x8CC702081A6439EC,
   0x90BEFFFA23631E28, 0xA4506CEBDE82BDE9, 0xBEF9A3F7B2C67915, 0xC67178F2E372532B] ++
  [0xCA273ECEEA26619C, 0xD186B8C721C0C207, 0xEADA7DD6CDE0EB1E, 0xF57D4F7FEE6ED178,
   0x06F067AA72176FBA, 0x0A637DC5A2C898A6, 0x113F9804BEF90DAE, 0x1B710B35131C471B,
   0x28DB77F523047D84, 0x32CAAB7B40C72493, 0x3C9EBE0A15C9BEBC, 0x431D67C49C100D4C,
   0x4CC5D4BECB3E42B6, 0x597F299CFC657E2A, 0x5FCB6FAB3AD6FAEC, 0x6C44198C4A475817]

/-- The initial hash of SHA-512; that of SHA-256 is the upper halves. -/
def shaH : List Nat :=
  [0x6A09E667F3BCC908, 0xBB67AE8584CAA73B, 0x3C6EF372FE94F82B, 0xA54FF53A5F1D36F1,
   0x510E527FADE682D1, 0x9B05688C2B3E6C1F, 0x1F83D9ABFB41BD6B, 0x5BE0CD19137E2179]

/-- Rotation of a `w`-bit number to the right. -/
def rotr (w n x : Nat) : Nat := x >>> n ||| (x <<< (w - n)) % 2 ^ w

/-- One SHA-2 function: its word width, round constants, the amounts of its four sigma functions and its initial hash. -/
structure Sha where
  w : Nat
  k : List Nat
  h : List Nat
  big0 : Nat × Nat × Nat
  big1 : Nat × Nat × Nat
  small0 : Nat × Nat × Nat
  small1 : Nat × Nat × Nat

/-- SHA-256. -/
def sha256P : Sha :=
  { w := 32, k := (shaK.take 64).map (· >>> 32), h := shaH.map (· >>> 32), big0 := (2, 13, 22), big1 := (6, 11, 25),
    small0 := (7, 18, 3), small1 := (17, 19, 10) }

/-- SHA-512. -/
def sha512P : Sha :=
  { w := 64, k := shaK, h := shaH, big0 := (28, 34, 39), big1 := (14, 18, 41), small0 := (1, 8, 7),
    small1 := (19, 61, 6) }

/-- Three rotations joined by exclusive-or. -/
def rot3 (w : Nat) (r : Nat × Nat × Nat) (x : Nat) : Nat := rotr w r.1 x ^^^ rotr w r.2.1 x ^^^ rotr w r.2.2 x

/-- Two rotations and a shift joined by exclusive-or. -/
def rot2 (w : Nat) (r : Nat × Nat × Nat) (x : Nat) : Nat := rotr w r.1 x ^^^ rotr w r.2.1 x ^^^ x >>> r.2.2

/-- The eight working variables. -/
structure ShaV where
  a : Nat
  b : Nat
  c : Nat
  d : Nat
  e : Nat
  f : Nat
  g : Nat
  h : Nat

/-- One round with constant `k` and message word `x`. -/
def shaRound (p : Sha) (v : ShaV) (k x : Nat) : ShaV :=
  let m := 2 ^ p.w
  let t1 := v.h + rot3 p.w p.big1 v.e + ((v.e &&& v.f) ^^^ ((m - 1 - v.e) &&& v.g)) + k + x
  let t2 := rot3 p.w p.big0 v.a + ((v.a &&& v.b) ^^^ (v.a &&& v.c) ^^^ (v.b &&& v.c))
  { a := (t1 + t2) % m, b := v.a, c := v.b, d := v.c, e := (v.d + t1) % m, f := v.e, g := v.f, h := v.g }

/-- The rounds: the round constants still to come and the window of sixteen message words, oldest first. -/
def shaRounds (p : Sha) : List Nat → List Nat → ShaV → ShaV
  | [], _, v => v
  | k :: ks, ws, v =>
    let x := ws.headD 0
    let y := (rot2 p.w p.small1 (ws.getD 14 0) + ws.getD 9 0 + rot2 p.w p.small0 (ws.getD 1 0) + x) % 2 ^ p.w
    shaRounds p ks (ws.drop 1 ++ [y]) (shaRound p v k x)

/-- The big-endian words of a block. -/
def shaWords (p : Sha) (b : List Byte) : List Nat :=
  (List.range 16).map (fun i => fromBe (slice b (i * (p.w / 8)) (p.w / 8)))

/-- One block added to the running hash. -/
def shaBlock (p : Sha) (h : List Nat) (b : List Byte) : List Nat :=
  let g := fun i => h.getD i 0
  let v := shaRounds p p.k (shaWords p b)
    { a := g 0, b := g 1, c := g 2, d := g 3, e := g 4, f := g 5, g := g 6, h := g 7 }
  List.zipWith (fun x y => (x + y) % 2 ^ p.w) h [v.a, v.b, v.c, v.d, v.e, v.f, v.g, v.h]

/-- `n` blocks of the padded message. -/
def shaBlocks (p : Sha) : Nat → List Nat → List Byte → List Nat
  | 0, h, _ => h
  | n + 1, h, m => shaBlocks p n (shaBlock p h (m.take (2 * p.w))) (m.drop (2 * p.w))

/-- The message padded to whole blocks of `2 w` bytes. -/
def shaPad (p : Sha) (m : List Byte) : List Byte :=
  let b := 2 * p.w
  let l := p.w / 4
  m ++ [0x80] ++ List.replicate ((2 * b - 1 - l - m.length % b) % b) 0 ++ beBytes l (8 * m.length)

/-- The whole hash. -/
def sha (p : Sha) (m : List Byte) : List Byte :=
  let q := shaPad p m
  (shaBlocks p (q.length / (2 * p.w)) p.h q).flatMap (beBytes (p.w / 8))

/-- SHA-256. -/
def sha256 (m : List Byte) : List Byte := sha sha256P m

/-- SHA-512. -/
def sha512 (m : List Byte) : List Byte := sha sha512P m

end Sys2Proof.Machine
end

