-- ==== Sys2Proof/Machine/Crypto.lean ====
section
/-! DEFINITION. The modes of operation the spec names, over the AES block: CTR, CBC, CMAC, GCM, CCM
(06, Modes), KW and KWP (R185), XTS (R186), the KDF of R240, and raw RSA. -/

namespace Sys2Proof.Machine

/-- Byte-wise exclusive-or, as long as the shorter. -/
def xorB (a b : List Byte) : List Byte := List.zipWith (· ^^^ ·) a b

/-- `n` zero bytes. -/
def zeros (n : Nat) : List Byte := List.replicate n 0

/-- `l` cut into blocks of `n` bytes, the last perhaps short. -/
def blocksOf (n : Nat) (l : List Byte) : List (List Byte) :=
  (List.range ((l.length + n - 1) / n)).map (fun i => (l.drop (i * n)).take n)

/-- `l` padded with zeros to whole 16-byte blocks. -/
def pad16 (l : List Byte) : List Byte := l ++ zeros ((16 - l.length % 16) % 16)

/-! ### CTR -/

/-- The counter block `i` blocks after `c`: its last `q` bytes are a big-endian counter (R184: 4 bytes). -/
def ctrAt (q : Nat) (c : List Byte) (i : Nat) : List Byte :=
  c.take (16 - q) ++ beBytes q ((fromBe (c.drop (16 - q)) + i) % 256 ^ q)

/-- CTR encryption or decryption of `data` from counter block `c`. -/
def ctrX (k : List Byte) (q : Nat) (c data : List Byte) : List Byte :=
  ((blocksOf 16 data).zipIdx.map (fun x => xorB x.1 (aesEnc k (ctrAt q c x.2)))).flatten

/-! ### CBC -/

/-- CBC encryption of whole blocks; also the chaining value at the end. -/
def cbcEnc (k iv : List Byte) (data : List Byte) : List Byte × List Byte :=
  (blocksOf 16 data).foldl (fun s b => let c := aesEnc k (xorB s.2 b); (s.1 ++ c, c)) ([], iv)

/-- CBC decryption of whole blocks; also the chaining value at the end. -/
def cbcDec (k iv : List Byte) (data : List Byte) : List Byte × List Byte :=
  (blocksOf 16 data).foldl (fun s b => (s.1 ++ xorB s.2 (aesDec k b), b)) ([], iv)

/-! ### CMAC -/

/-- Doubling in GF(2^128), big-endian bits (SP 800-38B). -/
def dbl (l : List Byte) : List Byte :=
  let v := fromBe l
  beBytes 16 ((v * 2) % 2 ^ 128 ^^^ (if v ≥ 2 ^ 127 then 0x87 else 0))

/-- The CMAC running value after whole blocks, none of them the last. -/
def cmacRun (k chain data : List Byte) : List Byte :=
  (blocksOf 16 data).foldl (fun c b => aesEnc k (xorB c b)) chain

/-- The CMAC of a message whose earlier blocks gave `chain` and whose rest is `last`, of 0 to 16 bytes. -/
def cmacEnd (k chain last : List Byte) : List Byte :=
  let k1 := dbl (aesEnc k (zeros 16))
  if last.length = 16 then aesEnc k (xorB chain (xorB k1 last))
  else aesEnc k (xorB chain (xorB (dbl k1) (last ++ [0x80] ++ zeros (15 - last.length))))

/-- CMAC of a message from running value `chain`. -/
def cmacFrom (k chain m : List Byte) : List Byte :=
  let n := (m.length - 1) / 16 * 16
  cmacEnd k (cmacRun k chain (m.take n)) (m.drop n)

/-- CMAC of a whole message. -/
def cmac (k m : List Byte) : List Byte := cmacFrom k (zeros 16) m

/-! ### GCM -/

/-- Multiplication in GF(2^128) of SP 800-38D. -/
def gmul (x y : BitVec 128) : BitVec 128 :=
  ((List.range 128).foldl (fun (zv : BitVec 128 × BitVec 128) i =>
    let z := if x.getMsbD i then zv.1 ^^^ zv.2 else zv.1
    let v := if zv.2.getLsbD 0 then (zv.2 >>> 1) ^^^ (0xE1#128 <<< 120) else zv.2 >>> 1
    (z, v)) (0, y)).1

/-- GHASH from accumulator `acc` over data padded to whole blocks. -/
def ghash (h acc data : List Byte) : List Byte :=
  (blocksOf 16 (pad16 data)).foldl (fun a b =>
    beBytes 16 (gmul (BitVec.ofNat 128 (fromBe (xorB a b))) (BitVec.ofNat 128 (fromBe h))).toNat) acc

/-- The GHASH length block: associated data and payload bytes. -/
def lenBlock (a c : Nat) : List Byte := beBytes 8 (a * 8) ++ beBytes 8 (c * 8)

/-- J0 of a 96-bit nonce. -/
def gcmJ0 (nonce : List Byte) : List Byte := nonce.take 12 ++ [0, 0, 0, 1]

/-- The full 16-byte GCM tag over associated data and ciphertext. -/
def gcmTag (k j0 aad ct : List Byte) : List Byte :=
  let h := aesEnc k (zeros 16)
  xorB (aesEnc k j0) (ghash h (ghash h (ghash h (zeros 16) aad) ct) (lenBlock aad.length ct.length))

/-- GCM payload transform: counter blocks after J0. -/
def gcmX (k j0 data : List Byte) : List Byte := ctrX k 4 (ctrAt 4 j0 1) data

/-! ### CCM -/

/-- The encoded associated data of SP 800-38C. -/
def ccmAad (aad : List Byte) : List Byte :=
  if aad.isEmpty then []
  else if aad.length < 0xFF00 then pad16 (beBytes 2 aad.length ++ aad)
  else pad16 ([0xFF, 0xFE] ++ beBytes 4 aad.length ++ aad)

/-- The CCM tag of `t` bytes over associated data and plaintext. -/
def ccmTag (k nonce aad pt : List Byte) (t : Nat) : List Byte :=
  let q := 15 - nonce.length
  let b0 := BitVec.ofNat 8 ((if aad.isEmpty then 0 else 64) + (t - 2) / 2 * 8 + (q - 1)) :: nonce ++ beBytes q pt.length
  let mac := cmacRun k (zeros 16) (b0 ++ ccmAad aad ++ pad16 pt)
  let s0 := aesEnc k (BitVec.ofNat 8 (q - 1) :: nonce ++ zeros q)
  (xorB mac s0).take t

/-- CCM payload transform. -/
def ccmX (k nonce data : List Byte) : List Byte :=
  let q := 15 - nonce.length
  ctrX k q (BitVec.ofNat 8 (q - 1) :: nonce ++ beBytes q 1) data

/-! ### Key wrap (SP 800-38F) -/

/-- The wrapping function W over semiblocks A, R1..Rn: 6 rounds of n steps. -/
def kwW (k : List Byte) (a : List Byte) (r : List (List Byte)) : List Byte :=
  let n := r.length
  let (a, r) := (List.range (6 * n)).foldl (fun (s : List Byte × List (List Byte)) i =>
    let b := aesEnc k (s.1 ++ s.2.getD (i % n) [])
    (xorB (b.take 8) (beBytes 8 (i + 1)), s.2.set (i % n) (b.drop 8))) (a, r)
  a ++ r.flatten

/-- The unwrapping function W⁻¹: the recovered A and the semiblocks joined. -/
def kwU (k : List Byte) (c : List Byte) : List Byte × List Byte :=
  let r := blocksOf 8 (c.drop 8)
  let n := r.length
  let (a, r) := (List.range (6 * n)).foldl (fun (s : List Byte × List (List Byte)) j =>
    let i := 6 * n - 1 - j
    let b := aesDec k (xorB s.1 (beBytes 8 (i + 1)) ++ s.2.getD (i % n) [])
    (b.take 8, s.2.set (i % n) (b.drop 8))) (c.take 8, r)
  (a, r.flatten)

/-- KW wrap of whole semiblocks with the default ICV. -/
def kwWrap (k p : List Byte) : List Byte := kwW k (List.replicate 8 0xA6) (blocksOf 8 p)

/-- KW unwrap; none where the integrity check fails. -/
def kwUnwrap (k c : List Byte) : Option (List Byte) :=
  let u := kwU k c
  if u.1 = List.replicate 8 0xA6 then some u.2 else none

/-- KWP wrap: padded to semiblocks, the length in the ICV. -/
def kwpWrap (k p : List Byte) : List Byte :=
  let q := p ++ zeros ((8 - p.length % 8) % 8)
  let a := [0xA6, 0x59, 0x59, 0xA6] ++ beBytes 4 p.length
  if q.length = 8 then aesEnc k (a ++ q) else kwW k a (blocksOf 8 q)

/-- KWP unwrap; none where the integrity check fails. -/
def kwpUnwrap (k c : List Byte) : Option (List Byte) :=
  let u := if c.length = 16 then (let b := aesDec k c; (b.take 8, b.drop 8)) else kwU k c
  let n := fromBe (u.1.drop 4)
  if u.1.take 4 = [0xA6, 0x59, 0x59, 0xA6] ∧ n ≤ u.2.length ∧ u.2.length < n + 8 ∧
      u.2.drop n = zeros (u.2.length - n) then some (u.2.take n) else none

/-! ### XTS -/

/-- Multiplication by alpha, little-endian (SP 800-38E). -/
def xtsNext (t : List Byte) : List Byte :=
  let v := fromLe t
  leBytes 16 ((v * 2) % 2 ^ 128 ^^^ (if v ≥ 2 ^ 127 then 0x87 else 0))

/-- One data unit under the key pair with tweak value `tw`. -/
def xtsUnit (enc : Bool) (key : List Byte) (tw : Nat) (data : List Byte) : List Byte :=
  let k1 := key.take (key.length / 2)
  let k2 := key.drop (key.length / 2)
  ((blocksOf 16 data).foldl (fun (s : List Byte × List Byte) b =>
    let x := xorB b s.2
    let y := xorB (if enc then aesEnc k1 x else aesDec k1 x) s.2
    (s.1 ++ y, xtsNext s.2)) ([], aesEnc k2 (leBytes 16 tw))).1

/-- Consecutive data units of `2^du` bytes (R186). -/
def xtsAll (enc : Bool) (key : List Byte) (tw du : Nat) (data : List Byte) : List Byte :=
  ((blocksOf (2 ^ du) data).zipIdx.map (fun x => xtsUnit enc key (tw + x.2) x.1)).flatten

/-! ### The KDF (R240) -/

/-- The bytes of an ASCII label. -/
def ascii (s : String) : List Byte := s.toList.map (fun c => BitVec.ofNat 8 c.toNat)

/-- The KDF over already joined `Label ‖ 0x00 ‖ Context`, `n` output bytes. A SECRET of a length other than 256 bits is
reduced first, with a key of zeros (R240). -/
def kdfRaw (key mid : List Byte) (n : Nat) : List Byte :=
  ((List.range ((n + 15) / 16)).flatMap (fun i => cmac key (beBytes 4 (i + 1) ++ mid ++ beBytes 4 (8 * n)))).take n

/-- The KDF with a label and a context. -/
def kdf (key : List Byte) (label : String) (ctx : List Byte) (n : Nat) : List Byte :=
  kdfRaw key (ascii label ++ [0] ++ ctx) n

/-- The PRF key a SECRET gives (R240). -/
def secretKey (z : List Byte) : List Byte := if z.length = 32 then z else cmac (zeros 16) z

/-! ### Raw RSA -/

/-- `b ^ e mod n`, by the bits of `e`; `fuel` bounds their number. -/
def powMod (n : Nat) : Nat → Nat → Nat → Nat
  | 0, _, _ => 1 % n
  | fuel + 1, b, e =>
    let h := powMod n fuel (b * b % n) (e / 2)
    if e % 2 = 1 then b * h % n else h

/-- The private operation by the Chinese remainder of the slot's p, q, dp, dq and qinv. -/
def rsaCrt (p q dp dq qinv m : Nat) : Nat :=
  let a := powMod p 2048 (m % p) dp
  let b := powMod q 2048 (m % q) dq
  b + q * ((qinv * (a + p - b % p)) % p)

end Sys2Proof.Machine
end

