-- ==== Sys2Proof/Machine/Flags.lean ====
section
/-! DEFINITION. Kennu flag computations (R282, R284) and the CS fields (10, CS register). -/

namespace Sys2Proof.Machine

/-- The four flags of CS. -/
structure NZCV where
  n : Bool
  z : Bool
  c : Bool
  v : Bool
  deriving DecidableEq, Repr

/-- The flags a CS word holds. -/
def flagsOf (cs : Word) : NZCV := ⟨bit cs 31, bit cs 30, bit cs 29, bit cs 28⟩

/-- A CS word with its flags replaced. -/
def withFlags (cs : Word) (f : NZCV) : Word :=
  putBit (putBit (putBit (putBit cs 31 f.n) 30 f.z) 29 f.c) 28 f.v

/-- CS.PRC. -/
def csPrc (cs : Word) : Bool := bit cs 8
/-- CS.IE. -/
def csIe (cs : Word) : Bool := bit cs 7
/-- CS.GBANK: false is Cope, true Drag. -/
def csBank (cs : Word) : Bool := bit cs 6
/-- CS.PL. -/
def csPl (cs : Word) : Nat := bits cs 5 4
/-- CS.AEP. -/
def csAep (cs : Word) : Bool := bit cs 3

/-- Does a condition hold (R282)? -/
def condHolds (c : Cond) (f : NZCV) : Bool :=
  match c with
  | .ze => f.z
  | .nz => !f.z
  | .ul => f.c
  | .uge => !f.c
  | .ug => !f.c && !f.z
  | .ule => f.c || f.z
  | .sl => f.n != f.v
  | .sge => f.n == f.v
  | .sg => !f.z && (f.n == f.v)
  | .sle => f.z || (f.n != f.v)
  | .ng => f.n
  | .nn => !f.n
  | .ov => f.v
  | .nov => !f.v
  | .al => true

/-- Sum and flags of an addition with carry in (R284): C is the carry out of bit 31, V signed overflow. -/
def addFlags (a b : Word) (cin : Bool) : Word × NZCV :=
  let u := a.toNat + b.toNat + b2n cin
  let i := a.toInt + b.toInt + (b2n cin : Int)
  let r := w32 u
  (r, ⟨r.msb, r == 0, decide (u ≥ 2 ^ 32), decide (r.toInt ≠ i)⟩)

/-- Difference and flags of a subtraction with borrow in (R284): C is 1 when a borrow occurs. -/
def subFlags (a b : Word) (bin : Bool) : Word × NZCV :=
  let i := a.toInt - b.toInt - (b2n bin : Int)
  let r := a - b - w32 (b2n bin)
  (r, ⟨r.msb, r == 0, decide (a.toNat < b.toNat + b2n bin), decide (r.toInt ≠ i)⟩)

/-- N and Z of a result; C and V kept (R284: logical operations and MOV). -/
def logicFlags (f : NZCV) (r : Word) : NZCV := { f with n := r.msb, z := r == 0 }

/-- Flags of a shift (R284): C is the last bit out, unchanged for amount 0; V is unchanged. -/
def shiftFlags (f : NZCV) (r : Word) (amt : Nat) (out : Bool) : NZCV :=
  { f with n := r.msb, z := r == 0, c := if amt = 0 then f.c else out }

end Sys2Proof.Machine
end

