-- ==== Sys2Proof/Machine/Operands.lean ====
section
/-! DEFINITION. Kennu operand forms: general registers, immediates (R281) and access to a pair's state. -/

namespace Sys2Proof.Machine

namespace State

/-- Pair `p`. -/
def pair (s : State) (p : Nat) : KPair := Tbl.get (fun _ => {}) s.pairs p

/-- Replaces pair `p`. -/
def setPair (s : State) (p : Nat) (k : KPair) : State := { s with pairs := Tbl.set (fun _ => {}) s.pairs p k }

/-- Applies `f` to pair `p`. -/
def modPair (s : State) (p : Nat) (f : KPair → KPair) : State := s.setPair p (f (s.pair p))

end State

namespace KPair

/-- General register `r`. -/
def r (k : KPair) (r : GReg) : Word := Tbl.get (fun _ => 0) k.g r.val

/-- Writes general register `r`. -/
def setR (k : KPair) (r : GReg) (v : Word) : KPair := { k with g := Tbl.set (fun _ => 0) k.g r.val v }

/-- The flags of the pair. -/
def fl (k : KPair) : NZCV := flagsOf k.cs

/-- Replaces the flags. -/
def setFl (k : KPair) (f : NZCV) : KPair := { k with cs := withFlags k.cs f }

end KPair

/-- IMM14, sign-extended (R281). -/
def simm (i : BitVec 14) : Word := i.signExtend 32

/-- IMM14, zero-extended (R281: ANDI, ORI, XORI). -/
def uimm (i : BitVec 14) : Word := i.zeroExtend 32

/-- The target of a format-J branch at `pc` (R281). -/
def branchTarget (pc : Word) (off : BitVec 22) : Word := pc + (off.signExtend 32 <<< 2)

/-- The address of a load or store: RA plus the sign-extended immediate. -/
def eaddr (k : KPair) (ra : GReg) (imm : BitVec 14) : Nat := (k.r ra + simm imm).toNat

/-- The 16-bit address of a bit operand (R286). -/
def bitAddr (k : KPair) (b : BitOp) : Nat :=
  match b.rx with
  | none => b.baddr.toNat
  | some x => (b.baddr.toNat + (k.r x).toNat) % 0x10000

end Sys2Proof.Machine
end

