-- ==== Sys2Proof/Machine/Except.lean ====
section
/-! DEFINITION. Kennu exceptions: the Gate's two banks (R313-R318), descriptors (R299, R300), entry (R301), the shadow
frame (R309-R311) and the refusal of a core access (R20, vector 4). -/

namespace Sys2Proof.Machine

/-! ### The Gate -/

namespace State

/-- Base address of the registers of region `r` of bank `b` (GAT pages 1 and 2). -/
def gateReg (b : Bool) (r : Nat) : Nat := (if b then 0x20F02040 else 0x20F01040) + r * 0x10

/-- First byte of a region. -/
def gBase (s : State) (b : Bool) (r : Nat) : Nat := (s.reg (gateReg b r)).toNat
/-- Last byte of a region: LIMIT + 63 (R313). -/
def gLast (s : State) (b : Bool) (r : Nat) : Nat := (s.reg (gateReg b r + 4)).toNat + 63
/-- ATTR of a region. -/
def gAttr (s : State) (b : Bool) (r : Nat) : Word := s.reg (gateReg b r + 8)

/-- Some enabled region of bank `b` covers byte `a` and grants ATTR bit `perm` (R314, R315). -/
def gateGrants (s : State) (b : Bool) (a perm : Nat) : Bool :=
  (List.range 32).any (fun r => bit (s.gAttr b r) 0 && bit (s.gAttr b r) perm &&
    decide (s.gBase b r ≤ a) && decide (a ≤ s.gLast b r))

/-- The first defect of a bank (R317): region `i` with LIMIT below BASE (`j = i`), or regions `i < j` sharing a byte. -/
def gateDefect (s : State) (b : Bool) : Option (Nat × Nat) :=
  let en := fun r => bit (s.gAttr b r) 0
  let bad := fun i => en i && decide (s.gLast b i < s.gBase b i + 63)
  let meet := fun i j => en i && en j && decide (s.gBase b i ≤ s.gLast b j) && decide (s.gBase b j ≤ s.gLast b i)
  (List.range 32).findSome? (fun i =>
    if bad i then some (i, i)
    else ((List.range 32).filter (fun j => decide (i < j))).findSome? (fun j => if meet i j then some (i, j) else none))

/-- Swaps pair `p` to bank `b` if the bank is well-formed; a refusal records MPU_OVERLAP, GAT_OVL and BEVT.SWAP_REFUSED
(R317). Answers whether the swap was made. -/
def gateSwap (s : State) (p : Nat) (b : Bool) : State × Bool :=
  match s.gateDefect b with
  | none =>
    let s := s.modPair p (fun k => { k with cs := putBit k.cs 6 b })
    (s.count R.GAT_SWAPS 15 0, true)
  | some (i, j) =>
    let s := s.count R.GAT_SWAPS 31 16
    let s := s.setReg R.GAT_OVL (w32 (0x80000000 + b2n b * 0x400 + j * 32 + i))
    let s := s.event Blk.GAT 0 2
    (s.fault Blk.GAT 0 Kind.MPU_OVERLAP (b2n b * 0x400 + j * 32 + i), false)

/-! ### Regions that refuse data reads -/

/-- A main-flash address covered by an enabled execute-only region (R339). -/
def xoHit (s : State) (a : Nat) : Bool :=
  (List.range 8).any (fun i =>
    let b := s.reg (R.FLC_XO_BASE + i * 8)
    let l := s.reg (R.FLC_XO_LIM + i * 8)
    bit b 0 && decide (0x08000000 ≤ a) && decide (a < 0x0A000000) &&
      decide ((b.toNat / 0x1000) ≤ a / 0x1000) && decide (a / 0x1000 ≤ l.toNat / 0x1000))

/-- Every enabled region with PROT covering the sector of `a` (R339). -/
def xoProt (s : State) (a : Nat) : Bool :=
  (List.range 8).any (fun i =>
    let b := s.reg (R.FLC_XO_BASE + i * 8)
    let l := s.reg (R.FLC_XO_LIM + i * 8)
    bit b 0 && bit b 1 && decide (0x08000000 ≤ a) && decide (a < 0x0A000000) &&
      decide ((b.toNat / 0x1000) ≤ a / 0x1000) && decide (a / 0x1000 ≤ l.toNat / 0x1000))

end State

/-- The SECRET row of the OTP row, a locked region (R260). -/
def otpSecret (a : Nat) : Bool := decide (0x0C801000 ≤ a) && decide (a < 0x0C802000)

namespace State

/-- A privileged data read of a descriptor (R299): refused for an address R33 does not decode, a locked region or
execute-only flash. -/
def descBytes (s : State) (a : Nat) : Option (List Byte) :=
  match area a with
  | .none => none
  | .reg _ _ _ _ => some (leBytes 4 (s.reg a).toNat ++ leBytes 4 (s.reg (a + 4)).toNat ++
      leBytes 4 (s.reg (a + 8)).toNat ++ leBytes 4 (s.reg (a + 12)).toNat)
  | .host _ _ => some ((List.range 16).map (fun i => Config.hostByte s.fresh (a + i)))
  | .otp => if otpSecret a then none else some (s.bytes a 16)
  | .flash _ => if s.xoHit a then none else some (s.bytes a 16)
  | _ => some (s.bytes a 16)

end State

/-! ### Descriptors -/

/-- A usable exception descriptor (R299). -/
structure Desc where
  handler : Word
  dsp : Word
  rsb : Nat
  rsl : Nat
  pl : Nat
  ie : Bool
  swp : Bool
  keepSp : Bool
  keepRs : Bool
  tpl : Nat
  deriving DecidableEq, Repr

/-- A descriptor read: usable, invalid (cause 7, R300) or refused (cause 9, R299). -/
inductive DescRes where
  | ok (d : Desc)
  | bad (cause : Nat)
  deriving DecidableEq, Repr

/-- Decodes the 16 bytes of the descriptor of vector `v` and judges R300. -/
def decodeDesc (v : Nat) (l : List Byte) : DescRes :=
  let w0 := leAt l 0 4
  let dsp := leAt l 4 4
  let rsb := leAt l 8 2
  let rsl := leAt l 10 2
  let w3 := w32 (leAt l 12 4)
  let keepSp := bit w3 4
  let keepRs := bit w3 5
  let tpl := bits w3 7 6
  if bit w3 31 = false ∨ bits w3 1 0 = 3 ∨ w0 % 4 ≠ 0 ∨ rsb % 16 ≠ 0 ∨ rsb ≥ 0x1000 ∨ rsl % 16 ≠ 0 ∨
      rsl ≥ 0x2000 ∨ bits w3 30 8 ≠ 0 ∨ (v < 128 ∧ tpl ≠ 0) ∨ (keepSp = false ∧ dsp % 4 ≠ 0) ∨
      (keepRs = false ∧ (rsb ≥ rsl ∨ rsl > 0x1000)) then .bad 7
  else .ok ⟨w32 w0, w32 dsp, rsb, rsl, bits w3 1 0, bit w3 2, bit w3 3, keepSp, keepRs, tpl⟩

/-- Descriptor of vector `v` for pair `p` (R299). -/
def State.desc (s : State) (p v : Nat) : DescRes :=
  match s.descBytes ((s.pair p).edtb.toNat + 16 * v) with
  | none => .bad 9
  | some l => decodeDesc v l

/-- The return-stack window a descriptor gives (R301): base, limit, pointer. -/
def window (k : KPair) (d : Desc) : Nat × Nat × Nat :=
  if d.keepRs then (k.rsb, k.rsl, k.rsp)
  else if d.rsb ≤ k.rsp ∧ k.rsp ≤ d.rsl then (d.rsb, d.rsl, k.rsp)
  else (d.rsb, d.rsl, d.rsb)

/-- The frame of R302 for resume address `a`, formed by vector `v`. -/
def frameOf (k : KPair) (v : Nat) (a : Word) : Word × Word × Word × Word :=
  (a, w32 (bits k.cs 31 28 * 0x10000000 + bits k.cs 8 4 * 16 + v * 0x10000), Tbl.get (fun _ => 0) k.g 15,
    w32 (k.rsb / 16 * 0x400000 + k.rsl / 16 * 0x2000 + k.rsp))

/-- Pushes four FRAME words at offset `o` of the return stack (R279). -/
def pushFrame (t : Tbl RWord) (o : Nat) (f : Word × Word × Word × Word) : Tbl RWord :=
  let put := fun (t : Tbl RWord) (i : Nat) (w : Word) => Tbl.set (fun _ => {}) t (o / 4 + i) ⟨w, true⟩
  put (put (put (put t 0 f.1) 1 f.2.1) 2 f.2.2.1) 3 f.2.2.2

namespace State

/-- Sets HALT_EVT in every running pair other than `p` (R287). -/
def haltEvents (s : State) (p : Nat) : State :=
  (List.range 3).foldl (fun s q =>
    if q ≠ p ∧ ((s.pair q).run = .running ∨ (s.pair q).run = .waiting) then
      s.modPair q (fun k => { k with haltEvt := true })
    else s) s

/-- A double stack fault (R311): the pair halts, CORE_DOUBLE_FAULT is recorded, HALT_EVT is set in every other running
pair. -/
def doubleFault (s : State) (p : Nat) (a : Word) : State :=
  let s := s.modPair p (fun k => { k with run := .doubleFault })
  let s := s.event Blk.GAT 0 3
  (s.faultBy Blk.KEN p Kind.CORE_DOUBLE_FAULT a.toNat 4 Blk.GAT 0).haltEvents p

/-- The last steps of R301 for a usable descriptor `d` and window `w`: the pair's state at the handler. -/
def enterAt (s : State) (p v : Nat) (d : Desc) (w : Nat × Nat × Nat) : State :=
  let s := s.modPair p (fun k =>
    let cs := putField (putBit k.cs 7 d.ie) 5 4 d.pl
    { k with
      rsb := w.1, rsl := w.2.1, rsp := w.2.2
      g := if d.keepSp then k.g else Tbl.set (fun _ => 0) k.g 15 d.dsp
      cs := if v = 5 then putBit cs 3 false else cs
      esr := putField k.esr 7 0 v
      xcnt := k.xcnt + 1
      run := .running
      pc := d.handler })
  if d.swp then
    let (s, ok) := s.gateSwap p (!csBank (s.pair p).cs)
    if ok then s else s.modPair p (fun k => { k with esr := putBit k.esr 17 true })
  else s

/-- The stack-fault path of R301: vector 2 with its cause, the frame into the shadow frame, or a double stack fault. -/
def enterStack (s : State) (p : Nat) (a : Word) (cause : Nat) (f : Word × Word × Word × Word) : State :=
  let k := s.pair p
  match s.desc p 2 with
  | .bad _ => s.doubleFault p a
  | .ok d =>
    if bit k.esr 16 then s.doubleFault p a
    else
      let w := window k d
      let s := s.modPair p (fun k => { k with
        sf0 := f.1, sf1 := f.2.1, sf2 := f.2.2.1, sf3 := f.2.2.2
        esr := putField (putBit k.esr 16 true) 15 8 cause })
      s.enterAt p 2 d w

/-- Entry to vector `v` with resume address `a` (R301); `cause` is 0 unless `v` is 2. -/
def enter (s : State) (p v : Nat) (a : Word) (cause : Nat) : State :=
  let k := s.pair p
  let f := frameOf k v a
  let s := if (s.pair p).stepOne then s.modPair p (fun k => { k with stepOne := false }) else s
  let t :=
    if v = 2 then s.enterStack p a cause f
    else match s.desc p v with
      | .bad c => s.enterStack p a c f
      | .ok d =>
        let w := window k d
        if w.2.2 + 16 > w.2.1 then s.enterStack p a 6 f
        else
          let s := s.modPair p (fun k => { k with rstack := pushFrame k.rstack w.2.2 f })
          s.enterAt p v d (w.1, w.2.1, w.2.2 + 16)
  if k.stepOne ∧ (t.pair p).run = .running then t.modPair p (fun k => { k with run := .debugHalt }) else t

/-- An exception of the current instruction, resume address the instruction. A pending imprecise arithmetic exception
is taken first, and then the instruction has done nothing (R293, R303). -/
def except (s : State) (p v cause : Nat) : State :=
  let k := s.pair p
  if csAep k.cs then s.enter p 5 k.pc 0 else s.enter p v k.pc cause

/-- The bus exception for a refused access of pair `p` at core address `a`: its message `m`, EAR, vector 4. -/
def busResp (s : State) (p a : Nat) (m : State → State) : State :=
  let k := s.pair p
  if csAep k.cs then s.enter p 5 k.pc 0
  else
    let s := (m s).modPair p (fun k => { k with ear := w32 a })
    s.enter p 4 k.pc 0

/-- A refused core access of pair `p` at core address `a`, detected by block `db`, instance `di` (R15, R20): one
ACCESS_VIOLATION, EAR, and vector 4. -/
def busFault (s : State) (p a db di : Nat) : State :=
  s.busResp p a (fun s => s.faultBy Blk.KEN p Kind.ACCESS_VIOLATION a 4 db di)

/-- A Gate refusal: as `busFault`, detected by GAT and counted in GAT_DENY (R314). -/
def gateFault (s : State) (p a : Nat) : State :=
  if csAep (s.pair p).cs then s.busFault p a Blk.GAT 0 else (s.count R.GAT_DENY 15 0).busFault p a Blk.GAT 0

end State
end Sys2Proof.Machine
end

