-- ==== Sys2Proof/Machine/Units.lean ====
section
/-! DEFINITION. Access to the engines' units and to the key and stream slots a job holds, and what they do when it ends
(06 Lane states, R188, R203). -/

namespace Sys2Proof.Machine

namespace State

/-- Lane `n`. -/
def lane (s : State) (n : Nat) : Lane := Tbl.get (fun _ => {}) s.lanes n
/-- Replaces lane `n`. -/
def setLane (s : State) (n : Nat) (v : Lane) : State := { s with lanes := Tbl.set (fun _ => {}) s.lanes n v }
/-- Applies `f` to lane `n`. -/
def modLane (s : State) (n : Nat) (f : Lane → Lane) : State := s.setLane n (f (s.lane n))

/-- Crucible unit `u`. -/
def unit (s : State) (u : Nat) : CUnit := Tbl.get (fun _ => {}) s.units u
/-- Replaces unit `u`. -/
def setUnit (s : State) (u : Nat) (v : CUnit) : State := { s with units := Tbl.set (fun _ => {}) s.units u v }
/-- Applies `f` to unit `u`. -/
def modUnit (s : State) (u : Nat) (f : CUnit → CUnit) : State := s.setUnit u (f (s.unit u))

/-- Stream slot `n`. -/
def stream (s : State) (n : Nat) : Stream := Tbl.get (fun _ => {}) s.streams n
/-- Replaces stream slot `n`; the default is a free slot, its state erased. -/
def setStream (s : State) (n : Nat) (v : Stream) : State := { s with streams := Tbl.set (fun _ => {}) s.streams n v }

/-- Key slot `n`. -/
def slot (s : State) (n : Nat) : KSlot := Tbl.get (fun _ => {}) s.slots n
/-- Replaces key slot `n`; the default is EMPTY. -/
def setSlot (s : State) (n : Nat) (v : KSlot) : State := { s with slots := Tbl.set (fun _ => {}) s.slots n v }

end State

/-- A lane is serving (R166). -/
def Lane.serving (l : Lane) : Bool := l.st != .spare && l.st != .fenced
/-- A lane is active: powered, seeded and holding its leave. -/
def Lane.active (l : Lane) : Bool := l.st == .idle || l.st == .busy || l.st == .paused
/-- A lane holds its 35 tokens. -/
def Lane.leave (l : Lane) : Bool := l.active || l.st == .unseeded || l.st == .waking
/-- A unit is serving (R195): tested, not spare, not fenced. -/
def CUnit.serving (u : CUnit) : Bool := u.up && u.st != .spare && u.st != .fenced

/-- Address of a SYM register of lane `n`. -/
def symReg (r n : Nat) : Nat := r + n * 0x10000
/-- Address of a CRU register of unit `u`. -/
def cruReg (r u : Nat) : Nat := r + u * 0x10000

/-- The engine an opcode runs on: lanes 0, Crucible 1, none 2 (WRAP and UNWRAP on a lane; an RSA UNWRAP then on a
unit, `aux` 1). -/
def Job.kind (j : Job) : Nat :=
  if j.op = 0x41 ∧ j.aux = 1 then 1
  else if j.op ∈ [0x01, 0x02, 0x10, 0x11, 0x12, 0x13, 0x14, 0x15, 0x18, 0x19, 0x40, 0x41, 0x42, 0x50] then 0
  else if 0x20 ≤ j.op ∧ j.op ≤ 0x25 then 1
  else 2

namespace State

/-- The lane that runs job `id`. -/
def laneOf (s : State) (id : Nat) : Option Nat := (List.range 9).find? (fun n => (s.lane n).work == .job id)

/-- The unit that holds job `id`. -/
def unitOf (s : State) (id : Nat) : Option Nat := (List.range 3).find? (fun u => (s.unit u).job == some id)

/-- Lane `n` ends its work: key shares overwritten, the lane IDLE (UNSEEDED if it was paused), the end counted;
`fail` is none for success, true for AUTH_FAIL, false for another failure. -/
def laneEnd (s : State) (n : Nat) (fail : Option Bool) : State :=
  let s := s.modLane n (fun l => { l with
    st := if l.st = .paused then .unseeded else if l.st = .busy then .idle else l.st
    work := .none, done := 0 })
  let s := s.countWrap (symReg R.SYM_JOBS n) 31 0
  match fail with
  | none => s
  | some true => s.count (symReg R.SYM_FAILS n) 31 16
  | some false => s.count (symReg R.SYM_FAILS n) 15 0

/-- The image record a failing fill was waiting for is dropped, or followed by an ERASE record once it is being programmed,
so that the slot stays empty (R203, R251). -/
def dropRecord (s : State) (id n : Nat) : State :=
  let mine := fun (r : ImgRec) => match r.who with
    | .job i _ _ => i == id
    | _ => false
  let l := match s.kst.queue with
    | [] => []
    | r :: t =>
      if s.kst.prog then r :: t.filter (fun r => !mine r) ++ (if mine r then [(⟨n, 0, 0, [], .erase, .none⟩ : ImgRec)] else [])
      else (r :: t).filter (fun r => !mine r)
  { s with kst := { s.kst with queue := l } }

/-- What a finishing job lets go of: its lane; on failure also the key slot it holds RESERVED and the stream slot it
uses (R188, R203). `ok` is success, `auth` an AUTH_FAIL. -/
def letGo (s : State) (j : Job) (ok auth : Bool) : State :=
  let s := match s.laneOf j.id with
    | none => s
    | some n => s.laneEnd n (if ok then none else some auth)
  let s := match j.fill with
    | some n => if ok then s else (s.dropRecord j.id n).setSlot n {}
    | none => s
  match j.stream with
  | some n => if ok then s else s.setStream n {}
  | none => s

end State
end Sys2Proof.Machine
end

