-- ==== Sys2Proof/Machine/Jobs.lean ====
section
/-! DEFINITION. Jobs, queue pairs and completions: window checks (R58, R59), posting in order (R31), how a job finishes
and how finished jobs are reported (R90-R99, R107). -/

namespace Sys2Proof.Machine

/-! ### Completion status codes (R101) -/

namespace St
def OK : Nat := 0x00
def AUTH_FAIL : Nat := 0x01
def PK_INPUT_REJECTED : Nat := 0x02
def RNG_FAIL : Nat := 0x03
def COUNTER_EXHAUSTED : Nat := 0x04
def NONCE_EXHAUSTED : Nat := 0x05
def REPLAY : Nat := 0x06
def KEY_DENIED : Nat := 0x07
def BAD_ENTRY : Nat := 0x08
def CHAIN_ERROR : Nat := 0x09
def HOST_MEM_FAULT : Nat := 0x0A
def NO_CONTEXT : Nat := 0x0B
def ENGINE_UNAVAILABLE : Nat := 0x0C
def QP_DESTROYED : Nat := 0x0D
def TAG_BUSY : Nat := 0x0E
def RESYNC_NEEDED : Nat := 0x0F
def RECORD_INVALID : Nat := 0x10
def WINDOW_FAULT : Nat := 0x11
def LENGTH_ERROR : Nat := 0x12
def MODE_DENIED : Nat := 0x13
end St

namespace State

/-! ### Access to ports, windows, queue pairs and jobs -/

/-- Port `p`. -/
def port (s : State) (p : Nat) : HPort := Tbl.get (fun _ => {}) s.ports p
/-- Replaces port `p`. -/
def setPort (s : State) (p : Nat) (v : HPort) : State := { s with ports := Tbl.set (fun _ => {}) s.ports p v }
/-- Applies `f` to port `p`. -/
def modPort (s : State) (p : Nat) (f : HPort → HPort) : State := s.setPort p (f (s.port p))

/-- Window `i` of domain `d`. -/
def win (s : State) (d i : Nat) : Win := Tbl.get (fun _ => {}) s.wins (d * 16 + i)
/-- Replaces window `i` of domain `d`. -/
def setWin (s : State) (d i : Nat) (v : Win) : State :=
  { s with wins := Tbl.set (fun _ => {}) s.wins (d * 16 + i) v }

/-- Queue pair `q`. -/
def qp (s : State) (q : Nat) : QP := Tbl.get (fun _ => {}) s.qps q
/-- Replaces queue pair `q`. -/
def setQp (s : State) (q : Nat) (v : QP) : State := { s with qps := Tbl.set (fun _ => {}) s.qps q v }
/-- Applies `f` to queue pair `q`. -/
def modQp (s : State) (q : Nat) (f : QP → QP) : State := s.setQp q (f (s.qp q))

/-- The job of an in-flight slot. -/
def job (s : State) (id : Nat) : Option Job := s.jobs.find? (fun j => j.id == id)
/-- Applies `f` to a job. -/
def modJob (s : State) (id : Nat) (f : Job → Job) : State :=
  { s with jobs := s.jobs.map (fun j => if j.id = id then f j else j) }
/-- Jobs of a queue pair, in submission order. -/
def qjobs (s : State) (q : Nat) : List Job := s.jobs.filter (fun j => j.qp == q)

/-! ### The window check -/

/-- A window covers bytes `a` to `a + n - 1`. -/
def winCovers (w : Win) (a n : Nat) : Bool :=
  decide (w.len ≠ 0) && decide (w.base ≤ a) && decide (a + n ≤ w.base + w.len * 0x1000)

/-- The 64-byte granule of `a` passes for domain `d` (R59). -/
def granuleOk (s : State) (d a : Nat) (write : Bool) : Bool :=
  (List.range 16).any (fun i =>
    let w := s.win d i
    winCovers w (a / 64 * 64) 64 && (if write then w.lw else w.lr))

/-- The first refused byte of an access of `n` bytes at `a`, in address order (R22, R59): the granules are checked by
counting off the windows that cover their start, so that no granule is visited one by one when a window covers all. -/
def refusedFrom (s : State) (d : Nat) (write : Bool) : Nat → Nat → Nat → Option Nat
  | 0, _, _ => none
  | fuel + 1, a, e =>
    if e ≤ a then none
    else
      let g := a / 64 * 64
      let ends := (List.range 16).map (fun i =>
        let w := s.win d i
        if winCovers w g 64 && (if write then w.lw else w.lr) then (w.base + w.len * 0x1000) / 64 * 64 else 0)
      let m := ends.foldl max 0
      if m ≤ g then some a else s.refusedFrom d write fuel m e

/-- The first refused byte of `n` bytes at `a`, if any. At most 16 windows can hand over to one another. -/
def winRefusal (s : State) (d a n : Nat) (write : Bool) : Option Nat :=
  if n = 0 then none else s.refusedFrom d write 17 a (a + n)

/-- One window of domain `d` covers the whole range and grants LR (and LW with `both`), as ring and table checks ask
(R72, R112). -/
def oneWindow (s : State) (d a n : Nat) (both : Bool) : Bool :=
  (List.range 16).any (fun i => let w := s.win d i; winCovers w a n && w.lr && (!both || w.lw))

/-- A core access in a host window (R35, R59, R118): the lowest-numbered window whose core range holds the offset
translates it, and must grant CR or CW; the link must be up. -/
def hostXlate (s : State) (d off : Nat) (write : Bool) : Option Nat :=
  if !(s.port d).linkUp then none
  else
    match (List.range 16).find? (fun i =>
      let w := s.win d i
      w.coreEn && decide (w.len ≠ 0) && decide (w.coreOff * 0x1000 ≤ off) &&
        decide (off < (w.coreOff + w.len) * 0x1000)) with
    | none => none
    | some i =>
      let w := s.win d i
      if (if write then w.cw else w.cr) then some (w.base + (off - w.coreOff * 0x1000)) else none

/-! ### Posted writes -/

/-- Posts a write on the port of domain `d` (R31). Output data alone may carry Relaxed Ordering (R47). -/
def post (s : State) (d a : Nat) (data : List Byte) (output : Bool) : State :=
  if data.isEmpty then s
  else { s with staging := s.staging ++ [⟨d, a, data, output && (s.port d).roEn⟩] }

end State

/-! ### Fields of an entry and of a job -/

namespace Job

/-- The FIRST entry of the job. -/
def e0 (j : Job) : List Byte := j.ents.headD []
/-- The little-endian field of `n` bytes at offset `o` of the FIRST entry. -/
def u (j : Job) (o n : Nat) : Nat := leAt j.e0 o n
/-- The KEY field. -/
def keyField (j : Job) : Nat := j.u 4 4

/-- Every segment of the job in entry and element order (R77): output flag, address, length, and its WINDOW_FAULT
element number (R103), continuation entries counted from 0. DEDUCED, log entry 58. -/
def segs (j : Job) : List (Bool × Nat × Nat × Nat) :=
  let first := [(false, j.u 8 8, j.u 24 4, 0), (true, j.u 16 8, j.u 28 4, 1)]
  let conts := (List.range (j.ents.length - 1)).flatMap (fun k =>
    let e := j.ents.getD (k + 1) []
    (List.range 3).map (fun i =>
      let o := 16 + 16 * i
      (decide (leAt e (o + 12) 4 % 2 = 1), leAt e o 8, leAt e (o + 8) 4, 2 + 3 * k + i)))
  (first ++ conts).filter (fun x => x.2.2.1 ≠ 0)

/-- Input segments. -/
def ins (j : Job) : List (Nat × Nat × Nat) := (j.segs.filter (fun x => !x.1)).map (·.2)
/-- Output segments. -/
def outs (j : Job) : List (Nat × Nat × Nat) := (j.segs.filter (fun x => x.1)).map (·.2)
/-- Total input bytes. -/
def inTotal (j : Job) : Nat := (j.ins.map (·.2.1)).sum
/-- Total output bytes available. -/
def outTotal (j : Job) : Nat := (j.outs.map (·.2.1)).sum
/-- Has the job finished? -/
def isDone (j : Job) : Bool := j.stage == .done
/-- Finished with a failure. -/
def failed (j : Job) : Bool := j.isDone && j.status != 0
/-- An ORDR job that gets a completion of its own (R98). -/
def ownReport (j : Job) : Bool := j.isDone && j.ordr && (j.failed || j.cmpl)

end Job

/-- The result word of a failed job (R102). -/
def failWord (stage entry cause : Nat) : Word := w32 (stage * 0x10000000 + entry * 0x10000 + cause)

/-- The 16 bytes of a completion entry (03, The completion entry). -/
def complBytes (ordr early : Bool) (status tag cnt sqHead : Nat) (result detail : Word) : List Byte :=
  [BitVec.ofNat 8 (128 + b2n ordr * 64 + b2n early * 32), BitVec.ofNat 8 status] ++
    leBytes 2 tag ++ leBytes 2 cnt ++ leBytes 2 sqHead ++ leBytes 4 result.toNat ++ leBytes 4 detail.toNat

namespace State

/-- Scatters `data` over segments, posting each piece as output. -/
def scatter (s : State) (d : Nat) : List (Nat × Nat × Nat) → List Byte → State
  | [], _ => s
  | (a, n, _) :: t, data => (s.post d a (data.take n) true).scatter d t (data.drop n)

/-- Posts the output bytes of a job. -/
def postOutput (s : State) (j : Job) (data : List Byte) : State := s.scatter j.dom j.outs data

/-! ### In-flight limits (R125, R126) -/

/-- In-flight slots a queue pair holds: its jobs and an open chain. -/
def qInfl (s : State) (q : Nat) : Nat := (s.qjobs q).length + b2n (!(s.qp q).chain.isEmpty)

/-- In-flight slots a domain holds. -/
def dInfl (s : State) (d : Nat) : Nat :=
  (s.jobs.filter (fun j => j.dom == d)).length +
    (s.qps.filter (fun e => e.2.dom == d && !e.2.chain.isEmpty)).length

/-- A queue pair's in-flight limit: INFL_LIMIT, or TUN_CFG.ADMIN_INFL for an admin QP (R126). -/
def qLimit (s : State) (q : Nat) : Nat := if q < 4 then s.fld R.TUN_CFG 12 0 else (s.qp q).infl

/-- The domain may take one more in-flight slot (R125): within its reserve always; beyond it an unreserved slot, up to
its cap. -/
def dRoom (s : State) (d : Nat) : Bool :=
  let rsv := fun x => s.fld (R.TUN_DOM_INFL + x * 0x20) 13 0
  let cap := s.fld (R.TUN_DOM_INFL + d * 0x20) 29 16
  let u := s.dInfl d
  decide (u < rsv d) ||
    (decide (u < cap) &&
      decide (((List.range 4).map (fun x => s.dInfl x - rsv x)).sum < 8192 - ((List.range 4).map rsv).sum))

/-- Jobs holding park entries, of one domain. -/
def dPark (s : State) (d : Nat) : Nat := (s.jobs.filter (fun j => j.dom == d && j.stage == .parked)).length

/-- The domain may take one more park entry (R125, R127). -/
def parkRoom (s : State) (d : Nat) : Bool :=
  let rsv := fun x => s.fld (R.TUN_DOM_PARK + x * 0x20) 12 0
  let cap := s.fld (R.TUN_DOM_PARK + d * 0x20) 28 16
  let u := s.dPark d
  decide (u < rsv d) ||
    (decide (u < cap) &&
      decide (((List.range 4).map (fun x => s.dPark x - rsv x)).sum < 4096 - ((List.range 4).map rsv).sum))

/-! ### Which completion comes next -/

end State

/-- A completion about to be written: its entry fields and the jobs it covers. -/
structure Compl where
  ordr : Bool
  early : Bool
  last : Job
  covers : List Nat
  deriving DecidableEq, Repr

/-- The jobs up to the first in-order job that has not finished (R95). -/
def doneFront (l : List Job) : List Job := l.takeWhile (fun j => j.isDone || j.ordr)

/-- The first in-order job that must be reported by name: finished, and failed or with CMPL (R96, R97). -/
def headJob (l : List Job) : Option Job :=
  (doneFront l).find? (fun j => j.isDone && !j.ordr && (j.failed || j.cmpl))

/-- Finished, uncovered jobs submitted before `id` that join its heat. -/
def heatBefore (l : List Job) (id : Nat) : List Job :=
  (l.takeWhile (fun j => j.id ≠ id)).filter (fun j => j.isDone && !j.failed && !j.ownReport)

/-- What a closing completion may cover (R95, R98, R99): finished in-order jobs of the front, and finished ORDR jobs. -/
def heatAll (l : List Job) : List Job :=
  l.filter (fun j => j.isDone && !j.failed && !j.ownReport &&
    (j.ordr || (doneFront l).any (fun x => x.id == j.id)))

/-- When the head job became reportable: the last finish among the in-order jobs up to it. -/
def headTime (l : List Job) (h : Job) : Nat :=
  ((l.takeWhile (fun j => j.id ≠ h.id)).filter (fun j => !j.ordr)).foldl (fun m j => max m j.fin) h.fin

/-- The completion owed for the head job (R96, R97). -/
def headCompl (l : List Job) (h : Job) : Compl :=
  let heat := heatBefore l h.id
  if h.failed then
    match heat.getLast? with
    | some e => ⟨false, true, e, heat.map (·.id)⟩
    | none => ⟨false, false, h, [h.id]⟩
  else ⟨false, false, h, heat.map (·.id) ++ [h.id]⟩

/-- The next completion of a queue pair with jobs `l` (R95-R99), in order of becoming reportable; with `close`, a
closing completion when nothing is reported by name. -/
def nextCompl (l : List Job) (close : Bool) : Option Compl :=
  let own := (l.filter (·.ownReport)).foldl (fun (b : Option Job) j =>
    match b with
    | none => some j
    | some x => if j.fin < x.fin then some j else some x) none
  match own, headJob l with
  | some o, some h =>
    if o.fin < headTime l h then some ⟨true, false, o, [o.id]⟩ else some (headCompl l h)
  | some o, none => some ⟨true, false, o, [o.id]⟩
  | none, some h => some (headCompl l h)
  | none, none =>
    if close then
      match (heatAll l).getLast? with
      | some e => some ⟨false, true, e, (heatAll l).map (·.id)⟩
      | none => none
    else none

namespace State

/-- A closing completion is due for queue pair `q` (R99): asked for, the heat has reached its limit, or the QP is at a
limit with entries posted and every job finished. -/
def closeDue (s : State) (q : Nat) : Bool :=
  let k := s.qp q
  let l := s.qjobs q
  let heat := (l.filter (·.isDone)).length
  k.closing || decide (heat ≥ min 65535 (s.qLimit q)) ||
    (decide (k.t ≠ k.h) && (decide (s.qInfl q ≥ s.qLimit q) || !s.dRoom k.dom) && l.all (·.isDone))

/-- A queue pair enters FAULTED (R106, R107). -/
def ringFault (s : State) (q slot status ring : Nat) : State :=
  let s := s.modQp q (fun k => { k with
    st := if k.st = .destroying then .destroying else .faulted, faultSlot := slot, faultStatus := status, faultRing := ring, fetch := none, reread := none })
  (s.count R.TUN_ERR 31 16).event Blk.TUN 0 5

/-- A 16-byte completion entry goes into slot W (R90): one posted write, and W advances; `n` jobs are covered. A slot the
windows no longer cover makes the QP FAULTED (R107). Answers whether it was written. -/
def putCompl (s : State) (q n : Nat) (e : List Byte) : State × Bool :=
  let k := s.qp q
  let a := k.cqBase + k.w * 16
  if !s.granuleOk k.dom a true then
    let s := s.ringFault q k.w St.WINDOW_FAULT 1
    (s.faultBy Blk.TUN 0 Kind.HOST_WINDOW a k.dom Blk.TUN 0, false)
  else
    ((s.post k.dom a e false).modQp q (fun k => { k with
      w := (k.w + 1) % 2 ^ k.cqN
      free := k.free - 1
      outst := min (2 ^ k.cqN) (k.outst + 1)
      waiting := false
      judge := decide (k.free < 17)
      jobsCov := (k.jobsCov + n) % 2 ^ 32
      reported := if k.st = .destroying then k.reported + n else k.reported }), true)

/-- Writes completion `c` of queue pair `q`; the jobs it covers release their in-flight slots. -/
def writeCompl (s : State) (q : Nat) (c : Compl) : State :=
  let n := c.covers.length
  let r := s.putCompl q n
    (complBytes c.ordr c.early c.last.status c.last.tag n (s.qp q).h c.last.result c.last.detail)
  if r.2 then
    { r.1.modQp q (fun k => { k with frozen := k.frozen.drop 1 }) with
      jobs := r.1.jobs.filter (fun j => !c.covers.contains j.id) }
  else r.1

/-- A completion waits for a free CQ slot; it is counted once (R94). -/
def complWaits (s : State) (q : Nat) : State :=
  s.modQp q (fun k => { k with
    judge := true, waiting := true, cqWaits := if k.waiting then k.cqWaits else satSucc 0xFFFFFFFF k.cqWaits })

/-- The completion of a failed entry read goes first (R106). -/
def reportRing (s : State) (q : Nat) : State :=
  let k := s.qp q
  match k.ringMsg with
  | none => s
  | some (st, c, slot) =>
    if k.faultRing = 1 then s.modQp q (fun k => { k with ringMsg := none })
    else if k.free = 0 then s.complWaits q
    else
      let s := s.modQp q (fun k => { k with ringMsg := none })
      (s.putCompl q 0 (complBytes false false st 0xFFFF 0 k.h (failWord 1 0 c) (w32 slot))).1

/-- What a QP in DESTROYING without DRAIN reports next (R114 step 3): the completions that were due and the closing one,
then, once every job has ended, one for each. -/
def destroyNext (k : QP) (l : List Job) : Option Compl :=
  match k.frozen with
  | (o, e, last, cov) :: _ => (l.find? (fun j => j.id == last)).map (fun j => ⟨o, e, j, cov⟩)
  | [] => if l.all (·.isDone) then l.head?.map (fun j => ⟨j.ordr, false, j, [j.id]⟩) else none

/-- The next completion queue pair `q` owes. -/
def nextDue (s : State) (q : Nat) : Option Compl :=
  let k := s.qp q
  if k.st = .destroying ∧ !k.drain then destroyNext k (s.qjobs q) else nextCompl (s.qjobs q) (s.closeDue q)

/-- Writes the completions due while slots are known to be free; the first that finds none waits and is counted
(R94). A QP faulted on its CQ writes nothing: its finished jobs are released without coverage (R107). -/
def report (s : State) (q : Nat) : Nat → State
  | 0 => s
  | fuel + 1 =>
    let k := s.qp q
    if k.st = .absent ∨ k.ringMsg.isSome then s
    else if k.faultRing = 1 then
      { s with jobs := s.jobs.filter (fun j => !(j.qp == q && j.isDone)) }
    else
      match s.nextDue q with
      | none => s.modQp q (fun k => { k with closing := k.closing && decide (k.st = .destroying) })
      | some c => if k.free = 0 then s.complWaits q else (s.writeCompl q c).report q fuel

/-- Reports what queue pair `q` owes. -/
def reportAll (s : State) (q : Nat) : State := (s.reportRing q).report q (2 * (s.qjobs q).length + 2)

/-! ### How a job finishes -/

/-- Marks a job finished with a status, result and detail, without reporting it. An index the job had closed opens
again, and the jobs parked on it miss (R158). -/
def markDone (s : State) (id status : Nat) (result detail : Word) : State :=
  let s := s.modJob id (fun j => { j with
    stage := .done, status := status, result := result, detail := detail, fin := s.nextFin, res := [], input := []
    ks := {}, kek := []
    fill := none, stream := none })
  let freed := (s.closedIdx.filter (fun x => x.2.2 == id)).filter (fun x =>
    s.jobs.any (fun j => j.stage == .parked && j.dom == x.1 && j.key == .ctx x.2.1) &&
      !s.closedIdx.any (fun y => y.1 == x.1 && y.2.1 == x.2.1 && y.2.2 != id) &&
      !s.installs.any (fun i => i.dom == x.1 && i.idx == x.2.1))
  { s with
    nextFin := s.nextFin + 1
    closedIdx := s.closedIdx.filter (fun x => x.2.2 != id)
    installs := s.installs ++ freed.map (fun x => ⟨x.1, x.2.1, false, none, none, none⟩) }

/-- Posts zeros over every byte a failed job has written, or discards its held output (R105, R187), and counts it for
a lane job (SYM_ZERO). -/
def zeroOutput (s : State) (j : Job) : State :=
  if j.posted ≠ 0 then
    let s := s.scatter j.dom j.outs (List.replicate j.posted 0)
    if j.kind = 0 then s.count R.SYM_ZERO 31 16 else s
  else if j.kind = 0 ∧ ((s.laneOf j.id).isSome ∨ !j.res.isEmpty) then s.count R.SYM_ZERO 15 0
  else s

/-- The counters a failing status steps: NONCE_EXHAUSTED (SYM_NONCE), RNG_FAIL (RNG_FAILS, CRU_RNDW). -/
def countStatus (s : State) (j : Job) (status : Nat) : State :=
  if status = St.NONCE_EXHAUSTED then s.count R.SYM_NONCE 15 0
  else if status = St.RNG_FAIL then
    if j.kind = 1 then s.count R.CRU_RNDW 31 16 else s.count R.RNG_FAILS 15 0
  else s

/-- A job finishes successfully and is reported (R96, R98). -/
def succeed (s : State) (j : Job) (result detail : Word) : State :=
  ((s.letGo j true false).markDone j.id St.OK result detail).reportAll j.qp

/-- A job fails, without being reported yet (R102, R105). -/
def failQuiet (s : State) (j : Job) (status stage entry cause : Nat) (detail : Nat) : State :=
  let s := if stage ≥ 6 then s.zeroOutput j else s
  let s := (s.countStatus j status).letGo j false (status == St.AUTH_FAIL)
  s.markDone j.id status (failWord stage entry cause) (w32 detail)

/-- A job fails and is reported (R97, R98). -/
def failJob (s : State) (j : Job) (status stage entry cause : Nat) (detail : Nat) : State :=
  (s.failQuiet j status stage entry cause detail).reportAll j.qp

/-- A job posts its output and finishes; RESULT is the number of output bytes written (R102). -/
def deliver (s : State) (j : Job) (data : List Byte) (detail : Word) : State :=
  (s.postOutput j data).succeed j (w32 data.length) detail

end State
end Sys2Proof.Machine
end

