-- ==== Sys2Proof/Machine/LeaveOps.lean ====
section
/-! DEFINITION. The leave arbiter's operations (R446-R448): asking, releasing, the head that fits. -/

namespace Sys2Proof.Machine

namespace State

/-- The budget in force (PWR_BUDGET.TOKENS). -/
def budget (s : State) : Nat := s.fld R.PWR_BUDGET 9 0

/-- Tokens granted, standing reservation excluded. -/
def leaveGranted (s : State) : Nat := (s.leaveHeld.map (·.tok)).sum

/-- Refuses a request as LEAVE_IMPOSSIBLE (R448): one record with source CLK 0, one count. -/
def leaveImpossible (s : State) (b i tok : Nat) : State :=
  ((s.count R.PWR_REFUSED 15 0).event Blk.CLK 0 5).fault Blk.CLK 0 Kind.LEAVE_IMPOSSIBLE (b * 0x8000000 + i * 0x400000 + tok)

/-- Asks leave of `tok` tokens (R447, R448): queued, or refused at once when larger than the budget less the standing
reservation. Answers whether it was refused. -/
def askLeave (s : State) (b i tok : Nat) (what : Purpose) : State × Bool :=
  if tok > s.budget - s.variant.standing then (s.leaveImpossible b i tok, true)
  else ({ s with leavePend := s.leavePend ++ [⟨b, i, tok, what, false⟩] }, false)

/-! ### Flash operations behind the banks (R335) -/

/-- The bank has no operation, or only a suspended one. -/
def bankFree (s : State) (b : Nat) : Bool := !s.flashOn.any (fun o => o.rq.bank == b && o.susp == 0)

/-- Reads of bank `b` wait (R327). -/
def bankBusy (s : State) (b : Nat) : Bool := !s.bankFree b

/-- A sector reads as torn (R337): its marks, or an erase of it suspended. -/
def isTorn (s : State) (b n : Nat) : Bool :=
  s.torn.any (fun x => x.bank == b && x.sector == n) ||
    s.flashOn.any (fun o => o.rq.bank == b && o.rq.sector == n && o.rq.op == 2 && o.susp != 0)

/-- A firmware command ends (R329): RESULT, DONE, CMD_DONE. -/
def flcEnd (s : State) (result : Nat) : State :=
  (s.setReg R.FLC_STATUS (w32 (0x40000000 + result))).event Blk.FLC 0 2

/-- The result that ends a firmware command as its bank takes it, before any pulse (R330, R334, R340, R344). -/
def fwBlock (s : State) (r : FReq) : Option Nat :=
  let a := (s.reg R.FLC_ADDR).toNat
  let blank := fun (n : Nat) => (s.bytes a n).all (fun b => b == 0xFF)
  if r.op = 1 ∧ s.isTorn r.bank r.sector then some 3
  else if (r.op = 1 ∨ r.op = 2) ∧ s.lostSec.contains (r.bank, r.sector) then some 4
  else if r.op = 1 ∧ !blank 256 then some 1
  else if r.op = 7 ∧ !blank 8 then some 1
  else if r.tok > s.budget - s.variant.standing then some 5
  else none

/-- A client's operation whose leave has become impossible since it was queued. -/
def clientBlock (s : State) (r : FReq) : Option Nat := if r.tok > s.budget - s.variant.standing then some 5 else none

/-- A client's flash operation is refused leave: the vault asks again (R153); the others' own time limits judge it. -/
def clientRefused (s : State) (what : Purpose) : State :=
  if what = .vaultPage then { s with vault := { s.vault with refused := true } } else s

/-- A bank takes an operation: it is busy from here, and its leave is asked (R330, R331). -/
def flashTake (s : State) (r : FReq) : State :=
  let s := if r.op = 2 ∧ r.bank < 4 then s.setFld (R.FLC_SUSPCNT + r.bank * 0x10) 15 0 0 else s
  { s with
    flashOn := s.flashOn ++ [({ rq := r, granted := r.tok == 0 } : FOp)]
    leavePend := if r.tok = 0 then s.leavePend else s.leavePend ++ [⟨r.blk, 0, r.tok, r.what, false⟩] }

/-- The operation bank `b` takes next: the lowest class, first in first out; beside a suspended erase only programs and
blank checks (R328, R335). -/
def flashPick (s : State) (b : Nat) : Option FReq :=
  let hold := s.flashOn.any (fun o => o.rq.bank == b)
  let l := s.flashQ.filter (fun r => r.bank == b && !(hold && r.op == 2))
  (List.range 6).findSome? (fun c => l.find? (fun r => r.cls == c))

/-- A suspended operation resumes: its bank is busy and it asks leave again (R328). -/
def flashResume (s : State) (what : Purpose) : State :=
  match s.flashOn.find? (fun o => o.rq.what == what) with
  | none => s
  | some o =>
    let up := fun (x : FOp) => if x.rq.what = what then { x with susp := 0, granted := false, ask := false } else x
    { s with
      flashOn := s.flashOn.map up
      leavePend := s.leavePend ++ [⟨o.rq.blk, 0, o.rq.tok, what, false⟩] }

/-- The erase of bank `b` that firmware has told to resume (R328). -/
def resumable (s : State) (b : Nat) : Bool :=
  s.flashOn.any (fun o => o.rq.bank == b && o.rq.what == .flash && o.susp == 1 && o.ask)

/-- A free bank takes its next operation; a firmware command that ends at once makes way for the one behind it. -/
def flashNext (s : State) (b : Nat) : Nat → State
  | 0 => s
  | fuel + 1 =>
    if !s.bankFree b ∨ !(s.hdr Blk.FLC 0).en then s
    else match s.flashPick b with
      | none => if s.resumable b then s.flashResume .flash else s
      | some r =>
        if r.cls ≥ 4 ∧ s.resumable b then s.flashResume .flash
        else
        let s := { s with flashQ := s.flashQ.erase r }
        match (if r.what = .flash then s.fwBlock r else s.clientBlock r) with
        | none => s.flashTake r
        | some c =>
          let s := if c = 5 then s.leaveImpossible r.blk 0 r.tok else s
          (if r.what = .flash then s.flcEnd c else s.clientRefused r.what).flashNext b fuel

/-- Asks for a flash operation of a hardware client: refused at once as LEAVE_IMPOSSIBLE, or queued for its bank.
Answers whether it was refused. -/
def askFlash (s : State) (r : FReq) : State × Bool :=
  if r.tok > s.budget - s.variant.standing then (s.leaveImpossible r.blk 0 r.tok, true)
  else (({ s with flashQ := s.flashQ ++ [r] }).flashNext r.bank (s.flashQ.length + 1), false)

/-- Does a block already wait for or hold leave, or a flash bank, for a purpose? -/
def hasLeave (s : State) (what : Purpose) : Bool :=
  s.leavePend.any (fun l => l.what == what) || s.leaveHeld.any (fun l => l.what == what) ||
    s.flashQ.any (fun r => r.what == what) || s.flashOn.any (fun o => o.rq.what == what)

/-- Returns the tokens held, or withdraws the request waiting, for a purpose; a flash bank it held takes its next
operation. -/
def releaseLeave (s : State) (what : Purpose) : State :=
  let b := (s.flashOn.find? (fun o => o.rq.what == what)).map (fun o => o.rq.bank)
  let s := { s with
    leavePend := s.leavePend.filter (fun l => l.what != what)
    leaveHeld := s.leaveHeld.filter (fun l => l.what != what)
    flashQ := s.flashQ.filter (fun r => r.what != what)
    flashOn := s.flashOn.filter (fun o => o.rq.what != what) }
  match b with
  | some b => s.flashNext b (s.flashQ.length + 1)
  | none => s

/-- The head request fits the budget (R447). -/
def headFits (s : State) : Option Leave :=
  match s.leavePend with
  | [] => none
  | l :: _ => if s.variant.standing + s.leaveGranted + l.tok ≤ s.budget then some l else none

/-- Grants the head request whole. -/
def grantHead (s : State) (l : Leave) : State :=
  { s with leavePend := s.leavePend.drop 1, leaveHeld := s.leaveHeld ++ [l] }

end State
end Sys2Proof.Machine
end

