-- ==== Sys2Proof/Machine/RisOps.lean ====
section
/-! DEFINITION. What other blocks tell the Riser (R426, R429, R502), the field map it keeps (R433), and the backup RTC. -/

namespace Sys2Proof.Machine

namespace State

/-- The backup RTC now: it has run on by a free amount since it was last looked at (R405). -/
def rtcNow (s : State) (k : Nat → State → State) : State :=
  s.withFree (fun n s =>
    let t := (s.rtc + n) % 2 ^ 48
    k t { s with rtc := t })

/-- Map entries not yet durable in copy 1 are written there first (R433). -/
def mapKick (s : State) : State :=
  if s.ris.copy1 < s.ris.ents.length ∧ !s.hasLeave .fieldMap then
    (s.askFlash ⟨1, 1, 1, 2032, Blk.RIS, 4, .fieldMap⟩).1
  else s

/-- Makes a field map entry (R433): SEQ one more than the previous, stamped with the RTC. -/
def mapAdd (s : State) (typ pool unit spare kind : Nat) : State :=
  s.rtcNow (fun t s =>
    let q := match s.ris.ents.getLast? with
      | some e => e.seq + 1
      | none => s.ris.seq + 1
    let e : MapEnt := ⟨typ, pool, unit, spare, kind, q, t, s.rtcValid⟩
    ({ s with ris := { s.ris with ents := s.ris.ents ++ [e] } }).mapKick)

/-- A unit of pools 0-3 is fenced (R426, R429, R502): with `kind` it takes a strike; a unit that served, or was being
brought in, is to be replaced. -/
def noteFence (s : State) (pool unit : Nat) (serving : Bool) (kind : Option Nat) : State :=
  let s := match kind with
    | some k => s.mapAdd 1 pool unit 0xFFFF k
    | none => s
  match s.ris.subs.find? (fun x => x.1 == pool && x.2.2 == unit) with
  | some x => { s with ris := { s.ris with
      subs := s.ris.subs.filter (fun y => y != x), due := s.ris.due ++ [(pool, x.2.1)] } }
  | none => if serving then { s with ris := { s.ris with due := s.ris.due ++ [(pool, unit)] } } else s

/-- A spare is being brought into service: it is not yet counted (R132, R429). -/
def arriving (s : State) (pool unit : Nat) : Bool := s.ris.subs.any (fun x => x.1 == pool && x.2.2 == unit)

end State
end Sys2Proof.Machine
end

