-- ==== Sys2Proof/Machine/Vault.lean ====
section
/-! DEFINITION. The counter vault: slots, counters and reservations (R147-R150), pages and their format (R151), and the
cache's eviction (R146). -/

namespace Sys2Proof.Machine

/-- A domain's binding before any is recorded: the default vault range of R134. -/
def bindReset (d : Nat) : Bind := { vbase := d * 65536, vcnt := 65536 }

namespace State

/-- The binding of domain `d`. -/
def bind (s : State) (d : Nat) : Bind := Tbl.get bindReset s.binds d
/-- Replaces it. -/
def setBind (s : State) (d : Nat) (b : Bind) : State := { s with binds := Tbl.set bindReset s.binds d b }

/-- Vault slot `n`. -/
def vslot (s : State) (n : Nat) : VSlot := Tbl.get (fun _ => {}) s.vslots n
/-- Replaces it. -/
def setVslot (s : State) (n : Nat) (v : VSlot) : State := { s with vslots := Tbl.set (fun _ => {}) s.vslots n v }

/-- The vault slot of device `i` of domain `d` (R134). -/
def slotOf (s : State) (d i : Nat) : Nat := (s.bind d).vbase + i

/-- The context of a device, if cached. -/
def ctx (s : State) (d i : Nat) : Option Ctx := s.ctxs.find? (fun c => c.dom == d && c.idx == i)

/-- A hit makes the context the most recently used. -/
def touchCtx (s : State) (d i : Nat) : State :=
  { s with ctxs := s.ctxs.filter (fun c => !(c.dom == d && c.idx == i)) ++
      s.ctxs.filter (fun c => c.dom == d && c.idx == i) }

/-- Jobs pinned to a context: past key resolution and not finished (R141). -/
def pinned (s : State) (d i : Nat) : Bool :=
  s.jobs.any (fun j => j.dom == d && j.key == .ctx i && !j.isDone && j.stage != .parked && j.stage != .parkWait)

/-- Drops contexts from the cache. Their counters live in the vault table, where eviction leaves them; the bitmap is
discarded (R146). -/
def evict (s : State) (p : Ctx → Bool) : State := { s with ctxs := s.ctxs.filter (fun c => !p c) }

/-- The interval in force for new checkpoints, 2^CTX_CFG.CKL. -/
def ckInterval (s : State) : Nat := 2 ^ s.fld R.CTX_CFG 12 8

/-! ### Pages -/

/-- Free sectors of bank 2: 2,048 less those the log spans. -/
def vaultFree (s : State) : Nat := 2048 - ((s.vault.seq % 2 ^ 37 - s.vault.tail) + 15) / 16

/-- Asks leave for the first page waiting, unless one is asked for or being programmed; a refusal is remembered for
VAULT_LEAVE_RETRY (R151, R153). In Lockdown no vault page is written (R41). -/
def vaultKick (s : State) : State :=
  if s.vault.pages.isEmpty ∨ s.vault.prog ∨ s.hasLeave .vaultPage ∨ s.mode = .lockdown then s
  else
    let urgent := s.jobs.any (fun j => j.stage == .wait .ckpt || j.stage == .wait .mark)
    let (s, no) := s.askFlash ⟨2, if urgent then 2 else 3, 1, s.vault.seq / 16 % 2048, Blk.CTX, 4, .vaultPage⟩
    { s with vault := { s.vault with refused := no } }

/-- Queues a page for programming; after a close an OPEN MARK goes first (R156). -/
def queuePage (s : State) (p : VPage) : State :=
  let o := VPage.mark 1 none none none
  let pre := if s.vault.closed ∧ p ≠ o ∧ !s.vault.pages.contains o then [o] else []
  { s with vault := { s.vault with pages := s.vault.pages ++ pre ++ [p] } }.vaultKick

/-- Sends the open LOG page, if it holds any word, to be programmed (R151). -/
def flushLog (s : State) : State :=
  if s.vault.logWs.isEmpty then s
  else
    let pg := VPage.log s.vault.logCkl s.vault.logWs
    { s with vault := { s.vault with logWs := [] } }.queuePage pg

/-- Appends a checkpoint word to the open LOG page; a new page carries the interval in force (R151). -/
def appendCk (s : State) (w : CkWord) : State :=
  let v := s.vault
  let ckl := if v.logWs.isEmpty then s.fld R.CTX_CFG 12 8 else v.logCkl
  let s := { s with vault := { v with logCkl := ckl, logWs := v.logWs ++ [w] } }
  if s.vault.logWs.length ≥ 30 then s.flushLog else s

end State

/-- `n` rounded up to a multiple of `m` (R149). -/
def roundUp (n m : Nat) : Nat := (n + m - 1) / m * m

/-- What a reservation finds (R150). -/
inductive Resv where
  | ok          -- the value may be used now
  | wait        -- the job waits for the checkpoint
  | stalled     -- the vault is stalled (R153)
  deriving DecidableEq, Repr

namespace State

/-- `reserve v` of R150 for the TX or RX counter of vault slot `n`: the checkpoint it appends and what the job does.
After a close the first use waits for an OPEN MARK (R156). -/
def reserve (s : State) (tx : Bool) (n v : Nat) : State × Resv :=
  let x := s.vslot n
  let d := if tx then x.txD else x.rxD
  let id := if tx then x.txI else x.rxI
  let p := if tx then x.txP else x.rxP
  let i := s.ckInterval
  let put := fun (s : State) =>
    let b := roundUp (max (d + id) (v - i / 2)) 256
    let x := s.vslot n
    (s.setVslot n (if tx then { x with txP := some b } else { x with rxP := some b })).appendCk ⟨tx, n, b⟩
  if s.vault.closed then
    if s.vault.stalled then (s, .stalled)
    else if s.vault.pages.any (fun g => g == .mark 1 none none none) then (s, .wait)
    else (s.queuePage (.mark 1 none none none), .wait)
  else if v ≥ d + id then
    if s.vault.stalled then (s, .stalled)
    else
      let s := match p with
        | none => put s
        | some q => if v ≥ q + i then put s else s
      ((s.flushLog).count R.CTX_WAITS 15 0, .wait)
  else if p = none ∧ v ≥ d + id / 2 then (put s, .ok)
  else (s, .ok)

/-- Every enrolled or retired slot state of group `g` (R151: slot k of group g is vault slot 20g + k). -/
def groupStates (s : State) (g : Nat) : List (Nat × VSlot) :=
  (List.range 20).map (fun k => (20 * g + k, s.vslot (20 * g + k)))

/-- Queues the GROUP page of vault slot `n`'s group. -/
def queueGroup (s : State) (n : Nat) (exact : Bool) : State :=
  s.queuePage (.group (n / 20) exact (s.groupStates (n / 20)) none)

end State

/-- The binding of domain `d` with the table epoch and vault range a MARK page records. -/
def Bind.record (b : Bind) (d : Nat) (ep : Option (Nat × Nat)) (rg : Option (Nat × Nat × Nat)) : Bind :=
  let b := match ep with
    | some e => if e.1 = d then { b with recEpoch := some e.2 } else b
    | none => b
  match rg with
  | some r => if r.1 = d then { b with vbase := r.2.1, vcnt := r.2.2 } else b
  | none => b

/-! ### Page encoding (05, Page formats) -/

/-- One bit step of CRC-32, reflected polynomial. -/
def crcStep (c : BitVec 32) : BitVec 32 := if c.getLsbD 0 then (c >>> 1) ^^^ 0xEDB88320 else c >>> 1

/-- CRC-32 of IEEE 802.3. -/
def crc32 (l : List Byte) : Nat :=
  let f := fun (c : BitVec 32) (b : Byte) => (List.range 8).foldl (fun c _ => crcStep c) (c ^^^ b.zeroExtend 32)
  (~~~(l.foldl f 0xFFFFFFFF)).toNat

/-- The TX and RX basis a GROUP page gives a slot: the durable bases, or with exact state the counters (R156). -/
def groupBasis (exact : Bool) (x : VSlot) : Nat × Nat × Bool :=
  if exact then (if x.tx ≤ 1 then 0 else roundUp x.tx 4096, x.rx, true)
  else (roundUp x.txD 4096, x.rxD, x.rxExact)

/-- A slot state of a GROUP page, 12 bytes. -/
def slotBytes (exact : Bool) (x : VSlot) : List Byte :=
  let b := groupBasis exact x
  leBytes 12 (b.2.1 + b.1 / 4096 * 2 ^ 48 + x.epoch * 2 ^ 84 + b2n (x.status == 1) * 2 ^ 92 +
    b2n (x.status == 2) * 2 ^ 93 + b2n x.rekey * 2 ^ 94 + b2n b.2.2 * 2 ^ 95)

/-- A checkpoint word. -/
def ckBytes (w : CkWord) : List Byte :=
  leBytes 8 ((if w.tx then 1 else 2) * 2 ^ 62 + w.slot * 2 ^ 44 + w.basis / 256)

namespace State

/-- The body of a page and its TYPE, CKL and GROUP fields. -/
def pageBody (s : State) (rtc : Nat) : VPage → Nat × Nat × Nat × List Byte
  | .log ckl ws => (1, ckl, 0, (ws.flatMap ckBytes) ++ List.replicate (8 * (30 - ws.length)) 0xFF)
  | .group g e l _ => (2, s.fld R.CTX_CFG 12 8, g,
      (l.take (if g = 13107 then 4 else 20)).flatMap (fun x => slotBytes e x.2) ++
        List.replicate (if g = 13107 then 192 else 0) 0)
  | .mark k ep rg _ => (3, s.fld R.CTX_CFG 12 8, 0,
      leBytes 8 (k * 2 ^ 56 + rtc) ++
        ((List.range 4).flatMap (fun d =>
          let b := (s.bind d).record d ep rg
          leBytes 8 (b.recEpoch.getD 0 * 2 ^ 32 + b2n b.recEpoch.isSome) ++ leBytes 8 (b.vcnt * 2 ^ 32 + b.vbase))) ++
        List.replicate 168 0)

/-- The 256 bytes of a page programmed with sequence number `q`. -/
def pageBytes (s : State) (rtc q : Nat) (p : VPage) : List Byte :=
  let b := s.pageBody rtc p
  let l := leBytes 8 (b.1 * 2 ^ 56 + b.2.1 * 2 ^ 51 + b.2.2.1 * 2 ^ 37 + q % 2 ^ 37) ++ b.2.2.2
  l ++ leBytes 8 (crc32 l * 2 ^ 32)

/-- Core address of the page with sequence number `q` (bank 2, programmed in order). -/
def pageAddr (q : Nat) : Nat := 0x09000000 + ((q - 1) % 32768) * 256

/-! ### A page made durable (R151, R154) -/

/-- A checkpoint word of a page with interval `2^ckl` and sequence `q` becomes the basis. -/
def ckDurable (s : State) (ckl q : Nat) (w : CkWord) : State :=
  let x := s.vslot w.slot
  if w.tx then s.setVslot w.slot { x with
    txD := w.basis, txI := 2 ^ ckl, txAt := q, txP := if x.txP = some w.basis then none else x.txP }
  else s.setVslot w.slot { x with
    rxD := w.basis, rxI := 2 ^ ckl, rxAt := q, rxExact := false, rxP := if x.rxP = some w.basis then none else x.rxP }

/-- A slot state of a GROUP page becomes the bases. -/
def groupDurable (s : State) (exact : Bool) (ckl q : Nat) (n : Nat) (c : VSlot) : State :=
  let b := groupBasis exact c
  let x := s.vslot n
  if c.status = 0 then s
  else s.setVslot n { x with
    txD := max b.1 (if c.txAt < x.txAt then x.txD else 0), txI := 2 ^ ckl, txAt := q
    rxD := max b.2.1 (if c.rxAt < x.rxAt then x.rxD else 0), rxI := 2 ^ ckl, rxAt := q, rxExact := b.2.2 }

/-- Every effect of a page becoming durable on the vault table and the log. -/
def pageDurable (s : State) (rtc : Nat) (p : VPage) : State :=
  let q := s.vault.seq + 1
  let s := s.setBytes (pageAddr q) (s.pageBytes rtc q p)
  let s := { s with vault := { s.vault with
    seq := q, pages := s.vault.pages.drop 1, prog := false, stalled := false, refused := false } }
  match p with
  | .log ckl ws => ws.foldl (fun s w => s.ckDurable ckl q w) s
  | .group g e l _ =>
    let ckl := s.fld R.CTX_CFG 12 8
    let s := l.foldl (fun s x => s.groupDurable e ckl q x.1 x.2) s
    { s with vault := { s.vault with gAt := Tbl.set (fun _ => 0) s.vault.gAt g q } }
  | .mark k ep rg _ =>
    let s := (List.range 4).foldl (fun s d => s.setBind d ((s.bind d).record d ep rg)) s
    let s := { s with vault := { s.vault with
      markAt := q, rangeBusy := if rg.isSome then false else s.vault.rangeBusy } }
    if k = 1 then { s with vault := { s.vault with opened := true, closed := false } }
    else if k = 2 then { s with vault := { s.vault with closed := true, closing := false, opened := false } }
    else s

end State
end Sys2Proof.Machine
end

