-- ==== Sys2Proof/Machine/Kst.lean ====
section
/-! DEFINITION. The key store's operations (09): owners, policies (R245-R248), filling and emptying slots (R244, R251),
invocation counters (R252) and the sealed image (R249-R251). -/

namespace Sys2Proof.Machine

/-! ### Policies -/

/-- Arena blocks a key takes (Key types table). -/
def arenaNeed (typ nbits : Nat) : Nat :=
  if typ = 0x12 then 1 else if typ = 0x20 then (7 * nbits / 16 + 4 + 255) / 256 else 0

/-- Usage bits a type allows, bits [16:4] of the policy word (R246). -/
def usageAllowed (typ nbits : Nat) : Word :=
  if typ = 0x01 then 0x000107F0
  else if typ = 0x02 then 0x00011FF0
  else if typ = 0x03 ∨ typ = 0x04 then 0x00000230
  else if typ = 0x10 ∨ typ = 0x11 ∨ typ = 0x12 then 0x00006200
  else if typ = 0x13 then 0x00004200
  else if typ = 0x14 then 0x00002200
  else if typ = 0x20 then 0x00008200
  else if typ = 0x30 then (if nbits = 256 then 0x00001600 else 0x00000600)
  else 0

/-- Modes a type allows, bits [31:24]. -/
def modesAllowed (typ : Nat) : Word :=
  if typ = 0x01 ∨ typ = 0x02 then 0x7F000000 else if typ = 0x03 ∨ typ = 0x04 then 0x80000000 else 0

/-- A policy suits its type (R246); SHARE, PERSIST and FW_ONLY suit every type, reserved bits are 0, and TABLE excludes
EXPORT, DERIVE and KEK. -/
def policyOk (typ nbits : Nat) (p : Word) : Bool :=
  (p &&& ~~~(usageAllowed typ nbits ||| modesAllowed typ ||| 0x0006000F)) == 0 &&
    !(bit p 11 && (bit p 8 || bit p 9 || bit p 10))

/-- A policy a host job may supply: SHARE 0, TABLE 0, FW_ONLY 0 and reserved bits 0 (R247). -/
def hostBitsOk (p : Word) : Bool := (p &&& 0x00FC080F) == 0

/-- Size of a key in bits, as the modes see it. -/
def keyBits (typ : Nat) : Nat :=
  if typ = 0x01 then 128 else if typ = 0x02 ∨ typ = 0x03 then 256 else if typ = 0x04 then 512 else 0

namespace State

/-! ### Owners and visibility -/

/-- The owner of slot `n`: a domain, or 4 for firmware (R243). -/
def slotOwner (s : State) (n : Nat) : Nat :=
  ((List.range 4).find? (fun d =>
    let r := R.KST_DOM_SL + d * 4
    decide (s.fld r 11 0 ≤ n) && decide (n < s.fld r 11 0 + s.fld r 28 16))).getD 4

/-- Domain `d` owns slot `n` or shares it (R26, R57). -/
def slotSeen (s : State) (d n : Nat) : Bool := s.slotOwner n == d || bit (s.slot n).policy d

/-- Slot `n` holds a usable key for a job of domain `d` (R248, steps 1 and 2). -/
def slotHas (s : State) (d n : Nat) : Bool := s.slotSeen d n && (s.slot n).st == .loaded

/-- Arena blocks in use (R242). -/
def arenaUsed (s : State) : Nat := (s.slots.map (fun e => arenaNeed e.2.typ e.2.nbits)).sum

/-! ### The image log -/

end State

/-- TYPE byte of an image record. -/
def ImgBody.code : ImgBody → Nat
  | .seal _ => 1 | .slot _ _ => 2 | .erase => 3 | .invoc _ => 4 | .ranges _ => 5 | .custody .. => 6

/-- The body of a record. The field order of the SLOT descriptor is DESIGN CHOICE (log entry 30): no reader sees it. -/
def ImgBody.bytes : ImgBody → List Byte
  | .seal kcv => kcv
  | .slot o k => leBytes 1 k.typ ++ leBytes 2 k.nbits ++ leBytes 1 o ++ leBytes 4 k.policy.toNat ++ leBytes 8 k.invR ++ k.mat
  | .erase => []
  | .invoc r => leBytes 8 r
  | .ranges l => l.flatMap (leBytes 4)
  | .custody id m n key => id ++ leBytes 1 m ++ leBytes 1 n ++ key

/-- The clear header of a record (R250). -/
def ImgRec.head (r : ImgRec) : List Byte :=
  leBytes 1 r.body.code ++ leBytes 2 r.slot ++ leBytes 2 r.body.bytes.length ++ leBytes 5 r.seq ++ zeros 6

/-- The bytes of a record as they stand in flash (R250). -/
def ImgRec.bytes (r : ImgRec) : List Byte := r.head ++ kwpWrap r.key (r.head ++ r.body.bytes)

/-- Pages a record takes. -/
def ImgRec.pages (r : ImgRec) : Nat := (16 + (16 + r.body.bytes.length + 7) / 8 * 8 + 8 + 255) / 256

namespace State

/-- Free sectors of the image region. -/
def imgFree (s : State) : Nat := 1024 - ((s.kst.page - s.kst.tail) + 15) / 16

/-- Asks leave for the first record waiting (R250, R251). In Lockdown no record is written (R41). -/
def imgKick (s : State) : State :=
  if s.kst.queue.isEmpty ∨ s.kst.prog ∨ !s.kst.imgOk ∨ s.hasLeave .image ∨ s.mode = .lockdown then s
  else (s.askFlash ⟨3, if s.jobs.any (fun j => j.stage == .wait .image) then 2 else 3, 1, s.kst.page / 16 % 1024, Blk.KST, 4,
    .image⟩).1

/-- Queues an image record. -/
def imgAppend (s : State) (slot : Nat) (body : ImgBody) (who : ImgWait) : State :=
  { s with kst := { s.kst with queue := s.kst.queue ++ [(⟨slot, 0, 0, [], body, who⟩ : ImgRec)] } }.imgKick

/-- A record becomes durable: it takes the next SEQ and pages, and stands in flash wrapped under K_seal, or under the
K_seal of before when a quench came while it was being programmed. -/
def imgDurable (s : State) (r : ImgRec) : State :=
  match (if r.key.isEmpty then s.kst.kseal else some r.key) with
  | none => s
  | some k =>
    let p := if s.kst.page % 16384 + r.pages > 16384 then roundUp s.kst.page 16384 else s.kst.page
    let r := { r with seq := s.kst.seq + 1, page := p, key := k }
    let s := s.setBytes (0x09800000 + (r.page % 16384) * 256) r.bytes
    { s with kst := { s.kst with
      seq := r.seq, page := r.page + r.pages, prog := false, queue := s.kst.queue.drop 1, log := s.kst.log ++ [r] } }

/-- Marks slot `n` changed since the last custody commit, if it is PERSIST (KST_SV0.DIRTY). -/
def markDirty (k : KSlot) : KSlot := { k with dirty := k.dirty || bit k.policy 17 }

/-! ### Filling and emptying slots -/

/-- A job's filled slot receives key `k` (R203, R244): at once for a volatile slot, once its SLOT record is durable for
a PERSIST slot (R251); too few arena blocks fail the job (R242). -/
def fillSlot (s : State) (j : Job) (n : Nat) (k : KSlot) (data : List Byte) (result detail : Nat) : State :=
  let need := arenaNeed k.typ k.nbits
  if need > 1536 - s.arenaUsed then s.failJob j St.KEY_DENIED 6 0 0x0188 need
  else if bit k.policy 17 then
    let k := { k with st := .reserved, invR := k.inv + 2 ^ 20, dirty := true }
    let s := s.setSlot n k
    let s := match s.laneOf j.id with
      | some l => s.laneEnd l none
      | none => s
    let s := s.modJob j.id (fun j => { j with
      stage := .wait .image, res := data, result := w32 result, detail := w32 detail })
    s.imgAppend n (.slot (s.slotOwner n) k) (.job j.id n {})
  else
    let s := (s.setSlot n { k with st := .loaded }).postOutput j data
    s.succeed j (w32 result) (w32 detail)

/-- A job empties a slot (R244, R257): its record first, for a PERSIST slot. -/
def emptySlot (s : State) (j : Job) (n : Nat) (data : List Byte) (result : Nat) : State :=
  let k := s.slot n
  let s := (s.setSlot n { ({} : KSlot) with dirty := bit k.policy 17 }).postOutput j data
  if bit k.policy 17 then
    let s := match s.laneOf j.id with
      | some l => s.laneEnd l none
      | none => s
    let s := s.modJob j.id (fun j => { j with
      stage := .wait .image, res := [], posted := data.length, result := w32 result, detail := 0 })
    s.imgAppend n .erase (.job j.id n k)
  else s.succeed j (w32 result) 0

/-! ### Invocation counters (R183, R252) -/

end State

/-- Taking an invocation value: the value, exhausted, or waiting for an INVOC record. -/
inductive InvRes where
  | value (c : Nat)
  | exhausted
  | wait
  deriving DecidableEq, Repr

namespace State

/-- Takes the invocation value of slot `n` (R183); in a PERSIST slot within its durable reservation (R252). -/
def takeInv (s : State) (n : Nat) : State × InvRes :=
  let k := s.slot n
  if k.inv ≥ 2 ^ 64 - 1 then (s, .exhausted)
  else if bit k.policy 17 ∧ k.inv ≥ k.invR then (s, .wait)
  else
    let k' := { k with inv := k.inv + 1 }
    if bit k.policy 17 ∧ k'.inv > k.invR - 2 ^ 19 ∧ k.invP = none then
      let s := s.setSlot n { k' with invP := some (k.invR + 2 ^ 20) }
      (s.imgAppend n (.invoc (k.invR + 2 ^ 20)) .none, .value k.inv)
    else (s.setSlot n k', .value k.inv)

/-! ### State keys (R238, R239) -/

/-- The root the state keys derive from: K_seal, or K_eph where no unseal runs. -/
def stateRoot (s : State) : Option (List Byte) :=
  match s.kst.kseal with
  | some k => some k
  | none => s.kst.keph

/-- The state key of domain `d` (R238): a function of the root and of HS_GEN, gone with the root. -/
def stateKey (s : State) (d : Nat) : List Byte :=
  match s.stateRoot with
  | none => []
  | some k => kdf k "ESN-STATE" (beBytes 1 d ++ beBytes 4 (s.port d).gen.toNat) 32

/-- The AES key bytes of a slot, for a KDF: a SECRET is reduced under R240. -/
def prfKey (k : KSlot) : List Byte := if k.typ = 0x30 then secretKey k.mat else k.mat

end State
end Sys2Proof.Machine
end

