-- ==== Sys2Proof/Machine/Access.lean ====
section
/-! DEFINITION. How a register write that has a row of its own is carried out or refused: the hold during a soft reset
(R17), the violation (R20), the lock (R11), and the backup RTC. -/

namespace Sys2Proof.Machine

namespace State

/-- A refused debug access (R20, R466): one message, the sticky error, and the count of DBG_DENY. -/
def dbgRefuse (s : State) (a : Nat) (kind : Nat) : State :=
  { (s.count R.DBG_DENY 15 0).faultBy Blk.DBG 0 kind a 4 Blk.DBG 0 with dbgErr := true }

/-- A refused register access (R20): one ACCESS_VIOLATION and the requester's error response; the access has no effect
(a pair's BUS exception, the debug master's sticky error). -/
def refuse (s : State) (rq : Rq) (a db di : Nat) : State :=
  match rq with
  | .pair p => s.busFault p a db di
  | .debug => s.dbgRefuse a Kind.ACCESS_VIOLATION

end State

/-- The keyed registers of R468. -/
def keyedReg (a : Nat) : Bool :=
  a ∈ [R.KST_FW_CMD, R.KST_FW_ARG, R.KST_CER_CMD, R.KST_QCTL, R.TAG_CRED_CMD, R.TAG_CRED_PW0, R.TAG_CRED_PW1, R.FLK_CLR,
    R.FLK_CFG, R.FLK_RESP, R.FLK_RTC_SET_LO, R.FLK_RTC_SET_HI, R.SKM_CLR, R.SYS_MREQ, R.SYS_PAIR, R.DBG_TCTR] ||
  (decide (R.KST_DOM_SL ≤ a) && decide (a < R.KST_DOM_SL + 16)) ||
  (decide (R.SKM_KCFG ≤ a) && decide (a < R.SKM_KCFG + 256)) ||
  (decide (0x20801000 ≤ a) && decide (a < 0x20802000)) || (decide (0x21002000 ≤ a) && decide (a < 0x21003000))

/-- The FLC command port. -/
def flcPort (a : Nat) : Bool :=
  a == R.FLC_CMD || a == R.FLC_ADDR || (decide (R.FLC_PBUF ≤ a) && decide (a < R.FLC_PBUF + 256))

/-- The debug pair controls (R469). -/
def dbgPairReg (a : Nat) : Bool := a == R.DBG_PAIRCTL || a == R.DBG_CREG_SEL || a == R.DBG_CREG_DATA

namespace State

/-- Bit `n` of the ticket's SCOPE in force. -/
def inScope (s : State) (n : Nat) : Bool := s.dbg.st == 1 && s.dbg.scope / 2 ^ n % 2 == 1

/-- The debug reach (R466-R468): none allows the access, else the kind its refusal is logged with. -/
def debugReach (s : State) (a : Nat) (wr : Bool) : Option Nat :=
  let deny := some Kind.ACCESS_VIOLATION
  let ok := fun (b : Bool) => if b then none else deny
  if otpSecret a ∨ (!wr ∧ s.xoHit a) then some Kind.DEBUG_DENIED
  else match area a with
    | .none | .host _ _ => deny
    | .reg _ _ _ _ =>
      if s.dbg.st = 2 then none
      else if wr ∧ keyedReg a then some Kind.DEBUG_DENIED
      else if wr then
        if a = R.DBG_TKT_CMD ∨ a = R.DBG_INJ_CMD ∨ (0x21001000 ≤ a ∧ a < 0x21002000) then none
        else if dbgPairReg a then ok (s.inScope 0 || s.inScope 1)
        else if flcPort a then ok (s.inScope 5)
        else ok (s.inScope 4)
      else if 0x21000000 ≤ a ∧ a < 0x21001000 then none
      else ok (s.inScope 2 || s.inScope 4 || (flcPort a && s.inScope 5))
    | .sram => ok (s.dbg.st == 2 || (if wr then s.inScope 3 else s.inScope 2))
    | .rom => ok (s.dbg.st == 2)
    | _ => ok (s.dbg.st == 2 || (!wr && s.inScope 2))

/-- Holds an access on the bus during a soft reset (R17). -/
def holdAcc (s : State) (b i : Nat) (x : HeldAcc) : State :=
  let h := s.hdr b i
  s.setHdr b i { h with held := h.held ++ [x] }

/-- Level of pair `p`. -/
def level (s : State) (p : Nat) : Nat := csPl (s.pair p).cs

/-- The Gate's answer for a core access of pair `p` whose first byte is `a` (R24 step 4, R296, R314): at level 1 or 2 the
GAT pages are refused and a region of the pair's bank must grant permission `k` (0 read, 1 write, 2 execute). -/
def gatePass (s : State) (p a k : Nat) : Bool :=
  let l := s.level p
  l == 0 ||
    (!(decide (0x20F00000 ≤ a) && decide (a < 0x20F04000)) &&
      s.gateGrants (csBank (s.pair p).cs) a (3 * l - 2 + k))

end State

/-- Registers that start work in their block: EN = 0 accepts none (00, BLK_CTRL). -/
def startReg (a : Nat) : Bool :=
  a ∈ [R.CRU_FW_CMD, R.CRU_UCTRL, R.CRU_UCTRL + 0x10000, R.CRU_UCTRL + 0x20000, R.KST_FW_CMD, R.KST_CER_CMD, R.FLC_CMD,
    R.TAG_CRED_CMD, R.CRD_CUST_CMD, R.RNG_CTRL, R.RNG_CAPT, R.DBG_TKT_CMD, R.DBG_INJ_CMD, R.FLK_RTC_MEAS]

namespace State

/-- A requester whose accesses can reach the bus: a running pair, or the debug master without its sticky error (R466). -/
def live (s : State) : Rq → Bool
  | .pair p => (s.pair p).run == .running
  | .debug => !s.dbgErr

/-- Why an access that the map decodes is refused before the register's own rules (R24 steps 3 and 4): the state after the
refusal, or none. -/
def barred (s : State) (rq : Rq) (a : Nat) (wr : Bool) : Option State :=
  match rq with
  | .pair p => if s.gatePass p a (b2n wr) then none else some (s.gateFault p a)
  | .debug => (s.debugReach a wr).map (fun k => s.dbgRefuse a k)

/-- BLK_LOCK.LOCK of an instance. -/
def locked (s : State) (b i : Nat) : Bool := (s.hdr b i).lock

/-- The register at `a` has RWL fields, and its instance is locked (R11). -/
def rwlShut (s : State) (b i a : Nat) : Bool :=
  s.locked b i && ((regRow a).map (fun r => decide (r.rwl ≠ 0))).getD false

/-- A write of `v` to the register at `a` of block `b`, instance `i`: held during a soft reset (a second SRST then does
nothing, R17), else `eff`, whose `none` is a refusal. A block with EN = 0 starts nothing. -/
def asWrite (s : State) (rq : Rq) (b i a : Nat) (v : Word) (eff : State → Option State) : State :=
  if !s.live rq then s
  else match s.barred rq a true with
  | some t => t
  | none =>
    if (s.hdr b i).srstBusy then s.holdAcc b i ⟨rq, a, some (if a % 0x1000 = 0x0C then v &&& 1 else v)⟩
    else if s.rwlShut b i a then s.refuse rq a b i
    else if startReg a && !(s.hdr b i).en then s
    else match eff s with
      | some t => t
      | none => s.refuse rq a b i

/-- A read of the register at `a` whose effect is `eff`, by a command of its own: barred, held (R17), or carried out. -/
def asRead (s : State) (rq : Rq) (b i a : Nat) (eff : State → State) : State :=
  if !s.live rq then s
  else match s.barred rq a false with
  | some t => t
  | none => if (s.hdr b i).srstBusy then s.holdAcc b i ⟨rq, a, none⟩ else eff s

/-- The requester is the pair that holds the SUPERVISOR role. -/
def isSup (s : State) : Rq → Bool
  | .pair p => (s.pair p).role == 1
  | .debug => false

end State
end Sys2Proof.Machine
end

