-- ==== Sys2Proof/Machine/Ec.lean ====
section
/-! DEFINITION. The elliptic-curve arithmetic of the Crucible (07 R198, R201, R203, R204, R209, R210). The curves'
constants are those of the standards R198 names (FIPS 186-5, RFC 7748, RFC 8032): PRESUMED, log entry 40. -/

namespace Sys2Proof.Machine

/-! ### The NIST curves y² = x³ − 3x + b -/

/-- A NIST curve: field prime, group order, b, base point and element length. -/
structure Curve where
  p : Nat
  n : Nat
  b : Nat
  gx : Nat
  gy : Nat
  len : Nat
  deriving DecidableEq, Repr

/-- NIST P-256. -/
def p256 : Curve :=
  { p := 2 ^ 256 - 2 ^ 224 + 2 ^ 192 + 2 ^ 96 - 1
    n := 0xFFFFFFFF00000000FFFFFFFFFFFFFFFFBCE6FAADA7179E84F3B9CAC2FC632551
    b := 0x5AC635D8AA3A93E7B3EBBD55769886BC651D06B0CC53B0F63BCE3C3E27D2604B
    gx := 0x6B17D1F2E12C4247F8BCE6E563A440F277037D812DEB33A0F4A13945D898C296
    gy := 0x4FE342E2FE1A7F9B8EE7EB4A7C0F9E162BCE33576B315ECECBB6406837BF51F5
    len := 32 }

/-- NIST P-384. -/
def p384 : Curve :=
  { p := 2 ^ 384 - 2 ^ 128 - 2 ^ 96 + 2 ^ 32 - 1
    n := 2 ^ 384 - 2 ^ 192 + 0xC7634D81F4372DDF581A0DB248B0A77AECEC196ACCC52973
    b := 0xB3312FA7E23EE7E4988E056BE3F82D19181D9C6EFE8141120314088F5013875AC656398D8A2ED19D2A85C8EDD3EC2AEF
    gx := 0xAA87CA22BE8B05378EB1C71EF320AD746E1D3B628BA79B9859F741E082542A385502F25DBF55296C3A545E3872760AB7
    gy := 0x3617DE4A96262C6F5D9E98BF9292DC29F8F41DBD289A147CE9DA3113B5F0B8C00A60B1CE1D7E819D7A431D7C90EA0E5F
    len := 48 }

/-- NIST P-521. -/
def p521 : Curve :=
  { p := 2 ^ 521 - 1
    n := 2 ^ 521 - 2 ^ 260 + 0xA51868783BF2F966B7FCC0148F709A5D03BB5C9B8899C47AEBB6FB71E91386409
    b := 0x51953EB9618E1C9A1F929A21A0B68540EEA2DA725B99B315F3B8B489918EF109E156193951EC7E937B1652C0BD3BB1BF073573DF883D2C34F1EF451FD46B503F00
    gx := 0xC6858E06B70404E9CD9E3ECB662395B4429C648139053FB521F828AF606B4D3DBAA14B5E77EFE75928FE1DC127A2FFA8DE3348B3C1856A429BF97E7E31C2E5BD66
    gy := 0x11839296A789A3BC0045C8A5FB42C7D1BD998F54449579B446817AFBD17273E662C97EE72995EF42640C550B9013FAD0761353C7086A272C24088BE94769FD16650
    len := 66 }

/-- The curve of algorithm codes 0x01 to 0x03. -/
def curveOf (alg : Nat) : Curve := if alg = 2 then p384 else if alg = 3 then p521 else p256

/-- The inverse modulo a prime. -/
def invMod (p a : Nat) : Nat := powMod p 521 a (p - 2)

/-- `a - b` modulo `p`. -/
def subMod (p a b : Nat) : Nat := (a % p + (p - b % p)) % p

namespace Curve

/-- The point is on the curve, with coordinates below p. -/
def onCurve (c : Curve) (x y : Nat) : Bool :=
  decide (x < c.p) && decide (y < c.p) && (y * y) % c.p == subMod c.p (x * x * x + c.b) (3 * x)

/-- Addition of points; none is the point at infinity. -/
def add (c : Curve) : Option (Nat × Nat) → Option (Nat × Nat) → Option (Nat × Nat)
  | none, q => q
  | p, none => p
  | some (x1, y1), some (x2, y2) =>
    if x1 = x2 ∧ (y1 + y2) % c.p = 0 then none
    else
      let l := if x1 = x2 then subMod c.p (3 * x1 * x1) 3 * invMod c.p (2 * y1 % c.p) % c.p
        else subMod c.p y2 y1 * invMod c.p (subMod c.p x2 x1) % c.p
      let x3 := subMod c.p (l * l) (x1 + x2)
      some (x3, subMod c.p (l * subMod c.p x1 x3) y1)

/-- `k` times a point; `fuel` bounds the bits of `k`. -/
def mul (c : Curve) : Nat → Nat → Option (Nat × Nat) → Option (Nat × Nat)
  | 0, _, _ => none
  | fuel + 1, k, p =>
    let r := c.mul fuel (k / 2) (c.add p p)
    if k % 2 = 1 then c.add p r else r

/-- `k` times the base point. -/
def mulBase (c : Curve) (k : Nat) : Option (Nat × Nat) := c.mul 640 k (some (c.gx, c.gy))

/-- Bits of the group order: 8 per element byte, but 521 for P-521. -/
def nBits (c : Curve) : Nat := if c.len = 66 then 521 else 8 * c.len

/-- The integer e of a digest (R201): its leftmost bits, reduced modulo n. -/
def digestInt (c : Curve) (d : List Byte) : Nat :=
  (fromBe d >>> (8 * d.length - min (8 * d.length) c.nBits)) % c.n

/-- An uncompressed point (R198). -/
def pointBytes (c : Curve) (q : Option (Nat × Nat)) : List Byte :=
  match q with
  | some (x, y) => [4] ++ beBytes c.len x ++ beBytes c.len y
  | none => zeros (1 + 2 * c.len)

/-- A scalar of 8L + 64 random bits reduced modulo n − 1, plus 1 (R209, R210). -/
def scalar (c : Curve) (l : List Byte) : Nat := fromBe (l.take (c.len + 8)) % (c.n - 1) + 1

/-- ECDSA over random material `m`: an attempt whose r or s is 0 is redrawn from the same material (R209). -/
def sign (c : Curve) (d e : Nat) : Nat → List Byte → List Byte
  | 0, _ => zeros (2 * c.len)
  | fuel + 1, m =>
    let k := c.scalar m
    let r := match c.mulBase k with
      | some (x, _) => x % c.n
      | none => 0
    let v := invMod c.n k * ((e + r * d) % c.n) % c.n
    if r = 0 ∨ v = 0 then c.sign d e fuel (m.drop (c.len + 8)) else beBytes c.len r ++ beBytes c.len v

/-- Every ECDSA verification check of R204. -/
def verify (c : Curve) (q : List Byte) (rs digest : List Byte) : Bool :=
  let x := fromBe (slice q 1 c.len)
  let y := fromBe (slice q (1 + c.len) c.len)
  let r := fromBe (slice rs 0 c.len)
  let v := fromBe (slice rs c.len c.len)
  let w := invMod c.n v
  let e := c.digestInt digest
  q.headD 0 == 4 && c.onCurve x y && decide (0 < r) && decide (r < c.n) && decide (0 < v) && decide (v < c.n) &&
    (match c.add (c.mulBase (e * w % c.n)) (c.mul 640 (r * w % c.n) (some (x, y))) with
      | none => false
      | some (x1, _) => x1 % c.n == r)

/-- ECDH: the x-coordinate of the shared point, none where R204 rejects the peer. -/
def agree (c : Curve) (d : Nat) (q : List Byte) : Option (List Byte) :=
  let x := fromBe (slice q 1 c.len)
  let y := fromBe (slice q (1 + c.len) c.len)
  if q.headD 0 != 4 ∨ !c.onCurve x y then none
  else match c.mul 640 d (some (x, y)) with
    | none => none
    | some (x1, _) => some (beBytes c.len x1)

end Curve

/-! ### X25519 (RFC 7748) -/

/-- The field prime 2^255 − 19. -/
def p25519 : Nat := 2 ^ 255 - 19

/-- The clamped scalar of 32 bytes. -/
def clamp (l : List Byte) : Nat :=
  let v := fromLe (l.take 32)
  v % 2 ^ 254 / 8 * 8 + 2 ^ 254

/-- The Montgomery ladder: `(x2, z2, x3, z3)` after the bits of `k` from bit `n − 1` down. -/
def ladder (u k : Nat) : Nat → Nat × Nat × Nat × Nat → Nat × Nat × Nat × Nat
  | 0, s => s
  | n + 1, (x2, z2, x3, z3) =>
    let p := p25519
    let sw := k / 2 ^ n % 2 = 1
    let (x2, z2, x3, z3) := if sw then (x3, z3, x2, z2) else (x2, z2, x3, z3)
    let a := (x2 + z2) % p
    let b := subMod p x2 z2
    let aa := a * a % p
    let bb := b * b % p
    let e := subMod p aa bb
    let da := subMod p x3 z3 * a % p
    let cb := (x3 + z3) * b % p
    let m := da + cb
    let d := subMod p da cb
    let r := (aa * bb % p, e * (aa + 121665 * e) % p, m * m % p, u * (d * d % p) % p)
    ladder u k n (if sw then (r.2.2.1, r.2.2.2, r.1, r.2.1) else r)

/-- The X25519 function on a u-coordinate. -/
def x25519 (k : List Byte) (u : Nat) : List Byte :=
  let r := ladder (u % p25519) (clamp k) 255 (1, 0, u % p25519, 1)
  leBytes 32 (r.1 * invMod p25519 r.2.1 % p25519)

/-- X25519 agreement: none where R204 rejects. -/
def xAgree (k peer : List Byte) : Option (List Byte) :=
  let u := fromLe (peer.take 32) % 2 ^ 255
  let o := x25519 k u
  if u ≥ p25519 ∨ o = zeros 32 then none else some o

/-! ### Ed25519 (RFC 8032) -/

/-- The order of the base point. -/
def ell : Nat := 2 ^ 252 + 27742317777372353535851937790883648493

/-- The curve constant d. -/
def edD : Nat := subMod p25519 0 (121665 * invMod p25519 121666)

/-- Addition on the twisted Edwards curve, affine and complete. -/
def edAdd (a b : Nat × Nat) : Nat × Nat :=
  let p := p25519
  let t := edD * (a.1 * b.1 % p) % p * (a.2 * b.2 % p) % p
  ((a.1 * b.2 + b.1 * a.2) % p * invMod p (1 + t) % p, (a.2 * b.2 + a.1 * b.1) % p * invMod p (subMod p 1 t) % p)

/-- `k` times a point. -/
def edMul : Nat → Nat → Nat × Nat → Nat × Nat
  | 0, _, _ => (0, 1)
  | fuel + 1, k, a =>
    let r := edMul fuel (k / 2) (edAdd a a)
    if k % 2 = 1 then edAdd a r else r

/-- Encoding of a point. -/
def edEnc (a : Nat × Nat) : List Byte := leBytes 32 (a.2 + a.1 % 2 * 2 ^ 255)

/-- Decoding of a canonical encoding (R204): none for y ≥ p, for x = 0 with the sign bit, or for no point. -/
def edDec (l : List Byte) : Option (Nat × Nat) :=
  let p := p25519
  let v := fromLe (l.take 32)
  let y := v % 2 ^ 255
  let sg := v / 2 ^ 255 % 2
  let u := subMod p (y * y) 1
  let w := (edD * (y * y % p) + 1) % p
  let x2 := u * invMod p w % p
  let r := powMod p 521 x2 ((p + 3) / 8)
  let r := if r * r % p = x2 then r else r * powMod p 521 2 ((p - 1) / 4) % p
  if y ≥ p ∨ r * r % p ≠ x2 ∨ (r = 0 ∧ sg = 1) then none
  else some (if r % 2 = sg then r else p - r, y)

/-- The base point: y = 4/5, x even. -/
def edBase : Nat × Nat := (edDec (leBytes 32 (4 * invMod p25519 5 % p25519))).getD (0, 1)

/-- Public value of a seed. -/
def edPublic (seed : List Byte) : List Byte := edEnc (edMul 256 (clamp (sha512 seed)) edBase)

/-- Ed25519 signature (R201). -/
def edSign (seed pub m : List Byte) : List Byte :=
  let h := sha512 seed
  let r := fromLe (sha512 (h.drop 32 ++ m)) % ell
  let rb := edEnc (edMul 256 r edBase)
  let k := fromLe (sha512 (rb ++ pub ++ m)) % ell
  rb ++ leBytes 32 ((r + k * clamp h) % ell)

/-- Every Ed25519 verification check of R204. -/
def edVerify (a rs m : List Byte) : Bool :=
  match edDec a, edDec (rs.take 32) with
  | some pa, some pr =>
    let v := fromLe (slice rs 32 32)
    let k := fromLe (sha512 (rs.take 32 ++ a ++ m)) % ell
    edMul 4 8 pa != (0, 1) && edMul 4 8 pr != (0, 1) && decide (v < ell) &&
      edMul 256 v edBase == edAdd pr (edMul 256 k pa)
  | _, _ => false

/-! ### Public values of private keys (Key types table) -/

/-- The public value kept beside a private key of algorithm `alg`. -/
def ecPublic (alg : Nat) (k : List Byte) : List Byte :=
  if alg = 4 then x25519 k 9 else if alg = 5 then edPublic k
  else (curveOf alg).pointBytes ((curveOf alg).mulBase (fromBe k))

end Sys2Proof.Machine
end

