-- ==== Sys2Proof/Machine/Lanes.lean ====
section
/-! DEFINITION. The lanes (06 R166-R171): waking, seeding, running blocks, fencing, going dormant; and the events that
drive them. -/

namespace Sys2Proof.Machine

namespace State

/-- The internal DRBG instance delivers (R224): STATE RUN and the instance instantiated. -/
def rngReady (s : State) : Bool := s.rng.st == .run && s.rng.internal

/-- Active lanes (A_k of R122). -/
def activeLanes (s : State) : Nat := ((List.range 9).filter (fun n => (s.lane n).active)).length

/-- Serving lanes (R166). -/
def servingLanes (s : State) : Nat :=
  ((List.range 9).filter (fun n => (s.lane n).serving && !s.arriving 0 n)).length

/-- A lane is left for the jobs that need one (R44, R132): one serves or is being brought in, or a spare is about to be. -/
def lanesLeft (s : State) : Bool :=
  (List.range 9).any (fun n => (s.lane n).serving) ||
    ((List.range 9).any (fun n => (s.lane n).st == .spare) && s.ris.due.any (fun x => x.1 == 0))

/-- The lowest-numbered idle lane of a running block instance. -/
def idleLane (s : State) : Option Nat :=
  (List.range 9).find? (fun n => (s.lane n).st == .idle && (s.hdr Blk.SYM n).en)

/-- The installs ready for a lane: vault state and record are there (R143). -/
def installsReady (s : State) : List Install :=
  s.installs.filter (fun i => i.vault && i.record.isSome && i.lane.isNone && i.ready.isNone)

/-- The install a free lane takes. -/
def installReady (s : State) : Option Install := s.installsReady.head?

/-- Jobs parked on index `i` of domain `d`, in the order of their misses. -/
def parkedOn (s : State) (d i : Nat) : List Job :=
  s.jobs.filter (fun j => j.stage == .parked && j.dom == d && j.key == .ctx i)

/-- Ends every job of a list in the same way. -/
def failAll (s : State) (l : List Job) (status stage cause detail : Nat) : State :=
  l.foldl (fun s j => s.failJob j status stage 0 cause detail) s

/-- An install fails: every job parked on it completes the same way (R28). -/
def failInstall (s : State) (d i status stage cause detail : Nat) : State :=
  let l := s.parkedOn d i
  let s := { s with installs := s.installs.filter (fun x => !(x.dom == d && x.idx == i)) }
  s.failAll l status stage cause detail

/-- Jobs that need a lane and have not been dispatched. -/
def laneWaiters (s : State) : List Job :=
  s.jobs.filter (fun j => j.kind == 0 && (j.stage == .ready || j.stage == .parked || j.stage == .parkWait))

/-- With no lane left, every ready or parked job that needs a lane completes (R132, cause 0x0110). DEDUCED, log entry 60. -/
def noLanes (s : State) : State :=
  if s.lanesLeft then s
  else
    let s := { s with installs := [] }
    s.failAll s.laneWaiters St.ENGINE_UNAVAILABLE 5 0x0110 0

/-- Counts an entry to PAUSED or UNSEEDED. -/
def countPause (s : State) (n : Nat) : State := s.count (symReg R.SYM_PAUSE n) 31 16

/-- Lane `n` loads an expander seed: a fresh free value (R171). -/
def loadSeed (s : State) (n : Nat) : State :=
  let s := s.modLane n (fun l => { l with seed := some s.fresh, next := none, since := 0 })
  ({ s with fresh := s.fresh + 1 }).count (symReg R.SYM_MASK n) 31 17

/-- Lane `n` processes the rest of a work of `total` blocks, switching to its next seed at block 65,536 (R171). Answers
false when it has to pause for a seed. -/
def laneRun (s : State) (n total : Nat) : State × Bool :=
  let l := s.lane n
  let room := 65536 - l.since
  let rest := total - l.done
  let add := fun (l : Lane) (k : Nat) => { l with done := l.done + k, blocks := (l.blocks + k) % 2 ^ 48 }
  if rest ≤ room then (s.modLane n (fun l => { add l rest with since := l.since + rest }), true)
  else match l.next with
    | none => ((s.modLane n (fun l => { add l room with since := 65536, st := .paused })).countPause n, false)
    | some q =>
      let s := (s.modLane n (fun l => { add l room with seed := some q, next := none, since := 0 })).count
        (symReg R.SYM_MASK n) 31 17
      if rest - room ≤ 65536 then (s.modLane n (fun l => { add l (rest - room) with since := rest - room }), true)
      else ((s.modLane n (fun l => { add l 65536 with since := 65536, st := .paused })).countPause n, false)

/-- Lane `n` goes dormant: keys, buffers and expander erased, tokens released (R168). -/
def laneDormant (s : State) (n : Nat) : State :=
  (s.modLane n (fun l => { l with
    st := .dormant, work := .none, done := 0, since := 0, seed := none, next := none })).releaseLeave (.lane n)

/-- What lane `n` runs is ended by event cause `cause`: its job completes with ENGINE_UNAVAILABLE and DETAIL the lane; an
install is restarted on another lane from the record fetched (R132). -/
def laneStop (s : State) (n cause : Nat) : State :=
  match (s.lane n).work with
  | .none => s
  | .job id => match s.job id with
    | none => s
    | some j => s.failJob j St.ENGINE_UNAVAILABLE 6 0 cause n
  | .install d i =>
    { s with installs := s.installs.map (fun x => if x.dom == d && x.idx == i then { x with lane := none } else x) }

/-- Lane `n` is fenced (R132, Lane states). -/
def fenceLane (s : State) (n : Nat) : State :=
  if !(s.lane n).serving then s.setFence Blk.SYM n 0
  else
    let s := s.laneStop n 0x0155
    let s := (s.modLane n (fun l => { l with
      st := .fenced, work := .none, done := 0, seed := none, next := none })).releaseLeave (.lane n)
    (s.setFence Blk.SYM n 0).noLanes

/-- Lane `n`'s known-answer test fails: KAT_FAIL, LANE_SELFTEST, and it is fenced (R169). -/
def laneKatFail (s : State) (n : Nat) : State :=
  let s := (s.count (symReg R.SYM_KAT n) 15 8).setFld (symReg R.SYM_KAT n) 0 0 0
  let s := (s.event Blk.SYM n 5).fault Blk.SYM n Kind.LANE_SELFTEST 0
  (s.noteFence 0 n (s.lane n).serving (some Kind.LANE_SELFTEST)).fenceLane n

end State

/-- LANE_ACTIVATION_DONE: with its leave and its seed, a waking lane's known-answer test of four blocks ends (R168
table, R169). -/
def execLaneActivationDone (n : Fin 9) (kat : Bool) (s : State) : Host.Outcome State Fault Refusal :=
  .next (
    let l := s.lane n
    if l.st ≠ .waking ∨ l.seed.isNone ∨ !s.leaveHeld.any (fun x => x.what == .lane n) then s
    else if kat then
      let s := s.modLane n (fun l => { l with st := .idle, since := 4, blocks := (l.blocks + 4) % 2 ^ 48 })
      (s.setFld (symReg R.SYM_KAT n) 0 0 1).event Blk.SYM n 2
    else s.laneKatFail n)

/-- LANE_IDLE_TIMEOUT (R168): an idle lane goes dormant while more than MIN_AWAKE lanes are active; IDLE 0 never. -/
def execLaneIdleTimeout (n : Fin 9) (s : State) : Host.Outcome State Fault Refusal :=
  .next (
    if (s.lane n).st = .idle ∧ s.fld R.SYM_CFG 15 0 ≠ 0 ∧ s.activeLanes > s.fld R.SYM_CFG 19 16 then
      (s.laneDormant n).event Blk.SYM n 3
    else s)

/-- LANE_SEED_ARRIVAL (R171): a seed from the internal DRBG instance reaches lane `n`; `waited` is the length of its
pause in 100 µs units. A waking lane loads it; a paused lane resumes; an unseeded lane becomes IDLE; a lane past block
57,344, or whose work passes it, keeps it for block 65,536. -/
def execLaneSeedArrival (n : Fin 9) (waited : Nat) (s : State) : Host.Outcome State Fault Refusal :=
  .next (
    let l := s.lane n
    let long := fun (s : State) =>
      s.setFld (symReg R.SYM_PAUSE n) 15 0 (max (s.fld (symReg R.SYM_PAUSE n) 15 0) (min 0xFFFF waited))
    if !s.rngReady then s
    else match l.st with
      | .waking => if s.leaveHeld.any (fun x => x.what == .lane n) then s.loadSeed n else s
      | .paused => ((long (s.loadSeed n)).modLane n (fun l => { l with st := .busy })).event Blk.SYM n 4
      | .unseeded => (long (s.loadSeed n)).modLane n (fun l => { l with st := .idle })
      | .idle | .busy =>
        if l.next.isNone && (decide (l.since ≥ 57344) || l.st == .busy) then
          { s.modLane n (fun l => { l with next := some s.fresh }) with fresh := s.fresh + 1 }
        else s
      | _ => s)

end Sys2Proof.Machine
end

