-- ==== Sys2Proof/Machine/Resolve.lean ====
section
/-! DEFINITION. Key resolution (R142, R159, R180, R188, R202, R203, R248, R257-R259), the miss park (R127) and jobs that
become ready. -/

namespace Sys2Proof.Machine

/-- Slot number a key handle names (R75). -/
def Job.keySlot (j : Job) : Nat := j.keyField % 4096
/-- Device index a key handle names (R75). -/
def Job.devIdx (j : Job) : Nat := j.keyField % 2 ^ 18
/-- MODE of opcodes 0x10 to 0x15 (R180). -/
def Job.mode (j : Job) : Nat := j.u 32 1
/-- FLAGS of opcodes 0x10 to 0x15: IV_GEN, STATE_IN, STATE_OUT. -/
def Job.ivGen (j : Job) : Bool := j.u 33 1 % 2 == 1
def Job.stateIn (j : Job) : Bool := j.u 33 1 / 2 % 2 == 1
def Job.stateOut (j : Job) : Bool := j.u 33 1 / 4 % 2 == 1
/-- STREAM of opcodes 0x10 to 0x15. -/
def Job.streamNo (j : Job) : Nat := j.u 36 2

/-- Policy bit of a mode code (R245, MODES). -/
def modeBit (m : Nat) : Nat := if m ≤ 6 then 23 + m else 22 + m

/-- Key type an algorithm code needs (R198, R202). -/
def algType (a : Nat) : Nat :=
  if a = 1 then 0x10 else if a = 2 then 0x11 else if a = 3 then 0x12 else if a = 4 then 0x13
  else if a = 5 then 0x14 else 0x20

/-- Element length of an algorithm (R198). -/
def algLen (a : Nat) : Nat := if a = 2 then 48 else if a = 3 then 66 else 32

/-- A key-resolution result: passed with a key, a failure, or a miss of a device index. -/
inductive Res where
  | pass (k : KeyRef)
  | fill (k : KeyRef) (n : Nat)
  | fail (status cause detail : Nat)
  | miss (idx : Nat)
  deriving DecidableEq, Repr

namespace State

/-- A filled slot qualifies: empty and owned by the domain (R203). -/
def fillOk (s : State) (d n : Nat) : Bool := s.slotOwner n == d && (s.slot n).st == .empty

/-- A KEK qualifies (R257): an AES key of the domain or shared with it, with KEK and KW or KWP. -/
def kekOk (s : State) (d n : Nat) : Bool :=
  let k := s.slot n
  s.slotHas d n && (k.typ == 1 || k.typ == 2) && bit k.policy 8 && (bit k.policy 28 || bit k.policy 29) &&
    !bit k.policy 18

/-- Steps 1 to 3 of R248: none when they pass. -/
def slotGate (s : State) (d n : Nat) : Option Res :=
  if !s.slotHas d n then some (.fail St.KEY_DENIED 0 0)
  else if bit (s.slot n).policy 18 then some (.fail St.KEY_DENIED 0x0149 n)
  else none

/-- Opcodes 0x10 to 0x15 (R180, R245, R188). -/
def resolveSym (s : State) (j : Job) : Res :=
  let n := j.keySlot
  let k := s.slot n
  let m := j.mode
  let suits := if m = 9 then k.typ == 3 || k.typ == 4 else k.typ == 1 || k.typ == 2
  let use := if j.op = 0x10 ∨ j.op = 0x14 then 4 else if j.op = 0x11 ∨ j.op = 0x15 then 5 else 6
  match s.slotGate j.dom n with
  | some r => r
  | none =>
    if !suits then .fail St.KEY_DENIED 0x0148 (keyBits k.typ + k.nbits)
    else if !bit k.policy use || !bit k.policy (modeBit m) ||
        (bit k.policy 7 && j.op == 0x10 && decide (1 ≤ m ∧ m ≤ 4) && !j.ivGen) then .fail St.KEY_DENIED 0x0149 n
    else
      let st := s.stream j.streamNo
      let same := st.qp == j.qp && st.key == n && st.op == j.op && st.mode == m
      if j.stateIn then
        if !st.bound then .fail St.KEY_DENIED 0x014B j.streamNo
        else if !same then .fail St.KEY_DENIED 0x014A j.streamNo
        else .pass (.slot n)
      else if j.stateOut ∧ st.bound then .fail St.KEY_DENIED 0x014A j.streamNo
      else .pass (.slot n)

/-- STREAM_SAVE and STREAM_RESTORE (R190, R191). -/
def resolveStream (s : State) (j : Job) : Res :=
  let n := j.keySlot
  let st := s.stream (j.u 32 2)
  let clear := j.u 34 1 % 2 == 1
  match s.slotGate j.dom n with
  | some r => r
  | none =>
    let bad := if j.op = 0x18 then !(st.bound && st.qp == j.qp && st.key == n) else st.bound
    if bad then .fail St.KEY_DENIED 0x014A (j.u 32 2)
    else if clear && !bit (s.slot n).policy 16 then .fail St.KEY_DENIED 0x014C n
    else .pass (.slot n)

/-- PK_SIGN, PK_AGREE, RSA_PRIV and PK_KEYGEN (R202, R203); `fw` is the firmware port, which owns every slot and may use
FW_ONLY ones (R215). -/
def resolvePk (s : State) (fw : Bool) (j : Job) : Res :=
  let n := j.keySlot
  let k := s.slot n
  let alg := j.u 32 1
  let dst := j.u 34 2
  let canFill := fun x => if fw then (s.slot x).st == .empty else s.fillOk j.dom x
  if j.op = 0x23 then
    if canFill n then .fill .none n else .fail St.KEY_DENIED 0x0164 n
  else
    match (if fw then (if k.st == .loaded then none else some (Res.fail St.KEY_DENIED 0 0)) else s.slotGate j.dom n) with
    | some r => r
    | none =>
      let use := if j.op = 0x20 then 13 else if j.op = 0x22 then 14 else 15
      if k.typ ≠ algType alg ∨ (alg = 8 ∧ k.nbits ≠ j.u 36 2) then .fail St.KEY_DENIED 0x0162 n
      else if !bit k.policy use then .fail St.KEY_DENIED 0x0163 n
      else if j.op = 0x22 then
        if canFill dst ∧ dst ≠ n then .fill (.slot n) dst else .fail St.KEY_DENIED 0x0164 dst
      else .pass (.slot n)

/-- WRAP, UNWRAP and DERIVE (R257-R259). -/
def resolveWrap (s : State) (j : Job) : Res :=
  let n := j.keySlot
  let other := j.u 32 2
  if j.op = 0x41 then
    if !s.fillOk j.dom n then .fail St.KEY_DENIED 0x0164 n
    else if !s.kekOk j.dom other then .fail St.KEY_DENIED 0x0180 other
    else .fill (.slot other) n
  else match s.slotGate j.dom n with
    | some r => r
    | none =>
      if j.op = 0x42 then
        if !bit (s.slot n).policy 10 then .fail St.KEY_DENIED 0x0149 n
        else if s.fillOk j.dom other then .fill (.slot n) other
        else .fail St.KEY_DENIED 0x0164 other
      else if s.slotOwner n ≠ j.dom then .fail St.KEY_DENIED 0 0
      else if j.u 34 1 / 2 % 2 = 1 then .pass (.slot n)
      else if !s.kekOk j.dom other then .fail St.KEY_DENIED 0x0180 other
      else if !bit (s.slot n).policy 9 then .fail St.KEY_DENIED 0x0181 n
      else .pass (.slot n)

/-- The bound table's key slot holds its key (R142 step 3). -/
def tableKey (s : State) (d : Nat) : Bool := (s.slot (s.bind d).keySlot).st == .loaded

/-- Step 1 of R142: none when the index is in a bound table. -/
def tableGate (s : State) (j : Job) : Option Res :=
  let b := s.bind j.dom
  if !b.bound ∨ b.unbinding then some (.fail St.NO_CONTEXT 0x0122 0)
  else if j.devIdx ≥ b.records then some (.fail St.NO_CONTEXT 0x0123 b.records)
  else none

/-- ENROL_PUT and ENROL_RETIRE (R159-R162); a FW_ONLY source is unusable (R248). DEDUCED, log entry 59. -/
def resolveEnrol (s : State) (j : Job) : Res :=
  let src := j.u 36 2
  let k := s.slot src
  match s.tableGate j with
  | some r => r
  | none =>
    if j.op = 0x51 then .pass .none
    else if !s.tableKey j.dom then .fail St.KEY_DENIED 0x0125 (s.bind j.dom).keySlot
    else if j.u 32 1 = 0 then
      if s.slotHas j.dom src && !bit k.policy 18 && bit k.policy 12 && k.mat.length == 32 then .pass (.slot src)
      else .fail St.KEY_DENIED 0x0127 src
    else if s.slotOwner src == j.dom && k.st == .loaded && !bit k.policy 18 && bit k.policy 11 then .pass (.slot src)
    else .fail St.KEY_DENIED 0x0127 src

/-- OPEN_FRAME and SEAL_FRAME (R142). An index closed by an enrolment command is a miss that starts no install
(R158). -/
def resolveFrame (s : State) (j : Job) : Res :=
  let i := j.devIdx
  match s.tableGate j with
  | some r => r
  | none =>
    if s.closedIdx.any (fun x => x.1 == j.dom && x.2.1 == i) then .miss i
    else match s.ctx j.dom i with
      | some c =>
        if c.policy / (if j.op = 0x01 then 1 else 2) % 2 = 1 then .pass (.ctx i)
        else .fail St.KEY_DENIED 0x0126 c.policy
      | none =>
        if s.tableKey j.dom then .miss i else .fail St.KEY_DENIED 0x0125 (s.bind j.dom).keySlot

/-- Key resolution of BIND_TABLE (R117, R245): the table key slot. DEDUCED, log entry 59. -/
def resolveBind (s : State) (j : Job) : Res :=
  let n := j.u 48 2
  let k := s.slot n
  if j.u 50 1 % 2 = 1 then .pass .none
  else if !(k.st == .loaded && s.slotOwner n == j.dom) then .fail St.KEY_DENIED 0x0125 n
  else if bit k.policy 18 then .fail St.KEY_DENIED 0x0149 n
  else if bit k.policy 11 then .pass (.slot n)
  else .fail St.KEY_DENIED 0x0125 n

/-- The key resolution of any job. -/
def resolveRes (s : State) (j : Job) : Res :=
  if j.op = 0x01 ∨ j.op = 0x02 then s.resolveFrame j
  else if 0x10 ≤ j.op ∧ j.op ≤ 0x15 then s.resolveSym j
  else if j.op = 0x18 ∨ j.op = 0x19 then s.resolveStream j
  else if j.op = 0x20 ∨ j.op = 0x22 ∨ j.op = 0x23 ∨ j.op = 0x24 then s.resolvePk false j
  else if 0x40 ≤ j.op ∧ j.op ≤ 0x42 then s.resolveWrap j
  else if j.op = 0x50 ∨ j.op = 0x51 then s.resolveEnrol j
  else if j.op = 0x84 then s.resolveBind j
  else .pass .none

/-! ### After key resolution -/

/-- A SEAL reserves its TX value before dispatch (R147, R150), behind the ready SEALs of its slot, or waits for the
checkpoint (DEDUCED, log entry 65). -/
def reserveAhead (s : State) (j : Job) : State :=
  let n := s.slotOf j.dom j.devIdx
  let k := (s.jobs.filter (fun x => x.id != j.id && x.op == 0x02 && x.stage == .ready &&
    s.slotOf x.dom x.devIdx == n)).length
  let v := (s.vslot n).tx + k
  let ready := fun (s : State) => s.modJob j.id (fun j => { j with stage := .ready })
  if v ≥ 2 ^ 48 - 1 then ready s
  else match s.reserve true n v with
    | (s, .stalled) => s.failJob j St.ENGINE_UNAVAILABLE 6 0 0x0132 0
    | (s, .wait) => s.modJob j.id (fun j => { j with stage := .wait .ckpt })
    | (s, .ok) => ready s

/-- A job is ready: it waits for a unit of its kind, or for its command. With no serving unit it ends at once (R132,
R196). -/
def makeReady (s : State) (j : Job) : State :=
  if j.kind = 0 ∧ !s.lanesLeft then s.failJob j St.ENGINE_UNAVAILABLE 5 0 0x0110 0
  else if j.kind = 1 ∧ (List.range 3).all (fun u => !(s.unit u).serving) then
    s.failJob j St.ENGINE_UNAVAILABLE 5 0 0x016A 0
  else if j.op = 0x02 then s.reserveAhead j
  else s.modJob j.id (fun j => { j with stage := .ready })

/-- The slot key a job keeps from key resolution on (R248). -/
def keyOf (s : State) (k : KeyRef) : KSlot :=
  match k with
  | .slot n => s.slot n
  | _ => {}

/-- A job passes key resolution: it holds its key, the slot it fills is RESERVED, a new stream is bound (R188, R203); its
input is read next. -/
def passKey (s : State) (j : Job) (k : KeyRef) (fill : Option Nat) : State :=
  let str := if 0x10 ≤ j.op ∧ j.op ≤ 0x15 ∧ (j.stateIn ∨ j.stateOut) then some j.streamNo
    else if j.op = 0x18 ∨ j.op = 0x19 then some (j.u 32 2) else none
  let s := match fill with
    | some n => s.setSlot n { s.slot n with st := .reserved }
    | none => s
  let s := if 0x10 ≤ j.op ∧ j.op ≤ 0x15 ∧ j.stateOut ∧ !j.stateIn then
      s.setStream j.streamNo { ({} : Stream) with
        bound := true, dom := j.dom, qp := j.qp, key := j.keySlot, op := j.op, mode := j.mode }
    else s
  let kek := if j.op = 0x40 ∧ j.u 34 1 / 2 % 2 = 0 then (s.slot (j.u 32 2)).mat else []
  let j := { j with key := k, fill := fill, stream := str, ks := s.keyOf k, kek := kek }
  let s := s.modJob j.id (fun _ => j)
  if j.input.length < min 16384 j.inTotal then s.modJob j.id (fun j => { j with stage := .input }) else s.makeReady j

/-- A missing job takes a park entry and starts or joins an install, or waits for an entry (R127, R142); with no lane
left it ends at once (R132). -/
def parkJob (s : State) (j : Job) (i : Nat) : State :=
  if !s.lanesLeft then s.failJob j St.ENGINE_UNAVAILABLE 5 0 0x0110 0
  else if s.parkRoom j.dom then
    let s := s.modJob j.id (fun j => { j with stage := .parked, key := .ctx i })
    if s.closedIdx.any (fun x => x.1 == j.dom && x.2.1 == i) ∨ s.installs.any (fun x => x.dom == j.dom && x.idx == i)
    then s
    else { s with installs := s.installs ++ [⟨j.dom, i, false, none, none, none⟩] }
  else
    let s := s.modJob j.id (fun j => { j with stage := .parkWait, key := .ctx i })
    (s.modPort j.dom (fun p => { p with parkQ := p.parkQ ++ [j.id] })).event Blk.TUN 0 2

/-- A frame job's lookup of the context cache, steps 2 and 3 of R142, counts as a hit or a miss. -/
def countLookup (s : State) (j : Job) (r : Res) : State :=
  match r with
  | .pass _ => (s.countWrap R.CTX_HITS 31 0).touchCtx j.dom j.devIdx
  | .miss _ => s.countWrap R.CTX_MISSES 31 0
  | .fail _ c _ =>
    if c = 0x0126 then (s.countWrap R.CTX_HITS 31 0).touchCtx j.dom j.devIdx
    else if c = 0x0125 then s.countWrap R.CTX_MISSES 31 0
    else s
  | .fill _ _ => s

/-- Key resolution of job `j` (stage 4), counting hits and misses of the context cache. -/
def resolve (s : State) (j : Job) : State :=
  let r := s.resolveRes j
  let s := if j.op = 0x01 ∨ j.op = 0x02 then s.countLookup j r else s
  match r with
  | .pass k => s.passKey j k none
  | .fill k n => s.passKey j k (some n)
  | .fail st c d => s.failJob j st 4 0 c d
  | .miss i => s.parkJob j i

/-- Park entries given back go to the jobs of the domain waiting for one, in the order of their misses (R127); each
looks its index up again. -/
def unpark (s : State) (d : Nat) : Nat → State
  | 0 => s
  | fuel + 1 =>
    match (s.port d).parkQ with
    | [] => s
    | id :: q =>
      if s.parkRoom d then
        let s := s.modPort d (fun p => { p with parkQ := q })
        (match s.job id with
          | some j => if j.stage = JStage.parkWait then s.resolve j else s
          | none => s).unpark d fuel
      else s

/-- Gives the domain's waiting jobs the park entries that are free. -/
def unparkAll (s : State) (d : Nat) : State := s.unpark d ((s.port d).parkQ.length + 1)

end State
end Sys2Proof.Machine
end

