-- ==== Sys2Proof/Machine/Sym.lean ====
section
/-! DEFINITION. What the lanes do with a job: field frames (R173-R179), general symmetric jobs (R180-R186), streams
(R188-R191), WRAP, UNWRAP and DERIVE (R257-R259). A job command takes effect on a job that runs on a BUSY lane. -/

namespace Sys2Proof.Machine

/-! ### Field frames -/

/-- Tag length of a suite (R173). -/
def suiteTag (su : Nat) : Nat := if su = 1 ∨ su = 3 then 16 else 8
/-- A suite is GCM. -/
def suiteGcm (su : Nat) : Bool := su == 1 || su == 2

/-- The nonce of R176: GCM 12 bytes, CCM the same and 0x00. -/
def frameNonce (su idx dir ep ctr : Nat) : List Byte :=
  beBytes 1 0 ++ beBytes 3 idx ++ beBytes 1 dir ++ beBytes 1 ep ++ beBytes 6 ctr ++
    (if suiteGcm su then [] else [0])

/-- The 16-byte frame header of R175. -/
def frameHeader (su idx ep dir flags ctr plen : Nat) : List Byte :=
  beBytes 1 1 ++ beBytes 1 su ++ beBytes 3 idx ++ beBytes 1 ep ++ beBytes 1 (dir * 128 + flags % 128) ++
    beBytes 1 0 ++ beBytes 6 ctr ++ beBytes 2 plen

/-- The ciphertext (or plaintext) of a frame's payload. -/
def frameX (su : Nat) (key nonce data : List Byte) : List Byte :=
  if suiteGcm su then gcmX key (gcmJ0 nonce) data else ccmX key nonce data

/-- The tag of a frame: GCM over the ciphertext, CCM over the plaintext. -/
def frameTag (su : Nat) (key nonce hdr pt ct : List Byte) : List Byte :=
  if suiteGcm su then (gcmTag key (gcmJ0 nonce) hdr ct).take (suiteTag su)
  else ccmTag key nonce hdr pt (suiteTag su)

/-- AES blocks of a frame of `n` payload bytes (R172 and the table's notes). -/
def frameBlocks (su n : Nat) : Nat :=
  let b := (n + 15) / 16
  if suiteGcm su then b + 2 else 2 * b + 4

/-- Lane time of a frame in tenths of a cycle (R172). -/
def frameTenths (su n : Nat) : Nat := 1600 + frameBlocks su n * (if suiteGcm su then 96 else 72)

namespace State

/-- The job `id`, of opcode `op`, running on a BUSY lane, and that lane. -/
def laneJob (s : State) (id op : Nat) : Option (Job × Nat) :=
  match s.job id, s.laneOf id with
  | some j, some n => if j.op = op ∧ j.stage = .running ∧ (s.lane n).st = .busy then some (j, n) else none
  | _, _ => none

/-- Charges a domain lane time, in tenths of a cycle of PLL_ENG (R122, R172). -/
def chargeLane (s : State) (d tenths : Nat) : State :=
  let c := Tbl.get (fun _ => (0 : Int)) s.credit (2 * d)
  { s with credit := Tbl.set (fun _ => (0 : Int)) s.credit (2 * d) (c - (64 * tenths : Nat)) }

/-- Runs the blocks of job `j` on lane `n` and, if the lane did not have to pause, charges them and goes on with `k`. -/
def onLane (s : State) (j : Job) (n blocks tenths : Nat) (k : State → State) : State :=
  let (s, ok) := s.laneRun n blocks
  if ok then k (s.chargeLane j.dom tenths) else s

/-! ### Counter commit (R148) -/

/-- A commit on context `c` begun before that of job `j` still waits (R148: one at a time; DEDUCED, log entry 65). -/
def commitBusy (s : State) (j : Job) (c : Ctx) : Bool :=
  s.jobs.any (fun x => x.id != j.id && x.op == 0x01 && x.stage == .wait .ckpt && x.key == .ctx c.idx && x.dom == c.dom &&
    (j.commit == 0 || decide (x.commit < j.commit)))

/-- An OPEN waits in its commit: its output is held, its lane released, and later commits on the context come after it. -/
def commitWait (s : State) (j : Job) (out : List Byte) : State :=
  let s := match s.laneOf j.id with
    | some l => s.laneEnd l none
    | none => s
  let k := (s.jobs.map (·.commit)).foldl max 0 + 1
  s.modJob j.id (fun x => { x with stage := .wait .ckpt, res := out, commit := if x.commit = 0 then k else x.commit })

/-- Judges and commits the counter of an opened frame, whose output is `out`; it may wait for a checkpoint with the
output held and the lane released. -/
def openCommit (s : State) (j : Job) (c : Ctx) (v : Nat) (out : List Byte) : State :=
  if s.commitBusy j c then s.commitWait j out
  else
    let n := s.slotOf c.dom c.idx
    let x := s.vslot n
    let h := x.rx
    let replay := fun (cause : Nat) => s.failJob j St.REPLAY 6 0 cause (h % 2 ^ 32)
    if x.doubt ∧ v < x.fHi then
      if v > x.lLo then
        ((s.count R.CTX_WAITS 31 16).event Blk.CTX 0 4).failJob j St.RESYNC_NEEDED 6 0 0x012F (x.fHi - v)
      else replay 0x012D
    else if v = 0 ∨ v + 63 < h then replay 0x012D
    else if v ≤ h ∧ c.map.getLsbD (h - v) then replay 0x012E
    else
      match s.reserve false n v with
      | (s, .stalled) => s.failJob j St.ENGINE_UNAVAILABLE 6 0 0x0132 0
      | (s, .wait) => s.commitWait j out
      | (s, .ok) =>
        let x := s.vslot n
        let m := if v > h then (c.map <<< (v - h)) ||| 1#64 else c.map ||| (1#64 <<< (h - v))
        let s := if v > h then s.setVslot n { x with rx := v, doubt := false } else s
        let upd := fun (y : Ctx) => if y.dom == c.dom && y.idx == c.idx then { y with map := m } else y
        let s := { s with ctxs := s.ctxs.map upd }
        s.deliver j out 0

/-- An OPEN_FRAME waiting in its reservation judges its counter again (R148, R150). -/
def recommit (s : State) (j : Job) : State :=
  match s.ctx j.dom j.devIdx with
  | some c => s.openCommit j c j.aux j.res
  | none => s

end State

/-- OPEN_FRAME (R178): the header checks in order, the tag, then the counter at commit. -/
def State.openFrame (s : State) (j : Job) (c : Ctx) : State :=
  let f := j.input
  let h := f.take 16
  let idx := fromBe (slice f 2 3)
  let su := leAt f 1 1
  let ep := leAt f 5 1
  let dir := leAt f 6 1 / 128
  let ctr := fromBe (slice f 8 6)
  let plen := fromBe (slice f 14 2)
  let t := suiteTag c.suite
  let hdrOut := j.u 32 1 % 2 = 1
  let need := plen + (if hdrOut then 16 else 0)
  let bad := fun (cause detail : Nat) => s.failJob j St.AUTH_FAIL 6 0 cause detail
  if leAt f 0 1 ≠ 1 ∨ leAt f 7 1 ≠ 0 then bad 0x0158 (leAt f 0 1 * 256 + leAt f 7 1)
  else if idx ≠ c.idx then bad 0x0159 idx
  else if su ≠ c.suite then bad 0x015A su
  else if ep ≠ c.kep then bad 0x015B ep
  else if dir = 0 then bad 0x015C 0
  else if j.inTotal ≠ 16 + plen + t then bad 0x015D plen
  else if need > j.outTotal then bad 0x015E need
  else
    let nonce := frameNonce c.suite c.idx 1 c.kep ctr
    let ct := slice f 16 plen
    let pt := frameX c.suite c.fkey nonce ct
    if frameTag c.suite c.fkey nonce h pt ct ≠ slice f (16 + plen) t then bad 0 0
    else
      let s := s.modJob j.id (fun j => { j with aux := ctr })
      s.openCommit { j with aux := ctr } c ctr ((if hdrOut then h else []) ++ pt)

/-- OPEN_FRAME. -/
def execOpenFrame (job : Nat) (s : State) : Host.Outcome State Fault Refusal :=
  .next (match s.laneJob job 0x01 with
    | none => s
    | some (j, n) => match s.ctx j.dom j.devIdx with
      | none => s
      | some c =>
        let p := j.inTotal - 16 - suiteTag c.suite
        s.onLane j n (frameBlocks c.suite p) (frameTenths c.suite p) (fun s => s.openFrame j c))

/-- SEAL_FRAME (R177): the counter was taken at dispatch (`aux`); header, ciphertext and tag are written. -/
def State.sealFrame (s : State) (j : Job) (c : Ctx) : State :=
  let h := frameHeader c.suite c.idx c.kep 0 (j.u 32 1) j.aux j.inTotal
  let nonce := frameNonce c.suite c.idx 0 c.kep j.aux
  let ct := frameX c.suite c.fkey nonce j.input
  s.deliver j (h ++ ct ++ frameTag c.suite c.fkey nonce h j.input ct) (w32 j.aux)

/-- SEAL_FRAME. -/
def execSealFrame (job : Nat) (s : State) : Host.Outcome State Fault Refusal :=
  .next (match s.laneJob job 0x02 with
    | none => s
    | some (j, n) => match s.ctx j.dom j.devIdx with
      | none => s
      | some c => s.onLane j n (frameBlocks c.suite j.inTotal) (frameTenths c.suite j.inTotal) (fun s => s.sealFrame j c))

/-! ### General symmetric jobs -/

namespace Job

/-- VALID_BYTES, TAG_LEN, NONCE_LEN, DU_LOG and AAD_LEN (R180). -/
def valid (j : Job) : Nat := j.u 34 1
def tagLen (j : Job) : Nat := j.u 35 1
def nonceLen (j : Job) : Nat := j.u 38 1
def duLog (j : Job) : Nat := j.u 39 1
def aadLen (j : Job) : Nat := j.u 40 4

/-- Bytes of the associated-data section (R181). -/
def aadSec (j : Job) : Nat := (j.aadLen + 15) / 16 * 16
/-- Bytes of the tag block: DEC in GCM and CCM, and MAC_VER (R181). -/
def tagSec (j : Job) : Nat := if (j.op = 0x11 ∧ (j.mode = 3 ∨ j.mode = 4)) ∨ j.op = 0x13 then 16 else 0
/-- Bytes of the payload section. -/
def payLen (j : Job) : Nat := j.inTotal - j.aadSec - j.tagSec
/-- Real payload bytes: the last block holds VALID_BYTES (R181). -/
def realLen (j : Job) : Nat := if j.mode = 5 ∨ j.mode = 6 then j.payLen else if j.payLen = 0 then 0 else j.payLen - 16 + j.valid

/-- The associated data, payload and expected tag of the input. -/
def aad (j : Job) : List Byte := j.input.take j.aadLen
def pay (j : Job) : List Byte := (j.input.drop j.aadSec).take j.payLen
def tagIn (j : Job) : List Byte := (j.input.drop (j.aadSec + j.payLen)).take j.tagLen

/-- The fixed field F of a device-generated IV, with the invocation value taken at dispatch (`aux`) (R183). -/
def fc (j : Job) : List Byte := slice j.e0 48 4 ++ beBytes 8 j.aux

/-- The IV of the job: given, or formed from F and c (R183). -/
def iv (j : Job) (key : List Byte) : List Byte :=
  if j.ivGen then
    if j.mode = 1 then j.fc ++ [0, 0, 0, 1]
    else if j.mode = 2 then aesEnc key (j.fc ++ zeros 4)
    else if j.mode = 4 then (j.fc ++ zeros 4).take j.nonceLen
    else j.fc
  else if j.mode = 3 then slice j.e0 48 12
  else if j.mode = 4 then slice j.e0 48 j.nonceLen
  else slice j.e0 48 16

/-- The IV block written as the first output block (R182, R183): only by a job that generates it. -/
def ivOut (j : Job) (key : List Byte) : List Byte := if j.ivGen then (j.iv key ++ zeros 16).take 16 else []

end Job

/-- The state a job starts from: the stream's, or the job's own IV (R188). -/
def symStart (j : Job) (st : Stream) (key : List Byte) : Stream :=
  if j.stateIn then st
  else
    let iv := j.iv key
    { st with
      blocks := 0, aad := if j.mode = 3 then j.aadLen else 0
      chain := if j.mode = 3 then ctrAt 4 (gcmJ0 iv) 1 else if j.mode = 8 then zeros 16 else iv
      j0 := if j.mode = 3 then gcmJ0 iv else []
      ghash := if j.mode = 3 then ghash (aesEnc key (zeros 16)) (zeros 16) j.aad else []
      held := [] }

/-- The output payload for the first bytes `p` of the payload, from start state `st`; the invalid bytes of the last
block are zero (R181, R184, R186). -/
def symBody (j : Job) (st : Stream) (key p : List Byte) : List Byte :=
  let m := j.mode
  let out :=
    if m = 1 ∨ m = 3 then ctrX key 4 st.chain p
    else if m = 2 then (if j.op = 0x10 then (cbcEnc key st.chain p).1 else (cbcDec key st.chain p).1)
    else if m = 4 then ccmX key (j.iv key) p
    else if m = 9 then xtsAll (j.op == 0x14) key (fromLe (slice j.e0 48 16)) j.duLog p
    else []
  out.take j.realLen ++ zeros (out.length - j.realLen)

/-- The running state after the payload `p` with output `o` (Stream state table). -/
def symNext (j : Job) (st : Stream) (key p o : List Byte) : Stream :=
  let m := j.mode
  let n := (p.length + 15) / 16
  let last := fun (l : List Byte) => l.drop (l.length - 16)
  if m = 1 then { st with blocks := st.blocks + n, chain := ctrAt 4 st.chain n }
  else if m = 2 then
    { st with blocks := st.blocks + n, chain := if p.isEmpty then st.chain else last (if j.op = 0x10 then o else p) }
  else if m = 3 then
    { st with
      blocks := st.blocks + n, chain := ctrAt 4 st.chain n
      ghash := ghash (aesEnc key (zeros 16)) st.ghash (o.take j.realLen) }
  else if m = 8 then
    let all := st.held ++ p.take j.realLen
    let k := (all.length - 1) / 16 * 16
    { st with blocks := st.blocks + n, chain := cmacRun key st.chain (all.take k), held := all.drop k }
  else st

/-- The tag of the job, 16 bytes or as many as the mode gives, from the start state `s0` and the state after (`s1`). -/
def symTag (j : Job) (s0 s1 : Stream) (key pt ct : List Byte) : List Byte :=
  if j.mode = 3 then
    xorB (aesEnc key s1.j0) (ghash (aesEnc key (zeros 16)) s1.ghash
      (lenBlock s1.aad (s0.blocks * 16 + ct.length)))
  else if j.mode = 4 then ccmTag key (j.iv key) j.aad pt j.tagLen
  else cmacEnd key s1.chain s1.held

/-- Blocks of a general symmetric job (R172). -/
def symBlocks (j : Job) : Nat :=
  let n := (j.payLen + 15) / 16
  let a := j.aadSec / 16
  if j.mode = 9 then n + j.payLen / 2 ^ j.duLog
  else if j.mode = 4 then 2 * n + a + 2
  else if j.mode = 5 ∨ j.mode = 6 then 6 * (j.payLen / 8)
  else if j.mode = 3 then n + a + 1
  else n

/-- Lane time of a job in tenths of a cycle: set-up, 40 cycles per further segment, and the block rate (R172). -/
def symTenths (j : Job) (keyLen : Nat) : Nat :=
  1200 + (j.inTotal - 1) / 16384 * 400 + symBlocks j * (if keyLen = 16 ∨ (j.mode = 9 ∧ keyLen = 32) then 72 else 96)

/-- Segments beyond the first `n` bytes. -/
def skipSegs : Nat → List (Nat × Nat × Nat) → List (Nat × Nat × Nat)
  | _, [] => []
  | n, (a, l, e) :: t => if l ≤ n then skipSegs (n - l) t else (a + n, l - n, e) :: t

namespace State

/-- What a job with a stream leaves in its slot: the state of a job that is not final, a free slot after a final one
(R188). -/
def putStream (s : State) (j : Job) (st : Stream) : State :=
  match j.stream with
  | none => s
  | some n => if j.stateOut then s.setStream n st else s.setStream n {}

/-- Posts the output not yet posted by earlier segments, and finishes (R128, R187). -/
def finishOut (s : State) (j : Job) (data : List Byte) : State :=
  let s := s.scatter j.dom (skipSegs j.posted j.outs) (data.drop j.posted)
  s.succeed j (w32 data.length) 0

/-- A segment of a job of more than one: the output its input so far gives is posted, if the job's output is written as
it is produced (R128, R187). -/
def postSegments (s : State) (j : Job) (key : List Byte) (n : Nat) : State :=
  if j.outTotal ≤ 16384 ∨ j.mode = 5 ∨ j.mode = 6 ∨ j.op = 0x12 ∨ j.op = 0x13 then s
  else
    let st := symStart j (s.stream j.streamNo) key
    let p := j.pay.take ((n - j.aadSec) / 16 * 16)
    let o := j.ivOut key ++ symBody j st key (if j.mode = 9 then p.take (p.length / 2 ^ j.duLog * 2 ^ j.duLog) else p)
    let s := s.scatter j.dom (skipSegs j.posted j.outs) (o.drop j.posted)
    s.modJob j.id (fun x => { x with posted := max j.posted o.length })

/-- The whole of opcodes 0x10 to 0x15 on a lane (R181-R188). -/
def symJob (s : State) (j : Job) : State :=
  let key := j.ks.mat
  let s0 := symStart j (s.stream j.streamNo) key
  let p := j.pay
  if j.mode = 5 ∨ j.mode = 6 then
    let r := if j.op = 0x10 then some (if j.mode = 5 then kwWrap key p else kwpWrap key p)
      else if j.mode = 5 then kwUnwrap key p else kwpUnwrap key p
    match r with
    | none => s.failJob j St.AUTH_FAIL 6 0 0 0
    | some o => s.deliver j o 0
  else
    let o := symBody j s0 key p
    let s1 := symNext j s0 key p o
    let pt := (if j.op = 0x11 then o else p).take j.realLen
    let ct := (if j.op = 0x11 then p else o).take j.realLen
    let s1 := if j.op = 0x11 ∧ j.mode = 3 then
        { s1 with ghash := ghash (aesEnc key (zeros 16)) s0.ghash ct } else s1
    let tag := symTag j s0 s1 key pt ct
    let tagBlock := (tag.take j.tagLen ++ zeros 16).take 16
    if j.op = 0x12 then
      (s.putStream j s1).finishOut j (j.ivOut key ++ (if j.stateOut then [] else tagBlock))
    else if j.op = 0x13 then
      if j.stateOut ∨ tag.take j.tagLen = j.tagIn then (s.putStream j s1).finishOut j []
      else s.failJob j St.AUTH_FAIL 6 0 0 0
    else if j.op = 0x11 ∧ (j.mode = 3 ∨ j.mode = 4) then
      if tag.take j.tagLen = j.tagIn then s.finishOut j o
      else
        let s := s.postSegments j key j.inTotal
        s.failJob ((s.job j.id).getD j) St.AUTH_FAIL 6 0 0 0
    else
      (s.putStream j s1).finishOut j (j.ivOut key ++ o ++
        (if (j.mode = 3 ∨ j.mode = 4) ∧ !j.stateOut then tagBlock else []))

/-- A general symmetric command on its lane: the whole input has arrived. -/
def symCmd (s : State) (id op : Nat) : State :=
  match s.laneJob id op with
  | none => s
  | some (j, n) =>
    if j.input.length < j.inTotal then s
    else s.onLane j n (symBlocks j) (symTenths j j.ks.mat.length) (fun s => s.symJob j)

end State

/-- ENC (R182). -/
def execEnc (job : Nat) (s : State) : Host.Outcome State Fault Refusal := .next (s.symCmd job 0x10)
/-- DEC (R182). -/
def execDec (job : Nat) (s : State) : Host.Outcome State Fault Refusal := .next (s.symCmd job 0x11)
/-- MAC_GEN (R182). -/
def execMacGen (job : Nat) (s : State) : Host.Outcome State Fault Refusal := .next (s.symCmd job 0x12)
/-- MAC_VER (R182). -/
def execMacVer (job : Nat) (s : State) : Host.Outcome State Fault Refusal := .next (s.symCmd job 0x13)
/-- XTS_ENC (R186). -/
def execXtsEnc (job : Nat) (s : State) : Host.Outcome State Fault Refusal := .next (s.symCmd job 0x14)
/-- XTS_DEC (R186). -/
def execXtsDec (job : Nat) (s : State) : Host.Outcome State Fault Refusal := .next (s.symCmd job 0x15)

/-! ### Stream state -/

/-- The 96 bytes of a stream's state (Stream state table). -/
def streamBytes (st : Stream) (clear : Bool) : List Byte :=
  let pad := fun (l : List Byte) => (l ++ zeros 16).take 16
  [1] ++ leBytes 1 st.mode ++ leBytes 1 st.op ++ leBytes 1 (b2n clear) ++ leBytes 2 st.qp ++ leBytes 2 st.key ++
    leBytes 8 st.blocks ++ leBytes 8 st.aad ++ zeros 8 ++ pad st.chain ++ pad st.ghash ++ pad st.j0 ++ pad st.held

/-- The stream state 96 bytes give. -/
def streamOf (d : Nat) (l : List Byte) : Stream :=
  let m := leAt l 1 1
  { bound := true, dom := d, qp := leAt l 4 2, key := leAt l 6 2, op := leAt l 2 1, mode := m, blocks := leAt l 8 8,
    aad := leAt l 16 8, chain := slice l 32 16, ghash := if m = 3 then slice l 48 16 else [],
    j0 := if m = 3 then slice l 64 16 else [], held := if m = 8 then slice l 80 16 else [] }

namespace State

/-- STREAM_SAVE (R190). -/
def streamSave (s : State) (j : Job) : State :=
  let clear := j.u 34 1 % 2 = 1
  let n := j.u 32 2
  let b := streamBytes (s.stream n) clear
  let s := if j.u 34 1 / 2 % 2 = 1 then s.setStream n {} else s
  s.deliver j (if clear then b else kwWrap (s.stateKey j.dom) b) 0

/-- STREAM_RESTORE (R191). -/
def streamRestore (s : State) (j : Job) : State :=
  let clear := j.u 34 1 % 2 = 1
  let n := j.u 32 2
  match (if clear then some j.input else kwUnwrap (s.stateKey j.dom) j.input) with
  | none => s.failJob j St.AUTH_FAIL 6 0 0 0
  | some b =>
    if leAt b 0 1 ≠ 1 ∨ leAt b 3 1 % 2 ≠ b2n clear then s.failJob j St.AUTH_FAIL 6 0 0x015F (leAt b 0 1)
    else if leAt b 4 2 ≠ j.qp ∨ leAt b 6 2 ≠ j.keySlot then s.failJob j St.KEY_DENIED 4 0 0x014A n
    else (s.setStream n (streamOf j.dom b)).succeed j 0 0

end State

/-- STREAM_SAVE. -/
def execStreamSave (job : Nat) (s : State) : Host.Outcome State Fault Refusal :=
  .next (match s.laneJob job 0x18 with
    | none => s
    | some (j, n) => s.onLane j n 72 7200 (fun s => s.streamSave j))

/-- STREAM_RESTORE. -/
def execStreamRestore (job : Nat) (s : State) : Host.Outcome State Fault Refusal :=
  .next (match s.laneJob job 0x19 with
    | none => s
    | some (j, n) => s.onLane j n 72 7200 (fun s => s.streamRestore j))

/-! ### WRAP, UNWRAP, DERIVE -/

/-- Private length of a key type's material in a key blob (Key blob table). -/
def blobMat (k : KSlot) : List Byte :=
  if k.typ = 0x10 then k.mat.take 32 else if k.typ = 0x11 then k.mat.take 48 else if k.typ = 0x12 then k.mat.take 66
  else if k.typ = 0x13 ∨ k.typ = 0x14 then k.mat.take 32 else k.mat

/-- The blob of a slot: FORMAT, TYPE, NBITS, POLICY with SHARE cleared, INVOC, MATERIAL. -/
def blobOf (k : KSlot) : List Byte :=
  [1] ++ leBytes 1 k.typ ++ leBytes 2 k.nbits ++ leBytes 4 ((k.policy &&& ~~~15#32).toNat) ++ leBytes 8 k.inv ++ blobMat k

/-- A blob's TYPE and NBITS are valid and agree with the length of its material (R258). -/
def blobOk (typ nbits len : Nat) : Bool :=
  if typ = 0x20 then decide (2048 ≤ nbits) && decide (nbits ≤ 4096) && nbits % 256 == 0 && len == 7 * nbits / 16 + 4
  else if typ = 0x30 then decide (8 ≤ nbits) && decide (nbits ≤ 528) && len == (nbits + 7) / 8
  else nbits == 0 && (
    (typ == 1 && len == 16) || (typ == 2 && len == 32) || (typ == 3 && len == 32) || (typ == 4 && len == 64) ||
    (typ == 0x10 && len == 32) || (typ == 0x11 && len == 48) || (typ == 0x12 && len == 66) ||
    (typ == 0x13 && len == 32) || (typ == 0x14 && len == 32))

/-- Slot material of a blob: private keys get their public value (Key types table). -/
def matOf (typ : Nat) (m : List Byte) : List Byte :=
  if typ = 0x10 then m ++ ecPublic 1 m else if typ = 0x11 then m ++ ecPublic 2 m
  else if typ = 0x12 then m ++ ecPublic 3 m else if typ = 0x13 then m ++ ecPublic 4 m
  else if typ = 0x14 then m ++ ecPublic 5 m else m

/-- The key a decrypted blob `b` gives an UNWRAP, or the failure of R258: status, cause, detail. -/
def blobKey (j : Job) (b : List Byte) : KSlot ⊕ (Nat × Nat × Nat) :=
  let typ := leAt b 1 1
  let nb := leAt b 2 2
  let m := b.drop 16
  let pol := w32 (leAt b 4 4) &&& w32 (j.u 36 4)
  if leAt b 0 1 ≠ 1 ∨ b.length < 16 ∨ !blobOk typ nb m.length then .inr (St.AUTH_FAIL, 0x0186, typ)
  else if !policyOk typ nb pol ∨ !hostBitsOk pol then .inr (St.KEY_DENIED, 0x0187, pol.toNat)
  else .inl { ({} : KSlot) with typ := typ, nbits := nb, policy := pol, inv := leAt b 8 8, mat := matOf typ m }

/-- Components of RSA material: n, e, p, q, dp, dq, qinv as numbers, for a modulus of `k` bytes. -/
def rsaPart (m : List Byte) (k i : Nat) : Nat :=
  if i = 0 then fromBe (slice m 0 k) else if i = 1 then fromBe (slice m k 4)
  else fromBe (slice m (k + 4 + (i - 2) * (k / 2)) (k / 2))

namespace State

/-- WRAP (R257): the blob under KWP, with ERASE the slot then emptied; DISCARD only empties it. -/
def wrapJob (s : State) (j : Job) : State :=
  let n := j.keySlot
  let fl := j.u 34 1
  if fl / 2 % 2 = 1 then s.emptySlot j n [] 0
  else
    let out := kwpWrap j.kek (blobOf { j.ks with inv := (s.slot n).inv })
    if fl % 2 = 1 then s.emptySlot j n out out.length else s.deliver j out 0

/-- UNWRAP on its lane (R258). An RSA key goes on to a Crucible unit for its check. -/
def unwrapJob (s : State) (j : Job) : State :=
  match kwpUnwrap j.ks.mat j.input with
  | none => s.failJob j St.AUTH_FAIL 6 0 0 0
  | some b =>
    match blobKey j b with
    | .inr (st, c, d) => s.failJob j st 6 0 c d
    | .inl k =>
      if k.typ = 0x20 then
        let s := match s.laneOf j.id with
          | some l => s.laneEnd l none
          | none => s
        s.modJob j.id (fun j => { j with stage := .ready, aux := 1, res := b })
      else s.fillSlot j j.keySlot k [] 0 j.keySlot

/-- DERIVE (R259, R241). -/
def deriveJob (s : State) (j : Job) : State :=
  let typ := j.u 34 1
  let len := if typ = 1 then 16 else if typ = 4 then 64 else 32
  if j.input.take 4 = ascii "ESN-" then s.failJob j St.KEY_DENIED 6 0 0x0185 0
  else
    let key := kdfRaw (prfKey j.ks) j.input len
    let k : KSlot := { ({} : KSlot) with
      typ := typ, nbits := if typ = 0x30 then 256 else 0, policy := w32 (j.u 36 4), mat := key }
    s.fillSlot j (j.u 32 2) k [] 0 (j.u 32 2)

end State

/-- WRAP. -/
def execWrap (job : Nat) (s : State) : Host.Outcome State Fault Refusal :=
  .next (match s.laneJob job 0x40 with
    | none => s
    | some (j, n) =>
      let b := 6 * ((blobOf j.ks).length / 8 + 1)
      s.onLane j n b (1200 + 96 * b) (fun s => s.wrapJob j))

/-- UNWRAP on its lane. -/
def State.unwrapLane (s : State) (job : Nat) : State :=
  match s.laneJob job 0x41 with
  | none => s
  | some (j, n) =>
    let b := 6 * (j.inTotal / 8)
    s.onLane j n b (1200 + 96 * b) (fun s => s.unwrapJob j)

/-- DERIVE. -/
def execDerive (job : Nat) (s : State) : Host.Outcome State Fault Refusal :=
  .next (match s.laneJob job 0x42 with
    | none => s
    | some (j, n) =>
      let b := 4 * ((j.inTotal + 8 + 15) / 16 + 1)
      s.onLane j n b (1200 + 96 * b) (fun s => s.deriveJob j))

end Sys2Proof.Machine
end

