-- ==== Sys2Proof/Machine/Ctx.lean ====
section
/-! DEFINITION. Installs (R143-R146), enrolment (R158-R163) and the counter vault's events (R151-R156). -/

namespace Sys2Proof.Machine

/-! ### Records (R139) -/

/-- The wrapped record of a device (R139, R160). -/
def recordOf (kwrap kmac : List Byte) (idx su ep pol : Nat) (root pub : List Byte) : List Byte :=
  let p := leBytes 3 idx ++ [1] ++ leBytes 1 su ++ leBytes 1 ep ++ leBytes 2 pol ++ root ++ (pub ++ zeros 32).take 32 ++ zeros 32
  kwWrap kwrap (p ++ cmac kmac p)

/-- The two keys of a table: key-slot material, domain, table epoch (05, The enrolment record). -/
def tableKeys (key : List Byte) (d ep : Nat) : List Byte × List Byte :=
  let c := beBytes 1 d ++ beBytes 4 ep
  (kdf key "ESN-TBL-WRAP" c 32, kdf key "ESN-TBL-MAC" c 32)

/-- A judged record: its plaintext, or the failure's cause and detail (RECORD_INVALID of R143). -/
def judgeRecord (kwrap kmac rec : List Byte) (idx : Nat) (x : VSlot) : List Byte ⊕ (Nat × Nat) :=
  match kwUnwrap kwrap rec with
  | none => .inr (0x0128, 0)
  | some p =>
    if cmac kmac (p.take 104) ≠ slice p 104 16 then .inr (0x0128, 0)
    else if leAt p 0 3 ≠ idx ∨ leAt p 3 1 ≠ 1 then .inr (0x0129, leAt p 0 3 + leAt p 3 1 * 2 ^ 24)
    else if leAt p 4 1 = 0 ∨ leAt p 4 1 > 4 ∨ leAt p 6 2 ≥ 8 then .inr (0x0134, leAt p 4 1 + leAt p 6 2 * 2 ^ 16)
    else if x.status = 0 then .inr (0x012B, 0x100)
    else if leAt p 5 1 < x.epoch then .inr (0x012A, x.epoch)
    else if leAt p 5 1 > x.epoch then .inr (0x012B, x.epoch)
    else .inl p

namespace State

/-! ### Installs -/

/-- The install of an index, if any. -/
def install (s : State) (d i : Nat) : Option Install := s.installs.find? (fun x => x.dom == d && x.idx == i)

/-- Applies `f` to an install. -/
def modInstall (s : State) (d i : Nat) (f : Install → Install) : State :=
  { s with installs := s.installs.map (fun x => if x.dom == d && x.idx == i then f x else x) }

/-- An install fails, and the domain's waiting jobs get its park entries (R28, R127). -/
def endInstall (s : State) (d i status stage cause detail : Nat) : State :=
  (s.failInstall d i status stage cause detail).unparkAll d

/-- Without an active lane, the ready jobs `p` picks and the ready installs with a parked one among them end with
ENGINE_UNAVAILABLE (R28, R44, R171). -/
def endWaiters (s : State) (p : Job → Bool) (stage cause : Nat) : State :=
  if s.activeLanes = 0 then
    let l := s.installsReady.filter (fun x => (s.parkedOn x.dom x.idx).any p)
    let s := s.failAll (s.jobs.filter (fun j => j.kind == 0 && j.stage == .ready && p j)) St.ENGINE_UNAVAILABLE stage cause 0
    l.foldl (fun s x => s.endInstall x.dom x.idx St.ENGINE_UNAVAILABLE stage cause 0) s
  else s

/-- Wakes the lowest-numbered dormant lane unless one is waking (R167): it asks 35 tokens. A refusal ends the jobs and
the installs that need the lane when no lane is active (R44, R446). DEDUCED, log entry 60. -/
def wakeLane (s : State) : State :=
  if s.mode = .lockdown ∨ (List.range 9).any (fun n => (s.lane n).st == .waking) then s
  else match (List.range 9).find? (fun n => (s.lane n).st == .dormant && (s.hdr Blk.SYM n).en) with
    | none => s
    | some n =>
      let (s, no) := s.askLeave Blk.SYM n 35 (.lane n)
      if no then s.endWaiters (fun _ => true) 5 0
      else s.modLane n (fun l => { l with st := .waking, seed := none, next := none })

/-- The least recently used entry an install of domain `d` may take (R146). -/
def victim (s : State) (d : Nat) : Option Ctx :=
  s.ctxs.find? (fun c => !s.pinned c.dom c.idx &&
    (c.dom == d || decide ((s.ctxs.filter (fun x => x.dom == c.dom)).length > s.fld (R.CTX_DOM_CR + c.dom * 0x10) 12 0)))

/-- A parked job whose context is there leaves the park and rechecks POLICY (R143 step 5). -/
def unparkHit (s : State) (c : Ctx) (j : Job) : State :=
  if c.policy / (if j.op = 0x01 then 1 else 2) % 2 = 1 then s.passKey j (.ctx c.idx) none
  else s.failJob j St.KEY_DENIED 4 0 0x0126 c.policy

/-- Installs context `c` in a cache entry, evicting a victim if the cache is full (R143 step 5, R145, R146); it waits
when no entry may be taken. -/
def placeCtx (s : State) (c : Ctx) : State :=
  let go := fun (s : State) =>
    let l := s.parkedOn c.dom c.idx
    let s := { s with
      ctxs := s.ctxs ++ [c]
      installs := s.installs.filter (fun x => !(x.dom == c.dom && x.idx == c.idx)) }
    (l.foldl (fun s j => s.unparkHit c j) s).unparkAll c.dom
  if s.ctxs.length < s.variant.contexts then go s
  else match s.victim c.dom with
    | some v => go (s.evict (fun x => x.dom == v.dom && x.idx == v.idx))
    | none => s.modInstall c.dom c.idx (fun x => { x with ready := some c })

/-- Judges the record of an install and derives its frame key (R143 steps 3 and 4, R174). -/
def judgeInstall (s : State) (d i : Nat) (rec : List Byte) : State :=
  let b := s.bind d
  let x := s.vslot (s.slotOf d i)
  if !s.tableKey d then s.endInstall d i St.KEY_DENIED 4 0x0125 b.keySlot
  else if x.status = 2 then s.endInstall d i St.NO_CONTEXT 4 0x0124 x.epoch
  else match judgeRecord b.kwrap b.kmac rec i x with
    | .inr (c, dt) => s.endInstall d i St.RECORD_INVALID 4 c dt
    | .inl p =>
      let su := leAt p 4 1
      let root := slice p 8 32
      s.placeCtx { dom := d, idx := i, suite := su, kep := leAt p 5 1, policy := leAt p 6 2, root := root,
                   fkey := kdf root "ESN-FRAME" (beBytes 3 i ++ beBytes 1 (leAt p 5 1) ++ beBytes 1 su)
                     (if suiteGcm su then 32 else 16)
                   pub := slice p 40 32, map := BitVec.allOnes 64 }

end State

/-- LANE_SEED_TIMEOUT (R171): 50 ms without a seed make a waking or paused lane UNSEEDED; the job it runs, the jobs of
the install it runs, and, while no lane is seeded, the jobs `late` ready for 50 ms and the installs they are parked on end
with ENGINE_UNAVAILABLE, cause 0x0154. -/
def execLaneSeedTimeout (n : Fin 9) (late : List Nat) (s : State) : Host.Outcome State Fault Refusal :=
  .next (
    let l := s.lane n
    if l.st ≠ .waking ∧ l.st ≠ .paused then s
    else
      let s := match l.work with
        | .job id => match s.job id with
          | some j => s.failJob j St.ENGINE_UNAVAILABLE 6 0 0x0154 0
          | none => s
        | .install d i => s.endInstall d i St.ENGINE_UNAVAILABLE 6 0x0154 0
        | .none => s
      let s := (s.modLane n (fun l => { l with
        st := .unseeded, work := .none, done := 0, seed := none, next := none })).countPause n
      s.endWaiters (fun j => late.contains j.id) 6 0x0154)

/-- VAULT_TABLE_READ_RETURN (R143): the vault table serves its reads first in, first out; a RETIRED or NONE slot ends
the install. -/
def execVaultTableReadReturn (s : State) : Host.Outcome State Fault Refusal :=
  .next (match s.installs.find? (fun x => !x.vault) with
    | none => s
    | some x =>
      let v := s.vslot (s.slotOf x.dom x.idx)
      if v.status = 2 then s.endInstall x.dom x.idx St.NO_CONTEXT 4 0x0124 v.epoch
      else if v.status = 0 then s.endInstall x.dom x.idx St.RECORD_INVALID 4 0x012B 0x100
      else s.modInstall x.dom x.idx (fun x => { x with vault := true }))

/-- RECORD_FETCH_COMPLETION (R143): the 128-byte record of an install arrives, or its jobs end with HOST_MEM_FAULT,
causes 4 to 6. -/
def execRecordFetchCompletion (d : Port) (idx : Nat) (r : ReadRes) (s : State) : Host.Outcome State Fault Refusal :=
  .next (match s.install d idx with
    | none => s
    | some x =>
      if x.record.isSome then s
      else match r with
        | .ok l => s.modInstall d idx (fun x => { x with record := some (slice l 0 128) })
        | .unsuccessful => s.endInstall d idx St.HOST_MEM_FAULT 4 4 0
        | .poisoned => s.endInstall d idx St.HOST_MEM_FAULT 4 5 0
        | .timeout => s.endInstall d idx St.HOST_MEM_FAULT 4 6 0)

/-- INSTALL_DONE (R143): lane `n` ends the unwrap, check and frame-key derivation, 960 cycles charged to the domain of
the miss (R122); the lane then is IDLE. -/
def execInstallDone (n : Fin 9) (s : State) : Host.Outcome State Fault Refusal :=
  .next (match (s.lane n).work with
    | .install d i =>
      if (s.lane n).st ≠ .busy then s
      else match (s.install d i).bind (·.record) with
        | none => s
        | some rec =>
          let (s, ok) := s.laneRun n 99
          if ok then ((s.chargeLane d 9600).laneEnd n none).judgeInstall d i rec else s
    | _ => s)

/-- INSTALL_ENTRY_FREE (R145): an install waiting at step 5 takes an entry that can now be taken. -/
def execInstallEntryFree (d : Port) (idx : Nat) (s : State) : Host.Outcome State Fault Refusal :=
  .next (match (s.install d idx).bind (·.ready) with
    | none => s
    | some c => s.placeCtx c)

/-! ### Enrolment -/

namespace State

/-- The enrolment command is the first on its index and no job is pinned there (R158). -/
def enrolTurn (s : State) (j : Job) : Bool :=
  ((s.closedIdx.find? (fun x => x.1 == j.dom && x.2.1 == j.devIdx)).map (·.2.2)) == some j.id && !s.pinned j.dom j.devIdx

/-- Evicts the context of an index. -/
def evictIdx (s : State) (d i : Nat) : State := s.evict (fun c => c.dom == d && c.idx == i)

/-- Writes the group page of vault slot `n` with its state replaced by `x`; job `j` waits for it with its output, result
and detail. A stalled vault ends it (R153). -/
def groupWrite (s : State) (j : Job) (n : Nat) (x : VSlot) (out : List Byte) (result detail : Nat) : State :=
  if s.vault.stalled then s.failJob j St.ENGINE_UNAVAILABLE 6 0 0x0132 0
  else
    let s := match s.laneOf j.id with
      | some l => s.laneEnd l none
      | none => s
    let s := s.modJob j.id (fun j => { j with
      stage := .wait .mark, res := out, result := w32 result, detail := w32 detail })
    let l := (s.groupStates (n / 20)).map (fun y => if y.1 = n then (n, x) else y)
    s.flushLog.queuePage (.group (n / 20) false l (some j.id))

/-- ENROL_PUT NEW (R160). -/
def enrolNew (s : State) (j : Job) : State :=
  let n := s.slotOf j.dom j.devIdx
  let v := s.vslot n
  let b := s.bind j.dom
  if v.status ≠ 0 ∧ v.epoch = 255 then s.failJob j St.COUNTER_EXHAUSTED 6 0 0x0131 255
  else
    let ep := if v.status = 0 then 0 else v.epoch + 1
    let rec' := recordOf b.kwrap b.kmac j.devIdx (j.u 33 1) ep (j.u 34 2 + (if j.inTotal = 0 then 0 else 4))
      j.ks.mat j.input
    let x : VSlot := { status := 1, epoch := ep, rxExact := true }
    (s.evictIdx j.dom j.devIdx).groupWrite j n x rec' 128 ep

/-- ENROL_PUT REWRAP (R161). -/
def enrolRewrap (s : State) (j : Job) : State :=
  let x := s.vslot (s.slotOf j.dom j.devIdx)
  let b := s.bind j.dom
  let old := tableKeys j.ks.mat j.dom (j.u 38 4)
  if x.status = 2 then s.failJob j St.NO_CONTEXT 4 0 0x0124 x.epoch
  else match judgeRecord old.1 old.2 (j.input.take 128) j.devIdx x with
    | .inr (c, d) => s.failJob j St.RECORD_INVALID 4 0 c d
    | .inl p =>
      let s := s.evictIdx j.dom j.devIdx
      s.deliver j (recordOf b.kwrap b.kmac j.devIdx (leAt p 4 1) (leAt p 5 1) (leAt p 6 2) (slice p 8 32) (slice p 40 32)) 0

end State

/-- ENROL_PUT (R160, R161). -/
def execEnrolPut (job : Nat) (s : State) : Host.Outcome State Fault Refusal :=
  .next (match s.laneJob job 0x50 with
    | none => s
    | some (j, n) =>
      if j.u 32 1 = 0 then s.onLane j n 97 10600 (fun s => s.enrolNew j)
      else s.onLane j n 206 21000 (fun s => s.enrolRewrap j))

/-- ENROL_RETIRE (R162): the slot becomes RETIRED and keeps its epoch, once its group page is durable. -/
def execEnrolRetire (job : Nat) (s : State) : Host.Outcome State Fault Refusal :=
  .next (match s.job job with
    | none => s
    | some j =>
      if j.op ≠ 0x51 ∨ j.stage ≠ .ready ∨ !s.enrolTurn j then s
      else
        let n := s.slotOf j.dom j.devIdx
        let v := s.vslot n
        (s.evictIdx j.dom j.devIdx).groupWrite j n { v with status := 2 } [] 0 v.epoch)

/-- The group pages of the evicted contexts' slots, with exact state (R163): one per group. -/
def flushGroups (s : State) (l : List Ctx) : List Nat := (l.map (fun c => s.slotOf c.dom c.idx / 20)).eraseDups

/-- CTX_FLUSH evicts contexts `l` as it finds them unpinned and, with DURABLE, writes their groups' pages (R163). -/
def State.flushDo (s : State) (j : Job) (l : List Ctx) : State :=
  let durable := j.u 32 1 % 2 = 1
  let gs := if durable then flushGroups s l else []
  let s := s.evict (fun c => l.contains c)
  if gs.isEmpty then s.succeed j (w32 l.length) 0
  else if s.vault.stalled then s.failJob j St.ENGINE_UNAVAILABLE 6 0 0x0132 0
  else
    let s := s.modJob j.id (fun j => { j with stage := .wait .mark, seg := gs.length, result := w32 l.length })
    gs.foldl (fun s g => s.queuePage (.group g true (s.groupStates g) (some j.id))) s.flushLog

/-- CTX_FLUSH (R163): it takes effect once no context concerned is pinned (R158, R141). -/
def execCtxFlush (job : Nat) (s : State) : Host.Outcome State Fault Refusal :=
  .next (match s.job job with
    | none => s
    | some j =>
      let l := s.ctxs.filter (fun c => c.dom == j.dom && (j.keyField == 0 || c.idx == j.devIdx))
      if j.op ≠ 0x52 ∨ j.stage ≠ .ready ∨ (j.keyField ≠ 0 ∧ !s.enrolTurn j) ∨
          l.any (fun c => s.pinned c.dom c.idx) then s
      else s.flushDo j l)

/-! ### The vault -/

namespace State

/-- The table of a BIND_TABLE is bound (R117, R136). -/
def bindNow (s : State) (j : Job) : State :=
  let k := tableKeys j.ks.mat j.dom (j.u 44 4)
  let s := s.setBind j.dom { s.bind j.dom with
    bound := true, unbinding := false, base := j.u 32 8, records := j.u 40 4, epoch := j.u 44 4, keySlot := j.u 48 2
    kwrap := k.1, kmac := k.2 }
  s.succeed j (w32 (j.u 40 4)) (w32 (j.u 44 4))

/-- What a durable page finishes (R136, R160-R163): the vault slot of an enrolment takes its new state first. -/
def pageJob (s : State) (id : Nat) (l : List (Nat × VSlot)) : State :=
  match s.job id with
  | none => s
  | some j =>
    if j.stage ≠ .wait .mark then s
    else if j.op = 0x84 then s.bindNow j
    else if j.op = 0x52 then
      if j.seg ≤ 1 then s.succeed j j.result 0 else s.modJob id (fun j => { j with seg := j.seg - 1 })
    else
      let n := s.slotOf j.dom j.devIdx
      let s := match l.find? (fun x => x.1 == n) with
        | some x => s.setVslot n (if j.op = 0x50 then
            { x.2 with txI := (s.vslot n).txI, rxI := (s.vslot n).rxI, txAt := s.vault.seq, rxAt := s.vault.seq }
          else { s.vslot n with status := 2 })
        | none => s
      (s.postOutput j j.res).succeed j j.result j.detail

/-- Jobs waiting for a checkpoint that is now durable try again (R150): a SEAL before dispatch, an OPEN at commit. -/
def ckptRetry (s : State) : State :=
  (s.jobs.filter (fun j => j.stage == .wait .ckpt)).foldl (fun s j =>
    let x := s.vslot (s.slotOf j.dom j.devIdx)
    if j.op = 0x01 then
      let l := s.jobs.filter (fun y => y.stage == .wait .ckpt && y.op == 0x01 && y.key == j.key && y.dom == j.dom)
      match l.find? (fun y => l.all (fun z => decide (y.commit ≤ z.commit))) with
      | some y => if x.rxP.isNone then s.recommit y else s
      | none => s
    else if x.txP.isNone then s.makeReady j else s) s

/-- The first page becomes durable (R151): its effect on the vault table, the jobs it finishes, and the next page. -/
def firstDurable (s : State) (p : VPage) : State :=
  s.rtcNow (fun t s =>
    let s := (s.pageDurable t p).releaseLeave .vaultPage
    let s := match p with
      | .group _ _ l (some id) => s.pageJob id l
      | .mark _ _ _ (some id) => s.pageJob id []
      | _ => s
    s.ckptRetry.vaultKick)

end State

/-- VAULT_PAGE_FLUSH_TIMER (R151): a part-filled LOG page is programmed. -/
def execVaultPageFlushTimer (s : State) : Host.Outcome State Fault Refusal :=
  .next (if s.mode = .lockdown then s else s.flushLog)

/-- VAULT_PAGE_DURABLE (R151): a page program, other than of a CLOSE MARK, completes and verifies. -/
def execVaultPageDurable (s : State) : Host.Outcome State Fault Refusal :=
  .next (match s.vault.pages with
    | [] => s
    | p :: _ => if !s.vault.prog ∨ p = .mark 2 none none none then s else s.firstDurable p)

/-- VAULT_CLOSE_COMPLETE (R156): the CLOSE MARK becomes durable; CLOSED and BEVT.CLOSE_DONE are set. -/
def execVaultCloseComplete (s : State) : Host.Outcome State Fault Refusal :=
  .next (match s.vault.pages with
    | [] => s
    | p :: _ => if s.vault.prog ∧ p = .mark 2 none none none then (s.firstDurable p).event Blk.CTX 0 5 else s)

namespace State

/-- Groups with a newest entry in the oldest sector (R152). -/
def liveGroups (s : State) : List Nat :=
  let lo := s.vault.tail
  let old := fun (q : Nat) => decide (lo < q) && decide (q ≤ lo + 16)
  ((s.vslots.filter (fun (e : Nat × VSlot) => e.2.status != 0 && (old e.2.txAt || old e.2.rxAt))).map
      (fun (e : Nat × VSlot) => e.1 / 20) ++
    (s.vault.gAt.filter (fun (e : Nat × Nat) => old e.2)).map (fun (e : Nat × Nat) => e.1)).eraseDups

/-- One round of compaction (R152): the pages the oldest sector needs are queued; once it holds nothing live, its erase
asks 12 tokens. -/
def compact (s : State) : State :=
  let gs := s.liveGroups.filter (fun g => !s.vault.pages.any (fun p => match p with
    | .group h _ _ _ => h == g
    | _ => false))
  let mk := decide (s.vault.tail < s.vault.markAt) && decide (s.vault.markAt ≤ s.vault.tail + 16)
  let s := { s with vault := { s.vault with compacting := true } }
  if mk ∧ !s.vault.pages.contains (.mark 4 none none none) then
    (gs.foldl (fun s g => s.queueGroup (20 * g) false) s).queuePage (.mark 4 none none none)
  else if !gs.isEmpty then gs.foldl (fun s g => s.queueGroup (20 * g) false) s
  else if s.liveGroups.isEmpty ∧ !mk ∧ !s.hasLeave .vaultErase ∧ s.vault.tail + 16 ≤ s.vault.seq then
    (s.askFlash ⟨2, 5, 2, s.vault.tail / 16 % 2048, Blk.CTX, 12, .vaultErase⟩).1
  else s

/-- The erase of the oldest sector ends: the log starts one sector later (R152). -/
def vaultErased (s : State) : State :=
  let a := pageAddr (s.vault.tail / 16 * 16 + 1)
  let s := (s.forget a (a + 4096)).releaseLeave .vaultErase
  { s with vault := { s.vault with tail := s.vault.tail / 16 * 16 + 16, compacting := false } }.vaultKick

end State

/-- VAULT_COMPACTION (R152): with fewer than 64 free sectors, or a sector found too old, the oldest is compacted. -/
def execVaultCompaction (s : State) : Host.Outcome State Fault Refusal :=
  .next (if (s.vaultFree < 64 ∨ s.vault.compacting) ∧ s.mode ≠ .lockdown then s.compact else s)

/-- VAULT_REFRESH (R152): a REFRESH MARK is written; `old` says that the oldest sector is older than 90 days of RTC time
and is compacted. -/
def execVaultRefresh (old : Bool) (s : State) : Host.Outcome State Fault Refusal :=
  .next (
    if s.mode = .lockdown then s
    else
      let s := s.queuePage (.mark 4 none none none)
      if old then s.compact else s)

/-- VAULT_STALL (R153): every job waiting on a vault page ends with ENGINE_UNAVAILABLE, cause 0x0132, and its pages are
dropped; STALLED, VAULT_STALL. Not in Lockdown. -/
def execVaultStall (s : State) : Host.Outcome State Fault Refusal :=
  .next (
    if s.mode = .lockdown ∨ s.vault.pages.isEmpty then s
    else
      let w := s.jobs.filter (fun j => j.stage == .wait .ckpt || j.stage == .wait .mark)
      let s := { s with vault := { s.vault with
        stalled := true, rangeBusy := s.vault.rangeBusy
        pages := s.vault.pages.filter (fun p => match p with
          | .group _ _ _ (some _) => false
          | .mark _ _ _ (some _) => false
          | _ => true) } }
      let s := (s.event Blk.CTX 0 3).fault Blk.CTX 0 Kind.VAULT_STALL 0
      w.foldl (fun s j => s.failJob j St.ENGINE_UNAVAILABLE (if j.op = 0x84 then 4 else 6) 0 0x0132 0) s)

/-- VAULT_LEAVE_RETRY (R153): a page refused leave asks again. -/
def execVaultLeaveRetry (s : State) : Host.Outcome State Fault Refusal :=
  .next (if s.vault.refused then s.vaultKick else s)

namespace State

/-- A group's counters have advanced since its newest GROUP page (R156). -/
def advanced (x : VSlot) : Bool :=
  x.status != 0 && (groupBasis true x != (x.txD, x.rxD, true) || !x.rxExact)

/-- Starts a close (R156): pending words, a GROUP page with exact state for every group whose counters advanced, then
the CLOSE MARK. -/
def closeVault (s : State) : State :=
  let gs := ((s.vslots.filter (fun e => advanced e.2)).map (fun e => e.1 / 20)).eraseDups
  let s := gs.foldl (fun s g => s.queueGroup (20 * g) true) s.flushLog
  ({ s with vault := { s.vault with closing := true } }).queuePage (.mark 2 none none none)

/-- A write of CTX_CTRL (05, CTX_CTRL): CLOSE is a violation outside Hold; OPEN writes an OPEN MARK if CLOSED. -/
def ctxCtrlWrite (s : State) (v : Word) : Option State :=
  if bit v 0 ∧ s.mode ≠ .hold then none
  else
    let s := if bit v 0 ∧ !s.vault.closing ∧ !s.vault.closed then s.closeVault else s
    some (if bit v 1 ∧ s.vault.closed ∧ !s.vault.pages.contains (.mark 1 none none none) then
      s.queuePage (.mark 1 none none none) else s)

/-- A write of CTX_CFG (R151): out of range refused; the open LOG page is programmed first when CKL changes. -/
def ctxCfgWrite (s : State) (v : Word) : Option State :=
  if bits v 12 8 < 8 ∨ bits v 12 8 > 16 ∨ bits v 7 0 = 0 then none
  else
    let s := if bits v 12 8 ≠ s.fld R.CTX_CFG 12 8 then s.flushLog else s
    some (s.setReg R.CTX_CFG (v &&& 0x1FFF))

/-- A write of CTX_DOM_VB[d] or CTX_DOM_VC[d] (R134, R135): refused while the domain has a table bound, or
when ranges would overlap or pass slot 262,143; otherwise recorded in a DOMAIN MARK page before it takes effect. -/
def rangeWrite (s : State) (d : Nat) (cnt : Bool) (v : Word) : Option State :=
  let vb := fun x => s.fld (R.CTX_DOM_VB + x * 0x10) 17 0
  let vc := fun x => s.fld (R.CTX_DOM_VC + x * 0x10) 18 0
  let b := if cnt then vb d else bits v 17 0
  let n := if cnt then bits v 18 0 else vc d
  let clash := (List.range 4).any (fun x =>
    x != d && decide (n ≠ 0) && decide (vc x ≠ 0) && decide (b < vb x + vc x) && decide (vb x < b + n))
  if (s.bind d).bound ∨ clash ∨ b + n > 262144 then none
  else
    let s := if cnt then s.setReg (R.CTX_DOM_VC + d * 0x10) (w32 n) else s.setReg (R.CTX_DOM_VB + d * 0x10) (w32 b)
    some (({ s with vault := { s.vault with rangeBusy := true } }).queuePage (.mark 3 none (some (d, b, n)) none))

end State

/-- CLOSE: firmware writes CTX_CTRL.CLOSE (R156). -/
def execCloseVault (rq : Rq) (s : State) : Host.Outcome State Fault Refusal :=
  .next (s.asWrite rq Blk.CTX 0 R.CTX_CTRL 1 (fun s => s.ctxCtrlWrite 1))

/-- OPEN: firmware writes CTX_CTRL.OPEN (R156). -/
def execOpenVault (rq : Rq) (s : State) : Host.Outcome State Fault Refusal :=
  .next (s.asWrite rq Blk.CTX 0 R.CTX_CTRL 2 (fun s => s.ctxCtrlWrite 2))

/-- VAULT_RANGE_WRITE: a write of CTX_DOM_VB[d] (`cnt` false) or CTX_DOM_VC[d] (R135). -/
def execVaultRangeWrite (rq : Rq) (d : Port) (cnt : Bool) (v : Word) (s : State) : Host.Outcome State Fault Refusal :=
  .next (s.asWrite rq Blk.CTX 0 ((if cnt then R.CTX_DOM_VC else R.CTX_DOM_VB) + d * 0x10) v
    (fun s => s.rangeWrite d cnt v))

/-- CKL_WRITE: a write of CTX_CFG (R151). -/
def execCklWrite (rq : Rq) (v : Word) (s : State) : Host.Outcome State Fault Refusal :=
  .next (s.asWrite rq Blk.CTX 0 R.CTX_CFG v (fun s => s.ctxCfgWrite v))

end Sys2Proof.Machine
end

