-- ==== Sys2Proof/Machine/Cru.lean ====
section
/-! DEFINITION. The Crucible (07): what a unit computes (R198-R205, R209-R211), its duration, wipe and release (R206,
R212), early ends (R213), tests (R197, R218) and the firmware job port (R215). A job's command acts while its unit is
BUSY; CRU_DURATION_END and CRU_WIPE_DONE then end the duration. -/

namespace Sys2Proof.Machine

/-! ### Operand checks (R198-R200) -/

namespace Job

/-- ALG, DST_SLOT, NBITS and POLICY of opcodes 0x20 to 0x25 (R199). -/
def alg (j : Job) : Nat := j.u 32 1
def dstSlot (j : Job) : Nat := j.u 34 2
def nbits (j : Job) : Nat := j.u 36 2
def pol (j : Job) : Word := w32 (j.u 40 4)
/-- IN_LEN and OUT_LEN of the FIRST entry. -/
def inLen (j : Job) : Nat := j.u 24 4
def outLen (j : Job) : Nat := j.u 28 4

end Job

/-- Algorithm codes an opcode accepts (R198). -/
def pkAlgOk (op alg : Nat) : Bool :=
  if op = 0x20 ∨ op = 0x21 then alg ∈ [1, 2, 3, 5]
  else if op = 0x22 then alg ∈ [1, 2, 3, 4]
  else if op = 0x23 then alg ∈ [1, 2, 3, 4, 5]
  else alg == 8

/-- NBITS suits the algorithm (R199). -/
def pkNbitsOk (alg nb : Nat) : Bool :=
  if alg = 8 then decide (2048 ≤ nb) && decide (nb ≤ 4096) && nb % 256 == 0 else nb == 0

/-- Type and size of the key an opcode fills a slot with (R203). -/
def pkFillType (op alg : Nat) : Nat × Nat := if op = 0x22 then (0x30, 8 * algLen alg) else (algType alg, 0)

/-- POLICY is accepted (R199, R246, R247); firmware may set the bits a host may not. -/
def pkPolOk (fw : Bool) (op alg : Nat) (p : Word) : Bool :=
  if op = 0x22 ∨ op = 0x23 then
    policyOk (pkFillType op alg).1 (pkFillType op alg).2 p && (fw || hostBitsOk p)
  else p == 0

/-- The limits of IN_LEN and the output size of R200. -/
def pkLimits (op alg nb : Nat) : Nat × Nat × Nat :=
  let l := algLen alg
  let k := nb / 8
  if op = 0x20 then (if alg = 5 then (0, 16288, 64) else (20, 64, 2 * l))
  else if op = 0x21 then (if alg = 5 then (96, 16384, 0) else (1 + 4 * l + 20, 1 + 4 * l + 64, 0))
  else if op = 0x22 then (if alg = 4 then (32, 32, 0) else (1 + 2 * l, 1 + 2 * l, 0))
  else if op = 0x23 then (0, 0, if alg = 4 ∨ alg = 5 then 32 else 1 + 2 * l)
  else if op = 0x24 then (k, k, k)
  else (2 * k + 4, 2 * k + 4, k)

/-- The length check of R200: cause and detail. -/
def pkLenBad (j : Job) : Option (Nat × Nat) :=
  let (lo, hi, out) := pkLimits j.op j.alg j.nbits
  if j.inLen < lo ∨ hi < j.inLen then some (2, j.inLen)
  else if out = 0 ∧ j.outLen ≠ 0 then some (2, j.inLen)
  else if j.outLen < out then some (4, out)
  else none

/-! ### Classes and durations (R207) -/

/-- RSA class step of a modulus length. -/
def rsaStep (nb : Nat) : Nat := if nb ≤ 2048 then 0 else if nb ≤ 3072 then 1 else 2

/-- The operation class of an opcode, algorithm and modulus length. -/
def pkClass (op alg nb : Nat) : Nat :=
  if op = 0x24 then 0x12 + rsaStep nb else if op = 0x25 then 0x15 + rsaStep nb
  else if alg = 4 then (if op = 0x22 then 0x0D else 0x0E)
  else if alg = 5 then (if op = 0x20 then 0x0F else if op = 0x21 then 0x10 else 0x11)
  else 4 * (alg - 1) + (op - 0x20) + 1

/-- The fixed duration of a class, for a message of `m` bytes (R207). -/
def pkTime (cls m : Nat) : Nat :=
  if cls = 0x0F then 24000 + 120 * ((m + 49 + 127) / 128 + (m + 81 + 127) / 128)
  else if cls = 0x10 then 40000 + 120 * ((m + 81 + 127) / 128)
  else ([0, 20000, 34240, 21000, 18000, 96000, 164000, 100000, 88000, 330000, 560000, 345000, 310000, 17120, 16000,
    0, 0, 17000, 200000, 675000, 1600000, 22000, 44000, 74000] : List Nat).getD cls 0

/-- Does the opcode need random material (R209)? -/
def pkRandom (op : Nat) : Bool := op != 0x21 && op != 0x25

/-! ### What a unit computes -/

/-- A rejection: the one outcome of every failed check of R204 (R205). -/
def pkReject : COut := ⟨St.PK_INPUT_REJECTED, 0, 0, [], []⟩

/-- A success with output `data`, and key material `key` for a filled slot. -/
def pkDone (data key : List Byte) : COut := ⟨St.OK, 0, 0, data, key⟩

/-- A key check that fails ends an UNWRAP with AUTH_FAIL (R258). -/
def unwrapBad : COut := ⟨St.AUTH_FAIL, 0x0186, 0x20, [], []⟩

/-- The fault a unit finds in its own result (R211). -/
def pkFaulty (u : Nat) : COut := ⟨St.ENGINE_UNAVAILABLE, 0x016D, u, [], []⟩

/-- PK_SIGN with slot material `m` and random material `r` (R201, R209). -/
def pkSign (j : Job) (m r : List Byte) : COut :=
  if j.alg = 5 then pkDone (edSign (m.take 32) (slice m 32 32) j.input) []
  else
    let c := curveOf j.alg
    pkDone (c.sign (fromBe (m.take c.len)) (c.digestInt j.input) 3 r) []

/-- PK_VERIFY (R204). -/
def pkVerify (j : Job) : COut :=
  let ok := if j.alg = 5 then edVerify (slice j.input 0 32) (slice j.input 32 64) (j.input.drop 96)
    else
      let c := curveOf j.alg
      c.verify (slice j.input 0 (1 + 2 * c.len)) (slice j.input (1 + 2 * c.len) (2 * c.len)) (j.input.drop (1 + 4 * c.len))
  if ok then pkDone [] [] else pkReject

/-- PK_AGREE: the secret, never an output (R203). -/
def pkAgree (j : Job) (m : List Byte) : COut :=
  let z := if j.alg = 4 then xAgree (m.take 32) j.input
    else (curveOf j.alg).agree (fromBe (m.take (curveOf j.alg).len)) j.input
  match z with
  | some k => pkDone [] k
  | none => pkReject

/-- PK_KEYGEN from random material `r` (R210): the public value is the output, the private key and public value the
key. -/
def pkKeygen (j : Job) (r : List Byte) : COut :=
  let c := curveOf j.alg
  let d := if j.alg = 4 ∨ j.alg = 5 then (r ++ zeros 32).take 32 else beBytes c.len (c.scalar r)
  pkDone (ecPublic j.alg d) (d ++ ecPublic j.alg d)

/-- RSA_PRIV with slot material `m`, and whether the result check of R211 finds it wrong. -/
def rsaPriv (j : Job) (m : List Byte) : COut × Bool :=
  let k := j.nbits / 8
  let g := rsaPart m k
  let x := fromBe j.input
  let y := rsaCrt (g 2) (g 3) (g 4) (g 5) (g 6) x
  if x = 0 ∨ g 0 ≤ x then (pkReject, false) else (pkDone (beBytes k y) [], powMod (g 0) 32 y (g 1) != x)

/-- RSA_PUB: n, e and m come from the input (R204). -/
def rsaPub (j : Job) : COut :=
  let k := j.nbits / 8
  let n := fromBe (slice j.input 0 k)
  let e := fromBe (slice j.input k 4)
  let x := fromBe (slice j.input (k + 4) k)
  if n % 2 = 0 ∨ n < 2 ^ (j.nbits - 1) ∨ e % 2 = 0 ∨ e < 3 ∨ x = 0 ∨ n ≤ x then pkReject
  else pkDone (beBytes k (powMod n 32 x e)) []

/-- The check of an unwrapped RSA key: n = p × q and one private operation on test value 2 (R258). -/
def rsaKeyOk (m : List Byte) (nb : Nat) : Bool :=
  let g := rsaPart m (nb / 8)
  g 0 == g 2 * g 3 && powMod (g 0) 32 (rsaCrt (g 2) (g 3) (g 4) (g 5) (g 6) 2) (g 1) == 2

/-- The key a Crucible job leaves in its filled slot. -/
def pkFill (j : Job) (key : List Byte) : KSlot :=
  if j.op = 0x41 then
    match blobKey j j.res with
    | .inl k => k
    | .inr _ => {}
  else
    let t := pkFillType j.op j.alg
    { ({} : KSlot) with typ := t.1, nbits := t.2, policy := j.pol, mat := key }

/-- Modulus length that fixes a job's class: of the blob for UNWRAP. -/
def pkBits (j : Job) : Nat := if j.op = 0x41 then (pkFill j []).nbits else j.nbits

/-- The class of a job (R207); the check of an unwrapped RSA key takes the private class. -/
def jobClass (j : Job) : Nat := pkClass (if j.op = 0x41 then 0x24 else j.op) j.alg (pkBits j)

/-- The duration of a job. -/
def jobTime (j : Job) : Nat :=
  pkTime (jobClass j) (if j.op = 0x21 then j.inTotal - 96 else j.inTotal)

namespace State

/-! ### Units and their jobs -/

/-- The job a unit holds: a host job, or the port's. -/
def unitJob (s : State) (u : Nat) : Option Job :=
  if (s.unit u).fw then s.fwJob
  else match (s.unit u).job with
    | some id => s.job id
    | none => none

/-- The BUSY unit holding job `id` of opcode `op`, its work not yet done. -/
def unitWork (s : State) (id op : Nat) : Option (Job × Nat) :=
  (List.range 3).findSome? (fun u =>
    let k := s.unit u
    match s.unitJob u with
    | some j => if k.st = .busy ∧ k.out.isNone ∧ j.id = id ∧ j.op = op then some (j, u) else none
    | none => none)

/-- The unit's result is held until the wipe ends; `check` draws the unit's own result check, which may find a fault
(R211). -/
def unitResult (s : State) (u : Nat) (o : COut) (check bad : Bool) : State :=
  let f := check && (bad || Config.unitFaults u s.fresh)
  let s := if check then { s with fresh := s.fresh + 1 } else s
  s.modUnit u (fun k => { k with out := some (if f then pkFaulty u else o) })

/-- Random material for a unit: a fresh free value of 2,048 bits and more for a key (R209, R210). -/
def drawUnit (s : State) (k : List Byte → State → State) : State :=
  k (Config.rnd s.fresh 256) { s with fresh := s.fresh + 1 }

/-! ### The port's end -/

end State

/-- Length of AUTH_KEY for a ticket's ALG (R470). -/
def ticketKey (t : List Byte) : Nat := if leAt t 7 1 = 5 then 32 else 65

/-- The PK_VERIFY job that checks the signature of ticket `t` (R472): DBG's own SHA-256 makes the digest of ECDSA. -/
def ticketJob (id : Nat) (t : List Byte) : Job :=
  let n := t.length - 64
  let m := t.take n
  let body := slice t 36 (ticketKey t) ++ t.drop n ++ (if leAt t 7 1 = 5 then m else sha256 m)
  { id := id, qp := 0, dom := 5, tag := 0, op := 0x21, ordr := false, cmpl := true, stage := .ready, input := body
    ents := [[0, 0x21, 0, 0] ++ zeros 20 ++ leBytes 4 body.length ++ zeros 4 ++ slice t 7 1 ++ zeros 31] }

namespace State

/-- A ticket is refused (R472). -/
def ticketRefuse (s : State) (result : Nat) : State :=
  let s := { s with dbg := { s.dbg with verify := none, verdict := none } }
  let s := ((s.setReg R.DBG_TKT_STAT (w32 (0x40000000 + result))).event Blk.DBG 0 4).count R.DBG_DENY 30 16
  s.fault Blk.DBG 0 Kind.DEBUG_DENIED (0xDB00000000 + result)

/-- The port path takes the next job: a ticket's verification queued behind a port job, or a port job behind a
verification (R472). -/
def fwNext (s : State) (id : Nat) : State :=
  if (s.fwJob.map (·.id)) = some id then
    match s.fwWait with
    | some w => { s with fwJob := some w, fwWait := none }
    | none => match s.dbg.verify with
      | some t => if s.dbg.verdict.isNone then
          { s with nextJob := s.nextJob + 1, fwJob := some (ticketJob s.nextJob t) }
        else { s with fwJob := none }
      | none => { s with fwJob := none }
  else { s with fwWait := none }

/-- A ticket's signature check ends on the port path: its verdict, or a new turn when its unit was lost; without a serving
unit the ticket is refused with RESULT 7 (R472, R479). -/
def ticketChecked (s : State) (j : Job) (status : Nat) : State :=
  match s.dbg.verify with
  | none => s.fwNext j.id
  | some t =>
    if (ticketJob j.id t).input ≠ j.input ∨ s.dbg.verdict.isSome then s.fwNext j.id
    else if status = St.OK ∨ status = St.PK_INPUT_REJECTED then
      ({ s with dbg := { s.dbg with verdict := some (status == St.OK) } }).fwNext j.id
    else if (List.range 3).any (fun u => (s.unit u).serving) then
      { s with fwJob := some { j with stage := .ready } }
    else (s.ticketRefuse 7).fwNext j.id

/-- A port job ends: status, cause and result word, BEVT.FW_DONE, and a slot still reserved released (R203, R215). -/
def fwEnd (s : State) (j : Job) (status cause result : Nat) : State :=
  if j.dom = 5 then s.ticketChecked j status
  else
    let s := match j.fill with
      | some n => if (s.slot n).st = SlotSt.reserved then s.setSlot n {} else s
      | none => s
    let s := s.setReg R.CRU_FW_STAT (w32 (0x40000000 + status * 0x10000 + cause))
    ((s.setReg R.CRU_FW_RES (w32 result)).fwNext j.id).event Blk.CRU 0 4

/-- A port job fails at a stage. -/
def fwFail (s : State) (j : Job) (status stage cause : Nat) : State :=
  let s := if status = St.RNG_FAIL then s.count R.CRU_RNDW 31 16 else s
  s.fwEnd j status cause (failWord stage 0 cause).toNat

/-- The first byte of an engine access that bank `b` refuses: every 64-byte granule needs the permission, and the access
must lie in system SRAM (R22, R215, R315). -/
def engineRefused (s : State) (b : Bool) (a n perm : Nat) : Option Nat :=
  if n = 0 then none
  else ((List.range ((a + n - 1) / 64 + 1 - a / 64)).map (fun i => (a / 64 + i) * 64)).findSome? (fun g =>
    let x := max g a
    if area g = .sram ∧ s.gateGrants b g perm then none else some x)

/-- A refused engine access: counted by the Gate, recorded with source CRU, and the port job ends with WINDOW_FAULT
(R20, R315). -/
def fwRefused (s : State) (j : Job) (a : Nat) (elem : Nat) : State :=
  ((s.count R.GAT_DENY 31 16).faultBy Blk.CRU 0 Kind.ACCESS_VIOLATION a 4 Blk.CRU 0).fwFail j St.WINDOW_FAULT 3 elem

/-- The port job writes its output and ends; one that fills a PERSIST slot waits for its record (R203, R251). -/
def fwFinish (s : State) (j : Job) (data key : List Byte) : State :=
  if j.dom = 5 then s.fwEnd j St.OK 0 0
  else match s.engineRefused (j.tag == 1) (j.u 16 8) data.length 8 with
  | some a => s.fwRefused j a 1
  | none =>
    match j.fill with
    | none => (s.setBytes (j.u 16 8) data).fwEnd j St.OK 0 data.length
    | some n =>
      let k := pkFill j key
      if arenaNeed k.typ k.nbits > 1536 - s.arenaUsed then s.fwFail j St.KEY_DENIED 6 0x0188
      else if bit k.policy 17 then
        let k := { k with st := .reserved, invR := k.inv + 2 ^ 20, dirty := true }
        let s := s.setSlot n k
        let s := { s with fwJob := some { j with stage := .wait .image, res := data } }
        s.imgAppend n (.slot (s.slotOwner n) k) (.job j.id n {})
      else
        let s := (s.setSlot n { k with st := .loaded }).setBytes (j.u 16 8) data
        s.fwEnd j St.OK 0 data.length

/-- A Crucible job ends without a result: host or port. -/
def cruFail (s : State) (fw : Bool) (j : Job) (status stage cause detail : Nat) : State :=
  if fw then s.fwFail j status stage cause else s.failJob j status stage 0 cause detail

/-! ### Reservation, early ends, fences -/

/-- Every job that needs a unit ends when none is serving (R196). -/
def noUnits (s : State) : State :=
  if (List.range 3).any (fun u => (s.unit u).serving) then s
  else
    let s := s.failAll (s.jobs.filter (fun j => j.kind == 1 && (j.stage == .ready || j.stage == .wait .rng)))
      St.ENGINE_UNAVAILABLE 5 0x016A 0
    let port := fun (s : State) => match s.fwJob with
      | some j => if j.stage = .ready ∨ j.stage = .wait .rng then s.fwFail j St.ENGINE_UNAVAILABLE 5 0x016A else s
      | none => s
    port (port s)

/-- Reserves unit `u` for a job and asks its leave (R196). -/
def reserveUnit (s : State) (u : Nat) (fw : Bool) (j : Job) : State :=
  let c := jobClass j
  let s := if fw then { s with fwJob := some { j with stage := .running, unit := u } }
    else s.modJob j.id (fun j => { j with stage := .running, unit := u })
  let s := s.modUnit u (fun k => { k with
    st := .leave, job := if fw then none else some j.id, fw := fw, out := none, klass := c })
  let (s, no) := s.askLeave Blk.CRU u 60 (.cru u)
  if no then
    (s.modUnit u (fun k => { k with st := .idle, job := none, fw := false, klass := 0 })).cruFail fw j
      St.ENGINE_UNAVAILABLE 5 0x016B 60
  else s

/-- Unit `u` has no job any more and holds no tokens. -/
def freeUnit (s : State) (u : Nat) (st : UnitSt) : State :=
  (s.modUnit u (fun k => { k with st := st, job := none, fw := false, out := none, klass := 0 })).releaseLeave (.cru u)

/-- An early end (R213): a job not yet granted leave ends at once; a running one is wiped first and then reported. -/
def cruAbort (s : State) (u status cause detail : Nat) : State :=
  let k := s.unit u
  if k.st = .leave then
    match s.unitJob u with
    | none => s.freeUnit u .idle
    | some j => (s.freeUnit u .idle).cruFail k.fw j status 6 cause detail
  else if k.st = .busy ∨ k.st = .wipe then
    s.modUnit u (fun k => { k with st := .wipe, out := some ⟨status, cause, detail, [], []⟩ })
  else s

/-- Unit `u` is fenced: its job ends with 0x016C, its power is removed (R197, R213). -/
def fenceUnit (s : State) (u : Nat) : State :=
  let k := s.unit u
  if k.st = .spare ∨ k.st = .fenced then s.setFence Blk.CRU u 0
  else
    let j := s.unitJob u
    let s := (s.freeUnit u .fenced).setFence Blk.CRU u 0
    let s := match j with
      | some j => s.cruFail k.fw j St.ENGINE_UNAVAILABLE 6 0x016C u
      | none => s
    s.noUnits

/-- The unit's tests fail: KAT_FAIL, CRU_SELFTEST with the class, and it is fenced (R197). -/
def unitKatFail (s : State) (u cls : Nat) : State :=
  let a := cruReg R.CRU_KAT u
  let s := ((s.setFld a 23 16 cls).count a 15 8).setFld a 0 0 0
  let s := (s.event Blk.CRU u 2).fault Blk.CRU u Kind.CRU_SELFTEST cls
  (s.noteFence 1 u (s.unit u).serving (some Kind.CRU_SELFTEST)).fenceUnit u

/-- The firmware job takes the next free unit, ahead of host jobs (R215): its input is already there. -/
def freeUnitNo (s : State) : Option Nat :=
  (List.range 3).find? (fun u => (s.unit u).st == .idle && (s.unit u).up && (s.hdr Blk.CRU u).en)

/-- What the unit holds is released when its wipe ends (R205, R206, R211). -/
def cruRelease (s : State) (u : Nat) (cls : Nat) (fw : Bool) (j : Job) (o : COut) : State :=
  let ends := cruReg R.CRU_ENDS u
  let s := if o.status = St.PK_INPUT_REJECTED then s.count ends 31 16
    else if o.status ≠ St.OK then s.count ends 15 0 else s
  let s := if o.cause = 0x016D then
      (s.event Blk.CRU u 3).fault Blk.CRU u Kind.CRU_SELFTEST (0x100 + cls)
    else s
  if o.status ≠ St.OK then s.cruFail fw j o.status 6 o.cause o.detail
  else if fw then s.fwFinish j o.data o.key
  else match j.fill with
    | none => s.deliver j o.data 0
    | some n => s.fillSlot j n (pkFill j o.key) o.data o.data.length n

end State

/-! ### The opcodes on their unit -/

/-- PK_SIGN. -/
def execPkSign (job : Nat) (s : State) : Host.Outcome State Fault Refusal :=
  .next (match s.unitWork job 0x20 with
    | none => s
    | some (j, u) => s.drawUnit (fun r s => s.unitResult u (pkSign j j.ks.mat r) true false))

/-- PK_VERIFY. -/
def execPkVerify (job : Nat) (s : State) : Host.Outcome State Fault Refusal :=
  .next (match s.unitWork job 0x21 with
    | none => s
    | some (j, u) => s.unitResult u (pkVerify j) true false)

/-- PK_AGREE. -/
def execPkAgree (job : Nat) (s : State) : Host.Outcome State Fault Refusal :=
  .next (match s.unitWork job 0x22 with
    | none => s
    | some (j, u) => s.unitResult u (pkAgree j j.ks.mat) true false)

/-- PK_KEYGEN. -/
def execPkKeygen (job : Nat) (s : State) : Host.Outcome State Fault Refusal :=
  .next (match s.unitWork job 0x23 with
    | none => s
    | some (j, u) => s.drawUnit (fun r s => s.unitResult u (pkKeygen j r) true false))

/-- RSA_PRIV. -/
def execRsaPriv (job : Nat) (s : State) : Host.Outcome State Fault Refusal :=
  .next (match s.unitWork job 0x24 with
    | none => s
    | some (j, u) =>
      let o := rsaPriv j j.ks.mat
      s.unitResult u o.1 true o.2)

/-- RSA_PUB. -/
def execRsaPub (job : Nat) (s : State) : Host.Outcome State Fault Refusal :=
  .next (match s.unitWork job 0x25 with
    | none => s
    | some (j, u) => s.unitResult u (rsaPub j) false false)

/-- UNWRAP: on its lane, then for an RSA key on a Crucible unit (R258). -/
def execUnwrap (job : Nat) (s : State) : Host.Outcome State Fault Refusal :=
  .next (match s.unitWork job 0x41 with
    | none => s.unwrapLane job
    | some (j, u) =>
      let k := pkFill j []
      s.unitResult u (if rsaKeyOk k.mat k.nbits then pkDone [] k.mat else unwrapBad) true false)

/-! ### Durations, wipes, tests -/

/-- CRU_DURATION_END (R206): a BUSY unit whose work is done starts its wipe, the result held in the unit. -/
def execCruDurationEnd (u : Fin 3) (s : State) : Host.Outcome State Fault Refusal :=
  .next (
    if (s.unit u).st = .busy ∧ (s.unit u).out.isSome then s.modUnit u (fun k => { k with st := .wipe }) else s)

/-- CRU_WIPE_DONE (R212): the wipe ends, the unit is free (or tests), its tokens are returned, and the result is released
or the early end reported. -/
def execCruWipeDone (u : Fin 3) (s : State) : Host.Outcome State Fault Refusal :=
  .next (
    let k := s.unit u
    if k.st ≠ .wipe then s
    else
      let j := s.unitJob u
      let n := k.since + 1
      let due := k.testDue || (decide (s.fld R.CRU_CFG 15 0 ≠ 0) && decide (s.fld R.CRU_CFG 15 0 * 65536 ≤ n))
      let s := (s.countWrap (cruReg R.CRU_JOBS u) 31 0).countWrap (cruReg R.CRU_WIPES u) 31 0
      let s := (s.freeUnit u (if due then .test else .idle)).modUnit u (fun k => { k with
        testDue := false, since := if due then 0 else n })
      match j, k.out with
      | some j, some o => s.cruRelease u k.klass k.fw j o
      | _, _ => s)

/-- CRU_RNG_TIMEOUT (R209): a job still without random material 50 ms after it became ready completes with RNG_FAIL. -/
def execCruRngTimeout (job : Nat) (s : State) : Host.Outcome State Fault Refusal :=
  .next (match s.job job with
    | some j => if j.kind = 1 ∧ j.stage = .wait .rng then s.failJob j St.RNG_FAIL 6 0 0x0168 0 else s
    | none => match s.fwJob with
      | some j => if j.id = job ∧ j.stage = .wait .rng then s.fwFail j St.RNG_FAIL 6 0x0168 else s
      | none => s)

namespace State

/-- A write of CRU_UCTRL (R218): SELFTEST asks a test at the next idle moment. -/
def uctrlWrite (s : State) (u : Nat) (v : Word) : Option State :=
  let k := s.unit u
  if !bit v 0 ∨ k.st = .spare ∨ k.st = .fenced then some s
  else if k.st = .idle then some (s.modUnit u (fun k => { k with st := .test, since := 0 }))
  else if k.st = .test then some s
  else some (s.modUnit u (fun k => { k with testDue := true }))

end State

/-- SELFTEST (R218): a write of CRU_UCTRL of unit `u`. -/
def execSelftest (rq : Rq) (u : Fin 3) (v : Word) (s : State) : Host.Outcome State Fault Refusal :=
  .next (s.asWrite rq Blk.CRU u (cruReg R.CRU_UCTRL u) v (fun s => s.uctrlWrite u v))

/-- CRU_TEST_DONE (R197): a unit's known-answer tests end; `fail` is none when they pass, else the failing class. -/
def execCruTestDone (u : Fin 3) (fail : Option (Fin 256)) (s : State) : Host.Outcome State Fault Refusal :=
  .next (
    if (s.unit u).st ≠ .test then s
    else match fail with
      | none => (s.setFld (cruReg R.CRU_KAT u) 0 0 1).modUnit u (fun k => { k with st := .idle, up := true })
      | some c => s.unitKatFail u c)

/-! ### The firmware job port (R215) -/

namespace State

/-- The entry a port job stands for: the port registers laid out as a FIRST entry. -/
def portEntry (s : State) : List Byte :=
  let op := s.fld R.CRU_FW_CMD 7 0
  let src := s.fld R.CRU_FW_KEY 11 0
  let dst := s.fld R.CRU_FW_KEY 27 16
  let key := if op = 0x23 then dst else if op = 0x21 ∨ op = 0x25 then 0 else src
  [0, BitVec.ofNat 8 op, 0, 0] ++ leBytes 4 key ++ leBytes 8 (s.reg R.CRU_FW_IN).toNat ++
    leBytes 8 (s.reg R.CRU_FW_OUT).toNat ++ leBytes 4 (s.fld R.CRU_FW_INLEN 14 0) ++
    leBytes 4 (s.fld R.CRU_FW_OUTLEN 9 0) ++ leBytes 1 (s.fld R.CRU_FW_CMD 15 8) ++ [0] ++
    leBytes 2 (if op = 0x22 then dst else 0) ++ leBytes 2 (s.fld R.CRU_FW_PAR 12 0) ++ [0, 0] ++
    leBytes 4 (if op = 0x22 ∨ op = 0x23 then (s.reg R.CRU_FW_POL).toNat else 0) ++ zeros 20

/-- The first field check a port job fails (R198-R200): status, cause. -/
def portBad (j : Job) : Option (Nat × Nat) :=
  if j.op < 0x20 ∨ 0x25 < j.op then some (St.BAD_ENTRY, 3)
  else if !pkAlgOk j.op j.alg ∨ !pkNbitsOk j.alg j.nbits then some (St.BAD_ENTRY, 0x0160)
  else if !pkPolOk true j.op j.alg j.pol then some (St.BAD_ENTRY, 0x0165)
  else match pkLenBad j with
    | some (c, _) => some (St.LENGTH_ERROR, c)
    | none => none

/-- A port job starts (R215): the checks of a host job, the key, the input through the Gate; then it waits for a unit. -/
def portGo (s : State) (bank : Bool) : State :=
  let e := s.portEntry
  let j : Job := { id := s.nextJob, qp := 0, dom := 4, tag := b2n bank, op := leAt e 1 1, ordr := false, cmpl := true, ents := [e], stage := .ready }
  let hold := fun (s : State) (j : Job) =>
    if (s.fwJob.map (·.dom)) = some 5 then { s with fwWait := some j } else { s with fwJob := some j }
  let s := hold { (s.setReg R.CRU_FW_STAT 0x80000000) with nextJob := s.nextJob + 1 } j
  match portBad j with
  | some (st, c) => s.fwFail j st 2 c
  | none =>
    let res := if j.op = 0x21 ∨ j.op = 0x25 then .pass .none else s.resolvePk true j
    let start := fun (s : State) (j : Job) =>
      match s.engineRefused bank (j.u 8 8) j.inLen 7 with
      | some a => s.fwRefused j a 0
      | none =>
        let j := { j with input := s.bytes (j.u 8 8) j.inLen }
        let s := hold s j
        if (List.range 3).any (fun u => (s.unit u).serving) then s
        else s.fwFail j St.ENGINE_UNAVAILABLE 5 0x016A
    match res with
    | .pass k => start s { j with key := k, ks := s.keyOf k }
    | .fill k n => start (s.setSlot n { s.slot n with st := .reserved }) { j with key := k, fill := some n, ks := s.keyOf k }
    | .fail st c _ => s.fwFail j st 4 c
    | .miss _ => s

/-- CRU_FW_STAT.BUSY. -/
def portBusy (s : State) : Bool := bit (s.reg R.CRU_FW_STAT) 31

/-- A write of CRU_FW_CMD: refused while BUSY; GO starts a job, or is refused with MODE_DENIED in Lockdown (R215). -/
def fwCmdWrite (s : State) (rq : Rq) (v : Word) : Option State :=
  if s.portBusy then none
  else
    let s := s.setReg R.CRU_FW_CMD (v &&& 0xFFFF)
    if !bit v 31 then some s
    else if s.mode = .lockdown ∧ bit (s.reg R.SYS_SMS) 15 then
      some ((s.setReg R.CRU_FW_STAT (w32 (0x40000000 + St.MODE_DENIED * 0x10000 + 1))).setReg R.CRU_FW_RES
        (failWord 2 0 1))
    else some (s.portGo (match rq with
      | .pair p => bit (s.pair p).cs 6
      | .debug => false))

end State

/-- CRU_FW_GO (R215): a write of CRU_FW_CMD. -/
def execCruFwGo (rq : Rq) (v : Word) (s : State) : Host.Outcome State Fault Refusal :=
  .next (s.asWrite rq Blk.CRU 0 R.CRU_FW_CMD v (fun s => s.fwCmdWrite rq v))

end Sys2Proof.Machine
end

