-- ==== Sys2Proof/Machine/Rng.lean ====
section
/-! DEFINITION. Random number generation (08): sources and their start-up, seed words, the five DRBG instances, waiting
for material, health failures and recovery, raw capture. The values of seed words and of DRBG output are free. -/

namespace Sys2Proof.Machine

namespace State

/-- Noise source `n`. -/
def src (s : State) (n : Nat) : Src := Tbl.get (fun _ => {}) s.rng.srcs n
/-- Replaces source `n`. -/
def setSrc (s : State) (n : Nat) (v : Src) : State :=
  { s with rng := { s.rng with srcs := Tbl.set (fun _ => {}) s.rng.srcs n v } }

/-- Serving sources (R221). -/
def servingSrcs (s : State) : Nat := ((List.range 10).filter (fun n => (s.src n).st == .serving)).length

/-- RNG_CFG.MIN_SRC. -/
def minSrc (s : State) : Nat := s.fld R.RNG_CFG 3 0

/-- Sources that may still serve: serving, in start-up, or held as spares. -/
def hopeSrcs (s : State) : Nat :=
  ((List.range 10).filter (fun n => (s.src n).st != .fenced && (s.src n).st != .capture)).length

/-- The first `n` words of the seed buffer go to an instance (0-3 a domain, 4 internal): none while fewer are there, or fewer
than MIN_SRC sources serve (R221). -/
def takeWords (s : State) (n inst : Nat) : Option State :=
  if s.rng.buf.length < n ∨ s.servingSrcs < s.minSrc then none
  else
    let newest := (s.rng.buf.take n).foldl max 0 + 1
    some { s with rng := { s.rng with
      buf := s.rng.buf.drop n, lastW := Tbl.set (fun _ => 0) s.rng.lastW inst newest } }

/-- Words for a host instance: delivered in RUN only (R224, R229). -/
def hostWords (s : State) (n d : Nat) : Option State := if s.rng.st = .run then s.takeWords n d else none

/-- A domain's instance disappears (R227). -/
def uninstantiate (s : State) (d : Nat) : State :=
  let s := s.modPort d (fun p => { p with drbg := false })
  { s with rng := { s.rng with reqs := Tbl.set (fun _ => 0) s.rng.reqs d 0, lastW := Tbl.set (fun _ => 0) s.rng.lastW d 0 } }

/-- `n` bytes of DRBG output: a fresh free value. -/
def drawBytes (s : State) (n : Nat) (k : List Byte → State → State) : State :=
  k (Config.rnd s.fresh n) { s with fresh := s.fresh + 1 }

/-- Generates the output of a RANDOM job and finishes it: held, then delivered whole (R228). -/
def generate (s : State) (j : Job) : State :=
  let r := Tbl.get (fun _ => 0) s.rng.reqs j.dom
  let s := { s with rng := { s.rng with reqs := Tbl.set (fun _ => 0) s.rng.reqs j.dom (r + 1) } }
  s.drawBytes (j.u 28 4) (fun o s => s.deliver j ((o ++ zeros (j.u 28 4)).take (j.u 28 4)) 0)

/-- A seeding resets the count of requests. -/
def seeded (s : State) (d : Nat) : State :=
  { s with rng := { s.rng with reqs := Tbl.set (fun _ => 0) s.rng.reqs d 0 } }

/-- A RANDOM, RESEED or DRBG_INSTANTIATE reaches its instance (R225-R230): none when it must wait for words. -/
def rngTry (s : State) (j : Job) : Option State :=
  let d := j.dom
  if s.rng.st = .failed then some (s.failJob j St.RNG_FAIL 6 0 0x0174 0)
  else if j.op = 0x88 then
    let s := if (s.port d).drbg then s.uninstantiate d else s
    (s.hostWords 3 d).map (fun s => ((s.seeded d).modPort d (fun p => { p with drbg := true })).succeed j 0 0)
  else if !(s.port d).drbg then some (s.failJob j St.RNG_FAIL 6 0 0x0170 0)
  else if j.op = 0x31 then (s.hostWords 2 d).map (fun s => (s.seeded d).succeed j 0 0)
  else
    let due := Tbl.get (fun _ => 0) s.rng.reqs d + 1 > 2 ^ s.fld R.RNG_CFG 20 16
    if j.u 32 1 % 2 = 1 ∨ due then (s.hostWords 2 d).map (fun s => (s.seeded d).generate j)
    else some (s.generate j)

/-- The job waits for seed words, in the order requested (R229, R230). -/
def rngWait (s : State) (j : Job) : State :=
  let s := if j.op = 0x88 ∧ (s.port j.dom).drbg then s.uninstantiate j.dom else s
  let s := s.modJob j.id (fun j => { j with stage := .wait .rng })
  { s with rng := { s.rng with waitQ := s.rng.waitQ ++ [j.id] } }.count R.RNG_WAITS 15 0

/-- A wait ends: RNG_WAITS.LONGEST keeps the longest, in 100 µs units (a free length of at most 50 ms). -/
def waitEnds (s : State) : State :=
  s.withFree (fun n s => s.setFld R.RNG_WAITS 31 16 (max (s.fld R.RNG_WAITS 31 16) (n % 501)))

/-- Serves the jobs waiting for words, in order, until one must wait on. -/
def rngServe (s : State) : Nat → State
  | 0 => s
  | fuel + 1 =>
    match s.rng.waitQ with
    | [] => s
    | id :: q =>
      let drop := fun (s : State) => { s with rng := { s.rng with waitQ := q } }
      match s.job id with
      | none => (drop s).rngServe fuel
      | some j =>
        if j.stage ≠ .wait .rng then (drop s).rngServe fuel
        else match s.rngTry j with
          | none => s
          | some t => (drop t.waitEnds).rngServe fuel

/-- Serves every job that can be served. -/
def rngDrain (s : State) : State := s.rngServe (s.rng.waitQ.length + 1)

/-- A job of opcode 0x30, 0x31 or 0x88 executes, behind earlier ones of its domain that wait (R227). -/
def rngJob (s : State) (j : Job) : State :=
  if s.rng.waitQ.any (fun id => (s.job id).any (fun x => x.dom == j.dom && x.stage == .wait .rng)) then s.rngWait j
  else match s.rngTry j with
    | some t => t
    | none => s.rngWait j

/-- Crucible jobs waiting for random material are ready again once the internal instance delivers. -/
def cruMaterial (s : State) : State :=
  let up := fun (j : Job) => if j.kind = 1 ∧ j.stage = .wait .rng then { j with stage := .ready } else j
  let s := { s with jobs := s.jobs.map up }
  match s.fwJob with
  | some j => if j.stage = .wait .rng then { s with fwJob := some { j with stage := .ready } } else s
  | none => s

/-- Crucible material collected for jobs not yet granted leave is discarded: they wait for material again and the unit
is free (R210). -/
def dropMaterial (s : State) (u : Nat) : State :=
  let k := s.unit u
  match s.unitJob u with
  | none => s
  | some j =>
    if k.st ≠ .leave ∨ !pkRandom j.op then s
    else
      let s := s.freeUnit u .idle
      let s := s.count R.CRU_RNDW 15 0
      if k.fw then { s with fwJob := some { j with stage := .wait .rng } }
      else s.modJob j.id (fun j => { j with stage := .wait .rng })

/-- Step 6 of R231 on lane `n`. -/
def laneSeedLost (s : State) (n : Nat) : State :=
  match (s.lane n).st with
  | .busy => (s.modLane n (fun l => { l with st := .paused, seed := none, next := none })).countPause n
  | .idle => (s.modLane n (fun l => { l with st := .unseeded, seed := none, next := none })).countPause n
  | .waking => s.modLane n (fun l => { l with seed := none })
  | .paused => s.modLane n (fun l => { l with next := none })
  | _ => s

/-- The RNG fails: nothing waits any more (R224, R230). -/
def rngFailed (s : State) : State :=
  let s := { s with rng := { s.rng with st := .failed, internal := false, buf := [] } }
  s.rngDrain

/-- A RANDOM, RESEED or DRBG_INSTANTIATE waiting for words. -/
def rngWaiters (s : State) : List Job :=
  s.jobs.filter (fun j => (j.op == 0x30 || j.op == 0x31 || j.op == 0x88) && j.stage == .wait .rng)

/-- A RANDOM, RESEED or DRBG_INSTANTIATE in progress or waiting: ready, its command still to come, or waiting for words. -/
def rngOpen (s : State) : List Job :=
  s.jobs.filter (fun j => (j.op == 0x30 || j.op == 0x31 || j.op == 0x88) && (j.stage == .wait .rng || j.stage == .ready))

/-- A source fails a test (R223): it is fenced and the failure recorded. -/
def srcFail (s : State) (n test : Nat) : State :=
  let s := if n < 10 then
      ((s.noteFence 3 n ((s.src n).st == .serving) (some Kind.RNG_HEALTH)).setSrc n
        { s.src n with st := .fenced, last := test }).setFence Blk.RNG 0 n
    else s
  let s := (s.fault Blk.RNG 0 Kind.RNG_HEALTH (test * 16 + n)).event Blk.RNG 0 3
  s.count R.RNG_FAILS 31 16

/-- The five steps that follow the fencing of a serving source (R231); `first` numbers the first suspect seed word. -/
def rngCut (s : State) (n first : Nat) : State :=
  let hit := fun d => (s.port d).drbg && decide (first < Tbl.get (fun _ => 0) s.rng.lastW d)
  let s1 := { s with rng := { s.rng with st := .recover, buf := [], internal := false, due := false } }
  let s2 := (List.range 4).foldl (fun t d => if hit d then t.uninstantiate d else t) s1
  let ends := s2.rngOpen.filter (fun j => j.op == 0x30 || (j.op == 0x31 && hit j.dom))
  let s3 := s2.failAll ends St.RNG_FAIL 6 0x0172 n
  let s4 := (List.range 9).foldl laneSeedLost s3
  let s5 := (List.range 3).foldl dropMaterial s4
  if s5.servingSrcs < s5.minSrc ∧ s5.hopeSrcs ≤ s5.servingSrcs then (s5.event Blk.RNG 0 5).rngFailed else s5

/-- The RNG starts up (R224, step 1): every source in service that is not fenced settles. -/
def rngStart (s : State) : State :=
  let s := (List.range 10).foldl (fun s n =>
    let c := s.src n
    if c.st = .serving ∨ c.st = .settle ∨ c.st = .test ∨ (c.st = .spare ∧ n < 8) then s.setSrc n { c with st := .settle, rct := 0, apt := 0 }
    else s) s
  let s := (List.range 4).foldl uninstantiate s
  { s with rng := { s.rng with st := .startup, internal := false, buf := [], due := false } }

/-- The RNG soft reset (R236). -/
def rngSoftReset (s : State) : State := (s.failAll s.rngOpen St.RNG_FAIL 6 0x0173 0).rngStart

/-- An internal reseed: two words, or due until they are there (R226, R229). -/
def reseedInternal (s : State) : State :=
  if s.rng.st ≠ .run then s
  else match s.takeWords 2 4 with
    | some t => { t with rng := { t.rng with due := false } }
    | none => { s with rng := { s.rng with due := true } }

end State

/-- RANDOM (R228). -/
def execRandom (job : Nat) (s : State) : Host.Outcome State Fault Refusal :=
  .next (match s.job job with
    | some j => if j.op = 0x30 ∧ j.stage = .ready then s.rngJob j else s
    | none => s)

/-- RESEED (R228). -/
def execReseed (job : Nat) (s : State) : Host.Outcome State Fault Refusal :=
  .next (match s.job job with
    | some j => if j.op = 0x31 ∧ j.stage = .ready then s.rngJob j else s
    | none => s)

/-- SEED_WORD_READY (R220, R221): a seed word enters the buffer unless it is full; the jobs waiting for words are served
in order, the internal instance first. -/
def execSeedWordReady (s : State) : Host.Outcome State Fault Refusal :=
  .next (
    if s.rng.st = .off ∨ s.rng.st = .failed ∨ s.servingSrcs = 0 then s
    else
      let w := s.rng.word
      let s := { s with rng := { s.rng with
        word := w + 1, buf := if s.rng.buf.length < 16 then s.rng.buf ++ [w] else s.rng.buf } }
      let s := if s.rng.due then s.reseedInternal else s
      if s.rng.due then s else s.rngDrain)

/-- SOURCE_STARTUP_PASS (R223): a source in its start-up joins service; a ninth stays a spare. -/
def execSourceStartupPass (n : Fin 10) (s : State) : Host.Outcome State Fault Refusal :=
  .next (
    let c := s.src n
    if c.st = .settle ∨ c.st = .test then s.setSrc n { c with st := if s.servingSrcs < 8 then .serving else .spare } else s)

/-- RNG_HEALTH_FAIL (R222, R223, R231): test 1 or 2 on a serving source cuts the path; 3 or 4 fails a start-up; 5 is a
known-answer test. `first` numbers the first seed word output after the first suspect bit. -/
def execRngHealthFail (n : Fin 16) (test : Fin 16) (first : Nat) (s : State) : Host.Outcome State Fault Refusal :=
  .next (
    let c := (s.src n).st
    if test = 5 ∧ n = 15 ∧ s.rng.st = .startup then (s.srcFail 15 5).rngFailed
    else if n.val ≥ 10 then s
    else if (test = 1 ∨ test = 2) ∧ c = .serving ∧ s.rng.st ≠ .off then
      let t := s.srcFail n test
      if s.rng.st = .run ∨ s.rng.st = .recover then t.rngCut n first
      else { t with rng := { t.rng with buf := [] } }
    else if (test = 3 ∨ test = 4) ∧ (c = .settle ∨ c = .test) then s.srcFail n test
    else s)

/-- RNG_RUN (R224, R232): three words instantiate the internal instance; waiting consumers are served. -/
def execRngRun (s : State) : Host.Outcome State Fault Refusal :=
  .next (
    if (s.rng.st ≠ .startup ∧ s.rng.st ≠ .recover) ∨ s.servingSrcs < s.minSrc then s
    else match s.takeWords 3 4 with
      | none => s
      | some t =>
        let e := if s.rng.st = .startup then 2 else 4
        let t := ({ t with rng := { t.rng with st := .run, internal := true } }.event Blk.RNG 0 e).cruMaterial
        t.rngDrain)

/-- INTERNAL_RESEED (R226): the periodic reseed of the internal instance. -/
def execInternalReseed (s : State) : Host.Outcome State Fault Refusal := .next s.reseedInternal

/-- RESEED_INT (R226): a write of RNG_CTRL; no effect outside RUN. -/
def execReseedInt (rq : Rq) (v : Word) (s : State) : Host.Outcome State Fault Refusal :=
  .next (s.asWrite rq Blk.RNG 0 R.RNG_CTRL v (fun s => some (if bit v 0 then s.reseedInternal else s)))

namespace State

/-- A read of RNG_FWRND_LO (R226): 32 fresh bits captured with VALID, or 0 without. -/
def fwrndRead (s : State) : State :=
  if s.rngReady then s.withFree (fun n s => { s with rng := { s.rng with fwData := w32 n, fwValid := true } })
  else { s with rng := { s.rng with fwData := 0, fwValid := false } }

/-- The words captured so far: a free number more has been taken since the last look, at most 4,096 in all (R237). -/
def capAdvance (s : State) : State :=
  if s.rng.capSrc.isNone then s
  else s.withFree (fun n s =>
    let m := min (4096 - s.rng.capWords.length) (n % 4097)
    let ws := (List.range m).map (fun i => w32 (Config.free (s.fresh + i)))
    { s with fresh := s.fresh + m, rng := { s.rng with capWords := s.rng.capWords ++ ws } })

/-- A write of RNG_CAPT (R237): refused with EN outside FOUNDRY and VENDOR; SRC changes only while EN is 0. -/
def captWrite (s : State) (v : Word) : Option State :=
  let old := s.reg R.RNG_CAPT
  let en := bit v 31
  if en && s.life != .foundry && s.life != .vendor then none
  else
    let n := if bit old 31 then bits old 19 16 else bits v 19 16
    let s := s.setReg R.RNG_CAPT (w32 (b2n en * 0x80000000 + n * 0x10000))
    if en ∧ !bit old 31 then
      let c := s.src n
      if n < 10 ∧ c.st ≠ .fenced then
        let s := s.setSrc n { c with st := .capture }
        some { s with rng := { s.rng with capSrc := some n, capWords := [] } }
      else some { s with rng := { s.rng with capSrc := none, capWords := [] } }
    else if !en ∧ bit old 31 then
      let s := s.capAdvance
      match s.rng.capSrc with
      | some m =>
        let s := s.setSrc m { s.src m with st := .settle }
        some { s with rng := { s.rng with capSrc := none } }
      | none => some s
    else some s

end State

/-- RNG_FWRND_READ (R226): a read of RNG_FWRND_LO. -/
def execRngFwrndRead (rq : Rq) (s : State) : Host.Outcome State Fault Refusal :=
  .next (s.asRead rq Blk.RNG 0 R.RNG_FWRND_LO State.fwrndRead)

/-- RNG_WAIT_TIMEOUT (R230): a RANDOM, RESEED or DRBG_INSTANTIATE has waited 50 ms. -/
def execRngWaitTimeout (job : Nat) (s : State) : Host.Outcome State Fault Refusal :=
  .next (match s.job job with
    | some j =>
      if s.rngWaiters.any (fun x => x.id == job) then
        (s.setFld R.RNG_WAITS 31 16 (max 500 (s.fld R.RNG_WAITS 31 16))).failJob j St.RNG_FAIL 6 0 0x0171 0
      else s
    | none => s)

/-- RNG_CAPTURE (R237): a write of RNG_CAPT. -/
def execRngCapture (rq : Rq) (v : Word) (s : State) : Host.Outcome State Fault Refusal :=
  .next (s.asWrite rq Blk.RNG 0 R.RNG_CAPT v (fun s => s.captWrite v))

end Sys2Proof.Machine
end

