-- ==== Sys2Proof/Machine/KstFw.lean ====
section
/-! DEFINITION. The key store's firmware commands (09 KST_FW_CMD, R244-R248), its image records becoming durable or
stalling (R251-R253), and the compaction of the image (R250). -/

namespace Sys2Proof.Machine

namespace State

/-- A message whose address format the spec does not define: its address is a free value (R253, R255, R263). -/
def faultFree (s : State) (b i kind : Nat) : State := s.withFree (fun n s => s.fault b i kind n)

/-! ### The firmware command register -/

/-- A firmware slot command ends: BUSY falls, DONE and CAUSE are set, and BEVT.FW_DONE. -/
def kstFwEnd (s : State) (cause : Nat) : State :=
  (s.setReg R.KST_FW_STAT (w32 (0x40000000 + cause))).event Blk.KST 0 6

/-- A change to slot `n`, from `old` to `new`: at once when no PERSIST slot is concerned, else complete when record
`body` is durable (R251). -/
def kstFwChange (s : State) (n : Nat) (old new : KSlot) (body : ImgBody) : State :=
  if bit old.policy 17 ∨ bit new.policy 17 then (s.setSlot n new).imgAppend n body (.fw n old)
  else (s.setSlot n new).kstFwEnd 0

/-- GENERATE: a random AES key or 256-bit SECRET fills an EMPTY slot (R244). -/
def kstGenerate (s : State) (n typ : Nat) : State :=
  let nb := if typ = 0x30 then 256 else 0
  let pol := s.reg R.KST_FW_ARG
  let len := if typ = 1 then 16 else if typ = 4 then 64 else 32
  if !(typ == 1 || typ == 2 || typ == 3 || typ == 4 || typ == 0x30) || !policyOk typ nb pol then s.kstFwEnd 0x0165
  else if (s.slot n).st ≠ .empty then s.kstFwEnd 0x0164
  else if !s.rngReady then s.kstFwEnd 0x0171
  else s.drawBytes len (fun m s =>
    let k : KSlot := { typ := typ, nbits := nb, policy := pol, mat := (m ++ zeros len).take len }
    if bit pol 17 then
      let k := { k with st := SlotSt.reserved, invR := 2 ^ 20, dirty := true }
      (s.setSlot n k).imgAppend n (.slot (s.slotOwner n) k) (.fw n {})
    else (s.setSlot n { k with st := .loaded }).kstFwEnd 0)

/-- SET_SHARE: SHARE becomes KST_FW_ARG [3:0] (R57). -/
def kstSetShare (s : State) (n : Nat) : State :=
  let k := s.slot n
  if k.st ≠ .loaded then s.kstFwEnd 0
  else
    let k' := markDirty { k with policy := putField k.policy 3 0 (s.fld R.KST_FW_ARG 3 0) }
    s.kstFwChange n k k' (.slot (s.slotOwner n) k')

/-- NARROW: the policy is ANDed with KST_FW_ARG (R248); a slot that loses PERSIST leaves the image. -/
def kstNarrow (s : State) (n : Nat) : State :=
  let k := s.slot n
  if k.st ≠ .loaded then s.kstFwEnd 0
  else
    let k' := { k with policy := k.policy &&& s.reg R.KST_FW_ARG, dirty := k.dirty || bit k.policy 17 }
    s.kstFwChange n k k' (if bit k'.policy 17 then .slot (s.slotOwner n) k' else .erase)

/-- ERASE: the slot is emptied (R244); a slot RESERVED for a job is not. -/
def kstErase (s : State) (n : Nat) : State :=
  let k := s.slot n
  if k.st = .reserved then s.kstFwEnd 0x0164
  else if k.st = .empty then s.kstFwEnd 0
  else s.kstFwChange n k { ({} : KSlot) with dirty := bit k.policy 17 } .erase

/-- A write of KST_FW_CMD: the RW fields are stored; GO runs OP on SLOT, and is refused while BUSY. A GO in which OP names
no command ends with no effect. -/
def kstFwWrite (s : State) (v : Word) : Option State :=
  let go := bit v 31
  if go ∧ bit (s.reg R.KST_FW_STAT) 31 then none
  else
    let s := s.setReg R.KST_FW_CMD (v &&& 0x0FFF0FFF)
    if !go then some s
    else
      let s := s.setReg R.KST_FW_STAT 0x80000000
      let n := bits v 11 0
      let op := bits v 27 24
      some (
        if op = 1 then s.kstGenerate n (bits v 23 16)
        else if op = 2 then s.kstSetShare n
        else if op = 3 then s.kstNarrow n
        else if op = 4 then s.kstErase n
        else s.kstFwEnd 0)

end State

/-- The word of KST_FW_CMD with GO that runs `op`. -/
def kstCmd (op typ n : Nat) : Word := w32 (0x80000000 + op * 0x1000000 + typ * 0x10000 + n)

/-- GENERATE: KST_FW_CMD is written with GO and OP 1. -/
def execGenerate (rq : Rq) (n : Fin 4096) (typ : Fin 256) (s : State) : Host.Outcome State Fault Refusal :=
  .next (s.asWrite rq Blk.KST 0 R.KST_FW_CMD (kstCmd 1 typ n) (fun s => s.kstFwWrite (kstCmd 1 typ n)))

/-- KST_SET_SHARE: KST_FW_CMD is written with GO and OP 2. -/
def execKstSetShare (rq : Rq) (n : Fin 4096) (s : State) : Host.Outcome State Fault Refusal :=
  .next (s.asWrite rq Blk.KST 0 R.KST_FW_CMD (kstCmd 2 0 n) (fun s => s.kstFwWrite (kstCmd 2 0 n)))

/-- NARROW: KST_FW_CMD is written with GO and OP 3. -/
def execNarrow (rq : Rq) (n : Fin 4096) (s : State) : Host.Outcome State Fault Refusal :=
  .next (s.asWrite rq Blk.KST 0 R.KST_FW_CMD (kstCmd 3 0 n) (fun s => s.kstFwWrite (kstCmd 3 0 n)))

/-- KST_ERASE: KST_FW_CMD is written with GO and OP 4. -/
def execKstErase (rq : Rq) (n : Fin 4096) (s : State) : Host.Outcome State Fault Refusal :=
  .next (s.asWrite rq Blk.KST 0 R.KST_FW_CMD (kstCmd 4 0 n) (fun s => s.kstFwWrite (kstCmd 4 0 n)))

/-! ### Image records -/

/-- The IV_GEN jobs that wait for an INVOC record of slot `n` (R252). -/
def State.invWaiters (s : State) (n : Nat) : List Job :=
  s.jobs.filter (fun j => j.stage == .wait .image && j.kind == 0 && j.keySlot == n &&
    (j.op == 0x10 || j.op == 0x12) && j.ivGen)

/-- Same kind of record: of one slot, or of one of the three singletons. -/
def ImgRec.same (a b : ImgRec) : Bool :=
  let cls := fun (r : ImgRec) => match r.body with
    | .slot _ _ | .erase => 0
    | .invoc _ => 1
    | .seal _ => 2
    | .ranges _ => 3
    | .custody .. => 4
  cls a == cls b && (decide (2 ≤ cls a) || a.slot == b.slot)

namespace State

/-- The records of the oldest sector that are the newest of their kind and hold something. -/
def imgLive (s : State) : List ImgRec :=
  s.kst.log.filter (fun r => decide (r.page < s.kst.tail + 16) && r.body != .erase &&
    !s.kst.log.any (fun q => decide (r.seq < q.seq) && r.same q))

/-- The fresh record that replaces a live one at compaction (R250): a SLOT record for a slot. -/
def imgFresh (s : State) (r : ImgRec) : State :=
  match r.body with
  | .slot _ _ | .invoc _ => s.imgAppend r.slot (.slot (s.slotOwner r.slot) (s.slot r.slot)) .none
  | b => s.imgAppend r.slot b .none

/-- One round of compaction (R250): with fewer than 64 free sectors the oldest sector's live records are written afresh;
once it holds none, its erase asks 12 tokens. -/
def imgCompact (s : State) : State :=
  if s.imgFree ≥ 64 ∨ !s.kst.queue.isEmpty ∨ s.hasLeave .imageErase ∨ s.mode = .lockdown then s
  else match s.imgLive with
    | [] => (s.askFlash ⟨3, 5, 2, s.kst.tail / 16 % 1024, Blk.KST, 12, .imageErase⟩).1
    | l => l.foldl imgFresh s

/-- The oldest sector of the image is erased (R250). -/
def imgErased (s : State) : State :=
  let t := s.kst.tail + 16
  let a := 0x09800000 + (s.kst.tail % 16384) * 256
  let s := (s.forget a (a + 0x1000)).releaseLeave .imageErase
  { s with kst := { s.kst with tail := t, log := s.kst.log.filter (fun r => decide (t ≤ r.page)) } }.imgKick

/-- What a durable record changes in its slot. -/
def imgSettle (s : State) (r : ImgRec) : State :=
  let k := s.slot r.slot
  match r.body with
  | .slot _ _ => if k.st = .reserved then s.setSlot r.slot { k with st := .loaded } else s
  | .invoc v =>
    let s := s.setSlot r.slot { k with invR := max k.invR v, invP := none }
    (s.invWaiters r.slot).foldl (fun s j => s.modJob j.id (fun j => { j with stage := .ready })) s
  | _ => s

/-- Who waited for a durable record goes on (R251). -/
def imgAnswer (s : State) (w : ImgWait) : State :=
  match w with
  | .none => s
  | .fw _ _ => s.kstFwEnd 0
  | .job id _ _ =>
    match s.job id with
    | some j =>
      if j.stage = JStage.wait .image then (s.postOutput j j.res).succeed j j.result j.detail else s
    | none =>
      match s.fwJob with
      | some j =>
        if j.id = id then (s.setBytes (j.u 16 8) j.res).fwEnd j St.OK 0 j.res.length else s
      | none => s

/-- A record that cannot be made durable (R253): its change is undone, who waits for it fails, KEY_IMAGE is recorded. -/
def imgStalled (s : State) (r : ImgRec) : State :=
  let s := { s with kst := { s.kst with queue := s.kst.queue.drop 1, prog := false } }.releaseLeave .image
  let s := (s.event Blk.KST 0 5).faultFree Blk.KST 0 Kind.KEY_IMAGE
  let s := match r.who with
    | .none =>
      let k := s.slot r.slot
      let s := if (match r.body with | .invoc _ => true | _ => false) then s.setSlot r.slot { k with invP := none } else s
      s.failAll (s.invWaiters r.slot) St.ENGINE_UNAVAILABLE 6 0x018E 0
    | .fw n undo => (s.setSlot n undo).kstFwEnd 0x018E
    | .job id n undo =>
      let s := s.setSlot n undo
      match s.job id with
      | some j =>
        if j.stage = JStage.wait .image then s.failJob { j with fill := none } St.ENGINE_UNAVAILABLE 6 0 0x018E 0 else s
      | none => match s.fwJob with
        | some j => if j.id = id then s.fwFail { j with fill := none } St.ENGINE_UNAVAILABLE 6 0x018E else s
        | none => s
  s.imgKick

end State

/-- IMAGE_RECORD_DURABLE (R251): the record being programmed is durable; its change takes effect and who waits for it
completes. -/
def execImageRecordDurable (s : State) : Host.Outcome State Fault Refusal :=
  .next (match s.kst.queue with
    | [] => s
    | r :: _ =>
      if !s.kst.prog ∨ (s.kst.kseal.isNone ∧ r.key.isEmpty) then s
      else ((((s.releaseLeave .image).imgDurable r).imgSettle r).imgAnswer r.who).imgKick.imgCompact)

/-- IMAGE_STALL (R253): the first record waiting has not become durable for 50 ms. -/
def execImageStall (s : State) : Host.Outcome State Fault Refusal :=
  .next (match s.kst.queue with
    | [] => s
    | r :: _ => s.imgStalled r)

end Sys2Proof.Machine
end

