-- ==== Sys2Proof/Machine/Admit.lean ====
section
/-! DEFINITION. Admission (03 R75-R77, R89, R103, R104; 04 R109-R112, R118, R136; 05 R159-R163; 06 R177-R185, R190,
R191; 07 R198-R200; 08 R228; 09 R247, R257-R259, R265; 13 R366-R370) and the window check (R58, R59, R77). -/

namespace Sys2Proof.Machine

/-- A failed check of an entry: byte offset it is found at, cause, detail. -/
abbrev Chk := Nat × Nat × Nat

/-- The check found at the lowest offset; an earlier one of the list wins a tie. -/
def firstChk (l : List Chk) : Option Chk :=
  l.foldl (fun (b : Option Chk) c => match b with
    | none => some c
    | some x => if c.1 < x.1 then some c else some x) none

/-- Bytes `o` to `o + n - 1` of an entry must be 0: the first that is not fails with `cause` (R103, cause 2). -/
def zeroChk (e : List Byte) (o n cause : Nat) : List Chk :=
  match (List.range n).find? (fun i => leAt e (o + i) 1 != 0) with
  | some i => [(o + i, cause, o + i)]
  | none => []

/-- A check at one offset. -/
def ifChk (b : Bool) (o cause detail : Nat) : List Chk := if b then [(o, cause, detail)] else []

/-- Bits of the PARAM bytes an opcode defines, as pairs of first byte and masks (R109, R180, R199 ...). -/
def paramMask (op : Nat) : List (Nat × List Nat) :=
  let ff := fun n => List.replicate n 0xFF
  if op = 0x01 then [(32, [1])] else if op = 0x02 then [(32, [0x7F])]
  else if 0x10 ≤ op ∧ op ≤ 0x15 then [(32, [0xFF, 7] ++ ff 10), (48, ff 16)]
  else if op = 0x18 then [(32, [0xFF, 0xFF, 3])] else if op = 0x19 then [(32, [0xFF, 0xFF, 1])]
  else if op = 0x20 ∨ op = 0x21 ∨ op = 0x24 ∨ op = 0x25 then [(32, [0xFF]), (36, ff 2)]
  else if op = 0x22 then [(32, [0xFF]), (34, ff 4), (40, ff 4)]
  else if op = 0x23 then [(32, [0xFF]), (36, ff 2), (40, ff 4)]
  else if op = 0x30 then [(32, [1])]
  else if op = 0x40 then [(32, [0xFF, 0xFF, 3])] else if op = 0x41 then [(32, ff 2), (36, ff 4)]
  else if op = 0x42 then [(32, ff 3), (36, ff 4)]
  else if op = 0x50 then [(32, ff 10)] else if op = 0x52 then [(32, [1])]
  else if op = 0x60 ∨ op = 0x61 then [(32, ff 5)]
  else if op = 0x80 then [(32, ff 24)] else if op = 0x81 then [(32, [0xFF, 0xFF, 1, 0, 0xFF, 0xFF])]
  else if op = 0x82 then [(32, ff 2)] else if op = 0x83 then [(32, ff 1)]
  else if op = 0x84 then [(32, ff 18 ++ [1])] else if op = 0x85 then [(32, ff 2), (40, ff 14 ++ [1])]
  else if op = 0x87 then [(32, [0xFF, 1, 0xFF, 0xFF])] else if op = 0x88 then [(33, [1])]
  else []

/-- The mask of PARAM byte `o`. -/
def paramBits (op o : Nat) : Nat :=
  ((paramMask op).map (fun x => if x.1 ≤ o then x.2.getD (o - x.1) 0 else 0)).foldl max 0

/-- Reserved bits of PARAM (cause 2). -/
def paramChk (op : Nat) (e : List Byte) : List Chk :=
  match (List.range 32).find? (fun i => leAt e (32 + i) 1 &&& (255 - paramBits op (32 + i)) != 0) with
  | some i => [(32 + i, 2, 32 + i)]
  | none => []

/-- Kind of key handle an opcode takes (R75): 0 none, 1 slot, 2 device index, 3 device index or none. -/
def keyKind (op : Nat) : Nat :=
  if op ∈ [0x01, 0x02, 0x50, 0x51] then 2 else if op = 0x52 then 3
  else if op ∈ [0x10, 0x11, 0x12, 0x13, 0x14, 0x15, 0x18, 0x19, 0x20, 0x22, 0x23, 0x24, 0x40, 0x41, 0x42] then 1
  else 0

/-- The opcodes of the opcode table (R75). -/
def opKnown (op : Nat) : Bool :=
  op ∈ [0x01, 0x02, 0x10, 0x11, 0x12, 0x13, 0x14, 0x15, 0x18, 0x19, 0x20, 0x21, 0x22, 0x23, 0x24, 0x25, 0x30, 0x31,
    0x40, 0x41, 0x42, 0x50, 0x51, 0x52, 0x60, 0x61, 0x70] || decide (0x80 ≤ op ∧ op ≤ 0x88)

/-- An admin opcode (R76). -/
def isAdmin (op : Nat) : Bool := decide (0x80 ≤ op ∧ op ≤ 0x88)

/-- Opcodes that accept continuation entries (R75). -/
def takesChain (op : Nat) : Bool := op ∈ [0x01, 0x02, 0x10, 0x11, 0x12, 0x13, 0x14, 0x15, 0x60, 0x61]

/-- The key handle's checks (R75, R4): causes 5 and 6. -/
def keyChk (op lim : Nat) (key : Nat) : List Chk :=
  let dev := decide (2 ^ 31 ≤ key)
  let kind := keyKind op
  if kind = 0 then ifChk (key != 0) 4 5 4
  else if kind = 1 then ifChk (decide (4096 ≤ key)) 4 5 4
  else if kind = 3 ∧ key = 0 then []
  else if !dev ∨ key - 2 ^ 31 ≥ 2 ^ 18 then [(4, 5, 4)]
  else ifChk (decide (lim ≤ key % 2 ^ 18)) 4 6 4

/-- Does an opcode use IN_ADDR/IN_LEN, and OUT_ADDR/OUT_LEN, or must they be 0 (R75, R109, R162, R163)? -/
def usesIn (op : Nat) : Bool := !(op == 0x70 || op == 0x51 || op == 0x52 || (isAdmin op && op != 0x88))
def usesOut (op : Nat) : Bool :=
  !(op == 0x70 || op == 0x51 || op == 0x52 || (isAdmin op && op != 0x82 && op != 0x86 && op != 0x87))

/-- Address and length fields of the FIRST entry: zero where unused (ENROL_RETIRE and CTX_FLUSH judge their lengths as
lengths), and no segment past 2^64 (R77). -/
def addrChk (op : Nat) (e : List Byte) : List Chk :=
  let seg := fun (use : Bool) (o l : Nat) =>
    if use then ifChk (decide (2 ^ 64 < leAt e o 8 + leAt e l 4)) o 9 o
    else zeroChk e o 8 2 ++ (if op = 0x51 ∨ op = 0x52 then [] else zeroChk e l 4 2)
  seg (usesIn op) 8 24 ++ seg (usesOut op) 16 28

/-! ### General symmetric jobs (R180-R188) -/

/-- Modes an opcode accepts. -/
def symModeOk (op m : Nat) : Bool :=
  if op = 0x10 ∨ op = 0x11 then decide (1 ≤ m ∧ m ≤ 6)
  else if op = 0x12 ∨ op = 0x13 then m == 3 || m == 8
  else m == 9

/-- Modes with streams. -/
def symStreams (op m : Nat) : Bool := m == 1 || m == 2 || m == 8 || (m == 3 && op == 0x10)

/-- Tag lengths of a mode. -/
def tagLenOk (m t : Nat) : Bool :=
  if m = 3 then t ∈ [4, 8, 12, 13, 14, 15, 16] else if m = 4 then t ∈ [4, 6, 8, 10, 12, 14, 16]
  else if m = 8 then decide (4 ≤ t ∧ t ≤ 16) else t == 0

/-- IV bytes a mode uses, when the IV is given. -/
def ivBytes (j : Job) : Nat :=
  if j.stateIn then 0 else if j.ivGen then 4
  else if j.mode = 3 then 12 else if j.mode = 4 then j.nonceLen
  else if j.mode = 1 ∨ j.mode = 2 ∨ j.mode = 9 then 16 else 0

/-- The PARAM checks of opcodes 0x10 to 0x15. -/
def symChk (j : Job) (lim : Nat) : List Chk :=
  let m := j.mode
  let e := j.e0
  let st := j.stateIn || j.stateOut
  let empty := decide (j.inTotal ≤ j.aadSec + j.tagSec)
  let vbad := if m = 5 ∨ m = 6 then j.valid != 0
    else if empty then j.valid != 0 || j.stateOut
    else if m = 2 ∨ m = 9 ∨ j.stateOut then j.valid != 16
    else decide (j.valid < 1 ∨ 16 < j.valid)
  ifChk (!symModeOk j.op m) 32 0x0140 32 ++
    ifChk ((st && !symStreams j.op m) || (j.ivGen && (j.stateIn || !((j.op == 0x10 && decide (1 ≤ m ∧ m ≤ 4)) ||
      (j.op == 0x12 && m == 3))))) 33 0x0141 33 ++
    ifChk vbad 34 0x0143 34 ++
    ifChk (!tagLenOk m j.tagLen) 35 0x0142 35 ++
    (if st then ifChk (decide (lim ≤ j.streamNo)) 36 6 36 else zeroChk e 36 2 2) ++
    ifChk (if m = 3 then j.nonceLen != 12
      else if m = 4 then decide (j.nonceLen < 7 ∨ 13 < j.nonceLen ∨ (j.ivGen ∧ j.nonceLen < 12))
      else j.nonceLen != 0) 38 0x0142 38 ++
    ifChk (if m = 9 then decide (j.duLog < 4 ∨ 14 < j.duLog) else j.duLog != 0) 39 0x0142 39 ++
    (if (m = 3 ∧ !j.stateIn) ∨ m = 4 then [] else zeroChk e 40 4 2) ++
    zeroChk e (48 + ivBytes j) (16 - ivBytes j) 2

/-- Output bytes a symmetric job needs (R182, R185); for an unwrap, the most its input can give. -/
def symNeed (j : Job) : Nat :=
  let iv := if j.ivGen then 16 else 0
  let t := if j.stateOut then 0 else 16
  if j.mode = 5 ∨ j.mode = 6 then
    (if j.op = 0x10 then (j.inTotal + 7) / 8 * 8 + 8 else j.inTotal - 8)
  else if j.op = 0x12 then iv + t
  else if j.op = 0x13 then 0
  else iv + j.payLen + (if j.op = 0x10 ∧ (j.mode = 3 ∨ j.mode = 4) then t else 0)

/-- Lengths of a symmetric job: cause and detail (R181, R182, R185, R186). -/
def symLen (j : Job) : Option (Nat × Nat) :=
  let i := j.inTotal
  let bad := if j.mode = 5 ∨ j.mode = 6 then
      (if j.op = 0x11 then (if i < 24 ∨ 16384 < i ∨ i % 8 ≠ 0 then some (2, i) else none)
      else if j.mode = 5 then (if i < 16 ∨ 16376 < i ∨ i % 8 ≠ 0 then some (2, i) else none)
      else (if i < 1 ∨ 16376 < i then some (2, i) else none))
    else if i % 16 ≠ 0 then some (3, i)
    else if i < j.aadSec + j.tagSec ∨ (j.mode = 3 ∧ (j.op = 0x12 ∨ j.op = 0x13) ∧ j.payLen ≠ 0) then some (2, i)
    else if j.mode = 9 ∧ i % 2 ^ j.duLog ≠ 0 then some (0x0145, i)
    else none
  match bad with
  | some x => some x
  | none =>
    if j.op = 0x13 then (if j.outTotal ≠ 0 then some (2, j.outTotal) else none)
    else if j.outTotal < symNeed j then some (4, symNeed j)
    else none

namespace State

/-! ### Opcode checks that depend on the state -/

/-- A domain's QP range (R110). -/
def inRange (s : State) (d q : Nat) : Bool :=
  let b := s.fld (R.TUN_DOM_QP + d * 0x20) 14 0
  decide (b ≤ q) && decide (q < b + s.fld (R.TUN_DOM_QP + d * 0x20) 30 16)

/-- The lowest free QP number of a domain's range. -/
def freeQp (s : State) (d : Nat) : Option Nat :=
  let b := s.fld (R.TUN_DOM_QP + d * 0x20) 14 0
  (List.range (s.fld (R.TUN_DOM_QP + d * 0x20) 30 16)).findSome? (fun i =>
    if (s.qp (b + i)).st = .absent then some (b + i) else none)

/-- CREATE_QP (R112). -/
def createChk (s : State) (j : Job) : List Chk :=
  let q := j.u 32 2
  let sn := j.u 34 1
  let cn := j.u 35 1
  let sb := j.u 40 8
  let cb := j.u 48 8
  let qpn := if q = 0xFFFF then ifChk (s.freeQp j.dom).isNone 32 0x0103 32
    else if q ≥ s.variant.qps then [(32, 6, 32)]
    else if !s.inRange j.dom q ∨ q < 4 then [(32, 0x0101, 32)]
    else ifChk (decide ((s.qp q).st ≠ .absent)) 32 0x0102 32
  qpn ++ ifChk (decide (sn < 4 ∨ 16 < sn)) 34 0x0104 34 ++ ifChk (decide (cn < 4 ∨ 16 < cn)) 35 0x0104 35 ++
    ifChk (decide (3 < j.u 36 1)) 36 0x0107 36 ++ ifChk (decide (4096 < j.u 38 2)) 38 0x0107 38 ++
    ifChk (sb % 4096 != 0) 40 0x0105 40 ++ ifChk (cb % 4096 != 0) 48 0x0105 48 ++
    ifChk (decide (sb < cb + 2 ^ cn * 16 ∧ cb < sb + 2 ^ sn * 64)) 40 0x0106 40

/-- The QP a DESTROY_QP or QUERY_QP names (R112). -/
def qpnChk (s : State) (j : Job) (own : Bool) : List Chk :=
  let q := j.u 32 2
  if q ≥ s.variant.qps then [(32, 6, 32)]
  else if !(own && q == j.dom) && (!s.inRange j.dom q || decide (q < 4)) then [(32, 0x0101, 32)]
  else ifChk (decide ((s.qp q).st = .absent)) 32 0x0102 32

/-- BIND_TABLE (R112, R136). -/
def bindChk (s : State) (j : Job) : List Chk :=
  let b := s.bind j.dom
  if j.u 50 1 % 2 = 1 then
    (match ((List.range 18) ++ [19, 20, 21, 22, 23, 24, 25, 26, 27, 28, 29, 30, 31]).find? (fun i => j.u (32 + i) 1 != 0) with
      | some i => [(32 + i, 0x010A, 32 + i)]
      | none => []) ++ ifChk (decide (1 < j.u 50 1)) 50 2 50 ++ ifChk (!b.bound) 50 0x010A 50
  else
    ifChk (j.u 32 8 % 4096 != 0) 32 0x010A 32 ++
      ifChk (j.u 40 4 == 0 || decide (s.fld (R.TUN_DOM_ENQ + j.dom * 0x20) 18 0 < j.u 40 4)) 40 0x010A 40 ++
      ifChk (decide (b.vcnt < j.u 40 4)) 40 0x0120 b.vcnt ++
      ifChk (decide (4096 ≤ j.u 48 2)) 48 6 48 ++ ifChk b.bound 50 0x010A 50

/-- SET_WINDOW (R112, R118). -/
def windowChk (j : Job) : List Chk :=
  let w := j.u 32 1
  let p := j.u 33 1
  let clear := decide (128 ≤ p)
  let core := j.u 54 1 % 2 == 1
  let num := ifChk (decide (w < 1 ∨ 15 < w)) 32 0x0109 32
  if clear then
    num ++ ifChk (p != 128) 33 0x0109 33 ++ ifChk (j.u 40 8 != 0) 40 0x0109 40 ++ ifChk (j.u 48 4 != 0) 48 0x0109 48 ++
      ifChk (j.u 52 2 != 0) 52 0x0109 52 ++ ifChk (j.u 54 1 != 0) 54 0x0109 54
  else
    num ++ ifChk (decide (p / 16 % 8 ≠ 0) || (decide (p / 4 % 4 ≠ 0) && !core)) 33 0x0109 33 ++
      ifChk (j.u 40 8 % 4096 != 0) 40 0x0109 40 ++
      ifChk (decide (j.u 48 4 < 1 ∨ 262144 < j.u 48 4)) 48 0x0109 48 ++
      ifChk (core && decide (65536 < j.u 52 2 + j.u 48 4)) 52 0x0109 52

/-- The opcode's own checks of PARAM. -/
def opChk (s : State) (j : Job) : List Chk :=
  let op := j.op
  let slotAt := fun o => ifChk (decide (4096 ≤ j.u o 2)) o 6 o
  if 0x10 ≤ op ∧ op ≤ 0x15 then symChk j s.variant.streams
  else if op = 0x18 ∨ op = 0x19 then ifChk (decide (s.variant.streams ≤ j.u 32 2)) 32 6 32
  else if 0x20 ≤ op ∧ op ≤ 0x25 then
    ifChk (!pkAlgOk op j.alg) 32 0x0160 32 ++ (if op = 0x22 then slotAt 34 else []) ++
      ifChk (!pkNbitsOk j.alg j.nbits) 36 0x0160 36 ++ ifChk (!pkPolOk false op j.alg j.pol) 40 0x0165 40
  else if op = 0x40 then (if j.u 34 1 / 2 % 2 = 1 then zeroChk j.e0 32 2 2 else slotAt 32)
  else if op = 0x41 then slotAt 32 ++ ifChk (!hostBitsOk (w32 (j.u 36 4))) 36 0x0165 36
  else if op = 0x42 then
    let t := j.u 34 1
    let p := w32 (j.u 36 4)
    slotAt 32 ++ ifChk (!(t ∈ [1, 2, 3, 4, 0x30]) || !hostBitsOk p || !policyOk t (if t = 0x30 then 256 else 0) p)
      36 0x0165 36
  else if op = 0x50 then
    let new := j.u 32 1 == 0
    ifChk (decide (1 < j.u 32 1)) 32 0x0121 32 ++
      ifChk (if new then decide (j.u 33 1 < 1 ∨ 4 < j.u 33 1) else j.u 33 1 != 0) 33 0x0121 33 ++
      ifChk (if new then decide (3 < j.u 34 2) else j.u 34 2 != 0) 34 0x0121 34 ++ slotAt 36 ++
      (if new then zeroChk j.e0 38 4 2 else [])
  else if op = 0x60 then ifChk (decide (15359 < j.u 32 4)) 32 0x01A0 32 ++ ifChk (j.u 36 1 != 0) 36 0x01A1 36
  else if op = 0x61 then ifChk (decide (14335 < j.u 32 4)) 32 0x01A0 32 ++ ifChk (decide (2 < j.u 36 1)) 36 0x01A1 36
  else if op = 0x80 then s.createChk j
  else if op = 0x81 then s.qpnChk j false
  else if op = 0x82 then s.qpnChk j true
  else if op = 0x83 then
    ifChk (j.u 32 1 == 0 || decide (s.fld (R.TUN_DOM_SHQ + j.dom * 0x20) 6 0 < j.u 32 1)) 32 0x0108 32
  else if op = 0x84 then s.bindChk j
  else if op = 0x85 then windowChk j
  else if op = 0x87 then ifChk (decide (32 < j.u 32 1)) 32 0x010C 32
  else if op = 0x88 then ifChk ((s.port j.dom).drbg && j.u 33 1 % 2 == 0) 33 0x010B 33
  else []

/-- Bytes a WRAP writes (R257), for the key the slot holds now. -/
def wrapNeed (s : State) (j : Job) : Nat := (16 + (blobMat (s.slot j.keySlot)).length + 7) / 8 * 8 + 8

/-- Lengths (check 5 of R104): cause and detail. -/
def lenChk (s : State) (j : Job) : Option (Nat × Nat) :=
  let op := j.op
  let i := j.inTotal
  let o := j.outTotal
  let lim := fun (a b : Nat) => if i < a ∨ b < i then some (2, i) else none
  let need := fun (n : Nat) => if o < n then some (4, n) else none
  if 0xFFFFFFFF < i ∨ 0xFFFFFFFF < o then some (1, 0xFFFFFFFF)
  else if op = 0x01 then
    (lim 24 16384).or (need (i - 32 + (if j.u 32 1 % 2 = 1 then 16 else 0)))
  else if op = 0x02 then (lim 0 16352).or (need (i + 32))
  else if 0x10 ≤ op ∧ op ≤ 0x15 then symLen j
  else if op = 0x18 then need (if j.u 34 1 % 2 = 1 then 96 else 104)
  else if op = 0x19 then (let n := if j.u 34 1 % 2 = 1 then 96 else 104; lim n n)
  else if 0x20 ≤ op ∧ op ≤ 0x25 then pkLenBad j
  else if op = 0x30 then (lim 0 256).or (if o < 1 ∨ 16384 < o then some (2, o) else none)
  else if op = 0x31 then (lim 0 256).or (if o ≠ 0 then some (2, o) else none)
  else if op = 0x40 then
    (if j.u 34 1 / 2 % 2 = 1 then (if o ≠ 0 then some (2, o) else none) else need (s.wrapNeed j))
  else if op = 0x41 then lim 24 2048
  else if op = 0x42 then lim 1 256
  else if op = 0x50 then
    ((if j.u 32 1 = 1 then lim 128 128 else if i = 0 ∨ i = 32 then none else some (2, i)).or (need 128))
  else if op = 0x51 ∨ op = 0x52 then
    (if j.u 24 4 ≠ 0 then some (2, j.u 24 4) else if j.u 28 4 ≠ 0 then some (2, j.u 28 4) else none)
  else if op = 0x60 then
    (lim 0 0).or (if o < 1 ∨ 15360 < j.u 32 4 + o then some (2, o) else none)
  else if op = 0x61 then
    (if 14336 < j.u 32 4 + i ∨ (i = 0 ∧ j.u 36 1 = 0) then some (2, i) else none).or (if o ≠ 0 then some (2, o) else none)
  else if op = 0x82 then need 64
  else if op = 0x86 then need 128
  else if op = 0x87 then need 16
  else if op = 0x88 then lim 0 256
  else none

end State

/-- Code of a lifecycle state (HS_MODE.LIFECYCLE, R462). -/
def Life.code : Life → Nat
  | .foundry => 0 | .vendor => 1 | .shipped => 2 | .commissioned => 3 | .decommissioned => 4

/-- An opcode is accepted in a lifecycle state (R111, R164, R265). -/
def lifeOk (life : Life) (op key : Nat) : Bool :=
  if op = 0x40 ∨ op = 0x41 ∨ op = 0x42 ∨ op = 0x88 then life == .vendor || life == .shipped || life == .commissioned
  else if op = 0x50 ∨ op = 0x51 ∨ op = 0x52 ∨ op = 0x84 then life == .shipped || life == .commissioned
  else if keyKind op = 0 ∨ (op = 0x52 ∧ key = 0) then true
  else life != .decommissioned

/-- The malformed continuation entry of a job (R77, R89): its position and offset (cause 7). -/
def contBad (j : Job) : Option (Nat × Nat) :=
  (List.range (j.ents.length - 1)).findSome? (fun k =>
    let e := j.ents.getD (k + 1) []
    let el := (List.range 3).flatMap (fun i =>
      let o := 16 + 16 * i
      if leAt e (o + 8) 4 = 0 then zeroChk e o 8 7 ++ ifChk (leAt e (o + 12) 1 % 2 == 1) (o + 12) 7 (o + 12) else [])
    (firstChk (ifChk (leAt e 1 1 != 0) 1 7 1 ++ zeroChk e 4 12 7 ++ el)).map (fun c => (k + 1, c.1)))

/-- Reserved bits and segments past 2^64 of the continuation entries: position, offset, cause. -/
def contResv (j : Job) : Option (Nat × Nat × Nat) :=
  (List.range (j.ents.length - 1)).findSome? (fun k =>
    let e := j.ents.getD (k + 1) []
    let el := (List.range 3).flatMap (fun i =>
      let o := 16 + 16 * i
      ifChk (decide (2 ^ 64 < leAt e o 8 + leAt e (o + 8) 4)) o 9 o ++
        ifChk (decide (2 ≤ leAt e (o + 12) 1)) (o + 12) 2 (o + 12) ++ zeroChk e (o + 13) 3 2)
    (firstChk (ifChk (leAt e 0 1 % 16 != 0) 0 2 0 ++ el)).map (fun c => (k + 1, c.1, c.2.1)))

namespace State

/-- A failed admission check: status, entry position, cause, detail (checks 3 to 6 of R104). -/
def admission (s : State) (j : Job) : Option (Nat × Nat × Nat × Nat) :=
  let op := j.op
  if !opKnown op then some (St.BAD_ENTRY, 0, 3, 1)
  else if isAdmin op ∧ j.qp ≥ 4 then some (St.BAD_ENTRY, 0, 4, 1)
  else if 1 < j.ents.length ∧ !takesChain op then some (St.BAD_ENTRY, 1, 8, 0)
  else match contBad j with
    | some (k, o) => some (St.BAD_ENTRY, k, 7, o)
    | none =>
      let e := j.e0
      match firstChk (ifChk (isAdmin op && j.ordr) 0 0x0100 0 ++ ifChk (leAt e 0 1 % 8 != 0) 0 2 0 ++
          keyChk op s.variant.enrolled j.keyField ++ addrChk op e ++
          (if op = 0x84 ∧ j.u 50 1 % 2 = 1 then [] else paramChk op e) ++ s.opChk j) with
      | some (_, c, d) => some (St.BAD_ENTRY, 0, c, d)
      | none => match contResv j with
        | some (k, o, c) => some (St.BAD_ENTRY, k, c, o)
        | none => match s.lenChk j with
          | some (c, d) => some (St.LENGTH_ERROR, 0, c, d)
          | none =>
            if lifeOk s.life op j.keyField then none else some (St.MODE_DENIED, 0, 2, s.life.code)

/-! ### The window check -/

/-- The first segment the windows refuse: element number, offset in the input or output, refused address. -/
def windowBad (s : State) (j : Job) : Option (Nat × Nat × Nat) :=
  let rec go : List (Bool × Nat × Nat × Nat) → Nat → Nat → Option (Nat × Nat × Nat)
    | [], _, _ => none
    | (out, a, n, e) :: t, i, o =>
      match s.winRefusal j.dom a n out with
      | some x => some (e, (if out then o else i) + (x - a), x)
      | none => go t (if out then i else i + n) (if out then o + n else o)
  go j.segs 0 0

/-- The ring or table a CREATE_QP or BIND_TABLE names lies outside every window that grants what it needs (R72, R112):
cause and the first byte no window covers. -/
def ringBad (s : State) (j : Job) : Option (Nat × Nat) :=
  let first := fun (a n : Nat) (both : Bool) =>
    ((s.winRefusal j.dom a n false).or (if both then s.winRefusal j.dom a n true else none)).getD a
  if j.op = 0x80 then
    let sn := 2 ^ j.u 34 1 * 64
    let cn := 2 ^ j.u 35 1 * 16
    if !s.oneWindow j.dom (j.u 40 8) sn true then some (0x0100, first (j.u 40 8) sn true)
    else if !s.oneWindow j.dom (j.u 48 8) cn true then some (0x0101, first (j.u 48 8) cn true)
    else none
  else if j.op = 0x84 ∧ j.u 50 1 % 2 = 0 then
    if !s.oneWindow j.dom (j.u 32 8) (j.u 40 4 * 128) false then
      some (0x0102, first (j.u 32 8) (j.u 40 4 * 128) false)
    else none
  else none

/-- The window check and what follows it (R27 stages 3 and 4): a refusal is recorded and ends the job. -/
def windowStage (s : State) (j : Job) : State :=
  let refused := fun (s : State) (a : Nat) => s.faultBy Blk.TUN 0 Kind.HOST_WINDOW a j.dom Blk.TUN 0
  match s.ringBad j with
  | some (c, a) => (refused s a).failJob j St.WINDOW_FAULT 3 0 c 0
  | none => match s.windowBad j with
    | some (e, d, a) => (refused s a).failJob j St.WINDOW_FAULT 3 0 e d
    | none => s.resolve j

/-- Admission of a job and the stages up to key resolution. An enrolment command closes its index (R158). -/
def passAdmission (s : State) (j : Job) : State :=
  match s.admission j with
  | some (st, e, c, d) => s.failJob j st 2 e c d
  | none =>
    let closes := j.op = 0x50 ∨ j.op = 0x51 ∨ (j.op = 0x52 ∧ j.keyField ≠ 0)
    let s := if closes then { s with closedIdx := s.closedIdx ++ [(j.dom, j.devIdx, j.id)] } else s
    s.windowStage j

end State
end Sys2Proof.Machine
end

