-- ==== Sys2Proof/Machine/Tundish.lean ====
section
/-! DEFINITION. The rings: doorbells (R48, R49, R79, R83-R85, R92), fetching and taking entries (R80-R89, R106, R121),
input reads (R103), dispatch (R122, R128), completion slots (R91, R107). -/

namespace Sys2Proof.Machine

namespace State

/-! ### Doorbells -/

/-- A host request refused (R20, R54, R55): UR or CA counted, logged through AER, one ACCESS_VIOLATION of HPT `p` with
the BAR and offset as address. -/
def hostRefuse (s : State) (p bar off : Nat) (ca : Bool) : State :=
  let a := R.HPT_VIOL + p * 0x40000
  let s := if ca then s.count a 31 16 else s.count a 15 0
  let s := s.modPort p (fun k => { k with aer := (if ca then 2 else 1) :: k.aer })
  s.faultBy Blk.HPT p Kind.ACCESS_VIOLATION (bar * 2 ^ 36 + off) p Blk.HPT p

/-- Port `p` is active under the variant and its link is up: a request can arrive. -/
def portLive (s : State) (p : Nat) : Bool := decide (p < s.variant.ports) && (s.port p).linkUp

/-- BAR0 of port `p` answers (R54): mode, reset and power state. -/
def bar0Up (s : State) (p : Nat) : Bool :=
  (s.mode == .service || s.mode == .hold) && !(s.port p).resetting && !(s.port p).d3

/-- Queue pair `q` has a doorbell window on port `p` (R36, R114). -/
def doorOf (s : State) (p q : Nat) : Bool :=
  decide (q < s.variant.qps) && (s.qp q).st != .absent && (s.qp q).dom == p

/-- A doorbell request on port `p` for queue pair `q` at window offset `o`: refused with UR, or `k`. -/
def door (s : State) (p q o : Nat) (k : State → State) : State :=
  if !s.portLive p then s
  else if s.bar0Up p && s.doorOf p q then k s
  else s.hostRefuse p 0 (q * 256 + o) false

/-- A doorbell value is discarded (R79): counted, and recorded as DOORBELL_VALUE; a QP in DESTROYING only counts it
(R114). -/
def discard (s : State) (p q o : Nat) : State :=
  let s := s.modQp q (fun k => { k with dbErr := satSucc 0xFFFF k.dbErr })
  let s := s.count R.TUN_ERR 15 0
  if (s.qp q).st = .destroying then s
  else (s.event Blk.TUN 0 4).faultBy Blk.HPT p Kind.DOORBELL_VALUE (q * 256 + o) p Blk.HPT p

/-- A write of V to SQ_TAIL (R79). -/
def sqTail (s : State) (p q : Nat) (v : Word) : State :=
  let k := s.qp q
  let n := 2 ^ k.sqN
  let x := v.toNat
  let s := s.modQp q (fun k => { k with lastTail := v })
  if k.st ≠ .destroying ∧ x < n ∧ (x + n - k.h) % n ≥ (k.t + n - k.h) % n then
    (s.modQp q (fun k => { k with t := x })).reportAll q
  else s.discard p q 0

/-- A write of V to CQ_HINT (R92). C is W plus the slots known to be free. -/
def cqHint (s : State) (p q : Nat) (v : Word) : State :=
  let k := s.qp q
  let n := 2 ^ k.cqN
  let x := v.toNat
  let c := (k.w + k.free) % n
  let s := s.modQp q (fun k => { k with lastHint := v })
  if k.st ≠ .destroying ∧ x < n ∧ (x + n - c) % n ≤ (k.w + n - c) % n then
    if k.outst = 0 then s
    else
      let s := s.modQp q (fun k =>
        if x = k.w then { k with
          free := n, outst := 0 }
        else { k with
          free := (x + n - k.w) % n, outst := min k.outst ((k.w + n - x) % n) })
      s.reportAll q
  else s.discard p q 8

/-- Inline entries port `p` holds (R85). -/
def inlineHeld (s : State) (p : Nat) : Nat := ((s.qps.filter (fun e => e.2.dom == p)).map (fun e => e.2.inl.length)).sum

/-- One inline entry takes slot T (R83); with the store full it is written to its ring slot and fetched later (R85). -/
def pushOne (s : State) (p q : Nat) (e : List Byte) : State :=
  let k := s.qp q
  let e := slice e 0 64
  let adv := fun (k : QP) => { k with t := (k.t + 1) % 2 ^ k.sqN }
  if s.inlineHeld p < 1024 then
    s.modQp q (fun k => adv { k with inl := Tbl.set (fun _ => ⟨[], true⟩) k.inl k.t ⟨e, true⟩ })
  else
    let a := k.sqBase + k.t * 64
    let s := if s.granuleOk k.dom a true then s.post k.dom a e false
      else s.faultBy Blk.TUN 0 Kind.HOST_WINDOW a k.dom Blk.TUN 0
    s.modQp q (fun k => adv { k with spilled := k.spilled ++ [k.t] })

/-- An inline push of one or two entries (R83). -/
def push (s : State) (p q : Nat) (es : List (List Byte)) (o : Nat) : State :=
  let k := s.qp q
  let n := 2 ^ k.sqN
  if k.st = .destroying ∨ (k.t + n - k.h) % n + es.length > n - 1 then s.discard p q o
  else es.foldl (fun s e => s.pushOne p q e) s

/-! ### Taking entries -/

/-- In-flight slots domain `d` may still take (R125). -/
def dFree (s : State) (d : Nat) : Nat :=
  let rsv := fun x => s.fld (R.TUN_DOM_INFL + x * 0x20) 13 0
  let cap := s.fld (R.TUN_DOM_INFL + d * 0x20) 29 16
  let u := s.dInfl d
  (rsv d - u) + min (cap - max u (rsv d))
    ((8192 - ((List.range 4).map rsv).sum) - ((List.range 4).map (fun x => s.dInfl x - rsv x)).sum)

/-- Entries of a queue pair that are being read, or read again: each may hold a slot from its fetch on (04, Flow control). -/
def qReading (k : QP) : Nat := ((k.fetch.map (·.n)).getD 0) + ((k.reread.map (·.length)).getD 0)

/-- Posted entries of a queue pair. -/
def qPosted (k : QP) : Nat := (k.t + 2 ^ k.sqN - k.h) % 2 ^ k.sqN

/-- Entries of queue pair `q` that may be fetched now (R80, R126): those being read count, and an open chain holds its
slot already. -/
def room (s : State) (q : Nat) : Nat :=
  let k := s.qp q
  let busy := ((s.qps.filter (fun e => e.2.dom == k.dom)).map (fun e => qReading e.2)).sum
  max (b2n (!k.chain.isEmpty) - qReading k) (min (s.qLimit q - (s.qInfl q + qReading k)) (s.dFree k.dom - busy))

/-- A job of queue pair `q` made of entries `es`, and the state that holds it. -/
def newJob (s : State) (q : Nat) (es : List (List Byte)) (ordr : Bool) : Job × State :=
  let e0 := es.headD []
  let j : Job := {
    id := s.nextJob, qp := q, dom := (s.qp q).dom, tag := leAt e0 2 2, op := leAt e0 1 1
    ordr := ordr, cmpl := leAt (es.getLastD []) 0 1 / 16 % 2 == 1, ents := es, stage := .held }
  let s := { s with nextJob := s.nextJob + 1, jobs := s.jobs ++ [j] }
  (j, if s.qInfl q ≥ s.qLimit q ∨ !s.dRoom j.dom then s.event Blk.TUN 0 3 else s)

/-- A job whose entries fail the ownership or chain checks (R82, R87). -/
def badChain (s : State) (q : Nat) (es : List (List Byte)) (ordr : Bool) (status cause entry : Nat) : State :=
  let (j, s) := s.newJob q es ordr
  s.failJob j status 2 entry cause 0

/-- ORDR of a FIRST entry. -/
def ordrOf (e : List Byte) : Bool := leAt e 0 1 / 8 % 2 == 1

/-- A whole job is taken: an admin command waits its turn (R108), any other goes through admission. -/
def takeJob (s : State) (q : Nat) (es : List (List Byte)) : State :=
  let (j, s) := s.newJob q es (ordrOf (es.headD []))
  if isAdmin j.op ∧ q < 4 then s else s.passAdmission j

/-- The chain rules for an entry just taken; `own` is its OWN bit as judged (R82, R87, R88). -/
def chainStep (s : State) (q : Nat) (e : List Byte) (own : Bool) : State :=
  let c := (s.qp q).chain.map (·.bytes)
  let o := ordrOf (c.headD [])
  let f := leAt e 0 1
  let clear := fun (s : State) => s.modQp q (fun k => { k with chain := [] })
  let openAt := fun (s : State) (l : List (List Byte)) =>
    s.modQp q (fun k => { k with chain := l.map (fun b => ⟨b, true⟩) })
  if !own then
    if c.isEmpty then s.badChain q [e] false St.BAD_ENTRY 1 0
    else (clear s).badChain q (c ++ [e]) o St.BAD_ENTRY 1 c.length
  else if f / 64 % 2 = 1 then
    let s := if c.isEmpty then s else (clear s).badChain q c o St.CHAIN_ERROR 2 c.length
    if f / 32 % 2 = 1 then s.takeJob q [e] else openAt s [e]
  else if c.isEmpty then s.badChain q [e] false St.CHAIN_ERROR 3 0
  else if f / 32 % 2 = 1 then (clear s).takeJob q (c ++ [e])
  else if c.length = 15 then (clear s).badChain q (c ++ [e]) o St.CHAIN_ERROR 1 15
  else openAt s (c ++ [e])

/-- An access of the submission ring fails at `slot` (R106): the QP is FAULTED, one completion is due, and the Skimmer
records HOST_WINDOW or RING_FAULT with the host address. -/
def sqFault (s : State) (q status cause slot a : Nat) : State :=
  let s := s.ringFault q slot status 0
  let s := s.modQp q (fun k => { k with ringMsg := some (status, cause, slot), pend := none })
  let kind := if status = St.WINDOW_FAULT then Kind.HOST_WINDOW else Kind.RING_FAULT
  (s.faultBy Blk.TUN 0 kind a (s.qp q).dom Blk.TUN 0).reportAll q

/-- Takes the entry at H (R81): the OWN write-back, and H advances. -/
def takeOne (s : State) (q : Nat) (e : List Byte) : State :=
  let k := s.qp q
  let s := s.post k.dom (k.sqBase + k.h * 64) [BitVec.ofNat 8 (leAt e 0 1 % 128)] false
  s.modQp q (fun k => { k with
    h := (k.h + 1) % 2 ^ k.sqN
    inl := Tbl.del k.inl k.h
    spilled := k.spilled.filter (fun x => x != k.h) })

/-- Takes the entry at H and judges it, unless its slot may no longer be written (R106). -/
def takeEnt (s : State) (q : Nat) (e : List Byte) (own : Bool) : State :=
  let k := s.qp q
  let a := k.sqBase + k.h * 64
  if !s.granuleOk k.dom a true then s.sqFault q St.WINDOW_FAULT 0 k.h a
  else (s.takeOne q e).chainStep q e own

/-- A failed access after the entries just taken (R106). -/
def settleFetch (s : State) (q : Nat) : State :=
  match (s.qp q).pend with
  | some (st, c, slot, a) => s.sqFault q st c slot a
  | none => s

/-- Takes fetched entries in slot order (R81), answering those taken with OWN as judged. It stops before an entry whose
OWN reads 0, and which was not pushed, for that one is read again first (R82); and at a slot that may no longer be
written (R106). -/
def takeRun (s : State) (q : Nat) : List Ent → State × List (List Byte × Bool)
  | [] => (s, [])
  | e :: t =>
    let k := s.qp q
    let a := k.sqBase + k.h * 64
    let own := leAt e.bytes 0 1 / 128 == 1
    if !own && !e.pushed then (s.modQp q (fun k => { k with reread := some (e :: t) }), [])
    else if !s.granuleOk k.dom a true then
      (s.modQp q (fun k => { k with pend := some (St.WINDOW_FAULT, 0, k.h, a) }), [])
    else
      let r := (s.takeOne q e.bytes).takeRun q t
      (r.1, (e.bytes, own) :: r.2)

/-- Takes the entries of one read, then judges their chains in slot order: a completion among them reports the SQ head
after all of them (03, the worked examples of a heat and of a broken chain). A failed access is settled last. -/
def takeAll (s : State) (q : Nat) (l : List Ent) : State :=
  if (s.qp q).st ≠ .active then s
  else
    let r := s.takeRun q l
    let s := r.2.foldl (fun s x => s.chainStep q x.1 x.2) r.1
    if (r.2.length < l.length ∧ (s.qp q).reread.isSome) ∨ (s.qp q).st ≠ .active then s else s.settleFetch q

/-- Takes up to `n` inline entries from H (R84). -/
def takeInline (s : State) (q : Nat) : Nat → State
  | 0 => s
  | n + 1 =>
    let k := s.qp q
    if k.st ≠ .active ∨ k.h = k.t ∨ s.room q = 0 then s
    else match k.inl.find? (fun x => x.1 == k.h) with
      | none => s
      | some (_, e) => (s.takeEnt q e.bytes (leAt e.bytes 0 1 / 128 == 1)).takeInline q n

/-! ### Fetching -/

/-- A queue pair is eligible (R121, R126): it has entries posted beyond those being read, and room for them. -/
def eligible (s : State) (q : Nat) : Bool :=
  let k := s.qp q
  k.st == .active && decide (qReading k < qPosted k) && decide (0 < s.room q)

/-- The queue pair port `p` serves next: strict class order, round robin within a class (R121). A QP has one read in
progress; a class waits while a QP of a higher one is eligible, its read in progress or not (DEDUCED, log entry 64). -/
def fetchPick (s : State) (p : Nat) : Option (Nat × Nat) :=
  let l := s.qps.filter (fun e => e.2.dom == p && s.eligible e.1)
  match (List.range 4).find? (fun c => l.any (fun e => e.2.prio == c)) with
  | none => none
  | some c =>
    let qs := (l.filter (fun e => e.2.prio == c && e.2.fetch.isNone && e.2.reread.isNone)).map (·.1)
    let r := Tbl.get (fun _ => 0) (s.port p).rr c
    (((qs.find? (fun q => decide (r ≤ q))).or qs.head?)).map (fun q => (c, q))

/-- Consecutive slots from `i` that are posted and not inline, at most `n`. -/
def ringRun (k : QP) (i : Nat) : Nat → Nat
  | 0 => 0
  | n + 1 => if i = k.t ∨ i ≥ 2 ^ k.sqN ∨ k.inl.any (fun x => x.1 == i) then 0 else ringRun k (i + 1) n + 1

/-- Issues the entry read of queue pair `q` (R80): up to 16 entries, not passing T, the ring end or an inline entry; the
part before a refused access is read (R106). -/
def issueFetch (s : State) (q : Nat) : State :=
  let k := s.qp q
  let n := ringRun k k.h (min 16 (s.room q))
  let ok := ((List.range n).takeWhile (fun i => s.granuleOk k.dom (k.sqBase + (k.h + i) * 64) false)).length
  let bad := k.h + ok
  let s := if ok < n then
      s.modQp q (fun k => { k with pend := some (St.WINDOW_FAULT, 0, bad, k.sqBase + bad * 64) })
    else s
  if ok = 0 then s.settleFetch q
  else s.modQp q (fun k => { k with fetch := some ⟨k.h, ok, decide (ok < n)⟩ })

/-- A fetch turn on port `p` (R121). -/
def fetchTurn (s : State) (p : Nat) : State :=
  match s.fetchPick p with
  | none => s
  | some (c, q) =>
    let s := s.modPort p (fun k => { k with rr := Tbl.set (fun _ => 0) k.rr c (q + 1) })
    let k := s.qp q
    if k.inl.any (fun x => x.1 == k.h) then s.takeInline q 16 else s.issueFetch q

/-- Entries arrive (R81): `ents` of the accesses that succeeded, and how the next access failed, if one did. -/
def entriesIn (s : State) (q : Nat) (ents : List (List Byte)) (fail : Option Nat) : State :=
  match (s.qp q).fetch with
  | none => s
  | some f =>
    if ents.length > f.n ∨ (fail.isNone ∧ ents.length < f.n) ∨ (fail.isSome ∧ ents.length = f.n) then s
    else
      let k := s.qp q
      let es := (List.range ents.length).map (fun i =>
        (⟨slice (ents.getD i []) 0 64, k.spilled.contains (f.slot + i)⟩ : Ent))
      let bad := f.slot + ents.length
      let s := s.modQp q (fun k => { k with
        fetch := none
        pend := match fail with
          | some c => some (St.HOST_MEM_FAULT, c, bad, k.sqBase + bad * 64)
          | none => k.pend })
      s.takeAll q es

/-! ### Input reads -/

/-- Bytes of a job's input the next read brings: the rest, or one segment of 16 KiB (R128). -/
def nextChunk (j : Job) : Nat := min 16384 (j.inTotal - j.input.length)

/-- A job whose input is being read: from key resolution on, a parked job's beside its record (01, One job, from ring to
completion, step 6). -/
def reading (j : Job) : Bool :=
  !j.isDone && decide (j.input.length < j.inTotal) &&
    (j.stage == .input || j.stage == .parked || j.stage == .parkWait || j.stage == .ready || j.stage == .running)

/-- Input arrives: with the whole of it, or its first segment, the job is ready. -/
def inputIn (s : State) (j : Job) (d : List Byte) : State :=
  let n := nextChunk j
  let j' := { j with input := j.input ++ slice d 0 n }
  let s := s.modJob j.id (fun _ => j')
  if j.stage = .input then s.makeReady j' else s

/-- A read of job input or stream state fails at offset `off` (R103): causes 1 to 3, or 7 to 9. A parked job gives its park
entry back. -/
def inputFail (s : State) (j : Job) (off k : Nat) : State :=
  if off < j.input.length ∨ j.inTotal ≤ off then s
  else
    let s := s.failJob j St.HOST_MEM_FAULT 6 0 ((if j.op = 0x19 then 6 else 0) + k) off
    if j.stage = .parked then s.unparkAll j.dom else s

/-! ### Dispatch -/

/-- Jobs of a kind that may be dispatched (R122, R158, R189). -/
def readyJobs (s : State) (kind : Nat) : List Job :=
  s.jobs.filter (fun j => j.stage == .ready && j.kind == kind && (j.op != 0x50 || s.enrolTurn j) &&
    (match j.stream with
      | none => true
      | some n => !(s.jobs.takeWhile (fun x => x.id != j.id)).any (fun x => x.stream == some n && !x.isDone)))

/-- Active units of a kind (A_k). -/
def active (s : State) (kind : Nat) : Nat :=
  if kind = 0 then s.activeLanes else ((List.range 3).filter (fun u => (s.unit u).serving)).length

/-- Units of a kind domain `d` occupies. -/
def occupies (s : State) (kind d : Nat) : Nat :=
  if kind = 0 then
    ((List.range 9).filter (fun n => match (s.lane n).work with
      | .none => false
      | .job id => (s.job id).any (fun j => j.dom == d)
      | .install e _ => e == d)).length
  else ((List.range 3).filter (fun u => ((s.unit u).job.bind s.job).any (fun j => j.dom == d))).length

/-- The allotment of domain `d` (R122). -/
def allotment (s : State) (kind d : Nat) : Nat := ((s.port d).share * s.active kind + 63) / 64

/-- C(d, k). -/
def creditOf (s : State) (kind d : Nat) : Int := Tbl.get (fun _ => (0 : Int)) s.credit (2 * d + kind)

/-- The domain dispatch chooses (R122). -/
def pickDom (s : State) (kind : Nat) (l : List Job) : Option Nat :=
  let ds := (List.range 4).filter (fun d => l.any (fun j => j.dom == d))
  let best := ds.foldl (fun (b : Option Nat) d => match b with
    | none => some d
    | some x => if s.creditOf kind x < s.creditOf kind d then some d else some x) none
  best.map (fun d =>
    if s.occupies kind d > s.allotment kind d then
      (ds.find? (fun e => e != d && decide (s.occupies kind e < s.allotment kind e))).getD d
    else d)

/-- The job dispatch chooses (R122), with the round of its class moved on. -/
def pickJob (s : State) (kind : Nat) : Option (Job × State) :=
  let l := s.readyJobs kind
  match s.pickDom kind l with
  | none => none
  | some d =>
    let ld := l.filter (fun j => j.dom == d)
    match (List.range 4).find? (fun c => ld.any (fun j => (s.qp j.qp).prio == c)) with
    | none => none
    | some c =>
      let lc := ld.filter (fun j => (s.qp j.qp).prio == c)
      let key := kind * 16 + d * 4 + c
      let r := Tbl.get (fun _ => ({} : Round)) s.rounds key
      let lo := fun (x : List Job) => x.foldl (fun (b : Option Nat) j => match b with
        | none => some j.qp
        | some m => some (min m j.qp)) none
      match (lo (lc.filter (fun j => decide (r.qp ≤ j.qp)))).or (lo lc) with
      | none => none
      | some q =>
        match lc.find? (fun j => j.qp == q) with
        | none => none
        | some j =>
          let n := (if q = r.qp then r.n else 0) + 1
          let more := lc.any (fun x => x.qp == q && x.id != j.id)
          let r' : Round := if n ≥ (s.qp q).weight ∨ !more then ⟨q + 1, 0⟩ else ⟨q, n⟩
          some (j, { s with rounds := Tbl.set (fun _ => ({} : Round)) s.rounds key r' })

/-- What dispatch takes for a job before a lane is chosen (R147, R183): a SEAL its TX value, IV_GEN its invocation
value. `none` when the job ended or waits instead. -/
def takeValues (s : State) (j : Job) : State × Option Job :=
  if j.op = 0x02 then
    let n := s.slotOf j.dom j.devIdx
    let x := s.vslot n
    if x.tx ≥ 2 ^ 48 - 1 then
      let s := (s.setVslot n { x with rekey := true }).event Blk.CTX 0 2
      (s.failJob j St.COUNTER_EXHAUSTED 6 0 0x0130 0, none)
    else match s.reserve true n x.tx with
      | (s, .stalled) => (s.failJob j St.ENGINE_UNAVAILABLE 6 0 0x0132 0, none)
      | (s, .wait) => (s.modJob j.id (fun j => { j with stage := .wait .ckpt }), none)
      | (s, .ok) =>
        let y := s.vslot n
        (s.setVslot n { y with tx := y.tx + 1 }, some { j with aux := y.tx })
  else if (j.op = 0x10 ∨ j.op = 0x12) ∧ j.ivGen then
    match s.takeInv j.keySlot with
    | (s, .exhausted) => (s.failJob j St.NONCE_EXHAUSTED 6 0 0x0151 j.keySlot, none)
    | (s, .wait) => ((s.modJob j.id (fun j => { j with stage := .wait .image })).count R.KST_ERR 31 16, none)
    | (s, .value c) => (s, some { j with aux := c })
  else (s, some j)

/-- The block-counter check of CTR and GCM (R184): blocks still available, when the job asks for more. -/
def blocksLeft (s : State) (j : Job) : Option Nat :=
  let n := (j.payLen + 15) / 16
  if (j.mode = 1 ∨ j.mode = 3) ∧ 0x10 ≤ j.op ∧ j.op ≤ 0x13 ∧ 0 < n then
    let st := symStart j (s.stream j.streamNo) j.ks.mat
    let c := fromBe (slice st.chain 12 4)
    let left := if c = 0 ∧ 0 < st.blocks then 0 else 2 ^ 32 - c
    if n > left then some left else none
  else none

/-- The data-unit numbers of an XTS job pass 2^128 - 1 (R186). -/
def xtsPast (j : Job) : Bool :=
  decide (j.mode = 9) && decide (2 ^ 128 < fromLe (slice j.e0 48 16) + j.payLen / 2 ^ j.duLog)

/-- Dispatches a job to idle lane `n`. -/
def toLane (s : State) (j : Job) (n : Nat) : State :=
  match s.takeValues j with
  | (s, none) => s
  | (s, some j) =>
    let s := s.modJob j.id (fun _ => j)
    match s.blocksLeft j with
    | some x => s.failJob j St.NONCE_EXHAUSTED 6 0 0x0152 x
    | none =>
      if xtsPast j then s.failJob j St.NONCE_EXHAUSTED 6 0 0x0153 0
      else
        let s := s.modJob j.id (fun x => { x with stage := .running, unit := n, seg := 1 })
        s.modLane n (fun l => { l with st := .busy, work := .job j.id, done := 0 })

/-- A free lane takes an install that is ready, else the job dispatch chooses; with none idle a lane is woken (R122,
R143, R167). -/
def laneDispatch (s : State) : State :=
  match s.idleLane with
  | none => if s.installReady.isSome ∨ !(s.readyJobs 0).isEmpty then s.wakeLane else s
  | some n =>
    match s.installReady with
    | some i =>
      let s := s.modInstall i.dom i.idx (fun x => { x with lane := some n })
      s.modLane n (fun l => { l with st := .busy, work := .install i.dom i.idx, done := 0 })
    | none => match s.pickJob 0 with
      | none => s
      | some (j, s) => s.toLane j n

/-- The next segment of the multi-segment job on lane `n` (R128): the output its input so far gives is posted. -/
def nextSegment (s : State) (n : Nat) : State :=
  match (s.lane n).work with
  | .job id => match s.job id with
    | some j =>
      if (s.lane n).st = .busy ∧ 0x10 ≤ j.op ∧ j.op ≤ 0x15 ∧ j.seg * 16384 < j.input.length then
        let m := min j.input.length ((j.seg + 1) * 16384)
        (s.modJob id (fun j => { j with seg := j.seg + 1 })).postSegments { j with seg := j.seg + 1 } j.ks.mat m
      else s
    | none => s
  | _ => s

/-- A free Crucible unit takes the port's job, else the job dispatch chooses (R122, R209, R215). -/
def cruDispatch (s : State) : State :=
  match s.freeUnitNo with
  | none => s
  | some u =>
    let wait := fun (s : State) => s.count R.CRU_RNDW 15 0
    let host := match s.pickJob 1 with
      | none => s
      | some (j, s) =>
        if j.op = 0x23 ∧ !(s.port j.dom).drbg then s.failJob j St.RNG_FAIL 6 0 0x0169 0
        else if pkRandom j.op ∧ !s.rngReady then wait (s.modJob j.id (fun j => { j with stage := .wait .rng }))
        else
          let c := s.creditOf 1 j.dom - (640 * jobTime j : Nat)
          ({ s with credit := Tbl.set (fun _ => (0 : Int)) s.credit (2 * j.dom + 1) c }).reserveUnit u false j
    match s.fwJob with
    | some j =>
      if j.stage ≠ .ready then host
      else if pkRandom j.op ∧ !s.rngReady then wait { s with fwJob := some { j with stage := .wait .rng } }
      else s.reserveUnit u true j
    | none => host

/-- One credit period (R116, R122): a new share takes effect; each credit grows, up to 64 periods of growth. -/
def creditStep (s : State) : State :=
  let s := (List.range 4).foldl (fun s d => s.modPort d (fun p => { p with
    share := p.newShare.getD p.share, newShare := none })) s
  (List.range 8).foldl (fun s i =>
    let g : Int := ((s.port (i / 2)).share * s.active (i % 2) * 12000 : Nat)
    let c := Tbl.get (fun _ => (0 : Int)) s.credit i
    { s with credit := Tbl.set (fun _ => (0 : Int)) s.credit i (min (c + g) (64 * g)) }) s

/-! ### Completion slots -/

/-- A CQ access fails (R107): the QP is FAULTED at `slot`; recorded with the host address. -/
def cqFault (s : State) (q slot status : Nat) : State :=
  let k := s.qp q
  let kind := if status = St.WINDOW_FAULT then Kind.HOST_WINDOW else Kind.RING_FAULT
  let s := s.ringFault q slot status 1
  let s := s.modQp q (fun k => { k with ra := none })
  (s.faultBy Blk.TUN 0 kind (k.cqBase + slot * 16) k.dom Blk.TUN 0).reportAll q

/-- Issues a read-ahead of up to 64 CQ entries from C (R91), while a completion is due or has just been written and
fewer than 16 slots are known to be free. -/
def readAheadGo (s : State) (q : Nat) : State :=
  let k := s.qp q
  let n := 2 ^ k.cqN
  let c := (k.w + k.free) % n
  let m := min 64 (n - c)
  if (k.st ≠ .active ∧ k.st ≠ .destroying ∧ k.st ≠ .faulted) ∨ k.faultRing = 1 ∨ k.ra.isSome ∨ 16 ≤ k.free ∨
      !(k.judge || k.waiting || k.ringMsg.isSome) then s
  else match s.winRefusal k.dom (k.cqBase + c * 16) (m * 16) false with
    | some a => s.cqFault q ((a - k.cqBase) / 16) St.WINDOW_FAULT
    | none => s.modQp q (fun k => { k with ra := some (c, m), judge := false })

/-- A read-ahead returns (R91): C advances over the entries whose OWN reads 0, not past W and never back. -/
def readAheadDone (s : State) (q : Nat) (owns : List Bool) : State :=
  let k := s.qp q
  match k.ra with
  | none => s
  | some (c0, m) =>
    let n := 2 ^ k.cqN
    let run := ((owns.take m).takeWhile (fun o => !o)).length
    let moved := ((k.w + k.free) % n + n - c0) % n
    let f := min n (k.free + (run - moved))
    (s.modQp q (fun k => { k with ra := none, free := f, outst := min k.outst (n - f) })).reportAll q

end State

/-! ### The commands -/

/-- SQ_TAIL (R79). -/
def execSqTail (p : Port) (q : Nat) (v : Word) (s : State) : Host.Outcome State Fault Refusal :=
  .next (s.door p q 0 (fun s => s.sqTail p q v))

/-- CQ_HINT (R92). -/
def execCqHint (p : Port) (q : Nat) (v : Word) (s : State) : Host.Outcome State Fault Refusal :=
  .next (s.door p q 8 (fun s => s.cqHint p q v))

/-- INLINE_PUSH (R83): 64 bytes at INLINE0 (or INLINE1, R49), or 128 bytes at INLINE0. -/
def execInlinePush (p : Port) (q : Nat) (e0 : List Byte) (e1 : Option (List Byte)) (s : State) :
    Host.Outcome State Fault Refusal :=
  .next (s.door p q 0x40 (fun s => s.push p q (e0 :: e1.toList) 0x40))

/-- FETCH_TURN (R121): only in Service, with the link up and the domain not resetting (R42, R60). -/
def execFetchTurn (p : Port) (s : State) : Host.Outcome State Fault Refusal :=
  .next (
    if s.mode = .service ∧ !s.sys.holdPend ∧ s.portLive p ∧ !(s.port p).resetting ∧ !(s.port p).d3 ∧ (s.hdr Blk.TUN 0).en ∧
      (s.hdr Blk.HPT p).en then s.fetchTurn p
    else s)

/-- ENTRY_READ_COMPLETION (R81, R106): the entries read, and with `fail` the access after them failed: 0 unsuccessful, 1
poisoned, 2 timeout. -/
def execEntryReadCompletion (q : Nat) (ents : List (List Byte)) (fail : Option (Fin 3)) (s : State) :
    Host.Outcome State Fault Refusal :=
  .next (s.entriesIn q ents (fail.map (fun f => 10 + f.val)))

/-- OWN_REREAD (R82): the entry whose OWN read 0 is read once more. -/
def execOwnReread (q : Nat) (e : List Byte) (s : State) : Host.Outcome State Fault Refusal :=
  .next (match (s.qp q).reread with
    | some (_ :: t) =>
      (s.modQp q (fun k => { k with reread := none })).takeAll q (⟨slice e 0 64, true⟩ :: t)
    | _ => s)

/-- INPUT_READ_COMPLETION (R103): the next part of a job's input arrives, or its read fails at offset `off`. -/
def execInputReadCompletion (job off : Nat) (r : ReadRes) (s : State) : Host.Outcome State Fault Refusal :=
  .next (match s.job job with
    | none => s
    | some j =>
      if !State.reading j then s
      else match r with
        | .ok d => s.inputIn j d
        | .unsuccessful => s.inputFail j off 1
        | .poisoned => s.inputFail j off 2
        | .timeout => s.inputFail j off 3)

/-- LADLE_READ_TIMEOUT (R55): a read of a job's input passes the completion timeout. -/
def execLadleReadTimeout (job off : Nat) (s : State) : Host.Outcome State Fault Refusal :=
  .next (match s.job job with
    | none => s
    | some j => if State.reading j then s.inputFail j off 3 else s)

/-- CREDIT_PERIOD (R122). -/
def execCreditPeriod (s : State) : Host.Outcome State Fault Refusal := .next s.creditStep

/-- JOB_DISPATCH (R122): a free lane (`cru` false) or Crucible unit takes its next job; `cont` names a lane that takes
the next segment of its job instead. -/
def execJobDispatch (cru : Bool) (cont : Option (Fin 9)) (s : State) : Host.Outcome State Fault Refusal :=
  .next (
    if s.mode ≠ .service ∧ s.mode ≠ .hold ∧ !cru then s
    else match cont with
      | some n => s.nextSegment n
      | none => if cru then s.cruDispatch else s.laneDispatch)

/-- COMPLETION_WRITE (R90): a completion that is due is written. -/
def execCompletionWrite (q : Nat) (s : State) : Host.Outcome State Fault Refusal := .next (s.reportAll q)

/-- CQ_READ_AHEAD (R91). -/
def execCqReadAhead (q : Nat) (s : State) : Host.Outcome State Fault Refusal := .next (s.readAheadGo q)

/-- CQ_READ_AHEAD_COMPLETION (R91, R107): the OWN bits read, or an error. -/
def execCqReadAheadCompletion (q : Nat) (owns : Option (List Bool)) (s : State) : Host.Outcome State Fault Refusal :=
  .next (match owns with
    | some l => s.readAheadDone q l
    | none => match (s.qp q).ra with
      | some (c, _) => s.cqFault q c St.HOST_MEM_FAULT
      | none => s)

/-- NOP (R75). -/
def execNop (job : Nat) (s : State) : Host.Outcome State Fault Refusal :=
  .next (match s.job job with
    | some j => if j.op = 0x70 ∧ j.stage = .ready then s.succeed j 0 0 else s
    | none => s)

end Sys2Proof.Machine
end

