-- ==== Sys2Proof/Machine/Admin.lean ====
section
/-! DEFINITION. The admin commands (04 R108-R120, R130; 05 R136-R138; 08 R227) and what they report. -/

namespace Sys2Proof.Machine

namespace State

/-! ### Running an admin command -/

/-- The job is the first admin command of its domain that has not completed (R108). -/
def adminTurn (s : State) (j : Job) : Bool :=
  ((s.jobs.find? (fun x => x.dom == j.dom && isAdmin x.op && decide (x.qp < 4) && !x.isDone)).map (·.id)) == some j.id

/-- Runs admin command `id` of opcode `op` as far as it goes (R108): admission when its turn has come, then `k` once it
is ready. -/
def adminRun (s : State) (id op : Nat) (k : State → Job → State) : State :=
  let ready := fun (s : State) => match s.job id with
    | some j => if j.stage = .ready then k s j else s
    | none => s
  match s.job id with
  | none => s
  | some j =>
    if j.op ≠ op ∨ j.qp ≥ 4 ∨ !s.adminTurn j then s
    else if j.stage = .held then ready (s.passAdmission j)
    else ready s

/-! ### What the part reports of itself -/

/-- The counts of HS_CAP_PORTS to HS_CAP_CORE (R51). -/
def caps (s : State) : List Nat :=
  [s.variant.ports, s.servingLanes, ((List.range 3).filter (fun u => (s.unit u).serving)).length, s.variant.qps,
   s.variant.contexts, s.variant.streams, s.variant.enrolled, 8192, 4096, 4096, s.servingSrcs,
   ((List.range 3).filter (fun p => decide ((s.pair p).role ≠ 0) && !(s.pair p).fenced)).length]

/-- The counts of HS_LIM_PORTS to HS_LIM_CORE (R51). -/
def lims (s : State) : List Nat :=
  [s.variant.ports, s.variant.lanes, s.variant.crus, s.variant.qps, s.variant.contexts, s.variant.streams,
   s.variant.enrolled, 8192, 4096, 4096, 8, 2]

/-- QPCNT, QPBASE, QUOTA and the enrolment quota of domain `d`. -/
def qpCnt (s : State) (d : Nat) : Nat := s.fld (R.TUN_DOM_QP + d * 0x20) 30 16
def qpBase (s : State) (d : Nat) : Nat := s.fld (R.TUN_DOM_QP + d * 0x20) 14 0
def quota (s : State) (d : Nat) : Nat := s.fld (R.TUN_DOM_SHQ + d * 0x20) 6 0
def enrolQuota (s : State) (d : Nat) : Nat := s.fld (R.TUN_DOM_ENQ + d * 0x20) 18 0

/-- The 128 bytes of GET_CAPS (R119). -/
def capsBytes (s : State) (d : Nat) : List Byte :=
  let r := fun (a hi lo : Nat) => s.fld (a + d * 0x20) hi lo
  s.caps.flatMap (leBytes 4) ++ s.lims.flatMap (leBytes 4) ++ leBytes 4 (s.qpCnt d + 1) ++ leBytes 4 (s.port d).share ++
    leBytes 4 (s.enrolQuota d) ++ leBytes 2 (s.qpBase d) ++ leBytes 2 (s.qpCnt d) ++
    leBytes 2 (r R.TUN_DOM_INFL 13 0) ++ leBytes 2 (r R.TUN_DOM_INFL 29 16) ++
    leBytes 2 (r R.TUN_DOM_PARK 12 0) ++ leBytes 2 (r R.TUN_DOM_PARK 28 16) ++
    leBytes 4 (s.port d).gen.toNat ++ leBytes 4 (s.quota d)

/-- QUERY_QP.STATE. -/
def qstCode : QState → Nat
  | .absent => 0 | .active => 1 | .faulted => 2 | .destroying => 3

/-- The 64 bytes of QUERY_QP; all zeros for a QP that does not exist (TUN_QSEL). -/
def queryBytes (s : State) (q : Nat) : List Byte :=
  let k := s.qp q
  let l := s.qjobs q
  if k.st = .absent then zeros 64
  else
    leBytes 2 q ++ leBytes 1 (qstCode k.st) ++ leBytes 1 k.prio ++ leBytes 1 k.weight ++ leBytes 1 k.sqN ++
      leBytes 1 k.cqN ++ [0] ++ leBytes 2 (s.qLimit q) ++ leBytes 2 k.t ++ leBytes 2 k.h ++ leBytes 2 k.w ++
      leBytes 2 ((k.w + k.free) % 2 ^ k.cqN) ++ leBytes 2 (s.qInfl q) ++
      leBytes 2 (l.filter (fun j => j.stage == .parked)).length ++ leBytes 2 (l.filter (·.isDone)).length ++
      leBytes 2 k.dbErr ++ leBytes 2 k.faultSlot ++ leBytes 1 k.faultStatus ++ leBytes 1 k.faultRing ++
      leBytes 2 (s.streams.filter (fun e => e.2.bound && e.2.qp == q)).length ++ leBytes 8 k.sqBase ++
      leBytes 8 k.cqBase ++ leBytes 4 k.jobsCov ++ leBytes 4 k.cqWaits ++ zeros 8

/-! ### CREATE_QP (R113) -/

/-- Makes the queue pair live. -/
def createQp (s : State) (j : Job) : State :=
  let q := if j.u 32 2 = 0xFFFF then (s.freeQp j.dom).getD 0 else j.u 32 2
  let k : QP := {
    st := .active, dom := j.dom, prio := j.u 36 1, weight := max 1 (j.u 37 1)
    infl := if j.u 38 2 = 0 then s.fld R.TUN_CFG 28 16 else j.u 38 2
    sqN := j.u 34 1, cqN := j.u 35 1, sqBase := j.u 40 8, cqBase := j.u 48 8 }
  (s.setQp q k).succeed j (w32 q) (w32 (q * 256))

/-! ### DESTROY_QP (R114, R115, R130) -/

/-- The stage a job is in or waits to enter (R115). -/
def stageOf (j : Job) : Nat :=
  match j.stage with
  | .held => 2
  | .parkWait | .parked => 4
  | .ready => if j.kind = 1 then 5 else 6
  | _ => 6

/-- Ends a job that has not finished with a status (R114 step 2, R43): a Crucible job is wiped first and reported then;
one not yet granted leave is at stage 5. -/
def endJob (s : State) (j : Job) (status cause stage : Nat) : State :=
  if j.isDone then s
  else match s.unitOf j.id with
    | some u =>
      if (s.unit u).st = .leave then (s.freeUnit u .idle).failQuiet j status (if stage = 0 then 5 else stage) 0 cause 0
      else s.cruAbort u status cause 0
    | none => s.failQuiet j status (if stage = 0 then stageOf j else stage) 0 cause 0

/-- The completions due on a queue pair, in order, a closing one last (R99). -/
def dueAll (l : List Job) : Nat → List Compl
  | 0 => []
  | n + 1 => match nextCompl l true with
    | none => []
    | some c => c :: dueAll (l.filter (fun j => !c.covers.contains j.id)) n

/-- Jobs waiting for park entries get those the ended jobs held. -/
def endAll (s : State) (q : Nat) : State :=
  ((s.qjobs q).foldl (fun s j => s.endJob j St.QP_DESTROYED 0 0) s).unparkAll (s.qp q).dom

/-- A chain still open when its queue pair is destroyed is ended as a job at admission. -/
def endChain (s : State) (q : Nat) : State :=
  let c := (s.qp q).chain.map (·.bytes)
  if c.isEmpty then s
  else
    let s := s.modQp q (fun k => { k with chain := [] })
    let (j, s) := s.newJob q c (ordrOf (c.headD []))
    s.failQuiet j St.QP_DESTROYED 2 0 0 0

/-- Steps 1 and 2 of R114. -/
def destroyStart (s : State) (j : Job) (q : Nat) : State :=
  let drain := j.u 34 1 % 2 = 1
  let due := (dueAll (s.qjobs q) (s.qjobs q).length).map (fun c => (c.ordr, c.early, c.last.id, c.covers))
  let total := s.qInfl q
  let s := s.modQp q (fun k => { k with
    st := .destroying, inl := [], spilled := [], fetch := none, reread := none, pend := none, drain := drain
    tmo := if j.u 36 2 = 0 then 100 else j.u 36 2
    frozen := if drain then [] else due, reported := 0, released := total })
  let s := s.modJob j.id (fun x => { x with stage := .wait (.destroy q) })
  let s := s.endChain q
  if drain then s else s.endAll q

/-- Steps 5 and 6 of R114: the stream slots are erased, the QP ceases to exist, the admin command completes. -/
def destroyEnd (s : State) (j : Job) (q : Nat) : State :=
  let k := s.qp q
  let s := { s with
    jobs := s.jobs.filter (fun x => x.qp != q)
    streams := Tbl.clear (fun n => (s.stream n).bound && (s.stream n).qp == q) s.streams }
  (s.setQp q {}).succeed j (w32 k.reported) (w32 (k.released - k.reported))

/-- Step 3 of R114, and the end once every job has been reported. -/
def destroyStep (s : State) (j : Job) (q : Nat) : State :=
  let s := if (s.qp q).drain ∧ (s.qjobs q).all (·.isDone) then s.modQp q (fun k => { k with closing := true }) else s
  let s := s.reportAll q
  if (s.qjobs q).isEmpty ∧ (s.qp q).ringMsg.isNone then s.destroyEnd j q else s

/-- The DESTROY_QP that is destroying queue pair `q`. -/
def destroyer (s : State) (q : Nat) : Option Job := s.jobs.find? (fun j => j.stage == .wait (.destroy q))

/-- Carries a DESTROY_QP on as far as it goes. -/
def destroyOn (s : State) (q : Nat) : State :=
  match s.destroyer q with
  | some j => s.destroyStep j q
  | none => s

/-! ### BIND_TABLE (R136-R138) -/

/-- UNBIND: jobs at and before key resolution end with NO_CONTEXT; once no context is pinned the domain's contexts are
evicted. -/
def unbind (s : State) (j : Job) : State :=
  let d := j.dom
  let b := s.bind d
  let s := s.setBind d { b with unbinding := true }
  let s := { s with installs := s.installs.filter (fun x => x.dom != d) }
  let s := s.modPort d (fun p => { p with parkQ := [] })
  let s := s.failAll (s.jobs.filter (fun x => x.dom == d && (x.stage == .parked || x.stage == .parkWait)))
    St.NO_CONTEXT 4 0x0122 0
  if s.ctxs.any (fun c => c.dom == d && s.pinned d c.idx) then s
  else
    let s := s.evict (fun c => c.dom == d)
    let s := s.setBind d { bindReset d with recEpoch := b.recEpoch, vbase := b.vbase, vcnt := b.vcnt }
    s.succeed j 0 (w32 b.epoch)

/-- BIND_TABLE past its key resolution (R136): the table epoch is judged. -/
def bindTable (s : State) (j : Job) : State :=
  let b := s.bind j.dom
  let e := j.u 44 4
  if j.u 50 1 % 2 = 1 then s.unbind j
  else if s.vault.rangeBusy then s
  else
    let mark := fun (s : State) =>
      if s.vault.stalled then s.failJob j St.ENGINE_UNAVAILABLE 4 0 0x0132 0
      else (s.modJob j.id (fun x => { x with stage := .wait .mark })).queuePage (.mark 3 (some (j.dom, e)) none (some j.id))
    match b.recEpoch with
    | none => mark s
    | some r =>
      if e < r then s.failJob j St.RECORD_INVALID 4 0 0x012C r
      else if e = r then s.bindNow j
      else mark s

/-! ### SET_WINDOW, SET_SHARE, GET_FAULTS -/

/-- SET_WINDOW (R118). -/
def setWindow (s : State) (j : Job) : State :=
  let p := j.u 33 1
  let w : Win := if p = 128 then {} else {
    base := j.u 40 8, len := j.u 48 4, lr := p % 2 == 1, lw := p / 2 % 2 == 1, cr := p / 4 % 2 == 1, cw := p / 8 % 2 == 1
    coreEn := j.u 54 1 % 2 == 1, coreOff := j.u 52 2 }
  (s.setWin j.dom (j.u 32 1) w).succeed j (w32 (j.u 32 1)) 0

/-- SET_SHARE (R116): RESULT is the share in force (DEDUCED, log entry 63). -/
def setShare (s : State) (j : Job) : State :=
  let old := (s.port j.dom).share
  (s.modPort j.dom (fun p => { p with newShare := some (j.u 32 1) })).succeed j (w32 old) 0

/-- The records GET_FAULTS returns, newest first (R120). -/
def faultRecs (s : State) (j : Job) : List FRec :=
  let n := if j.u 32 1 = 0 then 32 else j.u 32 1
  let l := (s.port j.dom).view.take n
  let l := if j.u 33 1 % 2 = 1 then l.takeWhile (fun r => r.seq != j.u 34 2) else l
  l.take (j.outTotal / 16)

/-- GET_FAULTS (R120). With no record returned, DETAIL is a free value (the spec gives none). -/
def getFaults (s : State) (j : Job) : State :=
  let l := s.faultRecs j
  let out := l.flatMap (fun r => leBytes 4 r.lo.toNat ++ leBytes 4 r.hi.toNat ++ leBytes 2 r.seq ++ zeros 6)
  match l with
  | r :: _ => s.deliver j out (w32 r.seq)
  | [] => s.withFree (fun n s => s.succeed j 0 (w32 n))

end State

/-! ### The commands -/

/-- CREATE_QP. -/
def execCreateQp (job : Nat) (s : State) : Host.Outcome State Fault Refusal :=
  .next (s.adminRun job 0x80 (fun s j => s.createQp j))

/-- DESTROY_QP: steps 1 and 2 when its turn has come; a later command carries it on. -/
def execDestroyQp (job : Nat) (s : State) : Host.Outcome State Fault Refusal :=
  .next (match s.job job with
    | none => s
    | some j => match j.stage with
      | .wait (.destroy q) => s.destroyStep j q
      | _ => s.adminRun job 0x81 (fun s j => (s.destroyStart j (j.u 32 2)).destroyOn (j.u 32 2)))

/-- DESTROY_TMO_EXPIRY (R114 step 4): running jobs are ended, every job not yet reported is released. -/
def execDestroyTmoExpiry (q : Nat) (s : State) : Host.Outcome State Fault Refusal :=
  .next (match s.destroyer q with
    | none => s
    | some j => (s.endAll q).destroyEnd j q)

/-- QUERY_QP. -/
def execQueryQp (job : Nat) (s : State) : Host.Outcome State Fault Refusal :=
  .next (s.adminRun job 0x82 (fun s j => s.deliver j (s.queryBytes (j.u 32 2)) 0))

/-- SET_SHARE. -/
def execSetShare (job : Nat) (s : State) : Host.Outcome State Fault Refusal :=
  .next (s.adminRun job 0x83 (fun s j => s.setShare j))

/-- BIND_TABLE. -/
def execBindTable (job : Nat) (s : State) : Host.Outcome State Fault Refusal :=
  .next (s.adminRun job 0x84 (fun s j => s.bindTable j))

/-- SET_WINDOW. -/
def execSetWindow (job : Nat) (s : State) : Host.Outcome State Fault Refusal :=
  .next (s.adminRun job 0x85 (fun s j => s.setWindow j))

/-- GET_CAPS. -/
def execGetCaps (job : Nat) (s : State) : Host.Outcome State Fault Refusal :=
  .next (s.adminRun job 0x86 (fun s j => s.deliver j (s.capsBytes j.dom) 0))

/-- GET_FAULTS. -/
def execGetFaults (job : Nat) (s : State) : Host.Outcome State Fault Refusal :=
  .next (s.adminRun job 0x87 (fun s j => s.getFaults j))

/-- DRBG_INSTANTIATE (R227). -/
def execDrbgInstantiate (job : Nat) (s : State) : Host.Outcome State Fault Refusal :=
  .next (s.adminRun job 0x88 (fun s j => s.rngJob j))

end Sys2Proof.Machine
end

