-- ==== Sys2Proof/Machine/KCore.lean ====
section
/-! DEFINITION. How a pair runs one instruction: issue, condition, retirement, arithmetic exceptions (R282, R292-R294),
interrupt routing (R306, R307), the start of a pair (R272) and pairs that halt. -/

namespace Sys2Proof.Machine

namespace State

/-- The instruction completes: the pair continues at `pc'`; a pending arithmetic exception comes one instruction
nearer (R293); a debug step ends (R469). -/
def retire (s : State) (p : Nat) (pc' : Word) : State :=
  s.modPair p (fun k => { k with
    pc := pc'
    aepLeft := k.aepLeft - 1
    stepOne := false
    run := if k.stepOne then .debugHalt else k.run })

/-- Completes with an updated pair and the next instruction. -/
def finish (s : State) (p : Nat) (f : KPair → KPair) : State :=
  (s.modPair p f).retire p ((s.pair p).pc + 4)

/-- One instruction of pair `p` under condition `c` (R282). A pair that does not issue does nothing. A pending
arithmetic exception is taken at the boundary when its time has come, or before an instruction of R293 step 3
(`first`). A false condition only retires. -/
def instr (s : State) (p : Nat) (c : Cond) (first : Bool) (body : State → State) : State :=
  let k := s.pair p
  if k.run ≠ .running then s
  else if csAep k.cs && (k.aepLeft == 0 || (first && condHolds c k.fl)) then s.enter p 5 k.pc 0
  else if condHolds c k.fl then body s
  else s.retire p (k.pc + 4)

/-- An arithmetic exception with cause bit `cause` (R293, R294): precise, it is taken at the instruction, which writes
nothing; imprecise, the instruction completes by `f` and the exception is pending for at most 8 more instructions. -/
def arith (s : State) (p cause : Nat) (f : KPair → KPair) : State :=
  let k := s.pair p
  if csAep k.cs then s.enter p 5 k.pc 0
  else if csPrc k.cs then
    (s.modPair p (fun k => { k with aea := k.pc, aec := w32 cause })).enter p 5 k.pc 0
  else s.withFree (fun n s =>
    s.finish p (fun k => { f k with aea := k.pc, aec := w32 cause, cs := putBit (f k).cs 3 true, aepLeft := 1 + n % 9 }))

/-! ### Products and quotients in flight (R289-R291) -/

end State

/-- The oldest product in flight lands in MH:ML. -/
def landMul (k : KPair) : KPair :=
  match k.mulQ with
  | [] => k
  | r :: q => { k with mulQ := q, ml := r.truncate 32, mh := (r >>> 32).truncate 32 }

/-- Every product in flight lands, in issue order. -/
def landMuls (k : KPair) : KPair :=
  match k.mulQ.getLast? with
  | none => k
  | some r => { k with mulQ := [], ml := r.truncate 32, mh := (r >>> 32).truncate 32 }

/-- The quotient in flight lands in QT and RM. -/
def landDiv (k : KPair) : KPair :=
  match k.divQ with
  | none => k
  | some (q, r) => { k with divQ := none, qt := q, rm := r }

/-- The value the multiplier accumulates onto: the latest product in flight, else MH:ML (R289: issue order). -/
def accNow (k : KPair) : BitVec 64 := k.mulQ.getLast?.getD (k.mh ++ k.ml)

namespace State

/-! ### Interrupts -/

/-- Interrupt of block code `b` is raised (R306). -/
def irqRaised (s : State) (b : Nat) : Bool :=
  (List.range (blkInsts b)).any (fun i => let h := s.hdr b i; (h.evt &&& h.evtEn) != 0)

/-- The pair that holds a role and is fit to take its interrupts (R306). -/
def roleTaker (s : State) (role : Nat) : Option Nat :=
  (List.range 3).find? (fun p => (s.pair p).role == role && (s.pair p).run != .doubleFault && !(s.pair p).fenced)

/-- The pair interrupt `b` goes to (R306). -/
def irqPair (s : State) (b : Nat) : Option Nat :=
  let chosen := if bit (s.reg R.GAT_IRQ_RTE) b then 2 else 1
  match s.roleTaker chosen with
  | some p => some p
  | none => s.roleTaker (3 - chosen)

/-- The KEN interrupt of pair `p`: its word-1 events under GAT_KEN_EN (R306). -/
def kenIrq (s : State) (p : Nat) : Bool :=
  let k := s.pair p
  (k.haltEvt && bit (s.reg R.GAT_KEN_EN) (2 * p)) || (k.takeEvt && bit (s.reg R.GAT_KEN_EN) (2 * p + 1))

/-- Interrupt `b` is pending for pair `p` (R307). -/
def irqPending (s : State) (p b : Nat) : Bool :=
  bit (s.pair p).imask b &&
    (if b = 0x12 then s.kenIrq p else s.irqRaised b && s.irqPair b == some p)

/-- The IPEND word of pair `p` (R307). -/
def ipend (s : State) (p : Nat) : Word :=
  (List.range 19).foldl (fun w b => if s.irqPending p b then putBit w b true else w) 0

/-- The lowest-numbered pending interrupt (R307). -/
def firstIrq (s : State) (p : Nat) : Option Nat := (List.range 19).find? (fun b => s.irqPending p b)

/-! ### Pairs that start and halt -/

/-- Pair `p` starts in `role` (R272): every register at its reset value, bit RAM and return stack cleared. -/
def startPair (s : State) (p role : Nat) (takeover : Bool) : State :=
  s.modPair p (fun k => { ({} : KPair) with
    role := role, takeover := takeover, run := .running, fenced := k.fenced
    haltEvt := k.haltEvt, takeEvt := k.takeEvt })

end State

/-- PID of pair `p` (10, PID register). -/
def pidOf (p : Nat) (k : KPair) : Word := w32 (b2n k.takeover * 16 + k.role * 4 + p)

end Sys2Proof.Machine
end

