-- ==== Sys2Proof/Machine/KAlu.lean ====
section
/-! DEFINITION. Kennu arithmetic, logic, shifts, moves, multiply and divide (10, opcode table; R284, R289-R294). -/

namespace Sys2Proof.Machine

/-- An ALU instruction: RD takes the result, the flags are written with S. -/
def aluOp (p : Pair) (c : Cond) (sf : Bool) (rd : GReg) (f : KPair → Word × NZCV) (s : State) : State :=
  s.instr p c false (fun s => s.finish p (fun k =>
    let r := f k
    let k := k.setR rd r.1
    if sf then k.setFl r.2 else k))

/-- A compare: only the flags are written. -/
def cmpOp (p : Pair) (c : Cond) (f : KPair → NZCV) (s : State) : State :=
  s.instr p c false (fun s => s.finish p (fun k => k.setFl (f k)))

/-- An addition or subtraction that raises the arithmetic exception on signed overflow (R292). -/
def ovfOp (p : Pair) (c : Cond) (sf : Bool) (rd : GReg) (f : KPair → Word × NZCV) (s : State) : State :=
  s.instr p c false (fun s =>
    let write := fun (k : KPair) =>
      let r := f k
      let k := k.setR rd r.1
      if sf then k.setFl r.2 else k
    if (f (s.pair p)).2.v then s.arith p 1 write else s.finish p write)

/-- Amount of a register shift: RB[4:0]. -/
def shAmt (w : Word) : Nat := w.toNat % 32

/-- Shift left: C is the last bit shifted out. -/
def shlRes (f : NZCV) (a : Word) (n : Nat) : Word × NZCV :=
  let r := a <<< n
  (r, shiftFlags f r n (bit a (32 - n)))

/-- Shift right, logical. -/
def shrRes (f : NZCV) (a : Word) (n : Nat) : Word × NZCV :=
  let r := a >>> n
  (r, shiftFlags f r n (bit a (n - 1)))

/-- Shift right, arithmetic. -/
def sarRes (f : NZCV) (a : Word) (n : Nat) : Word × NZCV :=
  let r := a.sshiftRight n
  (r, shiftFlags f r n (bit a (n - 1)))

/-- Rotate right: the last bit moved out is the result's top bit. -/
def rorRes (f : NZCV) (a : Word) (n : Nat) : Word × NZCV :=
  let r := a.rotateRight n
  (r, shiftFlags f r n (bit a (n - 1)))

/-- ADD (R284). -/
def execKAdd (p : Pair) (c : Cond) (sf : Bool) (rd ra rb : GReg) (s : State) : Host.Outcome State Fault Refusal :=
  .next (aluOp p c sf rd (fun k => addFlags (k.r ra) (k.r rb) false) s)

/-- SUB (R284). -/
def execKSub (p : Pair) (c : Cond) (sf : Bool) (rd ra rb : GReg) (s : State) : Host.Outcome State Fault Refusal :=
  .next (aluOp p c sf rd (fun k => subFlags (k.r ra) (k.r rb) false) s)

/-- AND (R284). -/
def execKAnd (p : Pair) (c : Cond) (sf : Bool) (rd ra rb : GReg) (s : State) : Host.Outcome State Fault Refusal :=
  .next (aluOp p c sf rd (fun k => let r := k.r ra &&& k.r rb; (r, logicFlags k.fl r)) s)

/-- OR (R284). -/
def execKOr (p : Pair) (c : Cond) (sf : Bool) (rd ra rb : GReg) (s : State) : Host.Outcome State Fault Refusal :=
  .next (aluOp p c sf rd (fun k => let r := k.r ra ||| k.r rb; (r, logicFlags k.fl r)) s)

/-- XOR (R284). -/
def execKXor (p : Pair) (c : Cond) (sf : Bool) (rd ra rb : GReg) (s : State) : Host.Outcome State Fault Refusal :=
  .next (aluOp p c sf rd (fun k => let r := k.r ra ^^^ k.r rb; (r, logicFlags k.fl r)) s)

/-- SHL by RB[4:0] (R284). -/
def execKShl (p : Pair) (c : Cond) (sf : Bool) (rd ra rb : GReg) (s : State) : Host.Outcome State Fault Refusal :=
  .next (aluOp p c sf rd (fun k => shlRes k.fl (k.r ra) (shAmt (k.r rb))) s)

/-- SHR by RB[4:0] (R284). -/
def execKShr (p : Pair) (c : Cond) (sf : Bool) (rd ra rb : GReg) (s : State) : Host.Outcome State Fault Refusal :=
  .next (aluOp p c sf rd (fun k => shrRes k.fl (k.r ra) (shAmt (k.r rb))) s)

/-- SAR by RB[4:0] (R284). -/
def execKSar (p : Pair) (c : Cond) (sf : Bool) (rd ra rb : GReg) (s : State) : Host.Outcome State Fault Refusal :=
  .next (aluOp p c sf rd (fun k => sarRes k.fl (k.r ra) (shAmt (k.r rb))) s)

/-- ROR by RB[4:0] (R284). -/
def execKRor (p : Pair) (c : Cond) (sf : Bool) (rd ra rb : GReg) (s : State) : Host.Outcome State Fault Refusal :=
  .next (aluOp p c sf rd (fun k => rorRes k.fl (k.r ra) (shAmt (k.r rb))) s)

/-- ADDC: addition with the carry C (R284). -/
def execKAddc (p : Pair) (c : Cond) (sf : Bool) (rd ra rb : GReg) (s : State) : Host.Outcome State Fault Refusal :=
  .next (aluOp p c sf rd (fun k => addFlags (k.r ra) (k.r rb) k.fl.c) s)

/-- SUBC: subtraction with the borrow C (R284). -/
def execKSubc (p : Pair) (c : Cond) (sf : Bool) (rd ra rb : GReg) (s : State) : Host.Outcome State Fault Refusal :=
  .next (aluOp p c sf rd (fun k => subFlags (k.r ra) (k.r rb) k.fl.c) s)

/-- CMP (R284). -/
def execKCmp (p : Pair) (c : Cond) (ra rb : GReg) (s : State) : Host.Outcome State Fault Refusal :=
  .next (cmpOp p c (fun k => (subFlags (k.r ra) (k.r rb) false).2) s)

/-- TST (R284). -/
def execKTst (p : Pair) (c : Cond) (ra rb : GReg) (s : State) : Host.Outcome State Fault Refusal :=
  .next (cmpOp p c (fun k => logicFlags k.fl (k.r ra &&& k.r rb)) s)

/-- MOV (R284). -/
def execKMov (p : Pair) (c : Cond) (sf : Bool) (rd rb : GReg) (s : State) : Host.Outcome State Fault Refusal :=
  .next (aluOp p c sf rd (fun k => (k.r rb, logicFlags k.fl (k.r rb))) s)

/-- ADDV (R292, R293). -/
def execKAddv (p : Pair) (c : Cond) (sf : Bool) (rd ra rb : GReg) (s : State) : Host.Outcome State Fault Refusal :=
  .next (ovfOp p c sf rd (fun k => addFlags (k.r ra) (k.r rb) false) s)

/-- SUBV (R292, R293). -/
def execKSubv (p : Pair) (c : Cond) (sf : Bool) (rd ra rb : GReg) (s : State) : Host.Outcome State Fault Refusal :=
  .next (ovfOp p c sf rd (fun k => subFlags (k.r ra) (k.r rb) false) s)

/-- ADDI: sign-extended immediate (R281). -/
def execKAddi (p : Pair) (c : Cond) (rd ra : GReg) (imm : BitVec 14) (s : State) : Host.Outcome State Fault Refusal :=
  .next (aluOp p c false rd (fun k => addFlags (k.r ra) (simm imm) false) s)

/-- ANDI: zero-extended immediate (R281). -/
def execKAndi (p : Pair) (c : Cond) (rd ra : GReg) (imm : BitVec 14) (s : State) : Host.Outcome State Fault Refusal :=
  .next (aluOp p c false rd (fun k => (k.r ra &&& uimm imm, k.fl)) s)

/-- ORI: zero-extended immediate (R281). -/
def execKOri (p : Pair) (c : Cond) (rd ra : GReg) (imm : BitVec 14) (s : State) : Host.Outcome State Fault Refusal :=
  .next (aluOp p c false rd (fun k => (k.r ra ||| uimm imm, k.fl)) s)

/-- XORI: zero-extended immediate (R281). -/
def execKXori (p : Pair) (c : Cond) (rd ra : GReg) (imm : BitVec 14) (s : State) : Host.Outcome State Fault Refusal :=
  .next (aluOp p c false rd (fun k => (k.r ra ^^^ uimm imm, k.fl)) s)

/-- SHLI (R281). -/
def execKShli (p : Pair) (c : Cond) (rd ra : GReg) (imm : Fin 32) (s : State) : Host.Outcome State Fault Refusal :=
  .next (aluOp p c false rd (fun k => (k.r ra <<< imm.val, k.fl)) s)

/-- SHRI (R281). -/
def execKShri (p : Pair) (c : Cond) (rd ra : GReg) (imm : Fin 32) (s : State) : Host.Outcome State Fault Refusal :=
  .next (aluOp p c false rd (fun k => (k.r ra >>> imm.val, k.fl)) s)

/-- SARI (R281). -/
def execKSari (p : Pair) (c : Cond) (rd ra : GReg) (imm : Fin 32) (s : State) : Host.Outcome State Fault Refusal :=
  .next (aluOp p c false rd (fun k => ((k.r ra).sshiftRight imm.val, k.fl)) s)

/-- CMPI (R284). -/
def execKCmpi (p : Pair) (c : Cond) (ra : GReg) (imm : BitVec 14) (s : State) : Host.Outcome State Fault Refusal :=
  .next (cmpOp p c (fun k => (subFlags (k.r ra) (simm imm) false).2) s)

/-- MOVW: the other halfword is cleared (10, opcode table). -/
def execKMovw (p : Pair) (c : Cond) (rd : GReg) (hw : Bool) (imm : BitVec 16) (s : State) : Host.Outcome State Fault Refusal :=
  .next (aluOp p c false rd (fun k => (imm.zeroExtend 32 <<< (16 * b2n hw), k.fl)) s)

/-- MOVK: the other halfword is kept (10, opcode table). -/
def execKMovk (p : Pair) (c : Cond) (rd : GReg) (hw : Bool) (imm : BitVec 16) (s : State) : Host.Outcome State Fault Refusal :=
  .next (aluOp p c false rd (fun k =>
    (if hw then putField (k.r rd) 31 16 imm.toNat else putField (k.r rd) 15 0 imm.toNat, k.fl)) s)

/-- ADDVI (R292, R293). -/
def execKAddvi (p : Pair) (c : Cond) (rd ra : GReg) (imm : BitVec 14) (s : State) : Host.Outcome State Fault Refusal :=
  .next (ovfOp p c false rd (fun k => addFlags (k.r ra) (simm imm) false) s)

/-! ### Multiplier and divider -/

/-- A MUL-group instruction issues its product (R289). -/
def mulOp (p : Pair) (c : Cond) (f : KPair → BitVec 64) (s : State) : State :=
  s.instr p c false (fun s => s.finish p (fun k => { k with mulQ := k.mulQ ++ [f k] }))

/-- Unsigned product. -/
def mulU (a b : Word) : BitVec 64 := a.zeroExtend 64 * b.zeroExtend 64

/-- Signed product. -/
def mulS (a b : Word) : BitVec 64 := a.signExtend 64 * b.signExtend 64

/-- MUL (R289). -/
def execKMul (p : Pair) (c : Cond) (ra rb : GReg) (s : State) : Host.Outcome State Fault Refusal :=
  .next (mulOp p c (fun k => mulU (k.r ra) (k.r rb)) s)

/-- MULS (R289). -/
def execKMuls (p : Pair) (c : Cond) (ra rb : GReg) (s : State) : Host.Outcome State Fault Refusal :=
  .next (mulOp p c (fun k => mulS (k.r ra) (k.r rb)) s)

/-- MAC: accumulates inside the multiplier in issue order (R289). -/
def execKMac (p : Pair) (c : Cond) (ra rb : GReg) (s : State) : Host.Outcome State Fault Refusal :=
  .next (mulOp p c (fun k => accNow k + mulU (k.r ra) (k.r rb)) s)

/-- MACS (R289). -/
def execKMacs (p : Pair) (c : Cond) (ra rb : GReg) (s : State) : Host.Outcome State Fault Refusal :=
  .next (mulOp p c (fun k => accNow k + mulS (k.r ra) (k.r rb)) s)

/-- MUL_RESULT_LAND: the oldest product in flight lands (R289). -/
def execMulResultLand (p : Pair) (s : State) : Host.Outcome State Fault Refusal :=
  .next (s.modPair p landMul)

/-- A division issues (R290): an earlier one lands first; in precise mode it holds issue until its own result has
landed (R294). `bad` is its arithmetic cause, 0 for none. -/
def divOp (p : Pair) (c : Cond) (res : KPair → Word × Word) (bad : KPair → Nat) (s : State) : State :=
  s.instr p c false (fun s =>
    let issue := fun (k : KPair) =>
      let k' := { landDiv k with divQ := some (res k) }
      if csPrc k.cs then landDiv k' else k'
    let b := bad (s.pair p)
    if b = 0 then s.finish p issue else s.arith p b issue)

/-- DIV (R290, R292, R293). -/
def execKDiv (p : Pair) (c : Cond) (ra rb : GReg) (s : State) : Host.Outcome State Fault Refusal :=
  .next (divOp p c
    (fun k => if k.r rb = 0 then (0xFFFFFFFF, k.r ra) else (k.r ra / k.r rb, k.r ra % k.r rb))
    (fun k => if k.r rb = 0 then 2 else 0) s)

/-- DIVS: quotient rounded toward zero, remainder with the dividend's sign (R290, R292, R293). -/
def execKDivs (p : Pair) (c : Cond) (ra rb : GReg) (s : State) : Host.Outcome State Fault Refusal :=
  .next (divOp p c
    (fun k => if k.r rb = 0 then (0xFFFFFFFF, k.r ra)
      else if k.r ra = 0x80000000 ∧ k.r rb = 0xFFFFFFFF then (0x80000000, 0)
      else ((k.r ra).sdiv (k.r rb), (k.r ra).srem (k.r rb)))
    (fun k => if k.r rb = 0 then 2 else if k.r ra = 0x80000000 ∧ k.r rb = 0xFFFFFFFF then 4 else 0) s)

/-- DIV_RESULT_LAND: QT and RM land (R290). -/
def execDivResultLand (p : Pair) (s : State) : Host.Outcome State Fault Refusal :=
  .next (s.modPair p landDiv)

end Sys2Proof.Machine
end

