-- ==== Sys2Proof/Machine/KFlow.lean ====
section
/-! DEFINITION. Kennu control flow: branches, the return stack (R279, R280), TRAP, RETX (R304, R305), WFE, SWPB, ESYNC
(R284, R318), interrupts (R307) and undefined instructions (R283). -/

namespace Sys2Proof.Machine

/-- BRA (R281). -/
def execKBra (p : Pair) (c : Cond) (off : BitVec 22) (s : State) : Host.Outcome State Fault Refusal :=
  .next (s.instr p c false (fun s => s.retire p (branchTarget (s.pair p).pc off)))

/-- BR: a misaligned target completes; its fetch is refused (R285). -/
def execKBr (p : Pair) (c : Cond) (ra : GReg) (s : State) : Host.Outcome State Fault Refusal :=
  .next (s.instr p c false (fun s => s.retire p ((s.pair p).r ra)))

/-- A call: pushes the address of the next instruction as a CALL word and branches, or a stack fault, cause 1, past RSL
(R279, R280, R308). -/
def callOp (p : Pair) (c : Cond) (target : KPair → Word) (s : State) : State :=
  s.instr p c false (fun s =>
    let k := s.pair p
    if k.rsp + 4 > k.rsl then s.except p 2 1
    else
      (s.modPair p (fun k => { k with
        rstack := Tbl.set (fun _ => {}) k.rstack (k.rsp / 4) ⟨k.pc + 4, false⟩
        rsp := k.rsp + 4 })).retire p (target k))

/-- CALL (R279, R281). -/
def execKCall (p : Pair) (c : Cond) (off : BitVec 22) (s : State) : Host.Outcome State Fault Refusal :=
  .next (callOp p c (fun k => branchTarget k.pc off) s)

/-- CALLR (R279). -/
def execKCallr (p : Pair) (c : Cond) (ra : GReg) (s : State) : Host.Outcome State Fault Refusal :=
  .next (callOp p c (fun k => k.r ra) s)

/-- A word of the return stack at byte offset `o`. -/
def rsWord (k : KPair) (o : Nat) : RWord := Tbl.get (fun _ => {}) k.rstack (o / 4)

/-- RET: pops a CALL word and branches to it; stack fault 2 below RSB, 3 on a FRAME word (R279, R308). -/
def execKRet (p : Pair) (c : Cond) (s : State) : Host.Outcome State Fault Refusal :=
  .next (s.instr p c false (fun s =>
    let k := s.pair p
    if k.rsp < k.rsb + 4 then s.except p 2 2
    else if (rsWord k (k.rsp - 4)).frame then s.except p 2 3
    else (s.modPair p (fun k => { k with rsp := k.rsp - 4 })).retire p (rsWord k (k.rsp - 4)).val))

/-- TRAP #n: vector 128 + n, resume address the next instruction; the level check against TPL first, whose descriptor
fault is a stack fault (R304, R297). -/
def execKTrap (p : Pair) (c : Cond) (n : Fin 128) (s : State) : Host.Outcome State Fault Refusal :=
  .next (s.instr p c true (fun s =>
    let k := s.pair p
    match s.desc p (128 + n.val) with
    | .bad _ => s.enter p (128 + n.val) (k.pc + 4) 0
    | .ok d => if csPl k.cs > d.tpl then s.except p 3 0 else s.enter p (128 + n.val) (k.pc + 4) 0))

/-- RETX restores from the frame on top of the return stack (R305). -/
def retxRestore (k : KPair) (w0 w1 w2 w3 : Word) : KPair :=
  { k with
    pc := w0
    cs := putField (putField (putField k.cs 31 28 (bits w1 31 28)) 8 7 (bits w1 8 7)) 5 4 (bits w1 5 4)
    g := Tbl.set (fun _ => 0) k.g 15 w2
    rsp := bits w3 12 2 * 4
    rsl := bits w3 21 13 * 16
    rsb := bits w3 29 22 * 16 }

/-- RETX: the four checks of R305 in order, then the restore; the swap of R318 when the frame's bank differs. -/
def execKRetx (p : Pair) (c : Cond) (s : State) : Host.Outcome State Fault Refusal :=
  .next (s.instr p c true (fun s =>
    let k := s.pair p
    let o := k.rsp - 16
    let w := fun i => rsWord k (o + 4 * i)
    if k.rsp < k.rsb + 16 then s.except p 2 5
    else if !(w 0).frame || !(w 1).frame || !(w 2).frame || !(w 3).frame then s.except p 2 4
    else if bits (w 1).val 5 4 < csPl k.cs then s.except p 3 0
    else
      let back := fun (s : State) =>
        let s := s.modPair p (fun k => retxRestore k (w 0).val (w 1).val (w 2).val (w 3).val)
        s.retire p (w 0).val
      if bit (w 1).val 6 = csBank k.cs then back s
      else
        let (s, ok) := s.gateSwap p (bit (w 1).val 6)
        if ok then back s else s.except p 6 0))

/-- NOP (R284). -/
def execKNop (p : Pair) (c : Cond) (s : State) : Host.Outcome State Fault Refusal :=
  .next (s.instr p c false (fun s => s.finish p id))

/-- WFE: suspends issue until an interrupt is pending; a NOP when one already is (R284, R307). -/
def execKWfe (p : Pair) (c : Cond) (s : State) : Host.Outcome State Fault Refusal :=
  .next (s.instr p c true (fun s =>
    let s' := s.finish p id
    if (s.firstIrq p).isSome then s'
    else s'.modPair p (fun k => { k with run := if k.run = .running then .waiting else k.run })))

/-- WFE_WAKE: an interrupt pends for a waiting pair and issue resumes (R307). -/
def execWfeWake (p : Pair) (s : State) : Host.Outcome State Fault Refusal :=
  .next (if (s.pair p).run = .waiting ∧ (s.firstIrq p).isSome then s.modPair p (fun k => { k with run := .running })
    else s)

/-- BARRIER: every earlier load and store has been performed (R284); in a model that performs them at once it only
advances. -/
def execKBarrier (p : Pair) (c : Cond) (s : State) : Host.Outcome State Fault Refusal :=
  .next (s.instr p c false (fun s => s.finish p id))

/-- SWPB: level 0 swaps the pair's bank if it is well-formed; other levels take PRIV (R297, R317, R318). -/
def execKSwpb (p : Pair) (c : Cond) (s : State) : Host.Outcome State Fault Refusal :=
  .next (s.instr p c true (fun s =>
    let k := s.pair p
    if csPl k.cs ≠ 0 then s.except p 3 0
    else (s.gateSwap p (!csBank k.cs)).1.finish p id))

/-- ESYNC: products and quotients land and pending arithmetic exceptions are taken first (R284, R293). -/
def execKEsync (p : Pair) (c : Cond) (s : State) : Host.Outcome State Fault Refusal :=
  .next (s.instr p c true (fun s => s.finish p (fun k => landDiv (landMuls k))))

/-- INTERRUPT_ENTRY: at an instruction boundary with CS.IE 1 the lowest-numbered pending interrupt is taken; a pending
arithmetic exception is taken before it (R303, R307). -/
def execInterruptEntry (p : Pair) (s : State) : Host.Outcome State Fault Refusal :=
  let k := s.pair p
  .next (if k.run = .running ∨ k.run = .waiting then
    match s.firstIrq p with
    | none => s
    | some b =>
      if csIe k.cs then
        if csAep k.cs then s.enter p 5 k.pc 0 else s.enter p (16 + b) k.pc 0
      else s
  else s)

/-- UNDEF: the undefined-instruction exception, precise; a word with a real condition that fails raises nothing, COND
0xF always does (R282, R283). -/
def execUndef (p : Pair) (c : Option Cond) (s : State) : Host.Outcome State Fault Refusal :=
  .next (s.instr p (c.getD .al) false (fun s => s.except p 1 0))

/-! ### Special registers (R277, 11) -/

/-- The highest-numbered level MFS allows for a special register; none for a reserved number. -/
def mfsLevel (sr : Nat) : Option Nat :=
  if sr ∈ [0, 1, 4, 5, 6, 7, 9, 10, 11, 12, 13, 23] then some 2
  else if sr ∈ [2, 3, 8, 14, 15, 16, 17, 18, 19, 21, 22] then some 1
  else if sr = 20 then some 0
  else none

/-- The highest-numbered level MTS allows; none for a reserved number or a read-only register. -/
def mtsLevel (sr : Nat) : Option Nat :=
  if sr ∈ [0, 4, 5, 6, 7] then some 2
  else if sr ∈ [1, 2, 3, 11, 22] then some 1
  else if sr ∈ [8, 14, 16, 17, 18, 19, 20] then some 0
  else none

/-- The value an MFS reads (CYCLO and CYCHI, a cycle count, are read by `execKMfs`). -/
def srRead (s : State) (p : Nat) (sr : Nat) : Word :=
  let k := s.pair p
  match sr with
  | 0 => k.cs
  | 1 => w32 k.rsp
  | 2 => w32 k.rsb
  | 3 => w32 k.rsl
  | 4 => k.ml
  | 5 => k.mh
  | 6 => k.qt
  | 7 => k.rm
  | 8 => k.edtb
  | 9 => pidOf p k
  | 10 => k.aea
  | 11 => k.aec
  | 13 => k.cycHi
  | 14 => k.esr
  | 15 => k.ear
  | 16 => k.sf0
  | 17 => k.sf1
  | 18 => k.sf2
  | 19 => k.sf3
  | 21 => s.ipend p
  | 22 => k.imask
  | 23 => k.xcnt
  | _ => 0

/-- MFS (R277). A read of CYCLO gives a free count and captures its high word (the model keeps no cycles). -/
def execKMfs (p : Pair) (c : Cond) (rd : GReg) (sr : Fin 32) (s : State) : Host.Outcome State Fault Refusal :=
  .next (s.instr p c false (fun s =>
    match mfsLevel sr.val with
    | none => s.except p 1 0
    | some l =>
      if csPl (s.pair p).cs > l then s.except p 3 0
      else if sr.val = 12 then
        s.withFree (fun n s => s.finish p (fun k => { k.setR rd (w32 n) with cycHi := w32 (n / 2 ^ 32) }))
      else s.finish p (fun k => k.setR rd (srRead s p sr.val))))

/-- SFCTL.PUSH: the shadow frame onto the return stack, or SFERR when it has no room (R310). -/
def sfPush (k : KPair) : KPair :=
  if k.rsp + 16 > k.rsl then { k with esr := putBit k.esr 18 true }
  else { k with
    rstack := pushFrame k.rstack k.rsp (k.sf0, k.sf1, k.sf2, k.sf3)
    rsp := k.rsp + 16
    esr := putBit k.esr 16 false }

/-- SFCTL written with `v`: PUSH acts, else DISCARD clears SFV (R310). -/
def sfctl (k : KPair) (v : Word) : KPair :=
  if bit v 0 then sfPush k else if bit v 1 then { k with esr := putBit k.esr 16 false } else k

/-- What an MTS writes (R277, R291, R310; ESR is W1C). -/
def srWrite (k : KPair) (sr : Nat) (v : Word) : KPair :=
  match sr with
  | 0 =>
    let cs := putField k.cs 31 28 (bits v 31 28)
    { k with cs := if csPl k.cs = 2 then cs else putField cs 8 7 (bits v 8 7) }
  | 1 => { k with rsp := bits v 11 2 * 4 }
  | 2 => { k with rsb := bits v 11 4 * 16 }
  | 3 => { k with rsl := min (bits v 12 4 * 16) 0x1000 }
  | 4 => { landMuls k with ml := v }
  | 5 => { landMuls k with mh := v }
  | 6 => { landDiv k with qt := v }
  | 7 => { landDiv k with rm := v }
  | 8 => { k with edtb := w32 (bits v 31 12 * 0x1000) }
  | 11 => { k with aec := w32 (bits v 2 0) }
  | 14 =>
    let e := if bit v 18 then putBit k.esr 18 false else k.esr
    { k with esr := if bit v 17 then putBit e 17 false else e }
  | 16 => { k with sf0 := v }
  | 17 => { k with sf1 := v }
  | 18 => { k with sf2 := v }
  | 19 => { k with sf3 := v }
  | 20 => sfctl k v
  | 22 => { k with imask := w32 (bits v 18 0) }
  | _ => k

/-- An MTS of value `v k` to special register `sr` (R277): UNDEF for a reserved or read-only register, PRIV for a level
the table does not allow. An MTS to CS takes a pending arithmetic exception first (R293). -/
def mtsOp (p : Pair) (c : Cond) (sr : Nat) (v : KPair → Word) (s : State) : State :=
  s.instr p c (sr == 0) (fun s =>
    match mtsLevel sr with
    | none => s.except p 1 0
    | some l =>
      if csPl (s.pair p).cs > l then s.except p 3 0
      else s.finish p (fun k => srWrite k sr (v k)))

/-- MTS (R277). -/
def execKMts (p : Pair) (c : Cond) (sr : Fin 32) (rd : GReg) (s : State) : Host.Outcome State Fault Refusal :=
  .next (mtsOp p c sr.val (fun k => k.r rd) s)

/-- SFCTL_PUSH: an MTS to SFCTL with PUSH 1 (and DISCARD as `disc`, which has no further effect; R310). -/
def execSfctlPush (p : Pair) (c : Cond) (disc : Bool) (s : State) : Host.Outcome State Fault Refusal :=
  .next (mtsOp p c 20 (fun _ => if disc then 3 else 1) s)

/-- SFCTL_DISCARD: an MTS to SFCTL with DISCARD alone (R310). -/
def execSfctlDiscard (p : Pair) (c : Cond) (s : State) : Host.Outcome State Fault Refusal :=
  .next (mtsOp p c 20 (fun _ => 2) s)

end Sys2Proof.Machine
end

