-- ==== Sys2Proof/Machine/SkmOps.lean ====
section
/-! DEFINITION. The record ring, the audit log, open faults and FAULTN (16 R411-R423): what the Skimmer does with a message. -/

namespace Sys2Proof.Machine

/-- The 64-bit message as it stands in a record: bits [31:0] and [63:32] (R411). -/
def Msg.lo (m : Msg) : Word := w32 m.addr
def Msg.hi (m : Msg) : Word :=
  w32 (m.blk * 0x8000000 + m.inst * 0x400000 + m.kind * 0x10000 + m.sev * 0x4000 + m.addr / 0x100000000 % 256)

namespace State

/-- SKM_KCFG of a kind: REACT, OPEN, MIRROR. -/
def kcfg (s : State) (k : Nat) : Word := s.reg (R.SKM_KCFG + 4 * k)

/-! ### Live causes (R413) and pools (R424, R431) -/

/-- Units of pools 0-3 now serving, and the serving limit. -/
def poolServing (s : State) (p : Nat) : Nat :=
  if p = 0 then s.servingLanes
  else if p = 1 then ((List.range 3).filter (fun u => (s.unit u).serving)).length
  else if p = 2 then ((List.range 3).filter (fun k => decide ((s.pair k).role ≠ 0) && !(s.pair k).fenced)).length
  else if p = 3 then s.servingSrcs
  else if p ≤ 7 then 2048 - (s.lostSec.filter (fun x => x.1 == p - 4)).length
  else if p = 12 then 64 - (s.lostSec.filter (fun x => x.1 == 4)).length
  else 0

/-- Serving limit of a pool; 0 for pools 8-11 and 13. -/
def poolLimit (s : State) (p : Nat) : Nat :=
  if p = 0 then s.variant.lanes else if p = 1 then s.variant.crus else if p = 2 then 2 else if p = 3 then 8
  else if p ≤ 7 then 2048 else if p = 12 then 64 else 0

/-- Some pool of 0-3 serves below its limit (R432). -/
def belowLimit (s : State) : Bool := (List.range 4).any (fun p => decide (s.poolServing p < s.poolLimit p))

/-- The live cause of an open fault is present (R413, R421). -/
def liveCause (s : State) (f : OpenF) : Bool :=
  if f.kind = Kind.CORE_DOUBLE_FAULT then (s.pair f.inst).run == .doubleFault
  else if f.kind = Kind.FLASH_TORN then s.torn.any (·.listed)
  else if f.kind = Kind.VAULT_STALL then s.vault.stalled
  else if f.kind = Kind.CLOCK_LOSS then s.clkFailed != 0
  else if f.kind = Kind.TAMPER then s.flags != 0
  else if f.kind = Kind.REPAIR_EXHAUSTED then
    (List.range 14).any (fun p => decide (s.poolServing p < s.poolLimit p))
  else false

/-! ### Open faults and FAULTN -/

/-- Open entry `i`. -/
def openF (s : State) (i : Nat) : OpenF := Tbl.get (fun _ => {}) s.skm.opens i

/-- Replaces open entry `i`. -/
def setOpenF (s : State) (i : Nat) (f : OpenF) : State :=
  { s with skm := { s.skm with opens := Tbl.set (fun _ => {}) s.skm.opens i f } }

/-- Open entries. -/
def openCount (s : State) : Nat := s.skm.opens.length

/-- Some fault is uncleared (R421). -/
def uncleared (s : State) : Bool := !s.skm.opens.isEmpty || s.skm.full

/-- The highest uncleared severity. -/
def maxSev (s : State) : Nat :=
  if s.skm.full then 3 else (s.skm.opens.map (fun e => e.2.sev)).foldl max 0

/-- FAULTN is asserted (R423). -/
def faultn (s : State) : Bool :=
  !s.skm.styled || s.clkFailed != 0 || bit (s.reg R.SKM_PIN) 0 ||
    (if s.skm.pulse then s.skm.pulsing else s.uncleared)

/-- A new entry, or OPEN_FULL, starts or restarts the pulse and sets NEW_FAULT (R421, R423). -/
def newFault (s : State) : State :=
  let s := s.event Blk.SKM 0 2
  if s.skm.pulse then { s with skm := { s.skm with pulsing := true } } else s

/-- A message of a kind that opens joins its fault, opens one, or overflows (R421). -/
def openOrJoin (s : State) (m : Msg) (seq : Nat) : State :=
  if !bit (s.kcfg m.kind) 2 then s
  else
    match s.skm.opens.find? (fun e => e.2.kind == m.kind && e.2.blk == m.blk && e.2.inst == m.inst) with
    | some (i, f) => s.setOpenF i { f with sev := max f.sev m.sev, cnt := satSucc 255 f.cnt }
    | none =>
      match (List.range 128).find? (fun i => (s.openF i).cnt == 0) with
      | some i => (s.setOpenF i ⟨m.kind, m.blk, m.inst, m.sev, 1, seq % 65536⟩).newFault
      | none => if s.skm.full then s else ({ s with skm := { s.skm with full := true } }).newFault

/-! ### The audit log (R418, R419) -/

/-- Records waiting to be durable in the log. -/
def auditPending (s : State) : Nat := s.skm.page.length + (s.skm.pages.map (fun p => p.ents.length)).sum

/-- The first page waiting is asked for (R418, R335). -/
def auditKick (s : State) : State :=
  if s.skm.pages.isEmpty ∨ s.hasLeave .audit ∨ s.skm.earlyOn then s
  else (s.askFlash ⟨3, 3, 1, 1024 + s.skm.logPage / 16 % 768, Blk.SKM, 4, .audit⟩).1

/-- Sends the open page to be programmed. -/
def auditFlush (s : State) : State :=
  if s.skm.page.isEmpty then s
  else
    let s := { s with skm := { s.skm with pages := s.skm.pages ++ [(⟨false, s.skm.page⟩ : APage)], page := [] } }
    s.auditKick

/-- A record is mirrored: into the open page; a full page, or one with a CRITICAL record, is programmed. -/
def mirror (s : State) (r : SRec) : State :=
  if !bit (s.kcfg r.msg.kind) 3 then s
  else
    let s := { s with skm := { s.skm with page := s.skm.page ++ [r] } }
    if s.skm.page.length ≥ 12 ∨ r.msg.sev = 3 then s.auditFlush else s

/-- The ring is about to overwrite its oldest record: if that record is not yet durable it is lost to the log. -/
def ringDrop (s : State) : State :=
  if s.skm.ring.length < 512 then s
  else
    let q := (s.skm.ring.getLast?.map (·.seq)).getD 0
    let has := s.skm.page.any (fun r => r.seq == q) || s.skm.pages.any (fun p => !p.copy && p.ents.any (fun r => r.seq == q))
    let s := { s with skm := { s.skm with ring := s.skm.ring.take 511 } }
    if has then
      let cut := fun (l : List SRec) => l.filter (fun r => r.seq != q)
      let pg := fun (p : APage) => if p.copy then p else { p with ents := cut p.ents }
      ({ s with skm := { s.skm with
        page := cut s.skm.page
        pages := (s.skm.pages.map pg).filter (fun p => !p.ents.isEmpty)
        lost := satSucc 0xFFFF s.skm.lost, lostDue := true } }).event Blk.SKM 0 4
    else s

/-! ### The fault views of the domains (R52) -/

/-- Kinds every domain sees, with address 0. -/
def deviceWide (k : Nat) : Bool :=
  k ∈ [Kind.CLOCK_LOSS, Kind.REPAIR_EXHAUSTED, Kind.LOCKSTEP_MISMATCH, Kind.LANE_SELFTEST, Kind.CRU_SELFTEST,
    Kind.RNG_HEALTH, Kind.TAMPER]

/-- A record enters the view of domain `d`, if it concerns it. -/
def viewAdd (s : State) (r : SRec) (d : Nat) : State :=
  let own := r.msg.dom = d ∨ (r.msg.blk = Blk.HPT ∧ r.msg.inst = d)
  if own ∨ deviceWide r.msg.kind then
    let m := if own then r.msg else { r.msg with addr := 0 }
    s.modPort d (fun p => { p with
      view := (⟨m.lo, m.hi, r.seq % 65536⟩ :: p.view).take 32
      viewHead := (p.viewHead + 1) % 32
      viewCnt := if p.viewCnt = 0xFFFFFFFF then p.viewCnt else p.viewCnt + 1 })
  else s

/-! ### Taking a message -/

/-- A record is made (R417): SEQ, RTC; it enters the ring, the views and, if its kind is mirrored, the audit log. -/
def newRecord (s : State) (m : Msg) : State :=
  s.rtcNow (fun t s =>
    let r : SRec := ⟨m, (s.skm.seq + 1) % 2 ^ 32, t, 0⟩
    let s := s.ringDrop
    let s := { s with skm := { s.skm with seq := r.seq, ring := r :: s.skm.ring } }
    ((List.range 4).foldl (fun s d => s.viewAdd r d) s).mirror r)

/-- With losses to report, a LOG_LOSS record enters beside the next record mirrored (R418). -/
def lossRecord (s : State) (m : Msg) : State :=
  if s.skm.lostDue ∧ bit (s.kcfg m.kind) 3 then
    let s := { s with skm := { s.skm with lostDue := false } }
    s.fault Blk.SKM 0 Kind.LOG_LOSS (s.skm.lost % 65536)
  else s

/-- The message is of the same source, kind and address as the newest record, within the window (R417). -/
def coalesces (s : State) (m : Msg) (ms : Nat) : Bool :=
  match s.skm.ring with
  | r :: _ => r.msg.blk == m.blk && r.msg.inst == m.inst && r.msg.kind == m.kind && r.msg.addr == m.addr &&
      decide (s.fld R.SKM_CFG 15 8 ≠ 0) && decide (ms ≤ s.fld R.SKM_CFG 15 8)
  | [] => false

/-- Takes one message, `ms` milliseconds after the newest record's entry: recorded or coalesced, joined to its open
fault, kept for the next pass. -/
def takeMsg (s : State) (m : Msg) (ms : Nat) : State :=
  let s := if s.coalesces m ms then
      let up := fun (r : SRec) => { r with rep := satSucc 0xFFFF r.rep }
      { s with skm := { s.skm with ring := match s.skm.ring with
        | r :: t => up r :: t
        | [] => [] } }
    else (s.newRecord m).lossRecord m
  let s := s.openOrJoin m s.skm.seq
  { s with skm := { s.skm with react := s.skm.react ++ [m] } }

end State
end Sys2Proof.Machine
end

