-- ==== Sys2Proof/Machine/Modes.lean ====
section
/-! DEFINITION. What every change of mode shares (17, 09 R266, R267, 01 R43): what a quench erases, how jobs, sessions,
ceremonies and card operations end, and Lockdown entry (R455). -/

namespace Sys2Proof.Machine

/-- The application the tag offers in a mode (R352): 0 none, 1 service, 2 recovery. -/
def appOf (m : Mode) : Nat :=
  match m with
  | .service | .hold => 1
  | .start | .lockdown | .field => 2
  | .backup => 0

/-- A commit made by a reader's command. -/
def TagWho.reader (w : TagWho) : Bool :=
  match w with
  | .update | .ticket | .pwTry _ | .pwOk | .auth1 | .gone _ => true
  | .host _ | .cred _ | .decom => false

namespace State

/-! ### The tag's session (R352, R358) -/

/-- The session keys and the pending challenge are erased; a SECURED session returns to OPEN. -/
def tagUnkey (s : State) : State :=
  { s with tag := { s.tag with
    ksEnc := [], ksMac := [], rndB := none, cc := 0, access := min s.tag.access 1 } }

/-- The protocol returns to IDLE; buffers and session keys are erased. -/
def tagIdle (s : State) : State :=
  { s with tag := { s.tag with
    proto := 2, fromHalt := false, level := 0, l4 := false, pps := false, app := 0, access := 0, dr := 0, ds := 0
    ksEnc := [], ksMac := [], rndB := none, cc := 0, chain := none, toIdle := false } }

/-- A mode change that moves the tag from one application to the other returns it to IDLE, after any commit of the
reader's in progress (R352). -/
def tagApp (s : State) (old new : Mode) : State :=
  if appOf old = appOf new ∨ s.tag.proto < 3 then s
  else if (s.tag.commit.map (fun c => c.who.reader)).getD false then { s with tag := { s.tag with toIdle := true } }
  else s.tagIdle

/-- `n` free bytes at `a`: a program cut short (R336, R345, R363). -/
def scramble (s : State) (a n : Nat) : State := s.drawBytes n (fun r s => s.setBytes a ((r ++ zeros n).take n))

/-- Core address of the copy of tag record `r` that is not current (R359, R361). -/
def shadowAddr (s : State) (r : Nat) : Nat :=
  0x0C000000 + (if s.tag.map / 2 ^ r % 2 = 1 then 0 else 0x4000) + r * 0x400

/-- A commit cut off before its marker: the old content stays current, its shadow copies hold whatever was written (R363). -/
def tagCut (s : State) : State :=
  match s.tag.commit with
  | none => s
  | some c =>
    let s := if c.waits then s else c.recs.foldl (fun s r => s.scramble (s.shadowAddr r.1) 0x400) s
    { s with tag := { s.tag with commit := none } }

/-- Host tag jobs end: none waits, and a commit begun for one is cut (R371, R43). -/
def tagHostCut (s : State) : State :=
  let s := match s.tag.commit with
    | some c => if !c.who.reader && s.tag.hostOn.isSome then s.tagCut else s
    | none => s
  { s with tag := { s.tag with hostQ := [], hostOn := none } }

/-! ### The cards (R382, R389, R390) -/

/-- Custodian slot `i`. -/
def cslot (s : State) (i : Nat) : CSlot := Tbl.get (fun _ => {}) s.crd.slots i
/-- Replaces it. -/
def setCslot (s : State) (i : Nat) (c : CSlot) : State :=
  { s with crd := { s.crd with slots := Tbl.set (fun _ => {}) s.crd.slots i c } }

/-- Deactivates a custodian slot (R389): VCC off, its tokens released. -/
def ccDeact (s : State) (i : Nat) : State :=
  let c := s.cslot i
  let st := if c.st = 3 ∨ c.st = 4 ∨ c.st = 6 then 2 else c.st
  (s.setCslot i { st := st, used := c.used }).releaseLeave (.cc i)

/-- A custody command ends (CRD_CUST_STAT). -/
def custEnd (s : State) (status cause : Nat) : State :=
  let s := s.setReg R.CRD_CUST_STAT (w32 (0x40000000 + status * 0x10000 + cause))
  { s with crd := { s.crd with op := 0 } }

/-! ### Ceremonies (R262) -/

/-- A ceremony ends: secrets, shares and K_sw erased, both slots deactivated, one CEREMONY record (R263). -/
def cerEnd (s : State) (st fail : Nat) : State :=
  let s := { s with kst := { s.kst with cer := { s.kst.cer with
    st := st, fail := fail, secret := [], shares := [], kcv := [] } } }
  ((((s.event Blk.KST 0 4).faultFree Blk.KST 0 Kind.CEREMONY).ccDeact 0).ccDeact 1)

/-- An injection in progress ends (DBG_INJ_STAT). -/
def injEnd (s : State) (result : Nat) : State :=
  let s := s.setReg R.DBG_INJ_STAT (w32 (0x40000000 + s.dbg.injStep * 0x10000 + result))
  { s with dbg := { s.dbg with injOn := false } }

/-- A ceremony in progress fails; one that serves an injection ends it with RESULT 4 (R465). -/
def cerFail (s : State) (fail : Nat) : State :=
  if 1 ≤ s.kst.cer.st ∧ s.kst.cer.st ≤ 4 then
    let s := s.cerEnd 6 fail
    if s.kst.cer.kind = 0 ∧ s.dbg.injOn then s.injEnd 4 else s
  else s

/-! ### Debug (R472, R474, R480) -/

/-- TICKETED ends with a code (R474); an end by a Start makes no record. -/
def ticketEnd (s : State) (code : Nat) : State :=
  if s.dbg.st ≠ 1 then s
  else
    let s := { s with dbg := { s.dbg with st := 0, scope := 0, minutes := 0 } }
    let s := (List.range 3).foldl (fun s p =>
      s.modPair p (fun k => { k with run := if k.run = .debugHalt then .running else k.run })) s
    let s := s.event Blk.DBG 0 3
    if code = 5 then s else s.fault Blk.DBG 0 Kind.CEREMONY (0xDC00000000 + code)

/-- What a mode change ends in the debug block: a verification (RESULT 7) and injection step 4 (RESULT 4). -/
def dbgModeEnd (s : State) : State :=
  let s := if s.dbg.verify.isSome then s.ticketRefuse 7 else s
  if s.dbg.injOn then s.injEnd 4 else s

/-! ### Requests that may no longer be carried out -/

/-- Withdraws a request whose leave has not been granted and whose flash operation has not begun. -/
def withdraw (s : State) (what : Purpose) : State :=
  if s.leaveHeld.any (fun l => l.what == what) ∨ s.flashOn.any (fun o => o.rq.what == what && o.granted) then s
  else s.releaseLeave what

/-! ### The quench (R266) -/

/-- A record being programmed completes under the key it was wrapped with; what waits behind it is dropped, and a
firmware command waiting for its record ends (R253). -/
def quenchImage (s : State) : State :=
  let fw := s.kst.queue.any (fun r => match r.who with
    | .fw _ _ => true
    | _ => false)
  let keep := fun (r : ImgRec) => { r with key := s.kst.kseal.getD [], who := .none }
  let q := if s.kst.prog then (s.kst.queue.take 1).map keep else []
  let s := { s with kst := { s.kst with queue := q } }
  let s := (s.withdraw .image).withdraw .imageErase
  if fw then s.kstFwEnd 0x018E else s

/-- Erases the key store's volatile contents, contexts, stream slots and ceremony secrets, and K_bb when the cause says
so. Ranges, owners, image and OTP are kept. -/
def quench (s : State) (kbb : Bool) : State :=
  let s := (s.cerFail 4).quenchImage
  let s := { s with
    slots := [], ctxs := [], installs := [], closedIdx := [], streams := []
    kst := { s.kst with
      unsealed := false, imgOk := false, restore := false, kseal := none, keph := none, kcust := none }
    flk := { s.flk with kbb := if kbb then none else s.flk.kbb } }
  s.event Blk.KST 0 3

/-! ### Jobs in flight at Lockdown (R43, R192, R213) -/

/-- The job's key, slot, context or stream slot is among what a quench erases. -/
def keyed (j : Job) : Bool :=
  j.stage != .parkWait && (j.key != .none || j.fill.isSome || j.stream.isSome || j.stage == .parked)

/-- Ends one job at Lockdown entry. A job on a Crucible unit is reported when the unit has wiped (R213). -/
def lockJob (s : State) (id : Nat) : State :=
  match s.job id with
  | none => s
  | some j =>
    if j.isDone then s
    else
      let st := if keyed j then St.KEY_DENIED else St.MODE_DENIED
      let c := if keyed j then 0x0150 else 4
      match s.unitOf id with
      | some u => s.cruAbort u st c 0
      | none => s.failJob j st 6 0 c 0

/-- The firmware port's job ends at Lockdown entry, unless the Start steps still run (R41, R452). -/
def lockPort (s : State) : State :=
  let code := fun (j : Job) => (if keyed j then St.KEY_DENIED else St.MODE_DENIED, if keyed j then 0x0150 else 4)
  let s := match s.fwWait with
    | some j => if s.sys.start.isSome then s else s.fwFail j (code j).1 6 (code j).2
    | none => s
  match s.fwJob with
  | none => s
  | some j =>
    if s.sys.start.isSome then s
    else
      let (st, c) := code j
      match (List.range 3).find? (fun u => (s.unit u).fw) with
      | some u => s.cruAbort u st c 0
      | none => s.fwFail j st 6 c

/-- The Tundish stops fetching: entry reads and read-ahead in progress are given up. -/
def stopFetch (s : State) : State :=
  { s with qps := s.qps.map (fun e => (e.1, { e.2 with fetch := none, reread := none, ra := none })) }

/-! ### Lockdown entry (R455) -/

/-- The lowest of two reasons of Lockdown, 0 being none (R452). -/
def lowReason (a b : Nat) : Nat := if a = 0 then b else if b = 0 then a else min a b

/-- A PLL domain. -/
def pdom (s : State) (k : Nat) : PDom := Tbl.get (fun _ => {}) s.clk.doms k
/-- Replaces it. -/
def setPdom (s : State) (k : Nat) (d : PDom) : State :=
  { s with clk := { s.clk with doms := Tbl.set (fun _ => {}) s.clk.doms k d } }

/-- PLL_ENG is to be ramped down and gated. -/
def gateEng (s : State) : State :=
  if (s.pdom 1).div = 0xFF then s else s.setPdom 1 { s.pdom 1 with aim := 3 }

/-- What ends in Lockdown besides jobs: card operations, the vault's and the image's writes, the SERVICE pair, host DRBG
instances, lanes, the tag's session and tickets. -/
def lockRest (s : State) : State :=
  let s := if s.crd.op ≠ 0 then s.custEnd St.MODE_DENIED 4 else s
  let s := { s with crd := { s.crd with run := none, resolving := false, jq := if s.crd.jprog then s.crd.jq.take 1 else [] } }
  let s := ((s.withdraw .journal).withdraw .journalErase |>.ccDeact 0).ccDeact 1
  let s := (s.withdraw .vaultPage).withdraw .vaultErase
  let s := { s with vault := { s.vault with pages := if s.vault.prog then s.vault.pages.take 1 else [], logWs := [] } }
  let s := (List.range 3).foldl (fun s p =>
    if (s.pair p).role = 2 ∧ ((s.pair p).run = .running ∨ (s.pair p).run = .waiting) then
      s.modPair p (fun k => { k with run := .halted })
    else s) s
  let s := (List.range 4).foldl uninstantiate s
  let s := { s with rng := { s.rng with waitQ := [] } }
  let s := s.tagHostCut
  let s := (List.range 9).foldl (fun s n => if (s.lane n).leave then s.laneDormant n else s) s
  { s with ports := s.ports.map (fun e => (e.1, { e.2 with l1 := false, parkQ := [] })) }

/-- Enters Lockdown for `reason`, quenching K_bb too when `kbb` (R267, R455). In Lockdown a cause has no further effect;
one met while Esnan waits for a clock makes the warm Start end in Lockdown (R453, R460). -/
def lockdown (s : State) (reason : Nat) (kbb : Bool) : State :=
  if s.mode = .lockdown then s
  else if s.clk.waiting then
    let s := s.quench kbb
    { s with clk := { s.clk with before := .lockdown }, sys := { s.sys with reason := lowReason s.sys.reason reason } }
  else
    let old := s.mode
    let s := if s.dbg.verify.isSome then s.ticketRefuse 7 else s
    let s := ((s.jobs.map (·.id)).foldl lockJob s.stopFetch).lockPort
    let s := (s.quench kbb).dbgModeEnd
    let s := { s with mode := .lockdown, sys := { s.sys with reason := reason, holdPend := false } }
    let s := (s.ticketEnd 4).lockRest
    let s := (s.gateEng.tagUnkey).tagApp old .lockdown
    s.event Blk.SYS 0 2

/-- A quench with main power present, then Lockdown entry (R267). -/
def quenchLock (s : State) (reason : Nat) (kbb : Bool) : State :=
  if s.mode = .lockdown then s.quench kbb else s.lockdown reason kbb

end State
end Sys2Proof.Machine
end

