-- ==== Sys2Proof/Machine/Skimmer.lean ====
section
/-! DEFINITION. Skimmer and Riser commands (16): messages taken, passes and reactions, the audit log, clearing, FAULTN,
spares and the field map. -/

namespace Sys2Proof.Machine

namespace State

/-! ### Fences (R14, R414, R502) -/

/-- Unit `n` of pool 0-3 is fenced. -/
def unitFenced (s : State) (pool n : Nat) : Bool :=
  if pool = 0 then (s.lane n).st == .fenced
  else if pool = 1 then (s.unit n).st == .fenced
  else if pool = 2 then (s.pair n).fenced
  else (s.src n).st == .fenced

/-- Unit `n` of pool 0-3 serves. -/
def unitServing (s : State) (pool n : Nat) : Bool :=
  if pool = 0 then (s.lane n).serving
  else if pool = 1 then (s.unit n).serving
  else if pool = 2 then (s.pair n).role != 0
  else (s.src n).st == .serving

/-- Takes unit `n` out of use. -/
def fenceOff (s : State) (pool n : Nat) : State :=
  if pool = 0 then (s.fenceLane n).modLane n (fun l => { l with st := .fenced })
  else if pool = 1 then (s.fenceUnit n).modUnit n (fun u => { u with st := .fenced })
  else if pool = 2 then (s.haltEvents n).modPair n (fun k => { k with fenced := true, run := .held })
  else (s.setSrc n { s.src n with st := .fenced }).setFence Blk.RNG 0 n

/-- A fence of unit `n` of pool 0-3 from outside its block: by firmware (`kind` none, no strike) or a FENCE reaction
(R426). On a fenced unit it has no further effect (R502). -/
def fence (s : State) (pool n : Nat) (kind : Option Nat) : State :=
  if s.unitFenced pool n then s
  else (s.noteFence pool n (s.unitServing pool n) kind).fenceOff pool n

/-- The FENCE reaction to a message: the unit it names (R414). -/
def fenceFor (s : State) (m : Msg) : State :=
  if m.blk = Blk.SYM ∧ m.inst < 9 then s.fence 0 m.inst (some m.kind)
  else if m.blk = Blk.CRU ∧ m.inst < 3 then s.fence 1 m.inst (some m.kind)
  else if m.blk = Blk.KEN ∧ m.inst < 3 then s.fence 2 m.inst (some m.kind)
  else if m.blk = Blk.RNG ∧ m.addr % 16 < 10 then s.fence 3 (m.addr % 16) (some m.kind)
  else s

/-- The effect of a write of `v` to BLK_FENCE of block `b`, instance `i` (R14). -/
def fenceWrite (s : State) (b i : Nat) (v : Word) : State :=
  if b = Blk.SYM then (if bit v 0 then (s.fence 0 i none).setFence b i 0 else s)
  else if b = Blk.CRU then (if bit v 0 then (s.fence 1 i none).setFence b i 0 else s)
  else if b = Blk.RNG then
    (List.range 10).foldl (fun s n => if bit v n then (s.fence 3 n none).setFence b i n else s) s
  else s

/-! ### Passes (R416) -/

/-- The reaction of a message (R414). -/
def reaction (s : State) (m : Msg) : Nat :=
  let r := bits (s.kcfg m.kind) 1 0
  if s.life = .foundry then min r 1 else r

/-- One pass over the messages taken since the last. -/
def skmPass (s : State) : State :=
  let l := s.skm.react
  let top := (l.map s.reaction).foldl max 0
  let fences := l.filter (fun m => decide (1 ≤ s.reaction m))
  let s := { s with skm := { s.skm with react := [] } }
  let s := if top = 3 then s.quenchLock 2 true else if top = 2 then s.lockdown 2 false else s
  fences.foldl fenceFor s

/-! ### The audit log (R418, R419) -/

end State

/-- The bytes of an audit entry (Audit log page). -/
def SRec.bytes (r : SRec) : List Byte :=
  leBytes 4 r.msg.lo.toNat ++ leBytes 4 r.msg.hi.toNat ++ leBytes 4 r.seq ++ leBytes 6 r.rtc ++ leBytes 2 r.rep

/-- The 256 bytes of an audit page. -/
def APage.bytes (p : APage) : List Byte :=
  let l := [0x41, 0x4C, if p.copy then 2 else 1, BitVec.ofNat 8 p.ents.length] ++ zeros 4 ++ p.ents.flatMap SRec.bytes ++
    zeros (20 * (12 - p.ents.length)) ++ zeros 4
  l ++ leBytes 4 (crc32 l)

/-- `l` cut into lists of at most 12. -/
def twelves {α : Type} : Nat → List α → List (List α)
  | 0, _ => []
  | _ + 1, [] => []
  | n + 1, l => l.take 12 :: twelves n (l.drop 12)

/-- Kinds copied forward for the life of the device. -/
def permanentKind (k : Nat) : Bool :=
  k ∈ [Kind.TAMPER, Kind.CEREMONY, Kind.SPARE_IN, Kind.REPAIR_EXHAUSTED, Kind.BIST_FAIL]

namespace State

/-- Free sectors of the audit log. -/
def auditFree (s : State) : Nat := 768 - ((s.skm.logPage - s.skm.logTail) + 15) / 16

/-- With fewer than 8 free sectors the permanent entries of the oldest are queued as COPY pages; once they are durable its
erase is asked (R419). -/
def auditCompact (s : State) : State :=
  if s.skm.erasing then
    if s.skm.pages.any (·.copy) ∨ s.hasLeave .auditErase then s
    else (s.askFlash ⟨3, 5, 2, 1024 + s.skm.logTail / 16 % 768, Blk.SKM, 12, .auditErase⟩).1
  else if s.auditFree ≥ 8 then s
  else
    let old := (s.skm.log.filter (fun e => decide (e.1 < s.skm.logTail + 16) && permanentKind e.2.msg.kind)).map (·.2)
    let s := { s with skm := { s.skm with
      erasing := true, pages := s.skm.pages ++ (twelves old.length old).map (fun l => (⟨true, l⟩ : APage)) } }
    let s := s.auditKick
    if old.isEmpty then (s.askFlash ⟨3, 5, 2, 1024 + s.skm.logTail / 16 % 768, Blk.SKM, 12, .auditErase⟩).1 else s

/-- A flash operation's leave has been granted: it is in hand. -/
def inHand (s : State) (what : Purpose) : Bool := s.flashOn.any (fun o => o.rq.what == what && o.granted)

/-- The audit page being programmed is durable. -/
def auditDurable (s : State) : State :=
  match s.skm.pages with
  | [] => s
  | p :: t =>
    let n := s.skm.logPage
    let s := s.setBytes (0x09800000 + 1024 * 0x1000 + (n % 12288) * 256) p.bytes
    let s := { s with skm := { s.skm with
      pages := t, logPage := n + 1, log := s.skm.log ++ p.ents.map (fun r => (n, r)) } }
    ((s.releaseLeave .audit).auditKick).auditCompact

/-- The oldest sector of the audit log is erased. -/
def auditErased (s : State) : State :=
  let a := 0x09800000 + 1024 * 0x1000 + (s.skm.logTail % 12288) * 256
  let s := s.forget a (a + 0x1000)
  let t := s.skm.logTail + 16
  let s := { s with skm := { s.skm with
    erasing := false, logTail := t, log := s.skm.log.filter (fun e => decide (t ≤ e.1)) } }
  (s.releaseLeave .auditErase).auditCompact

/-! ### Clearing (R422) and FAULTN (R423) -/

/-- Clears open entry `i`: closed, or reasserted while its cause is present. -/
def clearOne (s : State) (i : Nat) : State :=
  let f := s.openF i
  if f.cnt = 0 then s
  else if s.liveCause f then ({ s with skm := { s.skm with reasserted := true } }).event Blk.SKM 0 3
  else s.setOpenF i {}

/-- A write of SKM_CLR; none is a violation. -/
def clrWrite (s : State) (v : Word) : Option State :=
  if bits v 31 16 ≠ 0x4643 then none
  else
    let s := { s with skm := { s.skm with reasserted := false } }
    some (
      if bit v 8 then
        let s := (s.skm.opens.map (·.1)).foldl clearOne s
        { s with skm := { s.skm with full := false } }
      else s.clearOne (bits v 6 0))

/-! ### Substitution (R429-R431) -/

/-- Units of a pool that are eligible spares, lowest first (R425). -/
def spares (s : State) (pool : Nat) : List Nat :=
  if pool = 0 then (List.range 9).filter (fun n => (s.lane n).st == .spare)
  else if pool = 1 then (List.range 3).filter (fun n => (s.unit n).st == .spare)
  else if pool = 2 then (List.range 3).filter (fun n => (s.pair n).role == 0 && !(s.pair n).fenced)
  else (List.range 10).filter (fun n => (s.src n).st == .spare)

/-- A record of the Riser: pool, unit and count (R424). -/
def risMsg (s : State) (kind pool unit n : Nat) : State :=
  s.fault Blk.RIS 0 kind (pool * 0x100000000 + unit * 0x10000 + n)

/-- No spare is left (R431): BEVT.EXHAUSTED and REPAIR_EXHAUSTED. -/
def exhausted (s : State) (pool unit : Nat) : State :=
  (s.event Blk.RIS 0 3).risMsg Kind.REPAIR_EXHAUSTED pool unit (s.poolServing pool)

/-- A spare now serves (R429). -/
def spareIn (s : State) (pool unit : Nat) : State :=
  (s.event Blk.RIS 0 2).risMsg Kind.SPARE_IN pool unit (s.spares pool).length

/-- Wakes lane `n` for a substitution, unless another is waking or PLL_ENG is stopped (R167, R429). -/
def wakeSpare (s : State) (n : Nat) : State :=
  if s.mode = .lockdown ∨ s.mode = .hold ∨ (List.range 9).any (fun k => (s.lane k).st == .waking) then s
  else
    let (s, no) := s.askLeave Blk.SYM n 35 (.lane n)
    if no then s else s.modLane n (fun l => { l with st := .waking, seed := none, next := none })

/-- Starts bringing spare `n` of pools 0, 1 and 3 in for `unit`: a lane's activation, TEST, a source's start-up. -/
def bringIn (s : State) (pool unit n : Nat) : State :=
  let s := { s with ris := { s.ris with subs := s.ris.subs ++ [(pool, unit, n)] } }
  if pool = 0 then (s.modLane n (fun l => { l with st := .dormant })).wakeSpare n
  else if pool = 1 then s.modUnit n (fun u => { u with st := .test, up := false })
  else s.setSrc n { s.src n with st := .settle, rct := 0, apt := 0 }

/-- A spare being brought in has begun to serve. -/
def arrived (s : State) (x : Nat × Nat × Nat) : Bool :=
  if x.1 = 0 then (s.lane x.2.2).active
  else if x.1 = 1 then (s.unit x.2.2).serving
  else (s.src x.2.2).st == .serving

/-- Substitution in pool `p`: those that have ended are recorded, then every unit to be replaced gets the lowest spare or
is recorded as exhausted. -/
def substitute (s : State) (p : Nat) : State :=
  let fin := s.ris.subs.filter (fun x => x.1 == p && s.arrived x)
  let s := { s with ris := { s.ris with subs := s.ris.subs.filter (fun x => !fin.contains x) } }
  let s := fin.foldl (fun s x => s.spareIn p x.2.1) s
  let s := (s.ris.subs.filter (fun x => x.1 == 0 && p == 0)).foldl (fun s x =>
    if (s.lane x.2.2).st = .dormant then s.wakeSpare x.2.2 else s) s
  let due := s.ris.due.filter (fun x => x.1 == p)
  let s := { s with ris := { s.ris with due := s.ris.due.filter (fun x => x.1 != p) } }
  due.foldl (fun s x =>
    match s.spares p with
    | [] => s.exhausted p x.2
    | n :: _ => s.bringIn p x.2 n) s

/-! ### The field map (R433) -/

end State

/-- The 32 bytes of a field-map entry. -/
def MapEnt.bytes (e : MapEnt) : List Byte :=
  let l := [BitVec.ofNat 8 e.typ, BitVec.ofNat 8 e.pool] ++ leBytes 2 e.unit ++ leBytes 2 e.spare ++
    [BitVec.ofNat 8 e.kind, 0] ++ leBytes 4 e.seq ++ leBytes 6 e.rtc ++ [if e.rtcOk then 1 else 0] ++ zeros 9
  l ++ leBytes 4 (crc32 l)

namespace State

/-- Core address of copy 1 (bank 1) or copy 2 (bank 3) of the field map. -/
def mapBase (second : Bool) : Nat := if second then 0x09FF0000 else 0x08FF0000

/-- Writes entry `e` to a copy whose halves have taken `n` entries so far: a half holds 1,024; when it is full the other
is erased and takes HALF_START and the current map `l`, which ends with `e`. Answers the new count. -/
def mapWrite (s : State) (second : Bool) (n : Nat) (l : List MapEnt) (e : MapEnt) : State × Nat :=
  let base := mapBase second
  if n % 1024 = 0 ∧ n ≠ 0 then
    let h := base + (n / 1024 % 2) * 0x8000
    let s := s.forget h (h + 0x8000)
    let hs : MapEnt := { e with typ := 7, pool := 0, unit := 0, spare := 0, kind := 0 }
    let m := (hs :: l).take 1024
    (s.setBytes h (m.flatMap MapEnt.bytes), n + m.length)
  else (s.setBytes (base + (n / 1024 % 2) * 0x8000 + (n % 1024) * 32) e.bytes, n + 1)

/-- A field-map page is durable: in copy 1, and copy 2 is asked; or in copy 2, and the entry stands in both (R433). -/
def mapDurable (s : State) : State :=
  let r := s.ris
  let first := s.flashOn.any (fun o => o.rq.what == .fieldMap && o.rq.bank == 1)
  if first then
    match r.ents[r.copy1]? with
    | none => s.releaseLeave .fieldMap
    | some e =>
      let (s, n) := s.mapWrite false r.half1 (r.ents.take (r.copy1 + 1)) e
      let s := { s with ris := { s.ris with copy1 := r.copy1 + 1, half1 := n, ok1 := true } }
      ((s.releaseLeave .fieldMap).askFlash ⟨3, 1, 1, 2032, Blk.RIS, 4, .fieldMap⟩).1
  else
    match r.ents[r.copy2]? with
    | none => s.releaseLeave .fieldMap
    | some e =>
      let (s, n) := s.mapWrite true r.half2 (r.ents.take (r.copy2 + 1)) e
      let s := { s with ris := { s.ris with copy2 := r.copy2 + 1, half2 := n, ok2 := true, seq := e.seq } }
      ((s.releaseLeave .fieldMap).event Blk.RIS 0 5).mapKick

end State

/-! ### The commands -/

/-- FAULT_MESSAGE_TAKEN (R411, R420): the oldest message held is taken, `ms` milliseconds after the newest record's entry.
During an SKM soft reset messages are held (R435); before the flash step of a cold Start they go to the early buffer. -/
def execFaultMessageTaken (ms : Nat) (s : State) : Host.Outcome State Fault Refusal :=
  .next (match s.inbox with
    | [] => s
    | m :: t =>
      if (s.hdr Blk.SKM 0).srstBusy ∨ !(s.hdr Blk.SKM 0).en then s
      else
        let s := { s with inbox := t }
        if s.skm.earlyOn then
          if s.skm.early.length < 32 then { s with skm := { s.skm with early := s.skm.early ++ [m] } }
          else { s with skm := { s.skm with lost := satSucc 0xFFFF s.skm.lost, lostDue := true } }
        else s.takeMsg m ms)

/-- SKIMMER_PASS (R416). -/
def execSkimmerPass (s : State) : Host.Outcome State Fault Refusal := .next s.skmPass

/-- AUDIT_FLUSH_TIMER (R418): FLUSH ms after its first entry a part-filled page is programmed. -/
def execAuditFlushTimer (s : State) : Host.Outcome State Fault Refusal := .next s.auditFlush

/-- AUDIT_PAGE_DURABLE (R418): the page being programmed is durable. -/
def execAuditPageDurable (s : State) : Host.Outcome State Fault Refusal :=
  .next (if s.inHand .audit then s.auditDurable else s)

/-- AUDIT_SECTOR_ERASE (R419): the erase of the oldest sector ends. -/
def execAuditSectorErase (s : State) : Host.Outcome State Fault Refusal :=
  .next (if s.inHand .auditErase then s.auditErased else s)

/-- FAULT_CLEAR (R422): a write of SKM_CLR; with another key than 0x4643 a violation. -/
def execFaultClear (rq : Rq) (v : Word) (s : State) : Host.Outcome State Fault Refusal :=
  .next (s.asWrite rq Blk.SKM 0 R.SKM_CLR v (fun s => s.clrWrite v))

/-- FAULTN_DRIVE (R423): a write of SKM_PIN. -/
def execFaultnDrive (rq : Rq) (drive : Bool) (s : State) : Host.Outcome State Fault Refusal :=
  .next (s.asWrite rq Blk.SKM 0 R.SKM_PIN (w32 (b2n drive)) (fun s => some (s.setReg R.SKM_PIN (w32 (b2n drive)))))

/-- FAULTN_PULSE_EXPIRY (R423): the pulse timer expires; FAULTN follows DRIVE. -/
def execFaultnPulseExpiry (s : State) : Host.Outcome State Fault Refusal :=
  .next { s with skm := { s.skm with pulsing := false } }

/-- SPARE_IN (R429): the Riser's substitution in pool 0, 1 or 3; pairs are brought in by PAIR_TAKEOVER (R274). -/
def execSpareIn (pool : Fin 4) (s : State) : Host.Outcome State Fault Refusal :=
  .next (if pool = 2 ∨ s.clk.waiting then s else s.substitute pool)

/-- FIELD_MAP_WRITE (R433): the field-map write in hand is durable. -/
def execFieldMapWrite (s : State) : Host.Outcome State Fault Refusal :=
  .next (if s.inHand .fieldMap then s.mapDurable else s)

/-- FIRMWARE_FENCE (R14): a write of BLK_FENCE. -/
def execFirmwareFence (rq : Rq) (blk inst : Nat) (mask : Word) (s : State) : Host.Outcome State Fault Refusal :=
  .next (s.asWrite rq blk inst (blkBase blk inst + 0x28) mask (fun s => some (s.fenceWrite blk inst mask)))

end Sys2Proof.Machine
end

