-- ==== Sys2Proof/Machine/Flash.lean ====
section
/-! DEFINITION. The flash controller (12): the firmware command port, operations and how they end, suspension, heals and
copies. -/

namespace Sys2Proof.Machine

/-- Core address of logical sector `n` of bank `b` (0-3), or of the tag bank (4). -/
def sectorAddr (b n : Nat) : Nat := if b = 4 then 0x0C000000 + n * 0x400 else 0x08000000 + b * 0x800000 + n * 0x1000

/-- Bytes of a sector of bank `b`. -/
def sectorSize (b : Nat) : Nat := if b = 4 then 0x400 else 0x1000

/-- Firmware owns sector `n` of bank `b` (R323). -/
def fwSector (b n : Nat) : Bool := b == 0 || (b == 1 && decide (n < 2032)) || (b == 3 && decide (1920 ≤ n) && decide (n < 2032))

/-- The OTP words OTP_PROGRAM may program in a lifecycle state (R260). The place of the Subsystem IDs is PRESUMED, log
entry 31. -/
def otpOpen (l : Life) (o : Nat) : Bool :=
  match l with
  | .foundry => decide (o < 0x40) || (decide (0x80 ≤ o) && decide (o < 0xC0)) || (decide (0x800 ≤ o) && decide (o < 0x1000))
  | .vendor => o == 0x38
  | _ => false

namespace State

/-! ### The command port (R329) -/

/-- The operation a GO asks for, if the checks of R329 pass. -/
def fwReq (s : State) (op : Nat) : Option FReq :=
  let a := (s.reg R.FLC_ADDR).toNat
  let b := (a - 0x08000000) / 0x800000
  let n := (a - 0x08000000) % 0x800000 / 0x1000
  if op = 4 then
    if a % 8 ≠ 0 ∨ a < 0x0C800000 ∨ 0x0C802000 ≤ a ∨ !otpOpen s.life (a - 0x0C800000) then none
    else some ⟨5, 4, 7, 0, Blk.FLC, 4, .flash⟩
  else if op = 0 ∨ op > 4 ∨ a < 0x08000000 ∨ 0x0A000000 ≤ a ∨ a % (if op = 1 then 0x100 else 0x1000) ≠ 0 ∨
      !fwSector b n ∨ s.xoProt a then none
  else if op = 1 then some ⟨b, 4, 1, n, Blk.FLC, 4, .flash⟩
  else if op = 2 then some ⟨b, 4, 2, n, Blk.FLC, 12, .flash⟩
  else some ⟨b, 4, 4, n, Blk.FLC, 0, .flash⟩

/-- The page buffer. -/
def pbuf (s : State) (words : Nat) : List Byte :=
  (List.range words).flatMap (fun k => leBytes 4 (s.reg (R.FLC_PBUF + 4 * k)).toNat)

/-- FLC_STATUS.BUSY. -/
def flcBusy (s : State) : Bool := bit (s.reg R.FLC_STATUS) 31

/-- SUSP and RESM act on the port's own erase (R328). -/
def flcSuspend (s : State) (susp resm : Bool) : State :=
  let up := fun (o : FOp) =>
    if o.rq.what ≠ .flash ∨ o.rq.op ≠ 2 then o
    else if susp ∧ o.susp = 0 ∧ o.granted then { o with ask := true }
    else if resm ∧ o.susp = 1 then { o with ask := true }
    else o
  let s := { s with flashOn := s.flashOn.map up }
  match s.flashOn.find? (fun o => o.rq.what == .flash) with
  | some o => if resm then s.flashNext o.rq.bank (s.flashQ.length + 1) else s
  | none => s

/-- A write of FLC_CMD; none is a violation. In Lockdown a GO ends at once with RESULT MODE. -/
def flcCmdWrite (s : State) (v : Word) : Option State :=
  let op := bits v 3 0
  if !bit v 31 then some ((s.setReg R.FLC_CMD (w32 op)).flcSuspend (bit v 30) (bit v 29))
  else if s.flcBusy then none
  else if s.mode = .lockdown then some ((s.setReg R.FLC_CMD (w32 op)).flcEnd 7)
  else match s.fwReq op with
    | none => none
    | some r =>
      let s := ((s.setReg R.FLC_CMD (w32 op)).setReg R.FLC_STATUS 0x80000000).setReg R.FLC_RES 0
      let s := { s with flashQ := s.flashQ ++ [r], flcAddr := (s.reg R.FLC_ADDR).toNat, flcData := s.pbuf 64 }
      some ((s.flashNext r.bank (s.flashQ.length + 1)).flcSuspend (bit v 30) (bit v 29))

/-! ### How an operation ends -/

/-- Spare sectors of a bank: 64, or 4 for the tag bank. -/
def spareLeft (s : State) (b : Nat) : Nat := (if b = 4 then 4 else 64) - Tbl.get (fun _ => 0) s.flashUsed b

/-- A sector is flagged WEAK and FLASH_WEAR is recorded with core address `a` (R331, R333). -/
def weaken (s : State) (b n a : Nat) : State :=
  let s := if s.weak.contains (b, n) then s else { s with weak := s.weak ++ [(b, n)] }
  (s.event Blk.FLC 0 4).fault Blk.FLC 0 Kind.FLASH_WEAR a

/-- A sector's remap to the next spare is recorded (R331, R343): pool 4 + bank, 12 for the tag bank. -/
def remap (s : State) (b n : Nat) : State :=
  let u := Tbl.get (fun _ => 0) s.flashUsed b
  let s := { s with
    flashUsed := Tbl.set (fun _ => 0) s.flashUsed b (u + 1)
    weak := s.weak.filter (fun x => x != (b, n)) }
  s.mapAdd 3 (if b = 4 then 12 else 4 + b) n ((if b = 4 then 64 else 2048) + u) 0

/-- A sector is healed or erased: it leaves the torn list, and HEAL_DONE when the list is empty. -/
def untear (s : State) (b n : Nat) : State :=
  let was := s.torn.any (·.listed)
  let s := { s with torn := s.torn.filter (fun x => !(x.bank == b && x.sector == n)) }
  if was ∧ !s.torn.any (·.listed) then s.event Blk.FLC 0 6 else s

/-- A sector is torn (R333, R345). -/
def tear (s : State) (b n : Nat) : State :=
  if s.torn.any (fun x => x.bank == b && x.sector == n) then s
  else { s with torn := s.torn ++ [(⟨b, n, false, false⟩ : Torn)] }

/-- The erase of sector `n` of bank `b` ends after `pulses` pulses (R331, R333, R344). -/
def eraseEnd (s : State) (b n : Nat) (ok : Bool) (pulses : Nat) : State :=
  let weak := s.weak.contains (b, n)
  let spare := decide (0 < s.spareLeft b)
  let s := if weak ∧ spare then s.remap b n else s
  if ok then
    let a := sectorAddr b n
    let s := (s.forget a (a + sectorSize b)).untear b n
    if pulses > s.fld R.FLC_CFG 23 16 then s.weaken b n a else s
  else
    let s := s.weaken b n (sectorAddr b n)
    if weak ∧ !spare then
      let s := { s with
        lostSec := s.lostSec ++ [(b, n)]
        weak := s.weak.filter (fun x => x != (b, n)) }
      (s.untear b n).exhausted (if b = 4 then 12 else 4 + b) n
    else s.tear b n

/-- FLC_RES of a firmware command. -/
def flcRes (s : State) (pulses off : Nat) : State := s.setReg R.FLC_RES (w32 (pulses % 256 * 0x1000000 + off))

/-- A firmware command ends, its array operation having succeeded or failed its verify. -/
def fwOpEnd (s : State) (o : FReq) (ok : Bool) (pulses : Nat) : State :=
  let a := s.flcAddr
  let s := s.releaseLeave .flash
  if o.op = 1 then
    let s := s.flcRes pulses 0
    if ok then (s.setBytes a s.flcData).flcEnd 0 else ((s.scramble a 256).weaken o.bank o.sector a).flcEnd 2
  else if o.op = 2 then ((s.flcRes pulses 0).eraseEnd o.bank o.sector ok pulses).flcEnd (if ok then 0 else 2)
  else if o.op = 7 then
    if ok then (s.setBytes a (s.flcData.take 8)).flcEnd 0
    else (((s.scramble a 8).event Blk.FLC 0 4).fault Blk.FLC 0 Kind.FLASH_WEAR a).flcEnd 2
  else match (List.range 1024).find? (fun w => (s.bytes (a + 4 * w) 4).any (fun x => x != 0xFF)) with
    | none => (s.flcRes 0 0).flcEnd 0
    | some w => (s.flcRes 0 (4 * w)).flcEnd 1

/-- The operation bank `b` carries out now. -/
def opOf (s : State) (b : Nat) : Option FOp := s.flashOn.find? (fun o => o.rq.bank == b && o.susp == 0 && o.granted)

/-! ### Suspension (R328) -/

/-- An urgent program of bank `b` waits. -/
def urgent (s : State) (b : Nat) : Bool := s.flashQ.any (fun r => r.bank == b && decide (r.cls ≤ 2))

/-- The erase of `what` is suspended: its tokens are released and the bank may take programs. -/
def suspend (s : State) (b : Nat) (what : Purpose) (how : Nat) : State :=
  let up := fun (o : FOp) => if o.rq.what = what then { o with susp := how, granted := false, ask := false } else o
  let s := { s with
    flashOn := s.flashOn.map up
    leaveHeld := s.leaveHeld.filter (fun l => l.what != what) }
  let c := R.FLC_SUSPCNT + b * 0x10
  let s := (s.count c 31 16).count c 15 0
  let s := if s.fld c 15 0 = 1024 then s.event Blk.FLC 0 5 else s
  s.flashNext b (s.flashQ.length + 1)

/-! ### Heals (R338) -/

/-- Every listed sector is to be healed. -/
def healAll (s : State) : State :=
  let up := fun (x : Torn) => if x.listed then { x with healing := true } else x
  { s with torn := s.torn.map up }

/-- A write of FLC_CFG: RES_GAP 0 and ERASE_WARN outside 8-24 are violations; AUTOHEAL from 0 to 1 heals. -/
def flcCfgWrite (s : State) (v : Word) : Option State :=
  if bits v 31 24 = 0 ∨ bits v 23 16 < 8 ∨ bits v 23 16 > 24 then none
  else
    let up := !bit (s.reg R.FLC_CFG) 4 && bit v 4
    let s := s.setReg R.FLC_CFG (v &&& 0xFFFF0F10)
    some (if up then s.healAll else s)

/-! ### Power and clock loss (R336, R345) -/

/-- Operations in hand are cut: an erase leaves its sector torn, or, cut before its pulses, as it was; a program leaves a
mixture. Every request is dropped. -/
def flashCut (s : State) : State :=
  let cut := fun (s : State) (o : FOp) =>
    if o.rq.op = 2 ∧ (o.granted ∨ o.susp ≠ 0) then
      s.withFree (fun n s => if o.susp = 0 ∧ n % 2 = 0 then s else s.tear o.rq.bank o.rq.sector)
    else if o.granted ∧ o.rq.what = .flash ∧ o.rq.op = 1 then s.scramble s.flcAddr 256
    else if o.granted ∧ o.rq.op = 7 then s.scramble s.flcAddr 8
    else s
  let s := s.flashOn.foldl cut s
  { s with flashOn := [], flashQ := [] }

end State

/-- The word of FLC_CMD. -/
def flcWord (op : Nat) : Word := w32 (0x80000000 + op)

/-! ### The commands -/

/-- PROGRAM (R330): FLC_CMD is written with GO and OP 1. -/
def execProgram (rq : Rq) (s : State) : Host.Outcome State Fault Refusal :=
  .next (s.asWrite rq Blk.FLC 0 R.FLC_CMD (flcWord 1) (fun s => s.flcCmdWrite (flcWord 1)))

/-- ERASE (R331): FLC_CMD is written with GO and OP 2. -/
def execErase (rq : Rq) (s : State) : Host.Outcome State Fault Refusal :=
  .next (s.asWrite rq Blk.FLC 0 R.FLC_CMD (flcWord 2) (fun s => s.flcCmdWrite (flcWord 2)))

/-- BLANK_CHECK (R332): FLC_CMD is written with GO and OP 3. -/
def execBlankCheck (rq : Rq) (s : State) : Host.Outcome State Fault Refusal :=
  .next (s.asWrite rq Blk.FLC 0 R.FLC_CMD (flcWord 3) (fun s => s.flcCmdWrite (flcWord 3)))

/-- OTP_PROGRAM (R340): FLC_CMD is written with GO and OP 4. -/
def execOtpProgram (rq : Rq) (s : State) : Host.Outcome State Fault Refusal :=
  .next (s.asWrite rq Blk.FLC 0 R.FLC_CMD (flcWord 4) (fun s => s.flcCmdWrite (flcWord 4)))

/-- SUSP (R328): FLC_CMD is written with SUSP; OP is written too. -/
def execSusp (rq : Rq) (op : Fin 16) (s : State) : Host.Outcome State Fault Refusal :=
  .next (s.asWrite rq Blk.FLC 0 R.FLC_CMD (w32 (0x40000000 + op)) (fun s => s.flcCmdWrite (w32 (0x40000000 + op))))

/-- RESM (R328): FLC_CMD is written with RESM; OP is written too. -/
def execResm (rq : Rq) (op : Fin 16) (s : State) : Host.Outcome State Fault Refusal :=
  .next (s.asWrite rq Blk.FLC 0 R.FLC_CMD (w32 (0x20000000 + op)) (fun s => s.flcCmdWrite (w32 (0x20000000 + op))))

/-- ERASE_SUSPENDED (R328): the erase of bank `b` is suspended: `why` 0 asked by firmware, 1 a read waits and the bank's
AUTOSUSP is set, 2 an urgent program is due. -/
def execEraseSuspended (b : Fin 4) (why : Fin 3) (s : State) : Host.Outcome State Fault Refusal :=
  .next (match s.opOf b with
    | none => s
    | some o =>
      if o.rq.op ≠ 2 then s
      else if why = 0 then (if o.ask then s.suspend b o.rq.what 1 else s)
      else if why = 1 then (if bit (s.reg R.FLC_CFG) (8 + b) then s.suspend b o.rq.what 2 else s)
      else if s.urgent b then s.suspend b o.rq.what 2 else s)

/-- ERASE_AUTO_RESUME (R328): no read of bank `b` for RES_GAP × 10 µs and no urgent program left. -/
def execEraseAutoResume (b : Fin 4) (s : State) : Host.Outcome State Fault Refusal :=
  .next (match s.flashOn.find? (fun o => o.rq.bank == b.val && o.susp == 2) with
    | none => s
    | some o => if s.bankFree b && !s.urgent b then s.flashResume o.rq.what else s)

/-- TORN_HEAL (R338): the sectors to be healed ask for their erase, in class 5. -/
def execTornHeal (s : State) : Host.Outcome State Fault Refusal :=
  .next ((s.torn.filter (fun x => x.listed && x.healing)).foldl (fun s x =>
    if s.hasLeave (.heal x.bank x.sector) then s
    else (s.askFlash ⟨x.bank, 5, 2, x.sector, Blk.FLC, if x.bank = 4 then 0 else 12, .heal x.bank x.sector⟩).1) s)

/-- SECTOR_COPY (R343, R430): sector `n` of bank `b` is condemned, its pages copied to a spare and the map updated. Without
a spare, or for a torn or lost sector, nothing is copied. -/
def execSectorCopy (b : Fin 4) (n : Fin 2048) (s : State) : Host.Outcome State Fault Refusal :=
  .next (
    if s.spareLeft b = 0 ∨ s.isTorn b n ∨ s.lostSec.contains (b.val, n.val) ∨ s.clk.waiting then s
    else ((s.event Blk.RIS 0 4).fault Blk.RIS 0 Kind.WEAR_TREND (sectorAddr b n)).remap b n)

end Sys2Proof.Machine
end

