-- ==== Sys2Proof/Machine/TagOps.lean ====
section
/-! DEFINITION. The tag store (13): records and their copies, credentials, commits and who makes them, APDUs and their
answers. -/

namespace Sys2Proof.Machine

/-! ### Fixed frames (R347) -/

/-- ATS. -/
def tagAts : List Byte := [0x0A, 0x78, 0x33, 0x70, 0x02, 0x45, 0x53, 0x4E, 0x84, 0x40]
/-- AID of the service application. -/
def aidService : List Byte := [0xF0, 0x45, 0x53, 0x4E, 0x54, 0x41, 0x47]
/-- AID of the recovery application. -/
def aidRecovery : List Byte := [0xF0, 0x45, 0x53, 0x4E, 0x52, 0x45, 0x43]
/-- S(WTX) with WTXM 1. -/
def tagWtx : List Byte := [0xF2, 0x01]

namespace State

/-- The serial number, 8 bytes of the OTP IDENTITY row. -/
def serial (s : State) : List Byte := s.bytes 0x0C800000 8

/-- The UID (R347). -/
def uid (s : State) : List Byte := Config.uid0 :: s.serial.take 6

/-- Main power is absent: the tag runs on field power. -/
def fieldPower (s : State) : Bool := s.mode == .field || s.mode == .backup

/-! ### Records (R359, R361) -/

/-- Core address of the current copy of record `r`. -/
def curAddr (s : State) (r : Nat) : Nat :=
  0x0C000000 + (if s.tag.map / 2 ^ r % 2 = 1 then 0x4000 else 0) + r * 0x400

/-- The current content of record `r`. -/
def record (s : State) (r : Nat) : List Byte := s.bytes (s.curAddr r) 1024

/-- Store bytes from offset `o`. -/
def storeBytes (s : State) (o n : Nat) : List Byte :=
  (List.range n).map (fun i => s.byte (s.curAddr ((o + i) / 1024) + (o + i) % 1024))

/-- Field of the credential record: `n` bytes at `o`, little-endian. -/
def cred (s : State) (o n : Nat) : Nat := fromLe (s.bytes (s.curAddr 15 + o) n)

/-- The credential record is blank. -/
def credBlank (s : State) : Bool := s.cred 0 1 == 0xFF

/-- K_TAG, if one is loaded. -/
def kTag (s : State) : Option (List Byte) :=
  let k := s.bytes (s.curAddr 15 + 12) 16
  if s.credBlank ∨ k = List.replicate 16 0xFF then none else some k

/-- Length of the ticket held, 0 when none. -/
def ticketLen (s : State) : Nat :=
  let n := fromLe (s.bytes (s.curAddr 14) 2)
  if 1 ≤ n ∧ n ≤ 1022 then n else 0

end State

/-- `l` with `d` written at offset `o`. -/
def overlay (l d : List Byte) (o : Nat) : List Byte := l.take o ++ d ++ l.drop (o + d.length)

namespace State

/-- The records a write of `d` at store offset `o` changes, with their new contents. -/
def writeRecs (s : State) (o : Nat) (d : List Byte) : List (Nat × List Byte) :=
  ((List.range 16).map (fun r =>
    let c := s.record r
    let lo := max o (r * 1024)
    let hi := min (o + d.length) (r * 1024 + 1024)
    (r, if hi ≤ lo then c else overlay c ((d.drop (lo - o)).take (hi - lo)) (lo - r * 1024)))).filter
    (fun x => x.2 != s.record x.1)

/-- The credential record with bytes `d` at offset `o`; a blank record is first given its format, with no flag set and a
TRY_MAX the spec does not state (free, 1 to 15). -/
def credWith (s : State) (n o : Nat) (d : List Byte) : List Byte :=
  let c := s.record 15
  let c := if s.credBlank then overlay c [1, 0, 0, BitVec.ofNat 8 (1 + n % 15)] 0 else c
  overlay c d o

/-! ### Markers (R361, R364) -/

/-- Core address of marker page `p` (0-31). -/
def markAddr (p : Nat) : Nat := 0x0C008000 + p * 64

/-- Marker page `p` is blank. -/
def markBlank (s : State) (p : Nat) : Bool := (s.bytes (markAddr p) 64).all (fun b => b == 0xFF)

/-- The marker sector in use: 0 (sector 32) or 1. -/
def markSector (s : State) : Nat := (s.tag.page.getD 0) / 16

/-- Blank pages of the marker sector in use. -/
def markLeft (s : State) : List Nat :=
  ((List.range 16).map (fun i => s.markSector * 16 + i)).filter (fun p =>
    s.markBlank p && decide ((s.tag.page.map (· + 1)).getD 0 ≤ p))

/-- The page the next marker takes; a full sector gives way to the other, erased first if it must be. -/
def markNext (s : State) : State × Nat :=
  match s.markLeft with
  | p :: _ => (s, p)
  | [] =>
    let o := 1 - s.markSector
    let a := markAddr (o * 16)
    let s := if (List.range 16).all (fun i => s.markBlank (o * 16 + i)) then s else (s.forget a (a + 0x400)).untear 4 (32 + o)
    (s, o * 16)

end State

/-- The instruction bytes of the Tag commands table (R353). -/
def tagIns (n : Nat) : Bool := n ∈ [0xA4, 0x10, 0x12, 0x14, 0xB0, 0xD6, 0xE0, 0x20, 0xA0, 0xA2, 0x16]

/-- The 64 bytes of a marker. -/
def markBytes (seq map : Nat) : List Byte :=
  let l := [0x54, 0x4D] ++ leBytes 4 seq ++ leBytes 2 map ++ List.replicate 52 0xFF
  l ++ leBytes 4 (crc32 l)

namespace State

/-- Writes the shadow copies and the marker: the new content is current (R362 steps 3 to 5). A WEAK shadow is remapped to a
spare while one is left. -/
def commitWrite (s : State) (recs : List (Nat × List Byte)) : State :=
  let put := fun (s : State) (x : Nat × List Byte) =>
    let a := s.shadowAddr x.1
    let n := (a - 0x0C000000) / 0x400
    let s := if s.weak.contains (4, n) ∧ 0 < s.spareLeft 4 then s.remap 4 n else s
    (s.setBytes a x.2).untear 4 n
  let s := recs.foldl put s
  let map := recs.foldl (fun m x => if m / 2 ^ x.1 % 2 = 1 then m - 2 ^ x.1 else m + 2 ^ x.1) s.tag.map
  let (s, p) := s.markNext
  let s := s.setBytes (markAddr p) (markBytes (s.tag.seq + 1) map)
  { s with tag := { s.tag with seq := s.tag.seq + 1, map := map, page := some p } }

/-! ### Answers (R354, R357) -/

end State

/-- ISO/IEC 7816-4 padding: 0x80, then zeros. -/
def padIso (l : List Byte) : List Byte := pad16 (l ++ [0x80])

/-- The data under its padding. -/
def unpadIso (l : List Byte) : List Byte := ((l.reverse.dropWhile (fun b => b == 0)).drop 1).reverse

namespace State

/-- IV of the command counter. -/
def smIv (s : State) : List Byte := aesEnc s.tag.ksEnc (beBytes 16 s.tag.cc)

/-- MAC of a protected message. -/
def smMac (s : State) (m : List Byte) : List Byte := (cmac s.tag.ksMac (beBytes 4 s.tag.cc ++ m)).take 8

/-- The answer to the reader: protected in an authenticated session. No answer reaches a field that is gone. -/
def answer (s : State) (sw : Nat) (data : List Byte) : State :=
  let w := beBytes 2 sw
  if !s.tag.field ∨ s.clk.waiting then s
  else if s.tag.access = 3 then
    let ct := if data.isEmpty then [] else (cbcEnc s.tag.ksEnc s.smIv (padIso data)).1
    let t := ct ++ s.smMac (w ++ ct) ++ w
    { s with tag := { s.tag with tx := t, cc := (s.tag.cc + 1) % 2 ^ 32 } }
  else { s with tag := { s.tag with tx := data ++ w } }

/-- Sends a frame of the lower layers; while Esnan waits for a clock the modulator is silent (R443). -/
def sendFrame (s : State) (f : List Byte) : State := if s.clk.waiting then s else { s with tag := { s.tag with tx := f } }

/-! ### Commits (R362) -/

/-- A TAG event, on main power. -/
def tagEvent (s : State) (n : Nat) : State := if s.fieldPower then s else s.event Blk.TAG 0 n

/-- The credential command ends. -/
def credEnd (s : State) (result : Nat) : State :=
  (s.setReg R.TAG_CRED_STAT (w32 (0x40000000 + result * 0x1000000))).event Blk.TAG 0 7

/-- A host write ends: its lock flags act, and it completes (R367). -/
def hostWriteEnd (s : State) (j : Job) : State :=
  let f := j.u 36 1
  let b := 2 ^ j.dom
  let l := s.tag.lock
  let l := if f % 2 = 1 then (if l / b % 2 = 1 then l else l + b)
    else if f / 2 % 2 = 1 then (if l / b % 2 = 1 then l - b else l) else l
  let s := { s with tag := { s.tag with lock := l } }
  s.succeed j (w32 j.inTotal) (w32 s.tag.seq)

/-- What follows a commit that changed what it had to: an answer, a second commit (`some`), or a completion. -/
def afterCommit (s : State) (w : TagWho) : State × Option (TagWho × List (Nat × List Byte)) :=
  match w with
  | .update => (s.answer 0x9000 [], none)
  | .ticket => ((s.answer 0x9000 []).tagEvent 5, none)
  | .pwTry ok =>
    if ok then (s, some (.pwOk, [(15, overlay (s.record 15) [0] 2)]))
    else ((((s.count R.TAG_AFAIL 31 16).tagEvent 6).answer 0x6300 []), none)
  | .pwOk => (({ s with tag := { s.tag with access := 2 } }).answer 0x9000 [], none)
  | .auth1 => (s.answer 0x9000 (s.tag.rndB.getD []), none)
  | .host id =>
    let s := { s with tag := { s.tag with hostOn := none } }
    (match s.job id with
      | some j => if j.stage = JStage.wait .tag then s.hostWriteEnd j else s
      | none => s, none)
  | .cred op =>
    let s := if op = 3 then { s with tag := { s.tag with ctr := some 0 } }
      else if op = 5 then { s with tag := { s.tag with ctr := none } } else s
    (s.credEnd 0, none)
  | .gone ticket => (if ticket then s.tagEvent 5 else s, none)
  | .decom => (s, none)

/-- Starts a commit; one that changes no byte is done at once. On field power it waits for the energy reserve. -/
def startCommit (s : State) (w : TagWho) (recs : List (Nat × List Byte)) : State :=
  if recs.isEmpty then (s.afterCommit w).1
  else
    let waits := s.fieldPower && !s.tag.cfld
    let s := { s with tag := { s.tag with
      commit := some ⟨w, recs, waits⟩, hostOn := match w with
        | .host id => some id
        | _ => s.tag.hostOn } }
    if waits then s.sendFrame tagWtx else s

/-! ### APDUs -/

/-- READ TAMPER 0: flags, pending alarms, RTC and status of the backup domain (R408). -/
def tamperSummary (s : State) (t : Nat) : List Byte :=
  leBytes 2 s.flags ++ leBytes 2 s.flk.pend ++ leBytes 6 t ++
    [BitVec.ofNat 8 (b2n s.rtcValid + 2 * b2n s.flk.kbb.isSome + 4 * b2n s.flk.pendLock + 8 * b2n s.fieldPower), 0]

/-- Core address of mirror entry `k`, counted since the mirror began (R406, R407). -/
def mirAddr (k : Nat) : Nat := 0x0C009400 + (k % 1728) * 16

/-- The mirror entries readable, newest first: the sector in use and the 26 before it. -/
def mirList (s : State) : List Nat :=
  let n := s.flk.mpos
  let lo := ((n + 63) / 64 - 27) * 64
  ((List.range (n - lo)).map (fun i => n - 1 - i))

/-- Bytes of the identity GET IDENTITY returns (R353). -/
def identityNow (s : State) : List Byte :=
  [0x84, 0x40, BitVec.ofNat 8 s.variant.code, BitVec.ofNat 8 (match s.life with
    | .foundry => 0 | .vendor => 1 | .shipped => 2 | .commissioned => 3 | .decommissioned => 4)] ++ s.serial ++
    (List.range 4).map Config.fwVersion

/-- Lifecycle code (HS_MODE.LIFECYCLE). -/
def lifeCode (s : State) : Nat :=
  match s.life with
  | .foundry => 0 | .vendor => 1 | .shipped => 2 | .commissioned => 3 | .decommissioned => 4

/-- Mode code (HS_MODE.MODE; Field 4, as GET STATUS and the mirror give it). -/
def modeCode (s : State) : Nat :=
  match s.mode with
  | .start => 0 | .service => 1 | .hold => 2 | .lockdown => 3 | .field => 4 | .backup => 5

/-- GET STATUS (R353). -/
def statusBytes (s : State) : List Byte :=
  let fp := s.fieldPower
  [BitVec.ofNat 8 s.modeCode, BitVec.ofNat 8 s.lifeCode, BitVec.ofNat 8 (if fp then 0 else s.sys.reason),
    BitVec.ofNat 8 (b2n (s.kst.unsealed && !fp) + 2 * b2n s.flk.kbb.isSome + 4 * b2n (s.tag.lock != 0 && !fp) +
      8 * b2n (s.ticketLen != 0))] ++ leBytes 4 s.tag.seq

/-- The first status word of R354 that applies to a command whose security layer has been passed; 0 when it may run. -/
def apduBar (s : State) (a : Apdu) : Nat :=
  let acc := s.tag.access
  let n := a.data.length
  let le := if a.le = 0 then 256 else a.le
  let flag := fun (i : Nat) => s.cred 1 1 / 2 ^ i % 2 == 1 && !s.credBlank
  let offered := if appOf s.mode = 1 then aidService else aidRecovery
  if a.ins = 0xA4 then (if a.data ≠ offered then 0x6A82 else 0)
  else if a.ins = 0x16 ∧ (s.tag.app ≠ 2 ∨ s.fieldPower) then 0x6986
  else if acc = 0 ∨ ((a.ins = 0xD6 ∨ a.ins = 0x16) ∧ acc < 2) ∨ (a.ins = 0xA2 ∧ s.tag.rndB.isNone) then 0x6982
  else if a.ins = 0x20 ∧ (!flag 0 || decide (s.cred 3 1 ≤ s.cred 2 1)) then 0x6983
  else if (a.ins = 0xA0 ∨ a.ins = 0xA2) ∧ (s.life ≠ .commissioned ∨ !flag 1 ∨ s.kTag.isNone) then 0x6983
  else if a.ins = 0xE0 ∧ !flag 3 then 0x6983
  else if (a.ins = 0xD6 ∨ a.ins = 0xE0) ∧ s.tag.lock ≠ 0 then 0x6985
  else if s.tag.chain.isSome ∧ a.ins ≠ 0xE0 then 0x6883
  else if (a.ins = 0x10 ∧ a.le ≠ 0x10) ∨ (a.ins = 0x12 ∧ a.le ≠ 8) ∨ (a.ins = 0x16 ∧ a.le ≠ 10) ∨
      (a.ins = 0x20 ∧ n ≠ 8) ∨ (a.ins = 0xA0 ∧ a.le ≠ 0x10) ∨ (a.ins = 0xA2 ∧ n ≠ 32) ∨
      (a.ins = 0x14 ∧ (if a.p = 0 then a.le ≠ 12 else a.le % 16 ≠ 0 ∨ a.le < 16 ∨ 240 < a.le)) ∨
      (a.ins = 0xD6 ∧ (n = 0 ∨ 255 < n ∨ a.p / 1024 ≠ (a.p + n - 1) / 1024)) ∨
      (a.ins = 0xE0 ∧ (let t := (s.tag.chain.getD []).length + n
        1022 < t ∨ (a.cla / 16 % 2 = 0 ∧ t = 0))) then 0x6700
  else if (a.ins = 0xB0 ∧ 15360 < a.p + le) ∨ (a.ins = 0xD6 ∧ 14336 < a.p + n) ∨
      (a.ins = 0x14 ∧ a.p ≠ 0 ∧ s.mirList.length < a.p) ∨ (a.ins = 0x16 ∧ s.skm.ring.length ≤ a.p) then 0x6A86
  else 0

/-- AUTH1 (R356): the next challenge; at AUTH_RES − 512 its reservation is committed first. -/
def auth1 (s : State) (k : List Byte) : State :=
  let r := s.cred 28 8
  let c := s.tag.ctr.getD r
  let s := { s with tag := { s.tag with ctr := some (c + 1), rndB := some (aesEnc k (beBytes 16 c)) } }
  if c + 512 ≥ r then s.startCommit .auth1 [(15, overlay (s.record 15) (leBytes 8 (r + 1024)) 28)]
  else s.answer 0x9000 (s.tag.rndB.getD [])

/-- AUTH2 (R356): the reader's proof; on a match the tag's own, and an authenticated session. -/
def auth2 (s : State) (k b d : List Byte) : State :=
  let ra := d.take 16
  let s1 := { s with tag := { s.tag with rndB := none } }
  if d.drop 16 ≠ cmac k ([0x52] ++ s.uid ++ b ++ ra) then
    ((s1.count R.TAG_AFAIL 15 0).tagEvent 6).answer 0x6300 []
  else
    let s2 := s1.answer 0x9000 (cmac k ([0x54] ++ s.uid ++ ra ++ b))
    { s2 with tag := { s2.tag with
      access := 3, cc := 0, ksEnc := kdf k "ESN-TAG-ENC" (ra ++ b) 16, ksMac := kdf k "ESN-TAG-MAC" (ra ++ b) 16 } }

/-- A command that nothing bars. -/
def apduDo (s : State) (a : Apdu) : State :=
  let le := if a.le = 0 then 256 else a.le
  if a.ins = 0xA4 then
    let s := (s.answer 0x9000 []).tagUnkey
    { s with tag := { s.tag with app := appOf s.mode, access := 1, chain := none } }.count R.TAG_CNT 31 16
  else if a.ins = 0x10 then s.answer 0x9000 (if s.fieldPower then s.bytes 0x0C009000 16 else s.identityNow)
  else if a.ins = 0x12 then s.answer 0x9000 s.statusBytes
  else if a.ins = 0x14 then
    if a.p = 0 then s.rtcNow (fun t s => s.answer 0x9000 (s.tamperSummary t))
    else s.answer 0x9000 (((s.mirList.drop (a.p - 1)).take (a.le / 16)).flatMap (fun k => s.bytes (mirAddr k) 16))
  else if a.ins = 0xB0 then s.answer 0x9000 (s.storeBytes a.p le)
  else if a.ins = 0xD6 then s.startCommit .update (s.writeRecs a.p a.data)
  else if a.ins = 0xE0 then
    let t := s.tag.chain.getD [] ++ a.data
    if a.cla / 16 % 2 = 1 then ({ s with tag := { s.tag with chain := some t } }).answer 0x9000 []
    else
      let s := { s with tag := { s.tag with chain := none } }
      s.startCommit .ticket (s.writeRecs 14336 (leBytes 2 t.length ++ t))
  else if a.ins = 0x20 then
    let ok := a.data == s.bytes (s.curAddr 15 + 4) 8
    s.startCommit (.pwTry ok) [(15, overlay (s.record 15) [BitVec.ofNat 8 (s.cred 2 1 + 1)] 2)]
  else if a.ins = 0xA0 then
    match s.kTag with
    | some k => s.auth1 k
    | none => s
  else if a.ins = 0xA2 then
    match s.kTag, s.tag.rndB with
    | some k, some b => s.auth2 k b a.data
    | _, _ => s
  else match s.skm.ring[a.p]? with
    | some r => s.answer 0x9000 (leBytes 4 r.msg.lo.toNat ++ leBytes 4 r.msg.hi.toNat ++ leBytes 2 r.seq)
    | none => s

/-- The class byte is one the command takes (R353). -/
def claOk (s : State) (a : Apdu) : Bool :=
  let base := if a.ins = 0xA4 ∨ a.ins = 0xB0 ∨ a.ins = 0xD6 then 0 else 0x80
  let c := a.cla - base
  decide (base ≤ a.cla) && (c == 0 || (c == 4 && s.tag.access == 3) ||
    (a.ins == 0xE0 && (c == 0x10 || (c == 0x14 && s.tag.access == 3))))

/-- The security layer of an authenticated session (R357): none when the MAC is wrong or the command is plain. -/
def unwrapApdu (s : State) (a : Apdu) : Option Apdu :=
  if s.tag.access ≠ 3 then some a
  else if a.cla / 4 % 2 = 0 ∨ a.data.length < 8 then none
  else
    let ct := a.data.take (a.data.length - 8)
    let head := [BitVec.ofNat 8 a.cla, BitVec.ofNat 8 a.ins] ++ beBytes 2 a.p
    if a.data.drop (a.data.length - 8) ≠ s.smMac (head ++ ct) ∨ ct.length % 16 ≠ 0 then none
    else some { a with data := if ct.isEmpty then [] else unpadIso (cbcDec s.tag.ksEnc s.smIv ct).1 }

/-- An APDU is answered or starts its commit. -/
def apduRun (s : State) (a : Apdu) : State :=
  let broken := { s with tag := { s.tag with chain := none } }
  if !tagIns a.ins then
    broken.sendFrame (if a.cla % 0x80 = 0 ∨ (a.cla % 0x80 = 4 ∧ s.tag.access = 3) then [0x6D, 0x00] else [0x6E, 0x00])
  else if !s.claOk a then broken.sendFrame [0x6E, 0x00]
  else if a.ins = 0xA4 ∧ a.cla / 4 % 2 = 0 ∧ s.apduBar a = 0x6A82 then s.answer 0x6A82 []
  else if a.ins = 0x16 ∧ s.apduBar a = 0x6986 then s.answer 0x6986 []
  else match s.unwrapApdu a with
    | none => (s.tagUnkey).sendFrame [0x69, 0x88]
    | some b =>
      let w := s.apduBar b
      if w = 0 then s.apduDo b
      else
        let s := if w = 0x6883 ∨ (b.ins = 0xE0 ∧ w = 0x6700) then { s with tag := { s.tag with chain := none } } else s
        s.answer w []

/-! ### Host jobs and credential commands take their turns (R368) -/

/-- A host job begins: a read is answered at once, a write starts its commit or only changes the lock. -/
def tagHost (s : State) (j : Job) : State :=
  if j.op = 0x60 then s.deliver j (s.storeBytes (j.u 32 4) j.outTotal) (w32 s.tag.seq)
  else
    let recs := s.writeRecs (j.u 32 4) j.input
    if recs.isEmpty then s.hostWriteEnd j
    else (s.modJob j.id (fun j => { j with stage := .wait .tag })).startCommit (.host j.id) recs

/-- A credential command begins: refused with a RESULT, or its commit starts (TAG_CRED_CMD). -/
def tagCred (s : State) (c : Word) : State :=
  s.withFree (fun n s =>
    let op := bits c 27 24
    let go := fun (o : Nat) (d : List Byte) (s : State) =>
      let r := s.credWith n o d
      s.startCommit (.cred op) (if r = s.record 15 then [] else [(15, r)])
    if op = 1 then
      let d := beBytes 4 s.tag.pw0.toNat ++ beBytes 4 s.tag.pw1.toNat
      if d.any (fun b => decide (9 < b.toNat % 16) || decide (9 < b.toNat / 16)) then s.credEnd 2 else go 4 d s
    else if op = 2 then
      if bits c 15 12 = 0 then s.credEnd 1
      else go 1 [BitVec.ofNat 8 (bits c 19 16), BitVec.ofNat 8 (s.cred 2 1 % 256 * b2n (!s.credBlank)), BitVec.ofNat 8 (bits c 15 12)] s
    else if op = 3 then
      let k := s.slot (bits c 11 0)
      if s.life ≠ .commissioned ∨ k.st ≠ .loaded ∨ k.typ ≠ 1 ∨ s.slotOwner (bits c 11 0) ≠ 4 ∨ !bit k.policy 18 then
        s.credEnd 1
      else go 12 (k.mat.take 16 ++ leBytes 8 1024) s
    else if op = 4 then go 2 [0] s
    else if op = 5 then
      let r := List.replicate 1024 0xFF
      s.startCommit (.cred op) (if r = s.record 15 then [] else [(15, r)])
    else if op = 6 then
      let r := List.replicate 1024 0xFF
      s.startCommit (.cred op) (if r = s.record 14 then [] else [(14, r)])
    else s.credEnd 1)

/-- The store is free: the field goes first, then host jobs in order, then a credential command. -/
def tagNext (s : State) : Nat → State
  | 0 => s
  | fuel + 1 =>
    if s.tag.commit.isSome then s
    else match s.tag.held, s.tag.hostQ, s.tag.credOp with
      | some a, _, _ => (({ s with tag := { s.tag with held := none } }).apduRun a).tagNext fuel
      | none, id :: t, _ =>
        let s := { s with tag := { s.tag with hostQ := t } }
        match s.job id with
        | some j => (if j.stage = JStage.wait .tag then s.tagHost j else s).tagNext fuel
        | none => s.tagNext fuel
      | none, [], some op => (({ s with tag := { s.tag with credOp := none } }).tagCred op).tagNext fuel
      | none, [], none => s

/-- Lets whoever waits for the store have it. -/
def tagServe (s : State) : State := s.tagNext (s.tag.hostQ.length + 3)

/-- A commit ends: `bad` none when every shadow verified, else the record whose shadow did not (R362, R370). -/
def commitEnd (s : State) (c : TCommit) (bad : Option Nat) : State :=
  let s := { s with tag := { s.tag with commit := none, cfld := if s.fieldPower then false else s.tag.cfld } }
  let s := match bad with
    | none =>
      let s := s.commitWrite c.recs
      let s := if c.who.reader then (s.tagEvent 4).count R.TAG_CNT 15 0 else s
      if s.tag.toIdle then (if c.who == TagWho.ticket || c.who == TagWho.gone true then s.tagEvent 5 else s).tagIdle
      else match s.afterCommit c.who with
        | (s, some (w, r)) => s.startCommit w r
        | (s, none) => s
    | some i =>
      let r := match c.recs[i % c.recs.length]? with | some x => x.1 | none => 0
      let a := s.shadowAddr r
      let n := (a - 0x0C000000) / 0x400
      let s := (s.scramble a 0x400).weaken 4 n a
      match c.who with
      | .host id =>
        let s := { s with tag := { s.tag with hostOn := none } }
        match s.job id with
        | some j => if j.stage = JStage.wait .tag then s.failJob j St.ENGINE_UNAVAILABLE 6 0 0x01A9 n else s
        | none => s
      | .cred _ => s.credEnd 3
      | .decom | .gone _ => s
      | _ => if s.tag.toIdle then s.tagIdle else s.answer 0x6581 []
  s.tagServe

end State
end Sys2Proof.Machine
end

