-- ==== Sys2Proof/Machine/Tag.lean ====
section
/-! DEFINITION. The tag's commands (13): the field, the frames of ISO/IEC 14443, APDUs, commits, host jobs and
credential commands. -/

namespace Sys2Proof.Machine

namespace State

/-! ### The field (R349, R363) -/

/-- What a commit becomes when the reader's field falls: one still waiting for its reserve is dropped, one begun runs to
its end without an answer. -/
def fieldCommit (s : State) : Option TCommit :=
  match s.tag.commit with
  | none => none
  | some c =>
    if !c.who.reader then some c
    else if c.waits then none
    else some { c with who := .gone (c.who == .ticket || c.who == .gone true) }

/-- Everything volatile of the tag is lost (Tag protocol states). -/
def tagOff (s : State) : State :=
  let s := s.tagIdle
  { s with tag := { s.tag with
    field := false, proto := 0, held := none, ctr := none, tx := [], cfld := false, commit := s.fieldCommit } }

/-! ### Frames (R347) -/

/-- A frame that READY or ACTIVE does not expect: back to IDLE, or to HALT if entered from HALT, without an answer. -/
def tagDrop (s : State) : State :=
  if s.tag.proto = 3 ∨ (s.tag.proto = 4 ∧ !s.tag.l4) then
    { s with tag := { s.tag with
      proto := if s.tag.fromHalt then 5 else 2, level := 0, fromHalt := false } }
  else s

/-- ATQA is sent and the tag is READY. -/
def tagReady (s : State) : State :=
  let h := s.tag.proto == 5
  ({ s with tag := { s.tag with proto := 3, fromHalt := h, level := 0 } }).sendFrame [0x44, 0x00]

end State

/-- BCC: the exclusive or of four bytes. -/
def bcc (l : List Byte) : Byte := l.foldl (· ^^^ ·) 0

namespace State

/-- The 40 bits of a cascade level (R347): four bytes and their BCC. -/
def cascade (s : State) (cl2 : Bool) : List Byte :=
  let l := if cl2 then s.uid.drop 3 else 0x88 :: s.uid.take 3
  l ++ [bcc l]

/-- A frame of layer 4 may be taken: no reader command is being carried out. -/
def tagL4 (s : State) : Bool :=
  s.tag.proto == 4 && s.tag.l4 && s.tag.held.isNone && !((s.tag.commit.map (fun c => c.who.reader)).getD false)

/-- An APDU arrives. While a host job or a credential command has the store it waits under S(WTX) (R368). -/
def apduIn (s : State) (a : Apdu) : State :=
  if s.tagL4 then
    let s := { s with tag := { s.tag with pps := false } }
    if s.tag.commit.isSome then ({ s with tag := { s.tag with held := some a } }).sendFrame tagWtx
    else s.apduRun a
  else s.tagDrop

/-! ### Host jobs and credential commands -/

/-- A host job reaches execution (R368): it begins, or waits for the store. -/
def tagJob (s : State) (id op : Nat) : State :=
  match s.job id with
  | none => s
  | some j =>
    if j.op ≠ op ∨ j.stage ≠ .ready then s
    else match s.tag.commit with
      | none => s.tagHost j
      | some c =>
        let late := c.who.reader || s.tag.held.isSome
        let s := s.modJob id (fun j => { j with stage := .wait .tag, aux := b2n late })
        let s := { s with tag := { s.tag with hostQ := s.tag.hostQ ++ [id] } }
        if late then s.count R.TAG_HCNT 15 0 else s

/-- A write of TAG_CRED_CMD: a GO while a command runs is refused. -/
def credWrite (s : State) (v : Word) : Option State :=
  if !bit v 31 then some (s.setReg R.TAG_CRED_CMD (v &&& 0x0F0FFFFF))
  else if bit (s.reg R.TAG_CRED_STAT) 31 then none
  else
    let s := (s.setReg R.TAG_CRED_CMD (v &&& 0x0F0FFFFF)).setReg R.TAG_CRED_STAT 0x80000000
    some ({ s with tag := { s.tag with credOp := some (v &&& 0x0F0FFFFF) } }).tagServe

/-- A write of TAG_CRED_PW0 or PW1. -/
def pwWrite (s : State) (second : Bool) (v : Word) : Option State :=
  if bit (s.reg R.TAG_CRED_STAT) 31 then none
  else some { s with tag := if second then { s.tag with pw1 := v } else { s.tag with pw0 := v } }

/-- A GO of TAG_CRED_CMD with operation `op`. -/
def credGo (s : State) (rq : Rq) (op : Nat) (v : Word) : State :=
  let w := putBit (putField v 27 24 op) 31 true
  s.asWrite rq Blk.TAG 0 R.TAG_CRED_CMD w (fun s => s.credWrite w)

/-- A soft reset of TAG (R372). -/
def tagSoftReset (s : State) : State :=
  let l := s.tag.hostQ
  let s := { s with tag := { s.tag with hostQ := [], held := none } }
  let s := l.foldl (fun s id => match s.job id with
    | some j => if j.stage = JStage.wait .tag then s.failJob j St.ENGINE_UNAVAILABLE 6 0 0x01AA 0 else s
    | none => s) s
  let s := if s.tag.credOp.isSome then ({ s with tag := { s.tag with credOp := none } }).credEnd 4 else s
  if !s.tag.field then s
  else if (s.tag.commit.map (fun c => c.who.reader)).getD false then { s with tag := { s.tag with toIdle := true } }
  else if 3 ≤ s.tag.proto then s.tagIdle
  else s

end State

/-- FIELD_ON (R349): FLDDET asserts and the guard begins; with main power absent Esnan is in Field. -/
def execFieldOn (s : State) : Host.Outcome State Fault Refusal :=
  .next (if s.tag.field then s
    else
      let s := { s with
        mode := if s.mode = Mode.backup then .field else s.mode
        tag := { s.tag with field := true, proto := 1 } }
      s.tagEvent 2)

/-- FIELD_LOST (R349): FLDDET releases and everything volatile is lost. -/
def execFieldLost (s : State) : Host.Outcome State Fault Refusal :=
  .next (if !s.tag.field then s
    else
      let s := s.tagOff.tagEvent 3
      ({ s with mode := if s.mode = Mode.field then .backup else s.mode }).tagServe)

/-- GUARD_END (R350). -/
def execGuardEnd (s : State) : Host.Outcome State Fault Refusal :=
  .next (if s.tag.proto = 1 then { s with tag := { s.tag with proto := 2 } } else s)

/-- REQA. -/
def execReqa (s : State) : Host.Outcome State Fault Refusal :=
  .next (if s.tag.proto = 2 then s.tagReady else s.tagDrop)

/-- WUPA. -/
def execWupa (s : State) : Host.Outcome State Fault Refusal :=
  .next (if s.tag.proto = 2 ∨ s.tag.proto = 5 then s.tagReady else s.tagDrop)

/-- ANTICOLLISION of a cascade level with `n` known bits `v` (ISO/IEC 14443-3): the rest is sent if they match. -/
def execAnticollision (cl2 : Bool) (n : Fin 40) (v : Nat) (s : State) : Host.Outcome State Fault Refusal :=
  .next (if s.tag.proto = 3 ∧ (s.tag.level == 1) = cl2 then
      let w := fromLe (s.cascade cl2)
      if w % 2 ^ n.val = v % 2 ^ n.val then s.sendFrame (leBytes ((47 - n.val) / 8) (w / 2 ^ n.val)) else s
    else s.tagDrop)

/-- SELECT of a cascade level: SAK 0x04 or 0x20. -/
def execSelectCascade (cl2 : Bool) (d : List Byte) (s : State) : Host.Outcome State Fault Refusal :=
  .next (if s.tag.proto = 3 ∧ (s.tag.level == 1) = cl2 ∧ d = s.cascade cl2 then
      if cl2 then ({ s with tag := { s.tag with proto := 4, level := 2, l4 := false } }).sendFrame [0x20]
      else ({ s with tag := { s.tag with level := 1 } }).sendFrame [0x04]
    else s.tagDrop)

/-- HLTA. -/
def execHlta (s : State) : Host.Outcome State Fault Refusal :=
  .next (if s.tag.proto = 4 ∧ !s.tag.l4 then
      { s with tag := { s.tag with proto := 5, level := 0, fromHalt := false } }
    else s.tagDrop)

/-- RATS: layer 4, no application selected. -/
def execRats (s : State) : Host.Outcome State Fault Refusal :=
  .next (if s.tag.proto = 4 ∧ !s.tag.l4 then
      ({ s with tag := { s.tag with l4 := true, pps := true, app := 0, access := 0, dr := 0, ds := 0 } }).sendFrame tagAts
    else s.tagDrop)

/-- PPS: accepted once, directly after the ATS; 848 kbit/s is not supported. -/
def execPps (dr ds : Fin 4) (s : State) : Host.Outcome State Fault Refusal :=
  .next (if s.tagL4 then
      if s.tag.pps ∧ dr.val ≤ 2 ∧ ds.val ≤ 2 then
        ({ s with tag := { s.tag with pps := false, dr := dr, ds := ds } }).sendFrame [0xD0]
      else { s with tag := { s.tag with pps := false } }
    else s.tagDrop)

/-- S(DESELECT): HALT; buffers and session keys erased. -/
def execDeselect (s : State) : Host.Outcome State Fault Refusal :=
  .next (if s.tagL4 then
      let s := s.tagIdle
      ({ s with tag := { s.tag with proto := 5 } }).sendFrame [0xC2]
    else s.tagDrop)

/-- APDU SELECT (R352). -/
def execSelect (cla : Byte) (p : BitVec 16) (d : List Byte) (le : Fin 256) (s : State) : Host.Outcome State Fault Refusal :=
  .next (s.apduIn ⟨cla.toNat, 0xA4, p.toNat, d, le⟩)

/-- APDU GET IDENTITY (R353). -/
def execGetIdentity (cla : Byte) (p : BitVec 16) (d : List Byte) (le : Fin 256) (s : State) : Host.Outcome State Fault Refusal :=
  .next (s.apduIn ⟨cla.toNat, 0x10, p.toNat, d, le⟩)

/-- APDU GET STATUS (R353). -/
def execGetStatus (cla : Byte) (p : BitVec 16) (d : List Byte) (le : Fin 256) (s : State) : Host.Outcome State Fault Refusal :=
  .next (s.apduIn ⟨cla.toNat, 0x12, p.toNat, d, le⟩)

/-- APDU READ TAMPER (R408). -/
def execReadTamper (cla : Byte) (p : BitVec 16) (d : List Byte) (le : Fin 256) (s : State) : Host.Outcome State Fault Refusal :=
  .next (s.apduIn ⟨cla.toNat, 0x14, p.toNat, d, le⟩)

/-- APDU READ BINARY (R360). -/
def execReadBinary (cla : Byte) (p : BitVec 16) (d : List Byte) (le : Fin 256) (s : State) : Host.Outcome State Fault Refusal :=
  .next (s.apduIn ⟨cla.toNat, 0xB0, p.toNat, d, le⟩)

/-- APDU UPDATE BINARY (R360). -/
def execUpdateBinary (cla : Byte) (p : BitVec 16) (d : List Byte) (le : Fin 256) (s : State) : Host.Outcome State Fault Refusal :=
  .next (s.apduIn ⟨cla.toNat, 0xD6, p.toNat, d, le⟩)

/-- APDU PUT TICKET (R365). -/
def execPutTicket (cla : Byte) (p : BitVec 16) (d : List Byte) (le : Fin 256) (s : State) : Host.Outcome State Fault Refusal :=
  .next (s.apduIn ⟨cla.toNat, 0xE0, p.toNat, d, le⟩)

/-- APDU PASSWORD (R355). -/
def execPassword (cla : Byte) (p : BitVec 16) (d : List Byte) (le : Fin 256) (s : State) : Host.Outcome State Fault Refusal :=
  .next (s.apduIn ⟨cla.toNat, 0x20, p.toNat, d, le⟩)

/-- APDU AUTH1 (R356). -/
def execAuth1 (cla : Byte) (p : BitVec 16) (d : List Byte) (le : Fin 256) (s : State) : Host.Outcome State Fault Refusal :=
  .next (s.apduIn ⟨cla.toNat, 0xA0, p.toNat, d, le⟩)

/-- APDU AUTH2 (R356). -/
def execAuth2 (cla : Byte) (p : BitVec 16) (d : List Byte) (le : Fin 256) (s : State) : Host.Outcome State Fault Refusal :=
  .next (s.apduIn ⟨cla.toNat, 0xA2, p.toNat, d, le⟩)

/-- APDU READ FAULTS (R353). -/
def execReadFaults (cla : Byte) (p : BitVec 16) (d : List Byte) (le : Fin 256) (s : State) : Host.Outcome State Fault Refusal :=
  .next (s.apduIn ⟨cla.toNat, 0x16, p.toNat, d, le⟩)

/-- An APDU with a CLA or INS the tag does not accept, or one that breaks a PUT TICKET chain (R354); any other is no event
of this row. -/
def State.badIns (s : State) (a : Apdu) : State :=
  if tagIns a.ins ∧ s.claOk a ∧ (s.tag.chain.isNone ∨ a.ins = 0xE0) then s else s.apduIn a

/-- UNSUPPORTED_INS (R354). -/
def execUnsupportedIns (cla ins : Byte) (p : BitVec 16) (d : List Byte) (le : Fin 256) (s : State) :
    Host.Outcome State Fault Refusal := .next (s.badIns ⟨cla.toNat, ins.toNat, p.toNat, d, le⟩)

/-- TAG_BAD_FRAME: a frame with a bad CRC_A or parity, or one not expected. -/
def execTagBadFrame (s : State) : Host.Outcome State Fault Refusal := .next s.tagDrop

/-- COMMIT_ENERGY_READY (R362 step 2): CFLD reaches 3.30 V. -/
def execCommitEnergyReady (s : State) : Host.Outcome State Fault Refusal :=
  .next (if !s.tag.field then s
    else { s with tag := { s.tag with
      cfld := true, commit := s.tag.commit.map (fun (c : TCommit) => { c with waits := false }) } })

/-- WTX_RESEND (R362, R368). -/
def execWtxResend (s : State) : Host.Outcome State Fault Refusal :=
  .next (if s.tag.held.isSome ∨ (s.tag.commit.map (fun c => c.waits)).getD false then s.sendFrame tagWtx else s)

/-- COMMIT_ENERGY_TIMEOUT (R362): 64 01, and nothing written. -/
def execCommitEnergyTimeout (s : State) : Host.Outcome State Fault Refusal :=
  .next (match s.tag.commit with
    | none => s
    | some c =>
      if !c.waits then s
      else
        let s := { s with tag := { s.tag with commit := none, rndB := if c.who = TagWho.auth1 then none else s.tag.rndB } }
        (s.answer 0x6401 []).tagServe)

/-- TAG_COMMIT_DONE (R362): the shadows verify and the marker is programmed, or (`bad`) one does not. -/
def execTagCommitDone (bad : Option (Fin 16)) (s : State) : Host.Outcome State Fault Refusal :=
  .next (match s.tag.commit with
    | none => s
    | some c => if c.waits then s else s.commitEnd c (bad.map (·.val)))

/-- MARKER_PRE_ERASE (R364): outside any commit and field transaction, with the reserve or main power. -/
def execMarkerPreErase (s : State) : Host.Outcome State Fault Refusal :=
  .next (
    let o := 1 - s.markSector
    let a := State.markAddr (o * 16)
    if s.tag.commit.isSome ∨ 4 < s.markLeft.length ∨ (List.range 16).all (fun i => s.markBlank (o * 16 + i)) ∨
        (s.fieldPower ∧ !s.tag.cfld) then s
    else
      let s := (s.forget a (a + 0x400)).untear 4 (32 + o)
      { s with tag := { s.tag with cfld := if s.fieldPower then false else s.tag.cfld } })

/-- TAGSTORE_READ (R366). -/
def execTagstoreRead (job : Nat) (s : State) : Host.Outcome State Fault Refusal := .next (s.tagJob job 0x60)

/-- TAGSTORE_WRITE (R367). -/
def execTagstoreWrite (job : Nat) (s : State) : Host.Outcome State Fault Refusal := .next (s.tagJob job 0x61)

/-- TAG_BUSY_TIMEOUT (R368). -/
def execTagBusyTimeout (job : Nat) (s : State) : Host.Outcome State Fault Refusal :=
  .next (match s.job job with
    | none => s
    | some j =>
      if j.stage ≠ .wait .tag ∨ j.aux ≠ 1 ∨ !s.tag.hostQ.contains job then s
      else
        let s := { s with tag := { s.tag with hostQ := s.tag.hostQ.erase job } }
        (s.count R.TAG_HCNT 31 16).failJob j St.TAG_BUSY 6 0 0x01A8 0)

/-- SET_PASSWORD. -/
def execSetPassword (rq : Rq) (v : Word) (s : State) : Host.Outcome State Fault Refusal := .next (s.credGo rq 1 v)
/-- SET_FLAGS. -/
def execSetFlags (rq : Rq) (v : Word) (s : State) : Host.Outcome State Fault Refusal := .next (s.credGo rq 2 v)
/-- LOAD_KEY. -/
def execLoadKey (rq : Rq) (v : Word) (s : State) : Host.Outcome State Fault Refusal := .next (s.credGo rq 3 v)
/-- RESET_TRIES. -/
def execResetTries (rq : Rq) (v : Word) (s : State) : Host.Outcome State Fault Refusal := .next (s.credGo rq 4 v)
/-- ERASE_CRED. -/
def execEraseCred (rq : Rq) (v : Word) (s : State) : Host.Outcome State Fault Refusal := .next (s.credGo rq 5 v)
/-- CLEAR_TICKET. -/
def execClearTicket (rq : Rq) (v : Word) (s : State) : Host.Outcome State Fault Refusal := .next (s.credGo rq 6 v)

end Sys2Proof.Machine
end

