-- ==== Sys2Proof/Machine/Domain.lean ====
section
/-! DEFINITION. Host ports and domains (02): refusals, admin bootstrap, links, domain resets, the heartbeat, and the
management link. -/

namespace Sys2Proof.Machine

namespace State

/-! ### Domain reset (R60-R62) -/

/-- A job of the domain is abandoned: its lane stops, its unit is wiped without a report, a key slot it holds RESERVED
is EMPTY again. -/
def abandon (s : State) (j : Job) : State :=
  let s := match s.laneOf j.id with
    | some n => s.modLane n (fun l => { l with
        st := if l.st = LaneSt.paused then .unseeded else if l.st = LaneSt.busy then .idle else l.st
        work := .none, done := 0 })
    | none => s
  let s := match s.unitOf j.id with
    | some u =>
      if (s.unit u).st = UnitSt.leave then s.freeUnit u .idle
      else s.modUnit u (fun k => { k with st := .wipe, out := none, job := none })
    | none => s
  match j.fill with
  | some n => if j.isDone then s else (s.dropRecord j.id n).setSlot n {}
  | none => s

/-- Steps 1 to 5 of the Domain reset table. -/
def domainClear (s : State) (p : Nat) : State :=
  let mine := s.jobs.filter (fun j => j.dom == p)
  let ids := mine.map (·.id)
  let s := mine.foldl abandon s
  let stop := fun (l : Lane) => match l.work with
    | .install d _ => 
      if d = p then { l with
        st := if l.st = LaneSt.paused then .unseeded else if l.st = LaneSt.busy then .idle else l.st
        work := .none, done := 0 } else l
    | _ => l
  let s := (List.range 9).foldl (fun s n => s.modLane n stop) s
  let b := s.bind p
  let s := s.evict (fun c => c.dom == p)
  let s := s.setBind p { bindReset p with recEpoch := b.recEpoch, vbase := b.vbase, vcnt := b.vcnt }
  let bit := 2 ^ p
  let s := { s with
    jobs := s.jobs.filter (fun j => j.dom != p)
    installs := s.installs.filter (fun x => x.dom != p)
    closedIdx := s.closedIdx.filter (fun x => x.1 != p)
    qps := Tbl.clear (fun q => (s.qp q).dom == p && (s.qp q).st != QState.absent) s.qps
    streams := Tbl.clear (fun n => (s.stream n).bound && (s.stream n).dom == p) s.streams
    wins := Tbl.clear (fun i => i / 16 == p) s.wins
    rng := { s.rng with waitQ := s.rng.waitQ.filter (fun i => !ids.contains i) }
    tag := { s.tag with
      hostQ := s.tag.hostQ.filter (fun i => !ids.contains i)
      lock := if s.tag.lock / bit % 2 = 1 then s.tag.lock - bit else s.tag.lock } }
  let s := s.uninstantiate p
  s.modPort p (fun k => { k with
    asq := 0, acq := 0, bwin := 0, bwinLen := 0, sqN := 0, cqN := 0, adminEn := false, cfgErr := 0, cfgError := false
    parkQ := [] })

/-- A cause of domain reset (R60): while one is in progress a further cause is only counted (R62). -/
def domainReset (s : State) (p cause : Nat) : State :=
  let a := R.HPT_DRST + p * 0x40000
  let s := s.count a 15 0
  if (s.port p).resetting then s
  else ((s.setFld a 19 16 cause).domainClear p).modPort p (fun k => { k with resetting := true })

/-- HPT_CFG.PORT_EN of port `p`. -/
def portEn (s : State) (p : Nat) : Bool := s.fld (R.HPT_CFG + p * 0x40000) 0 0 == 1

/-- Port `p` is there, enabled, and follows its pins: outside Start (R64). -/
def portRuns (s : State) (p : Nat) : Bool :=
  decide (p < s.variant.ports) && s.portEn p && (s.mode == .service || s.mode == .hold || s.mode == .lockdown)

/-- The link of port `p` falls; `train` starts its training again. -/
def linkFall (s : State) (p : Nat) (train : Bool) : State :=
  s.modPort p (fun k => { k with linkUp := false, training := train, speed := 0, x1 := false, l1 := false, d3 := false })

/-- The effect of a write of `v` to HPT_CFG of port `p` (PORT_EN). -/
def hptCfgWrite (s : State) (p : Nat) (v : Word) : State :=
  let on := bit v 0 && decide (p < s.variant.ports)
  let was := s.portEn p
  let s := s.setReg (R.HPT_CFG + p * 0x40000) (w32 (b2n on))
  if was ∧ !on then (s.linkFall p false).domainReset p 6
  else if !was ∧ on then s.linkFall p (s.portRuns p && !(s.port p).perst)
  else s

/-! ### Admin bootstrap (R53) -/

/-- The check of ENABLE = 1: the first CFG_ERR, 0 when the configuration is good. -/
def bootErr (k : HPort) : Nat :=
  let sq := 2 ^ k.sqN * 64
  let cq := 2 ^ k.cqN * 16
  let e := k.bwin + k.bwinLen * 4096
  if k.sqN < 4 ∨ 16 < k.sqN ∨ k.cqN < 4 ∨ 16 < k.cqN then 1
  else if k.bwinLen = 0 ∨ 262144 < k.bwinLen then 4
  else if k.asq < k.bwin ∨ e < k.asq + sq ∨ k.acq < k.bwin ∨ e < k.acq + cq then 3
  else if k.asq < k.acq + cq ∧ k.acq < k.asq + sq then 5
  else 0

/-- ENABLE = 1 (R53): window 0 and the admin queue pair, of class 0 and weight 1, are made. -/
def bootEnable (s : State) (p : Nat) : State :=
  let k := s.port p
  let e := bootErr k
  if e ≠ 0 then s.setPort p { k with cfgErr := e, cfgError := true }
  else
    let s := s.setWin p 0 { base := k.bwin, len := k.bwinLen, lr := true, lw := true }
    let s := s.setPort p { k with adminEn := true, cfgErr := 0, cfgError := false }
    s.setQp p { st := .active, dom := p, sqN := k.sqN, cqN := k.cqN, sqBase := k.asq, cqBase := k.acq }

/-- A 64-bit value with its low or high word replaced. -/
def putHalf (x : Nat) (hi : Bool) (v : Word) : Nat :=
  if hi then x % 2 ^ 32 + v.toNat * 2 ^ 32 else x / 2 ^ 32 * 2 ^ 32 + v.toNat

/-- A DW write to a bootstrap register. -/
def bootWrite (s : State) (p off : Nat) (v : Word) : State :=
  let page := v &&& 0xFFFFF000
  if off = 0x200 then s.modPort p (fun k => { k with asq := putHalf k.asq false page })
  else if off = 0x204 then s.modPort p (fun k => { k with asq := putHalf k.asq true v })
  else if off = 0x208 then s.modPort p (fun k => { k with acq := putHalf k.acq false page })
  else if off = 0x20C then s.modPort p (fun k => { k with acq := putHalf k.acq true v })
  else if off = 0x210 then s.modPort p (fun k => { k with bwin := putHalf k.bwin false page })
  else if off = 0x214 then s.modPort p (fun k => { k with bwin := putHalf k.bwin true v })
  else if off = 0x218 then s.modPort p (fun k => { k with bwinLen := v.toNat })
  else
    let s := s.modPort p (fun k => { k with sqN := bits v 4 0, cqN := bits v 12 8 })
    if bit v 31 then s.bootEnable p else s

end State

/-- The RW registers of the host status window. -/
def bootReg (off : Nat) : Bool :=
  off ∈ [0x200, 0x204, 0x208, 0x20C, 0x210, 0x214, 0x218, 0x220]

/-- The RO registers of the host status window (R50). -/
def roReg (off : Nat) : Bool :=
  decide (off < 0x18) || (decide (0x40 ≤ off) && decide (off < 0x70)) || (decide (0x80 ≤ off) && decide (off < 0xB0)) ||
    (decide (0xC0 ≤ off) && decide (off < 0xD0)) || off ∈ [0x100, 0x104, 0x108, 0x224] ||
    (decide (0x1000 ≤ off) && decide (off < 0x1100))

namespace State

/-- A DW write of `v` at BAR2 offset `off` of port `p` (R50, R53, R54). -/
def bar2Write (s : State) (p off : Nat) (v : Word) : State :=
  if !s.portLive p then s
  else if (s.port p).d3 ∨ 0x2000 ≤ off then s.hostRefuse p 2 off false
  else if off % 4 ≠ 0 ∨ roReg off then s.hostRefuse p 2 off true
  else if bootReg off then
    if (s.port p).adminEn ∨ !(s.mode == .service || s.mode == .hold) then s.hostRefuse p 2 off true
    else s.bootWrite p off v
  else s

end State

/-! ### The management link (R66-R71) -/

/-- One byte of CRC-8, polynomial x⁸ + x² + x + 1. -/
def crc8Byte (c b : Byte) : Byte :=
  (List.range 8).foldl (fun c _ => if c.getLsbD 7 then (c <<< 1) ^^^ 0x07 else c <<< 1) (c ^^^ b)

/-- CRC-8 from 0 (R69). -/
def crc8 (l : List Byte) : Byte := l.foldl crc8Byte 0

/-- A response: STATUS, LEN, data, CRC. -/
def mlkResp (status : Nat) (d : List Byte) : List Byte :=
  let l := [BitVec.ofNat 8 status, BitVec.ofNat 8 d.length] ++ d
  l ++ [crc8 l]

namespace State

/-- The unit without an address that sees MCHIN high (R68). -/
def candidate (s : State) : Bool := s.mlk.addr.isNone && s.mlk.chin

/-- Level driven on MCHOUT (R68). -/
def chout (s : State) : Bool := s.mlk.addr.isSome && s.mlk.chin

/-- UNIT names this unit. -/
def mlkNamed (s : State) (u : Nat) : Bool := s.mlk.addr == some u || (u == 0xFF && s.candidate)

/-- HS_FLT_SUM [2:0]: FAULTN and the highest uncleared severity (R52). -/
def fltLow (s : State) : Nat := 4 * b2n s.faultn + s.maxSev

/-- HEALTH. The junction temperature is an input of the board's: a free byte. Multi-byte fields are little-endian
(DESIGN CHOICE, log entry 50). -/
def mlkHealth (s : State) (temp : Nat) : List Byte :=
  [BitVec.ofNat 8 s.modeCode, BitVec.ofNat 8 (min s.openCount 255), BitVec.ofNat 8 s.fltLow, BitVec.ofNat 8 temp] ++
    leBytes 4 s.sys.beat.toNat ++ leBytes 2 s.flags ++ [BitVec.ofNat 8 (b2n s.belowLimit), 0]

/-- CAPACITY. -/
def mlkCapacity (s : State) : List Byte :=
  let c := fun i => s.caps.getD i 0
  leBytes 1 (c 0) ++ leBytes 1 (c 1) ++ leBytes 1 (c 2) ++ leBytes 1 (c 11) ++ leBytes 1 (c 10) ++
    leBytes 2 (c 3) ++ leBytes 2 (c 4) ++ leBytes 2 (c 5) ++ leBytes 4 (c 6) ++
    (List.range 4).flatMap (fun k => leBytes 1 (s.spares k).length) ++
    leBytes 2 ((List.range 4).map s.spareLeft).sum

/-- IDENTITY. -/
def mlkIdentity (s : State) : List Byte :=
  leBytes 2 0x8440 ++ leBytes 1 s.variant.code ++ leBytes 1 s.lifeCode ++ s.serial ++ (List.range 4).map Config.fwVersion

/-- FAULT_READ of record `i`. -/
def mlkFault (s : State) (i : Nat) : Nat × List Byte :=
  match s.skm.ring[i]? with
  | some r =>
    let hide := r.msg.kind = Kind.ACCESS_VIOLATION ∨ r.msg.kind = Kind.HOST_WINDOW ∨ r.msg.kind = Kind.DEBUG_DENIED
    let m := if hide then { r.msg with addr := 0 } else r.msg
    (0, leBytes 4 m.lo.toNat ++ leBytes 4 m.hi.toNat ++ leBytes 2 r.seq)
  | none => (5, [])

/-- Status and data of the response to a command addressed to this unit (R69, R70). -/
def mlkDo (s : State) (u cmd : Nat) (d : List Byte) (temp : Nat) : Nat × List Byte :=
  let start := s.mode == .start
  if cmd = 0x02 ∧ u ≠ 0xFF then (if d.length ≠ 0 then (3, []) else (0, []))
  else if cmd = 0x10 then (if d.length ≠ 0 then (3, []) else (0, s.mlkIdentity))
  else if cmd = 0x11 ∧ u ≠ 0xFF then (if d.length ≠ 0 then (3, []) else (0, s.mlkHealth temp))
  else if cmd = 0x12 ∧ u ≠ 0xFF then
    (if d.length ≠ 0 then (3, [])
      else if start ∨ s.mode = .lockdown ∨ !bit (s.reg R.MLK_CFG) 1 then (4, []) else (0, s.mlkCapacity))
  else if cmd = 0x13 ∧ u ≠ 0xFF then
    (if d.length ≠ 2 then (3, [])
      else if start ∨ !bit (s.reg R.MLK_CFG) 0 then (4, [])
      else if 511 < fromLe d then (5, []) else s.mlkFault (fromLe d))
  else (2, [])

/-- A refusal is counted in MLK_ERRCNT (R70). -/
def mlkErr (s : State) : State := s.count R.MLK_ERRCNT 15 0

/-- A write frame (R69): the unit named, if any, is selected and its response formed. -/
def mlkFrame (s : State) (u cmd : Byte) (d : List Byte) (crc : Byte) : State :=
  let n := u.toNat
  if s.fieldPower ∨ s.dbg.pins then s
  else
    let named := s.mlkNamed n
    let bad := crc ≠ crc8 ([u, cmd, BitVec.ofNat 8 d.length] ++ d) ∨ 32 < d.length
    let s := { s with mlk := { s.mlk with resp := none, ready := false } }
    if bad then (if named then s.mlkErr else s)
    else if n = 0 then
      let a := (d.headD 0).toNat
      if cmd = 1 ∧ d.length = 1 ∧ 1 ≤ a ∧ a ≤ 0xFE ∧ s.candidate then { s with mlk := { s.mlk with addr := some a } }
      else if cmd = 2 ∧ d.isEmpty then { s with mlk := { s.mlk with addr := none } }
      else s
    else if !named then s
    else s.withFree (fun t s =>
      let r := s.mlkDo n cmd.toNat d t
      let s := if r.1 ≠ 0 then s.mlkErr else s
      { s with mlk := { s.mlk with
        resp := some (mlkResp r.1 r.2), addr := if cmd = 2 ∧ r.1 = 0 then none else s.mlk.addr } })

/-- Is a well-formed frame of command `cmd` with payload `d` one that is refused or ignored? -/
def mlkBad (s : State) (u cmd : Byte) (d : List Byte) (crc : Byte) : Bool :=
  crc != crc8 ([u, cmd, BitVec.ofNat 8 d.length] ++ d) || decide (32 < d.length) ||
    decide ((s.mlkDo u.toNat cmd.toNat d 0).1 = 2) || decide ((s.mlkDo u.toNat cmd.toNat d 0).1 = 3)

end State

/-! ### Commands: hosts and ports -/

/-- A memory request at offset `off` of BAR `bar` meets a decoding or state condition of R54 that gives UR, whatever its
size. -/
def State.unclaimed (s : State) (p bar off : Nat) : Bool :=
  (s.port p).d3 ||
    (if bar = 0 then !(s.bar0Up p && s.doorOf p (off / 256)) else if bar = 2 then decide (0x2000 ≤ off) else true)

/-- UNSUPPORTED_REQUEST (R54): a request of a kind not supported (I/O, atomic, locked, message) or that nothing decodes is
refused with UR. With `shape` it is a read or write of memory that breaks R49 or R50 in size, byte enables, alignment or
boundary: refused with CA, unless a condition that gives UR is met too. -/
def execUnsupportedRequest (p : Port) (bar : Fin 8) (off : Nat) (shape : Bool) (s : State) :
    Host.Outcome State Fault Refusal :=
  .next (if !s.portLive p then s else s.hostRefuse p bar off (shape && !s.unclaimed p bar off))

/-- ADMIN_ENABLE (R53): a DW write to the host status window: the bootstrap registers, ENABLE among them. -/
def execAdminEnable (p : Port) (off : Nat) (v : Word) (s : State) : Host.Outcome State Fault Refusal :=
  .next (s.bar2Write p off v)

/-- PERST_ASSERT (R60, R64). -/
def execPerstAssert (p : Port) (s : State) : Host.Outcome State Fault Refusal :=
  .next (
    let was := (s.port p).perst
    let s := s.modPort p (fun k => { k with perst := true })
    let off := s.clk.hrefOff
    let s := { s with clk := { s.clk with hrefOff := if off / 2 ^ p.val % 2 = 1 then off - 2 ^ p.val else off } }
    if was ∨ !s.portRuns p then s else (s.linkFall p false).domainReset p 1)

/-- PERST_DEASSERT (R64): training starts. -/
def execPerstDeassert (p : Port) (s : State) : Host.Outcome State Fault Refusal :=
  .next (
    let was := (s.port p).perst
    let s := s.modPort p (fun k => { k with perst := false })
    if was ∧ s.portRuns p then s.modPort p (fun k => { k with training := true }) else s)

/-- HOT_RESET (R60): the link trains anew (PRESUMED, log entry 62). -/
def execHotReset (p : Port) (s : State) : Host.Outcome State Fault Refusal :=
  .next (if s.portLive p then (s.linkFall p true).domainReset p 2 else s)

/-- LINK_DOWN (R60). -/
def execLinkDown (p : Port) (s : State) : Host.Outcome State Fault Refusal :=
  .next (if s.portLive p then (s.linkFall p true).domainReset p 3 else s)

/-- FUNCTION_LEVEL_RESET (R60). -/
def execFunctionLevelReset (p : Port) (s : State) : Host.Outcome State Fault Refusal :=
  .next (if s.portLive p then (s.modPort p (fun k => { k with d3 := false })).domainReset p 4 else s)

/-- D3HOT_TO_D0 (R60). -/
def execD3hotToD0 (p : Port) (s : State) : Host.Outcome State Fault Refusal :=
  .next (if s.portLive p ∧ (s.port p).d3 then (s.modPort p (fun k => { k with d3 := false })).domainReset p 5 else s)

/-- D3HOT_ENTRY (R54). -/
def execD3hotEntry (p : Port) (s : State) : Host.Outcome State Fault Refusal :=
  .next (if s.portLive p then s.modPort p (fun k => { k with d3 := true }) else s)

/-- PORT_EN: a write of HPT_CFG (R60). -/
def execPortEn (rq : Rq) (p : Port) (v : Word) (s : State) : Host.Outcome State Fault Refusal :=
  .next (s.asWrite rq Blk.HPT p (R.HPT_CFG + p * 0x40000) v (fun s => some (s.hptCfgWrite p v)))

/-- DOMAIN_RESET_COMPLETE (R60, step 6). -/
def execDomainResetComplete (p : Port) (s : State) : Host.Outcome State Fault Refusal :=
  .next (if !(s.port p).resetting then s
    else
      let s := (s.domainClear p).modPort p (fun k => { k with resetting := false, gen := k.gen + 1 })
      s.faultBy Blk.HPT p Kind.HOST_RESET (s.fld (R.HPT_DRST + p * 0x40000) 19 16) p Blk.HPT p)

/-- LINK_UP (R64): DL_Up at a speed 1-4, `x1` a width of one lane. -/
def execLinkUp (p : Port) (speed : Fin 5) (x1 : Bool) (s : State) : Host.Outcome State Fault Refusal :=
  .next (if (s.port p).training ∧ speed.val ≠ 0 then
      s.modPort p (fun k => { k with linkUp := true, training := false, speed := speed, x1 := x1, l1 := false, d3 := false })
    else s)

/-- L1_ENTRY (R65): only in Hold. -/
def execL1Entry (p : Port) (s : State) : Host.Outcome State Fault Refusal :=
  .next (if s.mode = Mode.hold ∧ s.portLive p then s.modPort p (fun k => { k with l1 := true }) else s)

/-- L1_EXIT (R65). -/
def execL1Exit (p : Port) (s : State) : Host.Outcome State Fault Refusal :=
  .next (s.modPort p (fun k => { k with l1 := false }))

/-- HS_BEAT: 1 ms of IOSC time in Service and Hold. -/
def execHsBeat (s : State) : Host.Outcome State Fault Refusal :=
  .next (if (s.mode = Mode.service ∨ s.mode = Mode.hold) ∧ !s.clk.waiting then
      { s with sys := { s.sys with beat := s.sys.beat + 1 } }
    else s)

/-! ### Commands: the management link -/

/-- ASSIGN. -/
def execAssign (u : Byte) (d : List Byte) (crc : Byte) (s : State) : Host.Outcome State Fault Refusal :=
  .next (s.mlkFrame u 0x01 d crc)
/-- RELEASE. -/
def execRelease (u : Byte) (d : List Byte) (crc : Byte) (s : State) : Host.Outcome State Fault Refusal :=
  .next (s.mlkFrame u 0x02 d crc)
/-- IDENTITY. -/
def execIdentity (u : Byte) (d : List Byte) (crc : Byte) (s : State) : Host.Outcome State Fault Refusal :=
  .next (s.mlkFrame u 0x10 d crc)
/-- HEALTH. -/
def execHealth (u : Byte) (d : List Byte) (crc : Byte) (s : State) : Host.Outcome State Fault Refusal :=
  .next (s.mlkFrame u 0x11 d crc)
/-- CAPACITY. -/
def execCapacity (u : Byte) (d : List Byte) (crc : Byte) (s : State) : Host.Outcome State Fault Refusal :=
  .next (s.mlkFrame u 0x12 d crc)
/-- FAULT_READ. -/
def execFaultRead (u : Byte) (d : List Byte) (crc : Byte) (s : State) : Host.Outcome State Fault Refusal :=
  .next (s.mlkFrame u 0x13 d crc)

/-- MLINK_BAD_FRAME (R70): an unknown CMD, a wrong LEN or a bad CRC; a good frame is no event of this row. -/
def execMlinkBadFrame (u cmd : Byte) (d : List Byte) (crc : Byte) (s : State) : Host.Outcome State Fault Refusal :=
  .next (if s.mlkBad u cmd d crc then s.mlkFrame u cmd d crc else s)

/-- MLINK_RESPONSE_READY (R70). -/
def execMlinkResponseReady (s : State) : Host.Outcome State Fault Refusal :=
  .next { s with mlk := { s.mlk with ready := s.mlk.resp.isSome } }

/-- MLINK_READ (R69, R70): the response, BUSY before it is ready, or 0xFF throughout. -/
def execMlinkRead (s : State) : Host.Outcome State Fault Refusal :=
  .next (match s.mlk.resp with
    | none => { s with mlk := { s.mlk with tx := [0xFF] } }
    | some r =>
      if s.mlk.ready then { s with mlk := { s.mlk with tx := r } }
      else
        let s := s.mlkErr
        { s with mlk := { s.mlk with tx := mlkResp 6 [] } })

/-- MLINK_SCL_TIMEOUT (R69): the frame state is discarded. A partial frame has no state here: a row is a whole frame. -/
def execMlinkSclTimeout (s : State) : Host.Outcome State Fault Refusal :=
  .next { s with mlk := { s.mlk with tx := [], resp := none, ready := false } }

/-- MCHIN_CHANGE (R68). -/
def execMchinChange (high : Bool) (s : State) : Host.Outcome State Fault Refusal :=
  .next { s with mlk := { s.mlk with chin := high } }

end Sys2Proof.Machine
end

