-- ==== Sys2Proof/Machine/Cards.lean ====
section
/-! DEFINITION. The custody card, its flash journal and generations, and the custodian slots (14). The contents of a card are
outside the part: what its blocks read as comes with the commands. -/

namespace Sys2Proof.Machine

/-- KCV of a 256-bit key (R250, R378). -/
def kcvOf (k : List Byte) : List Byte := (aesEnc k (zeros 16)).take 8

/-! ### Blocks and records -/

/-- A card block (R378): 504 bytes of payload, GEN, CRC-32. -/
def cardBlock (gen : Nat) (payload : List Byte) : List Byte :=
  let l := slice payload 0 504 ++ leBytes 4 gen
  l ++ leBytes 4 (crc32 l)

/-- The blocks of a slot's record: its bytes laid across five payloads. -/
def slotBlocks (gen : Nat) (rec : List Byte) : List Byte :=
  (List.range 5).flatMap (fun i => cardBlock gen (slice rec (504 * i) 504))

/-- First block of area `a`. -/
def areaBase (a : Nat) : Nat := 8192 + a * 32768

/-- A header payload (Generation header). -/
def hdrPayload (state gen slots m n rtc : Nat) (serial setId kcv hash : List Byte) : List Byte :=
  [0x45, 0x53, 0x4E, 0x43, 0x01, BitVec.ofNat 8 state, 0, 0] ++ slice serial 0 8 ++ slice setId 0 8 ++ slice kcv 0 8 ++
    leBytes 4 gen ++ leBytes 2 slots ++ leBytes 1 m ++ leBytes 1 n ++ leBytes 8 rtc ++ slice hash 0 32

/-- The header in a 512-byte block, if it is valid (R379). -/
def hdrRead (b : List Byte) : Option CHdr :=
  if b.length ≠ 512 ∨ leAt b 508 4 ≠ crc32 (b.take 508) ∨ slice b 0 6 ≠ [0x45, 0x53, 0x4E, 0x43, 0x01, 0x02] ∨
      leAt b 32 4 ≠ leAt b 504 4 then none
  else some ⟨leAt b 32 4, slice b 16 8, slice b 24 8, leAt b 38 1, leAt b 39 1⟩

/-- The 256 bytes of a journal record (R380). -/
def JRec.bytes (r : JRec) : List Byte :=
  let l := leBytes 1 r.typ ++ zeros 3 ++ leBytes 8 r.seq ++ slice r.card 0 8 ++ leBytes 4 r.gen ++ leBytes 4 r.first ++
    leBytes 2 r.count ++ leBytes 1 r.area ++ zeros 1 ++ slice r.hash 0 32 ++ leBytes 8 r.ref ++ List.replicate 180 0xFF
  l ++ leBytes 4 (crc32 l)

/-- The slots of a sorted list cut into runs of at most 12 consecutive ones (R381, step 5). -/
def runsOf : List Nat → List (List Nat)
  | [] => []
  | n :: t => match runsOf t with
    | (m :: r) :: rest => if m = n + 1 ∧ r.length < 11 then (n :: m :: r) :: rest else [n] :: (m :: r) :: rest
    | rest => [n] :: rest

/-! ### What the journal says (R380, R383) -/

/-- An OPEN of `l` that no DONE names and no ABANDON or DISCARD drops. -/
def jPending (l : List JRec) : List JRec :=
  l.filter (fun e => e.typ == 1 && !l.any (fun d => (d.typ == 2 && d.ref == e.seq) ||
    (d.typ == 5 && d.gen == e.gen && decide (e.seq < d.seq)) || (d.typ == 6 && decide (e.seq < d.seq))))

/-- The newest GEN_START with no GEN_END, ABANDON or DISCARD after it. -/
def jOpenGen (l : List JRec) : Option JRec :=
  l.reverse.find? (fun g => g.typ == 3 && !l.any (fun d => decide (g.seq < d.seq) &&
    ((d.typ == 4 && d.gen == g.gen) || (d.typ == 5 && d.gen == g.gen) || d.typ == 6)))

/-- The card the journal is bound to. -/
def jBound (l : List JRec) : Option (List Byte) :=
  match jOpenGen l with
  | some g => some g.card
  | none => (jPending l).head?.map (·.card)

/-- The OPEN of a generation's COMPLETE header: the second write of its area's first block. -/
def jComplete (l : List JRec) (g : JRec) : Option JRec :=
  ((l.filter (fun e => e.typ == 1 && e.gen == g.gen && e.first == areaBase g.area && decide (g.seq < e.seq))).drop 1).head?

/-- A record of the oldest sector that is still needed (R380). -/
def jNeeded (l : List JRec) (r : JRec) : Bool :=
  (jPending l).contains r || jOpenGen l == some r ||
    (l.reverse.find? (fun e => e.typ == 4 || e.typ == 6)) == some r

namespace State

/-! ### The journal -/

/-- Free sectors of the journal. -/
def jFree (s : State) : Nat := 128 - ((s.crd.jpage - s.crd.jtail) + 15) / 16

/-- Asks for the first record waiting. In Lockdown, and without K_cust, the journal is not written (R385). -/
def jKick (s : State) : State :=
  if s.crd.jq.isEmpty ∨ s.crd.jprog ∨ s.hasLeave .journal ∨ s.mode = .lockdown ∨ s.kst.kcust.isNone then s
  else (s.askFlash ⟨3, 3, 1, 1792 + s.crd.jpage / 16 % 128, Blk.CRD, 4, .journal⟩).1

/-- Queues a journal record. -/
def jAppend (s : State) (r : JRec) : State :=
  { s with crd := { s.crd with jq := s.crd.jq ++ [r] } }.jKick

/-- A record becomes durable: it takes the next SEQ, unless it is rewritten from the oldest sector, and the next page. -/
def jDurable (s : State) (r : JRec) : State :=
  let q := if r.seq = 0 then s.crd.jseq + 1 else r.seq
  let r := { r with seq := q, page := s.crd.jpage }
  let s := s.setBytes (0x09800000 + 1792 * 0x1000 + (r.page % 2048) * 256) r.bytes
  { s with crd := { s.crd with
    jseq := max q s.crd.jseq, jpage := r.page + 1, jprog := false, jq := s.crd.jq.drop 1
    log := (s.crd.log.filter (fun x => x.seq != q)) ++ [r] } }

/-- With fewer than 16 free sectors the records still needed of the oldest are rewritten; then its erase is asked (R380). -/
def jCompact (s : State) : State :=
  if s.jFree ≥ 16 ∨ !s.crd.jq.isEmpty ∨ s.hasLeave .journalErase ∨ s.mode = .lockdown then s
  else match s.crd.log.filter (fun r => decide (r.page < s.crd.jtail + 16) && jNeeded s.crd.log r) with
    | [] => (s.askFlash ⟨3, 5, 2, 1792 + s.crd.jtail / 16 % 128, Blk.CRD, 12, .journalErase⟩).1
    | l => l.foldl jAppend s

/-- The oldest sector of the journal is erased. -/
def journalErased (s : State) : State :=
  let t := s.crd.jtail + 16
  let a := 0x09800000 + 1792 * 0x1000 + (s.crd.jtail % 2048) * 256
  let s := (s.forget a (a + 0x1000)).releaseLeave .journalErase
  { s with crd := { s.crd with jtail := t, log := s.crd.log.filter (fun r => decide (t ≤ r.page)) } }

/-! ### The card -/

/-- The card is seated and initialised. -/
def cardReady (s : State) : Bool := s.crd.st == 3 || s.crd.st == 4

/-- The current generation of the seated card (R379). -/
def curGen (s : State) : Option (Nat × CHdr) :=
  s.crd.hdrs.foldl (fun b h => match b with
    | some x => if x.2.gen < h.2.gen then some h else b
    | none => some h) none

/-- CRD_GEN follows the current generation. -/
def showGen (s : State) : State := s.setReg R.CRD_GEN (w32 ((s.curGen.map (·.2.gen)).getD 0))

/-- The seated card is foreign (R383). -/
def foreign (s : State) : Bool :=
  s.crd.present && match jBound s.crd.log with
    | some c => c != s.crd.card
    | none => false

/-- An operation of an idle card asks 15 tokens first (R375). Answers whether they are refused. -/
def cardWake (s : State) : State × Bool :=
  if s.crd.st ≠ 3 ∨ s.hasLeave .sd then (s, false) else s.askLeave Blk.CRD 0 15 .sd

/-- Resolution begins if the bound card is seated and initialised (R384); it waits for K_cust and for the end of Lockdown
(R385). -/
def tryResolve (s : State) : State :=
  if !s.cardReady ∨ s.crd.tooSmall ∨ s.mode = .lockdown ∨ s.kst.kcust.isNone ∨ jBound s.crd.log ≠ some s.crd.card ∨
      s.crd.run.isSome then s
  else ({ s with crd := { s.crd with resolving := true } }.cardWake).1

/-- A generation stops: its records not yet being programmed are dropped, the command ends, and what it left is resolved at
once if the card is still there (R382). -/
def genFail (s : State) (status cause : Nat) : State :=
  let s := { s with crd := { s.crd with run := none, jq := if s.crd.jprog then s.crd.jq.take 1 else [] } }
  let s := s.withdraw .journal
  (if s.crd.op = 1 then s.custEnd status cause else s).tryResolve

/-- The OPEN of the next write, or GEN_END when none is left. -/
def genNext (s : State) (g : GenRun) : State :=
  match g.todo with
  | [] =>
    { s with crd := { s.crd with run := some { g with stage := .ending } } }.jAppend
      { typ := 4, seq := 0, card := s.crd.card, gen := g.gen }
  | w :: _ =>
    { s with crd := { s.crd with run := some { g with stage := .opening } } }.jAppend
      { typ := 1, seq := 0, card := s.crd.card, gen := g.gen, first := w.1, count := w.2.length / 512
        hash := sha256 w.2 }

/-- GEN_END is durable: the generation is current, and captured slots not changed since lose DIRTY (R381, step 7). -/
def genEnd (s : State) (g : GenRun) : State :=
  let clean := fun (s : State) (x : Nat × KSlot) =>
    let k := s.slot x.1
    if k.mat = x.2.mat ∧ k.policy = x.2.policy ∧ k.typ = x.2.typ ∧ k.st = x.2.st then s.setSlot x.1 { k with dirty := false }
    else s
  let s := g.snap.foldl clean s
  let h : CHdr := ⟨g.gen, s.kst.setId, kcvOf (s.kst.kcust.getD []), s.kst.setM, s.kst.setN⟩
  let s := { s with crd := { s.crd with
    run := none, hdrs := (s.crd.hdrs.filter (fun (x : Nat × CHdr) => x.1 != g.area)) ++ [(g.area, h)] } }
  let s := s.showGen.event Blk.CRD 0 4
  if s.crd.op = 1 then s.custEnd St.OK 0 else s

/-- A generation that a CRD soft reset stopped is abandoned (R392). -/
def genAbandon (s : State) (gen : Nat) : State :=
  { s with crd := { s.crd with run := none } }.jAppend { typ := 5, seq := 0, card := s.crd.card, gen := gen }

/-- What follows a durable record (R381): `wp` is SDWP as sampled before a card write. -/
def jAnswer (s : State) (r : JRec) (wp : Bool) : State :=
  let s := if r.typ = 5 then s.count R.CRD_JNL 7 0 else s
  let s := if r.typ = 6 ∧ s.crd.op = 3 then s.custEnd St.OK 0 else s
  match s.crd.run with
  | none =>
    if r.typ = 4 ∧ s.crd.card = r.card ∧ !s.crd.hdrs.any (fun h => h.2.gen == r.gen) then
      let a := ((s.crd.log.reverse.find? (fun g => g.typ == 3 && g.gen == r.gen)).map (·.area)).getD 0
      let h : CHdr := ⟨r.gen, s.kst.setId, kcvOf (s.kst.kcust.getD []), s.kst.setM, s.kst.setN⟩
      { s with crd := { s.crd with hdrs := (s.crd.hdrs.filter (fun (x : Nat × CHdr) => x.1 != a)) ++ [(a, h)] } }.showGen
    else s
  | some g =>
    if r.gen ≠ g.gen then s
    else if r.typ = 3 ∧ g.stage = .start then s.genNext g
    else if r.typ = 1 ∧ g.stage = .opening then
      let s := { s with crd := { s.crd with wp := wp } }
      if wp then s.genFail St.MODE_DENIED 3
      else
        let (s, no) := { s with crd := { s.crd with run := some { g with stage := .writing } } }.cardWake
        if no then s.genFail St.ENGINE_UNAVAILABLE 0x01B7 else s
    else if r.typ = 2 ∧ g.stage = .closing then
      if g.stop then s.genAbandon g.gen
      else s.genNext { g with todo := g.todo.drop 1 }
    else if r.typ = 4 ∧ g.stage = .ending then s.genEnd g
    else s

/-! ### Custody commands (R381, R383, R386) -/

/-- The writes of a generation: BUILDING header, RANGES, runs, COMPLETE header (R381). The HASH of the BUILDING header and the
SEQ of the records are not stated: free. -/
def genWrites (s : State) (gen area rtc sq : Nat) (rnd : List Byte) (loaded : List (Nat × KSlot)) :
    List (Nat × List Byte) :=
  let kc := s.kst.kcust.getD []
  let b := areaBase area
  let rec1 := fun (slot : Nat) (body : ImgBody) => (⟨slot, sq, 0, kc, body, .none⟩ : ImgRec).bytes
  let hdr := fun (st : Nat) (hash : List Byte) =>
    cardBlock gen (hdrPayload st gen loaded.length s.kst.setM s.kst.setN rtc s.serial s.kst.setId (kcvOf kc) hash)
  let ranges := cardBlock gen (rec1 0 (.ranges ((List.range 4).map (fun d => (s.reg (R.KST_DOM_SL + 4 * d)).toNat))))
  let run := fun (l : List Nat) =>
    (b + 2 + 5 * l.headD 0, l.flatMap (fun n => slotBlocks gen (rec1 n (.slot (s.slotOwner n) (s.slot n)))))
  let runs := (runsOf (loaded.map (·.1))).map run
  let all := ranges ++ runs.flatMap (·.2)
  [(b, hdr 1 rnd), (b + 1, ranges)] ++ runs ++ [(b, hdr 2 (sha256 all))]

/-- The first check of R381 that fails: status and cause. -/
def genBar (s : State) : Option (Nat × Nat) :=
  if s.mode ≠ .service then some (St.MODE_DENIED, 1)
  else if s.life ≠ .commissioned then some (St.MODE_DENIED, 2)
  else if !s.cardReady then some (St.ENGINE_UNAVAILABLE, 0x01B0)
  else if s.crd.tooSmall then some (St.ENGINE_UNAVAILABLE, 0x01B1)
  else if s.foreign then some (St.ENGINE_UNAVAILABLE, 0x01B3)
  else if s.crd.wp then some (St.MODE_DENIED, 3)
  else if s.kst.kcust.isNone then some (St.KEY_DENIED, 0x01B4)
  else none

/-- OP 1 runs: the snapshot, G and the target area; GEN_START is asked. A blank card leaves the area open: free. -/
def genBegin (s : State) : State :=
  let g := (s.crd.hdrs.map (·.2.gen) ++ s.crd.log.map (·.gen)).foldl max 0 + 1
  s.rtcNow (fun t s => s.withFree (fun f s => s.withFree (fun sq s => s.drawBytes 32 (fun rnd s =>
    let a := match s.curGen with
      | some h => 1 - h.1
      | none => f % 2
    let loaded := s.slots.filter (fun e => e.2.st == .loaded && bit e.2.policy 17)
    let run : GenRun := { gen := g, area := a, snap := s.slots.filter (·.2.dirty), todo := s.genWrites g a t sq rnd loaded }
    { s with crd := { s.crd with run := some run } }.jAppend { typ := 3, seq := 0, card := s.crd.card, gen := g, area := a }))))

/-- A VERIFY ends: 0 as the header says, 1 a mismatch, 2 a card error. -/
def verifyEnd (s : State) : State :=
  if s.crd.ver = 0 then s.custEnd St.OK 0
  else if s.crd.ver = 1 then s.custEnd St.AUTH_FAIL 0x01B8
  else (s.count R.CRD_SD_ERR 31 16).custEnd St.ENGINE_UNAVAILABLE 0x01B2

/-- OP 2 runs: what the card holds is outside the part, so what is found is free. -/
def verifyBegin (s : State) : State :=
  s.withFree (fun n s =>
    let s := { s with crd := { s.crd with ver := n % 3 } }
    if s.crd.st = 4 then s.verifyEnd
    else
      let (s, no) := s.cardWake
      if no then s.custEnd St.ENGINE_UNAVAILABLE 0x01B7 else s)

/-- A write of CRD_CUST_CMD; none is a violation. -/
def custWrite (s : State) (v : Word) : Option State :=
  let op := bits v 3 0
  if !bit v 31 then some (s.setReg R.CRD_CUST_CMD (w32 op))
  else if bit (s.reg R.CRD_CUST_STAT) 31 then none
  else
    let s := (s.setReg R.CRD_CUST_CMD (w32 op)).setReg R.CRD_CUST_STAT 0x80000000
    let s := { s with crd := { s.crd with op := op } }
    some (
      if op = 1 then
        match s.genBar with
        | some e => s.custEnd e.1 e.2
        | none => s.genBegin
      else if op = 2 then
        if s.mode ≠ .service ∧ s.mode ≠ .hold then s.custEnd St.MODE_DENIED 1
        else if !s.cardReady then s.custEnd St.ENGINE_UNAVAILABLE 0x01B0
        else if s.crd.tooSmall then s.custEnd St.ENGINE_UNAVAILABLE 0x01B1
        else s.verifyBegin
      else if op = 3 then
        if s.mode ≠ .service then s.custEnd St.MODE_DENIED 1
        else s.jAppend { typ := 6, seq := 0, card := s.crd.card, gen := 0 }
      else s.custEnd St.OK 0)

/-! ### Resolution (R384) -/

/-- Resolution of one pending entry `e`: `v` 0 all new with the right hash, 1 no block torn, some old, and rebuilt, 2 any
other. The records appended, and whether the entry is committed. -/
def judgeEntry (s : State) (e : JRec) (v : Nat) (wp : Bool) : State × Bool :=
  let note := fun (s : State) => (s.event Blk.CRD 0 5).fault Blk.CRD 0 Kind.CARD_JOURNAL e.first
  let done := fun (s : State) (q : Nat) => s.jAppend { typ := 2, seq := 0, card := e.card, gen := e.gen, ref := q }
  if v = 0 then (done s e.seq, true)
  else if v = 1 ∧ !wp then
    let n := s.crd.jseq + s.crd.jq.length + 1
    let s := s.jAppend { e with seq := 0, page := 0 }
    (note (done (done s n) e.seq), true)
  else
    let has := s.crd.jq.any (fun r => r.typ == 5 && r.gen == e.gen)
    let s := if has then s else s.jAppend { typ := 5, seq := 0, card := e.card, gen := e.gen }
    (note s, false)

/-- Every pending entry in turn, then the unfinished generation. -/
def jResolve (s : State) (wp : Bool) (vs : List (Fin 3)) : State :=
  let log := s.crd.log
  let es := jPending log
  let (s, ok) := (es.zip (vs.map (·.val) ++ List.replicate es.length 2)).foldl
    (fun (x : State × List JRec) (e : JRec × Nat) =>
      let (t, c) := x.1.judgeEntry e.1 e.2 wp
      (t, if c then e.1 :: x.2 else x.2)) (s, [])
  let s := { s with crd := { s.crd with resolving := false, wp := wp } }
  match jOpenGen log with
  | none => s
  | some g =>
    if s.crd.jq.any (fun r => r.typ == 5 && r.gen == g.gen) then s
    else
      let fin := match jComplete log g with
        | some c => !es.contains c || ok.contains c
        | none => false
      if fin then s.jAppend { typ := 4, seq := 0, card := g.card, gen := g.gen }
      else (s.event Blk.CRD 0 5).fault Blk.CRD 0 Kind.CARD_JOURNAL (areaBase g.area) |>.jAppend
        { typ := 5, seq := 0, card := g.card, gen := g.gen }

/-! ### Seating (R374-R376) -/

/-- Initialisation ends, its leave granted: FAILED, or ACTIVE with the headers read. -/
def cardInit (s : State) : State :=
  if s.crd.bad then { s with crd := { s.crd with st := 6, hdrs := [] } }.releaseLeave .sd
  else { s with crd := { s.crd with st := 4 } }.showGen.tryResolve

/-- The leave of the custody card is granted. -/
def cardGranted (s : State) : State :=
  if s.crd.st = 2 then s.cardInit
  else
    let s := { s with crd := { s.crd with st := if s.crd.st = 3 then 4 else s.crd.st } }
    if s.crd.op = 2 then s.verifyEnd else s

/-- The card is gone, or its power is: lines and tokens are released, and the operation in hand ends as an error. -/
def cardGone (s : State) : State :=
  let s := (if s.crd.op = 2 then s.custEnd St.ENGINE_UNAVAILABLE 0x01B2 else s)
  let s := { s with crd := { s.crd with
    st := 0, present := false, tooSmall := false, wp := false, ccs := 0, wide := false, hs := false, card := [], hdrs := []
    bad := false, resolving := false } }
  let s := (if s.crd.run.isSome then s.genFail St.ENGINE_UNAVAILABLE 0x01B2 else s)
  (s.releaseLeave .sd).showGen

/-! ### The custodian slots (R387-R389) -/

/-- A ceremony presents a card result (R263): LAST, and a CEREMONY record. -/
def cerResult (s : State) (code : Nat) : State :=
  { s with kst := { s.kst with cer := { s.kst.cer with last := code } } }.faultFree Blk.KST 0 Kind.CEREMONY

/-- A ceremony reads or writes cards now. -/
def cerCards (s : State) : Bool := s.kst.cer.st == 1 || s.kst.cer.st == 2

/-- Card result 1: the slot deactivates and its FAILS counts. -/
def cardFail (s : State) (i : Nat) : State :=
  let s := (s.ccDeact i).count (R.CRD_CC_ERR + i * 0x10) 15 0
  if s.cerCards then s.cerResult 1 else s

/-- Activation asks 25 tokens; refused, it is card result 1. -/
def ccAsk (s : State) (i : Nat) : State :=
  let (s, no) := s.askLeave Blk.CRD 0 25 (.cc i)
  if no then s.cardFail i else s

/-- Cards seated and not yet used are activated for a ceremony that asks for one (R388). -/
def ccKick (s : State) : State :=
  (List.range 2).foldl (fun s i =>
    let c := s.cslot i
    if s.cerCards ∧ c.st = 2 ∧ !c.used ∧ !s.hasLeave (.cc i) then (s.setCslot i { c with used := true }).ccAsk i else s) s

/-- The leave of slot `i` is granted: it activates, at class B unless class A is due. -/
def ccGranted (s : State) (i : Nat) : State :=
  let c := s.cslot i
  s.setCslot i { c with st := 3, klass := if c.clsA then 1 else 2 }

end State

/-- Cycles per elementary time unit that TA1 gives are at least 5.8125, and TA1 is a value ISO/IEC 7816-3 defines
(PRESUMED, log entry 51). -/
def taOk (ta : Nat) : Bool :=
  let fi := [372, 372, 558, 744, 1116, 1488, 1860, 0, 0, 512, 768, 1024, 1536, 2048, 0, 0].getD (ta / 16) 0
  let di := [0, 1, 2, 4, 8, 16, 32, 64, 12, 20, 0, 0, 0, 0, 0, 0].getD (ta % 16) 0
  decide (fi ≠ 0) && decide (di ≠ 0) && decide (58125 * di ≤ 10000 * fi)

namespace State

/-- An attempt at class B has failed or class B is excluded: class A follows if indicated and enabled, else the card has
failed every attempt. -/
def ccNextClass (s : State) (i : Nat) (a : Bool) : State :=
  if (s.cslot i).klass = 2 ∧ a ∧ bit (s.reg R.CRD_CC_CFG) 2 then
    let s := s.ccDeact i
    s.setCslot i { s.cslot i with again := true }
  else s.cardFail i

/-- The custody card leaves (R376). -/
def sdGone (s : State) : State :=
  if s.crd.st = 0 then s
  else
    let was := s.crd.present
    let s := s.cardGone
    if was then s.event Blk.CRD 0 3 else s

/-- A custodian card leaves: one being activated or read gives card result 1 (R389). -/
def ccGone (s : State) (i : Nat) : State :=
  let c := s.cslot i
  if c.st = 0 then s
  else
    let s := if c.st = 3 ∨ c.st = 4 then s.cardFail i else s.ccDeact i
    (s.setCslot i {}).event Blk.CRD 0 7

end State

/-! ### Commands: the custody card -/

/-- SD_CARD_DETECT (R376): SDCDN falls; the debounce begins. -/
def execSdCardDetect (s : State) : Host.Outcome State Fault Refusal :=
  .next (if s.crd.st = 0 ∧ !s.fieldPower ∧ !s.dbg.pins then { s with crd := { s.crd with st := 1 } } else s)

/-- SD_DEBOUNCE_DONE (R374): SDCDN has been low for 50 ms; the card asks 15 tokens and is initialised: `fail` 1 a step fails,
2 by a timeout; its CID, capacity in blocks, kind, and the header blocks of its two areas. -/
def execSdDebounceDone (fail : Fin 3) (cid : List Byte) (blocks : Nat) (ccs : Fin 4) (wide hs wp : Bool)
    (h0 h1 : List Byte) (s : State) : Host.Outcome State Fault Refusal :=
  .next (
    if s.crd.st ≠ 1 then s
    else
      let small := fail = 0 ∧ blocks < 73728
      let rd := fun (a : Nat) (b : List Byte) => match hdrRead b with
        | some h => [(a, h)]
        | none => []
      let s := { s with crd := { s.crd with
        st := 2, present := true, wp := wp, bad := fail ≠ 0, tooSmall := small
        ccs := ccs, wide := wide && bit (s.reg R.CRD_SD_CFG) 16, hs := hs && bit (s.reg R.CRD_SD_CFG) 17
        card := (sha256 cid).take 8, hdrs := if small then [] else rd 0 h0 ++ rd 1 h1 } }
      let s := if fail = 2 then s.count R.CRD_SD_ERR 15 0 else s
      let (s, no) := (s.event Blk.CRD 0 2).askLeave Blk.CRD 0 15 .sd
      if no then { s with crd := { s.crd with st := 6, hdrs := [] } } else s)

/-- SD_REMOVAL (R376). -/
def execSdRemoval (s : State) : Host.Outcome State Fault Refusal :=
  .next s.sdGone

/-- SD_IDLE (R375): IDLE ms without an operation; 0 never. -/
def execSdIdle (s : State) : Host.Outcome State Fault Refusal :=
  .next (if s.crd.st = 4 ∧ s.crd.run.isNone ∧ !s.crd.resolving ∧ s.crd.op ≠ 2 ∧ s.fld R.CRD_SD_CFG 15 0 ≠ 0 then
      { s with crd := { s.crd with st := 3 } }.releaseLeave .sd
    else s)

/-- WRITE_GEN (R381): CRD_CUST_CMD is written with GO and OP 1. -/
def execWriteGen (rq : Rq) (s : State) : Host.Outcome State Fault Refusal :=
  .next (s.asWrite rq Blk.CRD 0 R.CRD_CUST_CMD 0x80000001 (fun s => s.custWrite 0x80000001))

/-- VERIFY (R386): CRD_CUST_CMD is written with GO and OP 2. -/
def execVerify (rq : Rq) (s : State) : Host.Outcome State Fault Refusal :=
  .next (s.asWrite rq Blk.CRD 0 R.CRD_CUST_CMD 0x80000002 (fun s => s.custWrite 0x80000002))

/-- DISCARD_JOURNAL (R383): CRD_CUST_CMD is written with GO and OP 3. -/
def execDiscardJournal (rq : Rq) (s : State) : Host.Outcome State Fault Refusal :=
  .next (s.asWrite rq Blk.CRD 0 R.CRD_CUST_CMD 0x80000003 (fun s => s.custWrite 0x80000003))

/-- JOURNAL_RECORD_DURABLE (R380, R381): the record being programmed is durable; `wp` is SDWP, sampled before a card write. -/
def execJournalRecordDurable (wp : Bool) (s : State) : Host.Outcome State Fault Refusal :=
  .next (match s.crd.jq with
    | [] => s
    | r :: _ =>
      if !s.crd.jprog then s
      else
        let s := (s.releaseLeave .journal).jDurable r
        ((s.jAnswer { r with seq := if r.seq = 0 then s.crd.jseq else r.seq } wp).jKick).jCompact)

/-- JOURNAL_TIMEOUT (R382): the first record waiting has not become durable within 50 ms: it is dropped, and a command that
waits on it ends. -/
def execJournalTimeout (s : State) : Host.Outcome State Fault Refusal :=
  .next (match s.crd.jq with
    | [] => s
    | r :: q =>
      let s := ({ s with crd := { s.crd with jq := q, jprog := false } }.releaseLeave .journal)
      if s.crd.op = 3 ∧ r.typ = 6 then (s.custEnd St.ENGINE_UNAVAILABLE 0x01B5).jKick
      else match s.crd.run with
        | some g => if r.gen = g.gen then s.genFail St.ENGINE_UNAVAILABLE 0x01B5 else s.jKick
        | none => s.jKick)

/-- CARD_WRITE_DONE (R381): the busy of the write in hand ends: `res` 0 every token accepted and CMD13 without error, 1 a
token or CRC error, 2 a CMD13 error. -/
def execCardWriteDone (res : Fin 3) (s : State) : Host.Outcome State Fault Refusal :=
  .next (match s.crd.run with
    | none => s
    | some g =>
      if g.stage ≠ .writing ∨ s.crd.st ≠ 4 then s
      else if res ≠ 0 then
        (if res = 1 then s.count R.CRD_SD_ERR 31 16 else s).genFail St.ENGINE_UNAVAILABLE 0x01B2
      else
        let q := ((s.crd.log.reverse.find? (fun e => e.typ == 1 && e.gen == g.gen)).map (·.seq)).getD 0
        { s with crd := { s.crd with run := some { g with stage := .closing } } }.jAppend
          { typ := 2, seq := 0, card := s.crd.card, gen := g.gen, ref := q })

/-- CARD_BUSY_TIMEOUT (R382): the busy of the write in hand lasts beyond 500 ms. -/
def execCardBusyTimeout (s : State) : Host.Outcome State Fault Refusal :=
  .next (match s.crd.run with
    | none => s
    | some g =>
      if g.stage ≠ .writing ∨ s.crd.st ≠ 4 then s
      else (s.count R.CRD_SD_ERR 15 0).genFail St.ENGINE_UNAVAILABLE 0x01B2)

/-- JOURNAL_RESOLUTION (R384): the bound card's pending entries are judged as `vs` says, in their order; `wp` is SDWP. -/
def execJournalResolution (wp : Bool) (vs : List (Fin 3)) (s : State) : Host.Outcome State Fault Refusal :=
  .next (if s.crd.resolving ∧ s.crd.st = 4 ∧ s.mode ≠ Mode.lockdown ∧ s.kst.kcust.isSome then s.jResolve wp vs else s)

/-! ### Commands: the custodian slots -/

/-- CC_PRESENT (R388): the presence input has held its present level for 50 ms. -/
def execCcPresent (i : Fin 2) (s : State) : Host.Outcome State Fault Refusal :=
  .next (if (s.cslot i).st > 1 ∨ s.fieldPower ∨ s.clk.waiting ∨ s.dbg.pins then s
    else ((s.setCslot i { st := 2 }).event Blk.CRD 0 6).ccKick)

/-- CC_REMOVED (R389): the presence input leaves its level; a card being activated or read gives card result 1. -/
def execCcRemoved (i : Fin 2) (s : State) : Host.Outcome State Fault Refusal :=
  .next (s.ccGone i)

/-- CC_ATR (R388): the card's ATR: the classes its indicator allows, T=1 offered, TA1 (0x11 by default), an unsupported TA2,
and whether a PPS succeeds. -/
def execCcAtr (i : Fin 2) (a b t1 : Bool) (ta : Byte) (ta2bad pps : Bool) (s : State) : Host.Outcome State Fault Refusal :=
  .next (
    let c := s.cslot i
    if c.st ≠ 3 then s
    else if c.klass = 2 ∧ !b then s.ccNextClass i a
    else if ta2bad then s.cardFail i
    else
      let use := taOk ta.toNat && !c.nopps
      if use ∧ !pps then
        let s := s.ccDeact i
        (s.setCslot i { s.cslot i with clsA := c.clsA, nopps := true }).ccAsk i
      else
        let fd := if use then ta.toNat else 0x11
        s.setCslot i { c with st := 4, proto := if t1 then 2 else 1, fd := fd, clk := if ta.toNat / 16 = 0 then 40 else 50 })

/-- CC_ATR_TIMEOUT (R388): no ATR within 40,000 clocks; `a` says whether class A is indicated. -/
def execCcAtrTimeout (i : Fin 2) (a : Bool) (s : State) : Host.Outcome State Fault Refusal :=
  .next (if (s.cslot i).st = 3 then s.ccNextClass i a else s)

/-- CC_CLASSA_RETRY (R388): 10 ms after class B, activation at class A. -/
def execCcClassaRetry (i : Fin 2) (s : State) : Host.Outcome State Fault Refusal :=
  .next (
    let c := s.cslot i
    if c.st = 2 ∧ c.again ∧ s.cerCards then (s.setCslot i { c with again := false, clsA := true }).ccAsk i else s)

/-- CC_OVERCURRENT (R388): the card is over the current limit: OVERCURRENT, deactivated, card result 1. -/
def execCcOvercurrent (i : Fin 2) (s : State) : Host.Outcome State Fault Refusal :=
  .next (
    let c := s.cslot i
    if c.st ≠ 3 ∧ c.st ≠ 4 then s
    else
      let s := s.cardFail i
      s.setCslot i { st := 6, used := true })

end Sys2Proof.Machine
end

