-- ==== Sys2Proof/Machine/Flask.lean ====
section
/-! DEFINITION. Flask and the backup domain (15): alarms and their responses, flag clearing, the backup RTC and its
measurement, the tamper mirror, loss of the cell. -/

namespace Sys2Proof.Machine

/-- The sources of a mask, in ascending order. -/
def sourcesOf (m : Nat) : List Nat := (List.range 14).filter (fun i => m / 2 ^ i % 2 == 1)

/-- `m` with bit `i` set. -/
def setBit (m i : Nat) : Nat := if m / 2 ^ i % 2 = 1 then m else m + 2 ^ i

/-- `m` with bit `i` clear. -/
def clearBit (m i : Nat) : Nat := if m / 2 ^ i % 2 = 1 then m - 2 ^ i else m

/-- One bit step of the CRC-16 of a mirror entry. -/
def crc16Bit (c : BitVec 16) (b : Bool) : BitVec 16 :=
  if c.getLsbD 15 != b then (c <<< 1) ^^^ 0x1021 else c <<< 1

/-- CRC-16, x¹⁶ + x¹² + x⁵ + 1, initial value 0xFFFF (R406); bits most significant first (DEDUCED, log entry 52). -/
def crc16 (l : List Byte) : Nat :=
  (l.foldl (fun (c : BitVec 16) (b : Byte) =>
    (List.range 8).foldl (fun c i => crc16Bit c (b.getLsbD (7 - i))) c) 0xFFFF).toNat

/-- The 16 bytes of a mirror entry (R406). -/
def mirBytes (seq : Nat) (e : MirE) : List Byte :=
  let l := leBytes 4 seq ++ leBytes 6 e.time ++ leBytes 1 e.src ++ leBytes 1 e.event ++ leBytes 1 e.cnt ++ [0]
  l ++ leBytes 2 (crc16 l)

namespace State

/-! ### Responses (R397-R403) -/

/-- FLK_TS of a source: TIME and COUNT. -/
def flkTime (s : State) (i : Nat) : Nat := Tbl.get (fun _ => 0) s.flk.time i
def flkCount (s : State) (i : Nat) : Nat := Tbl.get (fun _ => 0) s.flk.cnt i

/-- The response of source `i` in FLK_RESP. -/
def flkResp (s : State) (i : Nat) : Nat := s.fld R.FLK_RESP (2 * i + 1) (2 * i)

/-- The response taken: in FOUNDRY none is stronger than ALERT (R399). -/
def flkTaken (s : State) (i : Nat) : Nat := if s.life = .foundry then min (s.flkResp i) 1 else s.flkResp i

/-- A TAMPER message (R397, R412). -/
def tamperMsg (s : State) (i resp time : Nat) (deferred : Bool) : State :=
  s.send ⟨Blk.FLK, 0, Kind.TAMPER, if 2 ≤ resp then 3 else 2,
    i + resp * 32 + b2n deferred * 128 + time % 2 ^ 24 * 0x10000, 4⟩ Blk.FLK 0

/-- A mirror entry joins the queue, or is dropped and counted (R407). -/
def mirPush (s : State) (e : MirE) : State :=
  if s.flk.mq.length < 16 then { s with flk := { s.flk with mq := s.flk.mq ++ [e] } }
  else (s.count R.FLK_MCNT 31 16).event Blk.FLK 0 4

/-- EVENT of a mirror entry. -/
def mirEvent (resp mode : Nat) (deferred clear : Bool) : Nat := resp + 4 * b2n deferred + 8 * b2n clear + mode * 16

/-- An alarm of source `i` at time `t`: its flag, TIME if the flag was clear, COUNT. -/
def flkMark (s : State) (t i : Nat) : State :=
  let had := s.flags / 2 ^ i % 2 = 1
  { s with
    flags := setBit s.flags i
    flk := { s.flk with
      time := if had then s.flk.time else Tbl.set (fun _ => 0) s.flk.time i t
      cnt := Tbl.set (fun _ => 0) s.flk.cnt i (satSucc 255 (s.flkCount i)) } }

/-- The message and the mirror entry of one alarm with main power, at most one in 1,024 ticks (R398). -/
def flkNote (s : State) (t mode i : Nat) : State :=
  let last := Tbl.get (fun _ => 0) s.flk.sent i
  if last ≠ 0 ∧ t + 1 < last + 1024 then s
  else
    let r := s.flkTaken i
    let s := { s with flk := { s.flk with sent := Tbl.set (fun _ => 0) s.flk.sent i (t + 1) } }
    let s := if 1 ≤ r then s.tamperMsg i r (s.flkTime i) false else s
    s.mirPush ⟨s.flkTime i, i, mirEvent r mode false false, s.flkCount i⟩

/-- Alarms at once, at time `t` (R401, R402): with main power every response in one pass, strongest first; on the cell
alone only K_bb is quenched, and the rest is left to the next Start. -/
def flkAlarms (s : State) (t : Nat) (l : List Nat) : State :=
  if l.isEmpty then s
  else
    let mode := s.modeCode
    let s := l.foldl (fun s i => s.flkMark t i) s
    let top := (l.map s.flkTaken).foldl max 0
    if s.fieldPower then
      { s with flk := { s.flk with
        pend := l.foldl setBit s.flk.pend
        pendLock := s.flk.pendLock || decide (2 ≤ top)
        kbb := if top = 3 then none else s.flk.kbb } }
    else
      let s := if top = 3 then s.quenchLock 1 true else if top = 2 then s.lockdown 1 false else s
      l.foldl (fun s i => s.flkNote t mode i) (s.event Blk.FLK 0 2)

/-- Loop `i - 2` of sources 2-5 is enabled; the other sources always are. -/
def flkEnabled (s : State) (i : Nat) : Bool := i < 2 || 5 < i || bit (s.reg R.FLK_CFG) (14 + i)

/-- A sample of the sources `checked`, finding the causes `live`, at time `t` (R395): an alarm is a cause the source's
previous sample did not find, or whose flag has been cleared since. -/
def flkSample (s : State) (t checked live : Nat) : State :=
  let chk := sourcesOf checked
  let on := chk.filter (fun i => live / 2 ^ i % 2 == 1 && s.flkEnabled i)
  let new := on.filter (fun i => s.flk.live / 2 ^ i % 2 == 0 || s.flk.cleared / 2 ^ i % 2 == 1)
  let lv := chk.foldl clearBit s.flk.live
  let s := { s with flk := { s.flk with
    live := on.foldl setBit lv
    cleared := chk.foldl clearBit s.flk.cleared
    vbat := if checked / 2 ^ 12 % 2 = 1 ∧ live / 2 ^ 12 % 2 = 0 then true else s.flk.vbat } }
  s.flkAlarms t new

/-- Light sensors tripped. -/
def flkLight (s : State) (l : Nat) : State :=
  { s with flk := { s.flk with light := (BitVec.ofNat 16 s.flk.light ||| BitVec.ofNat 16 l).toNat } }

/-- Step 2 of R403: the deferred alarms, in ascending order. -/
def flkDeferred (s : State) : State :=
  let one := fun (s : State) (i : Nat) =>
    let r := s.flkTaken i
    let s := if 1 ≤ r then s.tamperMsg i r (s.flkTime i) true else s
    s.mirPush ⟨s.flkTime i, i, mirEvent r 5 true false, s.flkCount i⟩
  let s := (sourcesOf s.flk.pend).foldl one s
  { s with flk := { s.flk with pend := 0 } }

/-! ### Register writes -/

/-- A write of FLK_CLR (R400); none is a violation. -/
def flkClrWrite (s : State) (rq : Rq) (v : Word) : Option State :=
  let i := bits v 4 0
  if s.mode ≠ .service ∨ !s.isSup rq ∨ bits v 31 16 ≠ 0x434C ∨ 13 < i then none
  else if s.flkCount i ≠ bits v 15 8 then some ({ s with flk := { s.flk with clrMiss := true } }.event Blk.FLK 0 3)
  else
    let s := { s with
      flags := clearBit s.flags i
      flk := { s.flk with
        cnt := Tbl.set (fun _ => 0) s.flk.cnt i 0
        clrMiss := false
        cleared := setBit s.flk.cleared i
        light := if i = 11 then 0 else s.flk.light } }
    some (s.rtcNow (fun t s => s.mirPush ⟨t, i, mirEvent (s.flkResp i) s.modeCode false true, 0⟩))

/-- A write of FLK_RTC_SET_HI (R405): refused below the current count. -/
def rtcSetWrite (s : State) (v : Word) : Option State :=
  let n := Config.free s.fresh
  let s := { s with fresh := s.fresh + 1 }
  let now := (s.rtc + n) % 2 ^ 48
  let t := bits v 15 0 * 2 ^ 32 + s.flk.setLo.toNat
  if t < now then none else some { s with rtc := t, rtcValid := true }

/-- A write of FLK_RTC_MEAS (R405): GO has no effect outside Service. -/
def rtcMeasWrite (s : State) (v : Word) : State :=
  if bit v 31 ∧ s.mode = .service then { s.setReg R.FLK_RTC_MEAS 0 with flk := { s.flk with meas := true } } else s

/-- Every response of `v` is at least that of `w`. -/
def respRaised (w v : Word) : Bool := (List.range 14).all (fun i => decide (bits w (2 * i + 1) (2 * i) ≤ bits v (2 * i + 1) (2 * i)))

/-- Responses, loops and PERIOD may only be strengthened (R399). -/
def flkStrict (s : State) : Bool := s.life != .foundry && s.life != .vendor

/-- A write of FLK_RESP (R399). -/
def flkRespWrite (s : State) (v : Word) : Option State :=
  if s.flkStrict ∧ !respRaised (s.reg R.FLK_RESP) v then none else some (s.setReg R.FLK_RESP (v &&& 0x0FFFFFFF))

/-- A write of FLK_CFG (R399): PERIOD outside 16-1,024 is a violation. -/
def flkCfgWrite (s : State) (v : Word) : Option State :=
  let o := s.reg R.FLK_CFG
  let p := bits v 10 0
  if p < 16 ∨ 1024 < p then none
  else if s.flkStrict ∧ (bits o 10 0 < p ∨ (o &&& ~~~v &&& 0x000F0000) ≠ 0) then none
  else some (s.setReg R.FLK_CFG (v &&& 0x000F07FF))

/-! ### The backup domain lost (R393, R394) -/

/-- Every field at its backup reset value, and source 13 raised with COUNT 1 and TIME 0. -/
def backupLost (s : State) : State :=
  { s with
    regs := Tbl.clear (fun a => a == R.FLK_CFG || a == R.FLK_RESP || a == R.FLK_RTC_TRIM) s.regs
    rtc := 0, rtcValid := false, flags := 0x2000
    flk := { s.flk with
      kbb := none, decom := false, pend := 0, pendLock := false, time := [], cnt := [(13, 1)], light := 0, vbat := false
      live := 0, cleared := 0, sent := [] } }

end State

/-- FLASK_WINDOW (R396): on the cell, a window starts at the next but `k` multiple of PERIOD and finds the causes `live`;
`light` are the light sensors tripped. -/
def execFlaskWindow (k : Nat) (live : BitVec 14) (light : BitVec 16) (s : State) : Host.Outcome State Fault Refusal :=
  .next (
    let p := max 1 (s.fld R.FLK_CFG 10 0)
    if !s.fieldPower then s
    else
      let t := ((s.rtc / p + 1 + k) * p) % 2 ^ 48
      ({ s with rtc := t }.flkLight light.toNat).flkSample t 0x3E3F live.toNat)

/-- FLASK_SAMPLE (R395): with main power, a periodic check of the sources `checked` finds the causes `live`; `temp` is a
temperature reading. -/
def execFlaskSample (checked live : BitVec 14) (temp : Option Byte) (s : State) : Host.Outcome State Fault Refusal :=
  .next (
    if s.fieldPower then s
    else
      let s := match temp with
        | some b => { s with flk := { s.flk with temp := some b.toNat } }
        | none => s
      s.rtcNow (fun t s => s.flkSample t (checked &&& 0x363F#14).toNat live.toNat))

/-- FLASK_CONTINUOUS_TRIP (R395): VCORE_HI, VCORE_LO, CLK_GLITCH or LIGHT is detected. -/
def execFlaskContinuousTrip (live : BitVec 14) (light : BitVec 16) (s : State) : Host.Outcome State Fault Refusal :=
  .next (if s.fieldPower then s
    else s.rtcNow (fun t s => (s.flkLight light.toNat).flkSample t 0x09C0 live.toNat))

/-- FLAG_CLEAR (R400): a write of FLK_CLR. -/
def execFlagClear (rq : Rq) (v : Word) (s : State) : Host.Outcome State Fault Refusal :=
  .next (s.asWrite rq Blk.FLK 0 R.FLK_CLR v (fun s => s.flkClrWrite rq v))

/-- RTC_SET (R405): a write of FLK_RTC_SET_HI, with TICKS_LO as written before. -/
def execRtcSet (rq : Rq) (v : Word) (s : State) : Host.Outcome State Fault Refusal :=
  .next (s.asWrite rq Blk.FLK 0 R.FLK_RTC_SET_HI v (fun s => s.rtcSetWrite v))

/-- RTC_MEASURE (R405): FLK_RTC_MEAS is written with GO. -/
def execRtcMeasure (rq : Rq) (s : State) : Host.Outcome State Fault Refusal :=
  .next (s.asWrite rq Blk.FLK 0 R.FLK_RTC_MEAS 0x80000000 (fun s => some (s.rtcMeasWrite 0x80000000)))

/-- RTC_MEASURE_DONE (R405): the measurement ends with the error `err` in ppm. -/
def execRtcMeasureDone (err : BitVec 16) (s : State) : Host.Outcome State Fault Refusal :=
  .next (if !s.flk.meas then s
    else ({ s with flk := { s.flk with meas := false } }.setReg R.FLK_RTC_MEAS
      (w32 (0x40000000 + err.toNat))).event Blk.FLK 0 5)

/-- MIRROR_ENTRY_WRITE (R407): with main power, and behind any tag-store commit or field transaction, the first entry waiting
is programmed; a new sector is erased first. -/
def execMirrorEntryWrite (s : State) : Host.Outcome State Fault Refusal :=
  .next (match s.flk.mq with
    | [] => s
    | e :: q =>
      if s.fieldPower ∨ s.tag.commit.isSome then s
      else
        let a := State.mirAddr s.flk.mpos
        let n := (a - 0x0C000000) / 0x400
        let s := if s.flk.mpos % 64 = 0 then (s.forget a (a + 0x400)).untear 4 n else s
        let s := s.setBytes a (mirBytes (s.flk.mseq + 1) e)
        { s with flk := { s.flk with mq := q, mpos := s.flk.mpos + 1, mseq := s.flk.mseq + 1 } })

/-- VBAT_LOSS (R393): VBAT falls below 2.0 V while main power is absent: the domain is lost, K_bb included. -/
def execVbatLoss (s : State) : Host.Outcome State Fault Refusal :=
  .next (if s.fieldPower then s.backupLost else s)

end Sys2Proof.Machine
end

