-- ==== Sys2Proof/Machine/StartOps.lean ====
section
/-! DEFINITION. How a Start begins and what main power takes with it (17 R449, R456-R459): what each reset clears. The steps
of a Start are in Machine/Start.lean. -/

namespace Sys2Proof.Machine

/-- The registers of the backup domain (R393): nothing but its loss changes them. -/
def backupReg (a : Nat) : Bool := a == R.FLK_CFG || a == R.FLK_RESP || a == R.FLK_RTC_TRIM

/-- The register values a warm Start keeps (R459). -/
def warmReg (a : Nat) : Bool :=
  let b := (a - 0x20000000) / 0x100000
  b == Blk.SKM || b == Blk.RIS || b == Blk.KST || b == Blk.FLK || a == R.CLK_XSTAB || a == R.CLK_XTOL || a == R.CLK_XWIN ||
    a == R.PWR_BUDGET || a == R.PWR_MAXWAIT || a == R.CLK_LOSS || a == R.SYS_RCAUSE

namespace State

/-! ### What every Start clears (R458) -/

/-- A host port at a Start: its domain is reset; PERSTp and the generation stay. A warm Start keeps the fault view. -/
def portClear (k : HPort) (warm : Bool) : HPort :=
  let n : HPort := { perst := k.perst, gen := k.gen }
  if warm then { n with view := k.view, viewCnt := k.viewCnt, viewHead := k.viewHead } else n

/-- A lane at a Start: serving lanes go dormant, spares and fenced lanes stay as they are. -/
def laneClear (l : Lane) : Lane := { st := if l.serving then .dormant else l.st, blocks := 0 }

/-- A Crucible unit at a Start: units that serve run TEST. -/
def unitClear (u : CUnit) : CUnit := { st := if u.st = .spare ∨ u.st = .fenced then u.st else .test, up := u.up }

/-- A domain's binding at a Start: only what the vault records stays. -/
def bindClear (d : Nat) (b : Bind) : Bind :=
  { bindReset d with recEpoch := b.recEpoch, vbase := b.vbase, vcnt := b.vcnt }

/-- A card slot at a Start: a card seated is debounced again. -/
def cslotClear (c : CSlot) : CSlot := { st := if c.st = 0 then 0 else 1 }

/-- Jobs, queue pairs, contexts, streams, leave and flash operations, host domains, pairs, cards' operations: what every
Start drops, warm or cold. -/
def dropAll (s : State) (warm : Bool) : State :=
  let s := ((s.jobs ++ s.fwJob.toList ++ s.fwWait.toList).foldl abandon s).flashCut
  { s with
    pairs := s.pairs.map (fun e => (e.1, ({ fenced := e.2.fenced } : KPair)))
    ports := s.ports.map (fun e => (e.1, portClear e.2 warm))
    wins := [], qps := [], jobs := [], staging := [], leavePend := [], leaveHeld := [], streams := [], ctxs := []
    installs := [], closedIdx := [], fwJob := none, fwWait := none, credit := [], rounds := []
    binds := s.binds.map (fun e => (e.1, bindClear e.1 e.2))
    vault := { s.vault with
      logWs := [], pages := [], prog := false, refused := false, rangeBusy := false, stalled := false, compacting := false
      closing := false, ready := false }
    lanes := s.lanes.map (fun e => (e.1, laneClear e.2))
    units := s.units.map (fun e => (e.1, unitClear e.2))
    ris := { s.ris with due := [], subs := [], evalDone := false }
    tag := { s.tag with hostQ := [], credOp := none, lock := 0, pw0 := 0, pw1 := 0 }
    crd := { log := s.crd.log, jseq := s.crd.jseq, jpage := s.crd.jpage, jtail := s.crd.jtail
             st := if s.crd.st = 0 then 0 else 1, slots := s.crd.slots.map (fun e => (e.1, cslotClear e.2)) }
    clk := { s.clk with doms := [], waiting := false, hrefOff := s.clk.hrefOff }
    clkFailed := 0
    sys := { s.sys with holdPend := false, reqRefused := false, released := false, beat := 0 }
    flk := { s.flk with meas := false } }

/-- What a cold Start, or the loss of main power, takes besides: system SRAM, registers, the key store, the Skimmer's ring
and open faults, what the Riser has not made durable, the management address. Flash, tag bank, OTP and the backup domain
stay. -/
def coldClear (s : State) : State :=
  let s := (s.dropAll false).forget 0x10000000 0x10800000
  { s with
    regs := Tbl.clear (fun a => !backupReg a) s.regs
    hdrs := [], inbox := [], slots := [], pairs := [], lanes := [], units := [], sramBad := []
    rng := { word := s.rng.word }
    kst := { log := s.kst.log, seq := s.kst.seq, page := s.kst.page, tail := s.kst.tail }
    skm := { log := s.skm.log, logPage := s.skm.logPage, logTail := s.skm.logTail }
    ris := { s.ris with
      ents := s.ris.ents.take (max s.ris.copy1 s.ris.copy2), wear := [] }
    torn := s.torn.map (fun (x : Torn) => { x with listed := false, healing := false })
    flk := { s.flk with mq := [], sent := [], temp := none, setLo := 0, clrMiss := false }
    clk := { compat := s.clk.compat }
    mlk := { chin := s.mlk.chin }
    dbgErr := false }

/-- What a warm Start clears besides (R459): registers but those kept; the headers of SKM, RIS, KST and FLK stay, unlocked. -/
def warmClear (s : State) : State :=
  let s := s.dropAll true
  let b := fun (a : Nat) => a / 32
  let keep := fun (a : Nat) => b a == Blk.SKM || b a == Blk.RIS || b a == Blk.KST || b a == Blk.FLK
  let s := { s with
    regs := Tbl.clear (fun a => !warmReg a) s.regs
    hdrs := Tbl.clear (fun a => !keep a) s.hdrs }
  let s := (List.range 32).foldl (fun s i => if keep (i * 32) then s.setHdr i 0 { s.hdr i 0 with lock := false } else s) s
  let s := (s.setFld R.CLK_LOSS 8 0 0)
  { s with
    rng := { s.rng with st := .off, internal := false, buf := [], waitQ := [], due := false, lastW := [], reqs := [], capSrc := none }
    kst := { s.kst with prog := false }
    crd := { s.crd with jprog := false }
    torn := s.torn.map (fun (x : Torn) => { x with listed := false, healing := false }) }

/-! ### A Start begins -/

/-- RNG start-up begins (R456, step 1); a source fenced since the last Start is tested again (R428). -/
def startRng (s : State) : State :=
  (List.range 10).foldl (fun s n => if (s.src n).st = SrcSt.fenced then s.setSrc n { s.src n with st := .test } else s) s.rngStart

/-- A Start begins (R458), in mode Start: warm or cold, its cause for SYS_RCAUSE, and the Lockdown reason it must end in, if
any. A reader's session returns to IDLE when the application changes; tickets end without a record (R474); a ceremony
fails. -/
def startBegin (s : State) (warm : Bool) (cause lock : Nat) : State :=
  let old := if s.clk.waiting then s.clk.before else s.mode
  let s := s.cerFail 4
  let s := s.ticketEnd 5
  let rc := s.fld R.SYS_RCAUSE 31 16
  let rv := s.fld R.SYS_RCAUSE 5 5
  let s := if warm then s.warmClear else s.coldClear
  let s := s.setReg R.SYS_RCAUSE (w32 (
    if warm then satSucc 0xFFFF rc * 0x10000 + rv * 0x20 + 0x10 + cause else cause))
  let s := { s with
    mode := .start
    dbg := { s.dbg with
      st := if s.life = Life.foundry then 2 else 0, scope := 0, minutes := 0, verify := none, verdict := none, loaded := false
      injOn := false, injStep := 0 }
    sys := { s.sys with reason := 0, start := some ⟨warm, cause, lock⟩ }
    skm := if warm then s.skm else { s.skm with earlyOn := true } }
  (s.startRng).tagApp old .start

/-- Main power is lost (R449): everything volatile goes; a tag commit is cut and the tag starts again if a field is
present. -/
def powerLost (s : State) : State :=
  let field := s.tag.field
  let s := (s.tagCut.cerFail 4).coldClear
  let s := s.tagOff
  let s := { s with tag := { s.tag with field := field, proto := if field then 1 else 0, commit := none } }
  { s with
    mode := if field then .field else .backup
    dbg := {}
    sys := {} }

end State

/-! ### Commands -/

/-- MAIN_POWER_GOOD (R449): from Backup or Field a cold Start begins; a tag session continues, and a commit that waited for
its energy reserve waits no more. -/
def execMainPowerGood (s : State) : Host.Outcome State Fault Refusal :=
  .next (if !s.fieldPower then s
    else
      let go := fun (c : TCommit) => { c with waits := false }
      { s with tag := { s.tag with commit := s.tag.commit.map go } }.startBegin false 1 0)

/-- MAIN_POWER_LOST (R449). -/
def execMainPowerLost (s : State) : Host.Outcome State Fault Refusal :=
  .next (if s.fieldPower then s else s.powerLost)

/-- RSTN (R497): low, then high, in any main mode: a cold Start. -/
def execRstn (s : State) : Host.Outcome State Fault Refusal :=
  .next (if s.fieldPower then s else s.startBegin false 2 0)

namespace State

/-- A cold Start is not yet through its steps. -/
def coldPending (s : State) : Bool := (s.sys.start.map (fun r => !r.warm)).getD false

/-- A write of SYS_RST (R458): COLD wins over WARM; WARM is refused in Lockdown (R453), and so is another key. WARM before a
cold Start is through its steps starts a cold Start again, as R445 has it for a failure (DEDUCED, log entry 53). -/
def sysRstWrite (s : State) (v : Word) : Option State :=
  if bits v 31 16 ≠ 0x5253 then none
  else if bit v 1 then some (s.startBegin false 3 0)
  else if bit v 0 then
    if s.mode = .lockdown then none
    else some (s.startBegin (!s.coldPending) 5 0)
  else some s

end State

/-- COLD (R458): SYS_RST is written with COLD. -/
def execCold (rq : Rq) (s : State) : Host.Outcome State Fault Refusal :=
  .next (s.asWrite rq Blk.SYS 0 R.SYS_RST 0x52530002 (fun s => s.sysRstWrite 0x52530002))

/-- WARM (R458): SYS_RST is written with WARM. -/
def execWarm (rq : Rq) (s : State) : Host.Outcome State Fault Refusal :=
  .next (s.asWrite rq Blk.SYS 0 R.SYS_RST 0x52530001 (fun s => s.sysRstWrite 0x52530001))

end Sys2Proof.Machine
end

