-- ==== Sys2Proof/Machine/Start.lean ====
section
/-! DEFINITION. The steps of a Start (17 R456, R457) and what each block does in them: OTP and lifecycle (R462), the flash step
(R338), the Riser's evaluation (R425-R428), the vault's rebuild (R154), deferred Flask responses (R403), the key store's
KEYS step (R239, R254, R264, R265), links. Steps 1 to 12 are carried out as one command. -/

namespace Sys2Proof.Machine

namespace State

/-! ### OTP (R462) -/

/-- Bytes of LIFECYCLE word `n`. -/
def lifeWord (s : State) (n : Nat) : List Byte := s.bytes (0x0C800040 + 8 * n) 8

/-- Programs LIFECYCLE word `n`. -/
def raiseWord (s : State) (n : Nat) : State := s.setBytes (0x0C800040 + 8 * n) (zeros 8)

/-- LIFECYCLE words programmed, up to the first that reads all ones. -/
def lifeCount (s : State) : Nat :=
  ((List.range 4).takeWhile (fun n => (s.lifeWord n).any (fun b => b != 0xFF))).length

end State

/-- The lifecycle state of a number of words. -/
def lifeOf (n : Nat) : Life :=
  match n with
  | 0 => .foundry | 1 => .vendor | 2 => .shipped | 3 => .commissioned | _ => .decommissioned

namespace State

/-- The OTP step: a word partly programmed is programmed to zero, the lifecycle state is read, the debug state follows it,
FAULTN begins to follow its style, and the identity copy in the tag bank is rewritten where it differs (R341). -/
def stepOtp (s : State) : State :=
  let n := s.lifeCount
  let s := (List.range n).foldl raiseWord s
  let s : State := { s with
    life := lifeOf n
    dbg := { s.dbg with st := if n = 0 then 2 else 0 }
    skm := { s.skm with styled := true, pulse := s.variant.faultnPulse } }
  s.setBytes 0x0C009000 s.identityNow

/-! ### The flash step (R338, R420) -/

/-- Heals the torn sectors of bank `b` from `lo` to `hi - 1` at once. -/
def healOwned (s : State) (b lo hi : Nat) : State :=
  ((s.torn.filter (fun x => x.bank == b && decide (lo ≤ x.sector) && decide (x.sector < hi))).map (·.sector)).foldl
    (fun s n => s.eraseEnd b n true 0) s

/-- Lists every torn sector with one FLASH_TORN record each, then heals the audit log, the card journal and the repair
maps. -/
def stepFlash (s : State) : State :=
  let l := s.torn
  let s := { s with torn := l.map (fun (x : Torn) => { x with listed := true }) }
  let s := l.foldl (fun s x => s.fault Blk.FLC 0 Kind.FLASH_TORN (sectorAddr x.bank x.sector)) s
  (((s.healOwned 3 1024 1792).healOwned 3 1792 1920).healOwned 3 2032 2048).healOwned 1 2032 2048

/-- SEQ of the ring is resumed from the audit log, and the early buffer is entered in order (R420). -/
def stepEarly (s : State) : State :=
  let l := s.skm.early
  let q := (s.skm.log.map (fun e => e.2.seq)).foldl max s.skm.seq
  let s := { s with skm := { s.skm with early := [], earlyOn := false, seq := q } }
  (l.foldl (fun s m => s.withFree (fun ms s => s.takeMsg m ms)) s).auditKick

/-! ### The Riser (R425-R428) -/

/-- Physical units of pools 0-3. -/
def poolUnits (p : Nat) : Nat := if p = 0 then 9 else if p = 3 then 10 else 3

/-- Unit `u` is retired. -/
def retired (s : State) (p u : Nat) : Bool := s.ris.ents.any (fun e => e.typ == 2 && e.pool == p && e.unit == u)

/-- A strike counts at RTC `now` (R426). -/
def strikeCounts (s : State) (now : Nat) (e : MapEnt) : Bool :=
  !s.rtcValid || !e.rtcOk || decide (now < e.rtc + s.fld R.RIS_CFG 7 0 * 88473600)

/-- Strikes of unit `u` that count. -/
def strikes (s : State) (now p u : Nat) : Nat :=
  (s.ris.ents.filter (fun e => e.typ == 1 && e.pool == p && e.unit == u && s.strikeCounts now e)).length

/-- Units with STRIKES strikes that count are retired. -/
def retireAll (s : State) (now : Nat) : State :=
  (List.range 4).foldl (fun s p => (List.range (poolUnits p)).foldl (fun s u =>
    if !s.retired p u ∧ s.fld R.RIS_CFG 11 8 ≤ s.strikes now p u then s.mapAdd 2 p u 0xFFFF 0 else s) s) s

/-- A unit that fails its Start test (R427, R169, R197): BIST_FAIL and a strike. -/
def bistFail (s : State) (p u : Nat) : State :=
  let s := (s.risMsg Kind.BIST_FAIL p u 0).mapAdd 1 p u 0xFFFF Kind.BIST_FAIL
  if p = 0 then s.fault Blk.SYM u Kind.LANE_SELFTEST 0
  else if p = 1 then (s.event Blk.CRU u 2).fault Blk.CRU u Kind.CRU_SELFTEST 0
  else s

/-- SRAM macro `m` has a failing row (R427, step 2): repaired while a spare row is left, else REPAIR_EXHAUSTED; a system
macro is refused to everyone, a unit's own macro fences the unit, any other ends Start in Lockdown. Answers the unit. -/
def rowFail (s : State) (m row : Nat) : State × Option (Nat × Nat) :=
  if (s.ris.ents.filter (fun e => e.typ == 5 && e.unit == m)).length < 4 then (s.mapAdd 5 13 m row 0, none)
  else
    let s := s.exhausted 13 m
    if m < 64 then ({ s with sramBad := s.sramBad ++ [m] }, none)
    else match Config.macroOwner m with
      | some x => (s, some x)
      | none => (s.lockdown 2 false, none)

/-- The units of pool `p` that serve after a Start, lowest first (R425); a warm Start keeps those that served and adds units
that pass (R428). -/
def willServe (s : State) (warm : Bool) (bad : List (Nat × Nat)) (p : Nat) : List Nat :=
  let ok := (List.range (poolUnits p)).filter (fun u => !s.retired p u && !bad.contains (p, u))
  if warm then
    let keep := (List.range (poolUnits p)).filter (fun u => s.unitServing p u && !s.unitFenced p u && !s.retired p u)
    keep ++ (ok.filter (fun u => s.unitFenced p u)).take (s.poolLimit p - keep.length)
  else ok.take (s.poolLimit p)

/-- Unit `u` is eligible: neither retired nor fenced. A warm Start tests fenced units only. -/
def startOk (s : State) (warm : Bool) (bad : List (Nat × Nat)) (p u : Nat) : Bool :=
  !s.retired p u && !(bad.contains (p, u) && (!warm || s.unitFenced p u))

/-- Serving units, spares and fenced units of pools 0 and 1. -/
def assignUnits (s : State) (warm : Bool) (bad : List (Nat × Nat)) : State :=
  let w0 := s.willServe warm bad 0
  let w1 := s.willServe warm bad 1
  let e0 := (List.range 9).filter (s.startOk warm bad 0)
  let e1 := (List.range 3).filter (s.startOk warm bad 1)
  let s := (List.range 9).foldl (fun s n =>
    let s := s.modLane n (fun l => { l with
      st := if w0.contains n then .dormant else if e0.contains n then .spare else .fenced })
    if e0.contains n then s.setHdr Blk.SYM n { s.hdr Blk.SYM n with fence := 0 } else s.setFence Blk.SYM n 0) s
  (List.range 3).foldl (fun s u =>
    let s := s.setUnit u {
      st := if w1.contains u then .idle else if e1.contains u then .spare else .fenced, up := w1.contains u }
    if e1.contains u then
      (s.setHdr Blk.CRU u { s.hdr Blk.CRU u with fence := 0 }).setFld (cruReg R.CRU_KAT u) 0 0 1
    else s.setFence Blk.CRU u 0) s

/-- Sources serve, up to eight: those in service before, then those tested again, then spares; a retired one is fenced. -/
def assignSrcs (s : State) : State :=
  let s := (List.range 10).foldl (fun s n =>
    if s.retired 3 n then (s.setSrc n { s.src n with st := .fenced }).setFence Blk.RNG 0 n else s) s
  let take := fun (st : SrcSt) (s : State) (n : Nat) =>
    if (s.src n).st = st then s.setSrc n { s.src n with st := if s.servingSrcs < 8 then .serving else .spare } else s
  let pass := fun (s : State) (st : SrcSt) => (List.range 10).foldl (take st) s
  pass (pass (pass s .settle) .test) .spare

/-- Roles (R271): the lowest pair not fenced takes SUPERVISOR and starts, the next takes SERVICE and is held. With none Esnan
enters Lockdown (R275). -/
def assignRoles (s : State) (warm : Bool) (bad : List (Nat × Nat)) : State :=
  let l := (List.range 3).filter (s.startOk warm bad 2)
  let s := (List.range 3).foldl (fun s p =>
    s.setPair p { fenced := !l.contains p, role := if l[0]? = some p then 1 else if l[1]? = some p then 2 else 0 }) s
  match l with
  | [] => s.lockdown 2 false
  | p :: _ => s.startPair p 1 false

/-- REPAIR_EXHAUSTED once for each of pools 0-3 below its limit (R427, step 6). -/
def belowAll (s : State) : State :=
  (List.range 4).foldl (fun s p =>
    if s.poolServing p < s.poolLimit p then
      let out := (List.range (poolUnits p)).filter (fun u => s.unitFenced p u)
      s.exhausted p (out.foldl max 0)
    else s) s

/-- The Riser's steps: tests, strikes, retirements, roles and serving units. -/
def stepRepair (s : State) (warm : Bool) (bad rows : List (Nat × Nat)) : State :=
  let s := { s with ris := { s.ris with seq := (s.ris.ents.getLast?.map (·.seq)).getD s.ris.seq } }
  let rows := if warm then [] else rows
  let (s, own) := rows.foldl (fun (x : State × List (Nat × Nat)) r =>
    let (t, o) := x.1.rowFail r.1 r.2
    (t, match o with
      | some u => u :: x.2
      | none => x.2)) (s, [])
  let tested := bad.filter (fun x => decide (x.1 < 3) && decide (x.2 < poolUnits x.1) && !s.retired x.1 x.2 &&
    (!warm || s.unitFenced x.1 x.2))
  let s := tested.foldl (fun s x => s.bistFail x.1 x.2) s
  let bad := tested ++ own
  s.rtcNow (fun now s =>
    let s := s.retireAll now
    let s := ((s.assignUnits warm bad).assignRoles warm bad).assignSrcs.belowAll
    { s with ris := { s.ris with evalDone := true } }.mapKick)

/-! ### The RNG step (R224) -/

/-- The RNG is in RUN, or has failed for want of sources; at a cold Start every HS_GEN takes a DRBG value. -/
def stepRng (s : State) (warm : Bool) : State :=
  let s :=
    if s.rng.st ≠ .startup then s
    else if s.servingSrcs < s.minSrc then (s.event Blk.RNG 0 5).rngFailed
    else
      let w := s.rng.word + 3
      { s with rng := { s.rng with
        st := .run, internal := true, word := w, lastW := Tbl.set (fun _ => 0) s.rng.lastW 4 w } }.event Blk.RNG 0 2
  (List.range 4).foldl (fun s p =>
    if warm then s.modPort p (fun k => { k with gen := k.gen + 1 })
    else s.withFree (fun n s => s.modPort p (fun k => { k with gen := w32 n }))) s

/-! ### The vault (R154) -/

/-- The counters of one slot after a Start. -/
def vslotStart (x : VSlot) (clean : Bool) : VSlot :=
  if x.status = 0 then x
  else if clean then { x with
    tx := if x.txD = 0 then 1 else x.txD, rx := x.rxD, doubt := false, fHi := 0, lLo := 0, txP := none, rxP := none }
  else
    let f := x.rxD + x.rxI
    { x with
      tx := min (x.txD + x.txI) (2 ^ 48 - 1), rx := f - 1, doubt := true, fHi := f
      lLo := if x.rxExact then x.rxD else x.rxD - x.rxI / 2, txP := none, rxP := none }

/-- The vault table is rebuilt: the stop was clean if the vault was closed and main power then lost, not before a warm
Start (R457). -/
def stepVault (s : State) (warm : Bool) : State :=
  let s := s.healOwned 2 0 2048
  let clean := s.vault.closed && !warm
  let s := { s with
    vslots := s.vslots.map (fun e => (e.1, vslotStart e.2 clean))
    vault := { s.vault with ready := true, lastClean := clean } }
  (List.range 4).foldl (fun s d =>
    let b := s.bind d
    (s.setReg (R.CTX_DOM_VB + d * 0x10) (w32 b.vbase)).setReg (R.CTX_DOM_VC + d * 0x10) (w32 b.vcnt)) s

/-! ### Key store (R239, R254, R255, R264, R265) -/

/-- The image region erased. -/
def imgWipe (s : State) : State :=
  { s.forget 0x09800000 0x09C00000 with kst := { s.kst with log := [], queue := [], page := 0, tail := 0, prog := false } }

/-- K_seal (R238). -/
def sealKey (s : State) : Option (List Byte) :=
  s.flk.kbb.map (fun kb => kdf (xorB (s.bytes 0x0C801000 32) kb) "ESN-SEAL" s.serial 32)

/-- A record that cannot be read under K_seal is skipped: counted and recorded (R255). -/
def badRecord (s : State) : State := (s.count R.KST_ERR 31 16).faultFree Blk.KST 0 Kind.KEY_IMAGE

/-- The newest record of `l` (oldest first) that K_seal opens; each newer one that it does not is skipped. -/
def pickRecord (s : State) (key : List Byte) : List ImgRec → State × Option ImgRec
  | [] => (s, none)
  | r :: t =>
    match s.pickRecord key t with
    | (s, some x) => (s, some x)
    | (s, none) => if r.key = key then (s, some r) else (s.badRecord, none)

/-- Slot `n` from its records (R254 steps 5 and 6): its invocation counter resumes at the newest durable reservation, and a
new INVOC record is appended (R252). -/
def loadSlot (s : State) (key : List Byte) (n : Nat) : State :=
  let own := s.kst.log.filter (fun r => r.slot == n && (r.body.code == 2 || r.body.code == 3))
  match s.pickRecord key own with
  | (s, none) => s
  | (s, some r) =>
    match r.body with
    | .slot _ k =>
      let inv := (s.kst.log.filter (fun q => q.slot == n && decide (r.seq < q.seq) && q.key == key)).filterMap (fun q =>
        match q.body with
        | .invoc v => some v
        | _ => none)
      let c := inv.foldl max k.invR
      let s := s.setSlot n { k with st := .loaded, dirty := false, inv := c, invR := c, invP := some (c + 2 ^ 20) }
      s.imgAppend n (.invoc (c + 2 ^ 20)) .none
    | _ => s

/-- The slots that have records in the image. -/
def imgSlots (s : State) : List Nat :=
  (List.range 4096).filter (fun n => s.kst.log.any (fun r => r.slot == n && r.body.code == 2))

/-- The default ranges of R243 for `P` active ports. -/
def rangeDefault (s : State) (d : Nat) : Word :=
  let p := s.variant.ports
  if d < p then w32 (3840 / p * 0x10000 + 256 + d * (3840 / p)) else 0

/-- KST_DOM_SL at its defaults. -/
def rangesDefault (s : State) : State :=
  (List.range 4).foldl (fun s d => s.setReg (R.KST_DOM_SL + 4 * d) (s.rangeDefault d)) s

/-- RANGES and CUSTODY of the image. -/
def loadOthers (s : State) (key : List Byte) : State :=
  let s := match s.pickRecord key (s.kst.log.filter (fun r => r.body.code == 5)) with
    | (s, some r) => match r.body with
      | .ranges l => (List.range 4).foldl (fun (s : State) d => s.setReg (R.KST_DOM_SL + 4 * d) (w32 (l.getD d 0))) s
      | _ => s
    | (s, none) => s.rangesDefault
  match (s.kst.log.filter (fun r => r.body.code == 6 && r.key == key)).getLast? with
  | some r => match r.body with
    | .custody id m n k => { s with kst := { s.kst with kcust := some k, setId := id, setM := m, setN := n } }
    | _ => s
  | none => s

/-- The key store is unsealed. -/
def unsealed (s : State) : State := ({ s with kst := { s.kst with unsealed := true } }).event Blk.KST 0 2

/-- Unseal (R254): a wrong or missing K_bb ends Start in Lockdown 4; an image without a SEAL record is sealed afresh
(R255). -/
def unsealImage (s : State) : State :=
  let s := s.healOwned 3 0 1024
  match s.sealKey with
  | none => s.rangesDefault.lockdown 4 false
  | some key =>
    let seals := s.kst.log.filter (fun r => r.body.code == 1)
    match seals.getLast? with
    | some r =>
      if r.key ≠ key then s.rangesDefault.lockdown 4 false
      else
        let s := { s with kst := { s.kst with kseal := some key, imgOk := true } }
        (s.imgSlots.foldl (fun s n => s.loadSlot key n) (s.loadOthers key)).unsealed
    | none =>
      let s := { s with kst := { s.kst with kseal := some key, imgOk := true } }
      ((s.imgAppend 0 (.seal (kcvOf key)) .none).loadOthers key).unsealed

/-- The key a custody record holds, if it opens under K_cust and its header agrees with its body: its slot and key, or its
ranges. -/
def custodyRead (s : State) (r : List Byte) : Option (Nat × ImgBody) :=
  match s.kst.kcust with
  | none => none
  | some kc =>
    match kwpUnwrap kc (r.drop 16) with
    | none => none
    | some p =>
      if p.take 16 ≠ r.take 16 ∨ p.length ≠ 16 + leAt r 3 2 then none
      else
        let b := p.drop 16
        if leAt r 0 1 = 2 then some (leAt r 1 2, .slot (leAt b 3 1) {
          st := .loaded, typ := leAt b 0 1, nbits := leAt b 1 2, policy := w32 (leAt b 4 4), inv := leAt b 8 8 + 2 ^ 40
          invR := leAt b 8 8 + 2 ^ 40 + 2 ^ 20, mat := b.drop 16 })
        else if leAt r 0 1 = 5 then some (0, .ranges ((List.range 4).map (fun d => leAt b (4 * d) 4)))
        else none

/-- Steps 3 to 5 of R264: the image is erased and sealed anew, every custody record is loaded and sealed into it, and the
CUSTODY record written. A record that does not open is skipped and counted, as in R255 (DEDUCED, log entry 54). -/
def restoreLoad (s : State) (recs : List (List Byte)) : State :=
  match s.sealKey with
  | none => s.lockdown 4 false
  | some key =>
    let s := s.imgWipe
    let s := { s with kst := { s.kst with kseal := some key, imgOk := true } }
    let s := s.imgAppend 0 (.seal (kcvOf key)) .none
    let one := fun (s : State) (r : List Byte) =>
      match s.custodyRead r with
      | some (n, .slot o k) => (s.setSlot n k).imgAppend n (.slot o k) .none
      | some (_, .ranges l) =>
        ((List.range 4).foldl (fun s d => s.setReg (R.KST_DOM_SL + 4 * d) (w32 (l.getD d 0))) s).imgAppend 0 (.ranges l) .none
      | _ => s.badRecord
    let s := recs.foldl one s
    let s := s.imgAppend 0 (.custody s.kst.setId s.kst.setM s.kst.setN (s.kst.kcust.getD [])) .none
    ({ s with kst := { s.kst with restore := false } }).unsealed

/-- R265: the image is erased, the SECRET row and the last LIFECYCLE word are programmed to zeros, the credential and ticket
records are erased in one commit (R358), the flag is cleared. -/
def decommission (s : State) : State :=
  let s := (s.imgWipe.setBytes 0x0C801000 (zeros 4096)).raiseWord 3
  let ff := List.replicate 1024 (0xFF : Byte)
  let s := s.commitWrite ([(14, ff), (15, ff)].filter (fun x => x.2 != s.record x.1))
  { s with life := .decommissioned, flk := { s.flk with decom := false }, tag := { s.tag with ctr := none } }

/-- K_eph at the KEYS step of a cold Start that runs no unseal (R239). -/
def drawEph (s : State) : State :=
  s.drawBytes 32 (fun k s => { s with kst := { s.kst with keph := some k } })

/-- ID_KEY is loaded into firmware slot 0 (R238). The policy word of the slot is not stated: free within its type. -/
def loadIdKey (s : State) : State :=
  let k := s.bytes 0x0C801020 32
  if k.all (fun b => b == 0xFF) ∨ k.all (fun b => b == 0) then s
  else s.withFree (fun n s => s.setSlot 0 { st := .loaded, typ := 0x10, policy := w32 n &&& usageAllowed 0x10 0, mat := k })

/-- The KEYS step. -/
def stepKeys (s : State) (warm : Bool) (recs : List (List Byte)) : State :=
  let s := if s.flk.decom then (if warm then s else s.rangesDefault).decommission else s
  let seals := s.life == .shipped || s.life == .commissioned
  let s :=
    if s.mode = .lockdown then (if warm then s else s.rangesDefault)
    else if warm then (if s.kst.restore then s.restoreLoad recs else s.imgKick)
    else if seals then s.unsealImage.loadIdKey
    else s.rangesDefault.drawEph.loadIdKey
  s.tryResolve

/-! ### Defaults and links (R64, R110, R124, R125) -/

/-- The Tundish's and ports' registers after a Start. -/
def stepLimits (s : State) : State :=
  let v := s.variant
  let p := v.ports
  let q := (v.qps - 4) / p
  (List.range 4).foldl (fun s d =>
    let on := decide (d < p)
    let put := fun (s : State) (a n : Nat) => s.setReg (a + d * 0x20) (w32 (if on then n else 0))
    let s := put s R.TUN_DOM_QP (q * 0x10000 + 4 + d * q)
    let s := put s R.TUN_DOM_SHQ (64 / p)
    let r := 4096 / p
    let s := put s R.TUN_DOM_INFL ((8192 - (p - 1) * r) * 0x10000 + r)
    let r := 2048 / p
    let s := put s R.TUN_DOM_PARK ((4096 - (p - 1) * r) * 0x10000 + r)
    let s := put s R.TUN_DOM_ENQ (v.enrolled / p)
    let s := s.setReg (R.HPT_CFG + d * 0x40000) (w32 (b2n on))
    s.modPort d (fun k => { k with share := if on then 64 / p else 0, newShare := none })) s

/-- Links train on every active port whose PERSTp is deasserted and whose clock has returned. -/
def stepLinks (s : State) : State :=
  (List.range s.variant.ports).foldl (fun s p =>
    s.modPort p (fun k => { k with training := !k.perst && s.clk.hrefOff / 2 ^ p % 2 == 0 })) s

/-- The PLL domains at full rate: from the crystal once it is judged (R440; XTAL_JUDGED when `xtal` says it has been judged
in the course of the Start), else from IOSC (R437); PLL_ENG is gated in Lockdown. -/
def stepClocks (s : State) (xtal : Bool) : State :=
  let s := if xtal ∧ !s.clk.judged then s.event Blk.CLK 0 2 else s
  let on := s.clk.judged || xtal
  let s := { s with clk := { s.clk with
    judged := on, refX := on, doms := (List.range 4).map (fun k => (k, ({ div := 1 } : PDom))) } }
  let s := if on then s.event Blk.CLK 0 3 else s
  if s.mode = .lockdown then s.setPdom 1 { div := 0xFF } else s

/-- SYS_SMS.DONE once bits [9:0] are all 1, with START_DONE and the duration, which is free. -/
def smsDone (s : State) : State :=
  if s.fld R.SYS_SMS 9 0 = 0x3FF ∧ !bit (s.reg R.SYS_SMS) 15 then
    ((s.setReg R.SYS_SMS 0x83FF).withFree (fun n s => s.setReg R.SYS_STIME (w32 n))).event Blk.SYS 0 3
  else s

/-- The end of the steps of a Start: every milestone but XTAL, which waits for the change of reference, and the images
verified. -/
def stepDone (s : State) (warm : Bool) : State :=
  let s := if warm then s.setFld R.SYS_RCAUSE 5 5 0 else s
  let s := s.setReg R.SYS_SMS (if s.clk.refX then 0x3FF else 0x3EF)
  { s with sys := { s.sys with start := none } }.smsDone

/-- The steps of a Start in order. -/
def runStart (s : State) (r : StartReq) (xtal : Bool) (bad rows : List (Nat × Nat)) (recs : List (List Byte)) : State :=
  let s := s.stepOtp.stepFlash
  let s := if r.warm then s.auditKick else s.stepEarly
  let s := s.stepLimits
  let s := ((s.stepRepair r.warm bad rows).stepRng r.warm).stepVault r.warm
  let s := s.flkDeferred
  let s := if s.flk.pendLock then { s with flk := { s.flk with pendLock := false } }.lockdown 1 false else s
  let s := if r.lock ≠ 0 then s.lockdown r.lock false else s
  (((s.stepKeys r.warm recs).stepLinks).stepClocks xtal).stepDone r.warm

end State

/-- COLD_START (R456): the steps of a cold Start that has begun, from POR on: the units `bad` fail their Start tests, `rows` are
the failing SRAM rows (macro, row), and `xtal` says that the crystal is judged, and the PLLs have changed reference, in the
course of them. -/
def execColdStart (xtal : Bool) (bad rows : List (Nat × Nat)) (s : State) : Host.Outcome State Fault Refusal :=
  .next (match s.sys.start with
    | some r => if r.warm ∨ s.clk.waiting then s else s.runStart r xtal bad rows []
    | none => s)

/-- WARM_START (R457): the steps of a warm Start that has begun: the fenced units `bad` fail their tests again, and `recs` are
the custody records a RESTORE reads (R264). -/
def execWarmStart (bad : List (Nat × Nat)) (recs : List (List Byte)) (s : State) : Host.Outcome State Fault Refusal :=
  .next (match s.sys.start with
    | some r => if r.warm ∧ !s.clk.waiting then s.runStart r true bad [] recs else s
    | none => s)

end Sys2Proof.Machine
end

