-- ==== Sys2Proof/Machine/Ceremony.lean ====
section
/-! DEFINITION. Custodian shares and ceremonies (09 R261-R267): opening, the cards written and collected, combining, the action
of each kind; what identity injection does once its cards are collected (18 R465, steps 4 to 6); the quench by firmware. -/

namespace Sys2Proof.Machine

/-! ### Shamir's scheme over GF(2⁸) -/

/-- Product in GF(2⁸) with x⁸ + x⁴ + x³ + x + 1. -/
def gf8Mul (a b : Byte) : Byte :=
  ((List.range 8).foldl (fun (x : Byte × Byte) i =>
    let acc := if b.getLsbD i then x.1 ^^^ x.2 else x.1
    (acc, if x.2.getLsbD 7 then (x.2 <<< 1) ^^^ 0x1B else x.2 <<< 1)) (0, a)).1

/-- Inverse in GF(2⁸): a²⁵⁴. -/
def gf8Inv (a : Byte) : Byte :=
  ((List.range 7).foldl (fun (x : Byte × Byte) _ =>
    let sq := gf8Mul x.2 x.2
    (gf8Mul x.1 sq, sq)) (1, a)).1

/-- Share `x` of a secret, with the random coefficients `cs` of degrees 1 to M - 1. -/
def shareAt (secret : List Byte) (cs : List (List Byte)) (x : Nat) : List Byte :=
  let v : Byte := BitVec.ofNat 8 x
  let r := cs.foldl (fun (a : List Byte × Byte) c =>
    let p := gf8Mul a.2 v
    (xorB a.1 ((slice c 0 32).map (gf8Mul p)), p)) (secret, 1)
  r.1

/-- The secret from shares `(x, y)`: Lagrange interpolation at 0. -/
def interpolate (l : List (Nat × List Byte)) : List Byte :=
  l.foldl (fun acc s =>
    let w := l.foldl (fun (w : Byte) t =>
      if t.1 = s.1 then w
      else gf8Mul w (gf8Mul (BitVec.ofNat 8 t.1) (gf8Inv (BitVec.ofNat 8 t.1 ^^^ BitVec.ofNat 8 s.1)))) 1
    xorB acc ((slice s.2 0 32).map (gf8Mul w))) (zeros 32)

/-! ### Share objects (R261) -/

/-- The 64-byte object of share `x`. -/
def shareObj (ksw : List Byte) (x m n : Nat) (setId y : List Byte) : List Byte :=
  [0x01] ++ leBytes 1 x ++ leBytes 1 m ++ leBytes 1 n ++ zeros 4 ++ slice setId 0 8 ++
    kwWrap ksw (slice y 0 32 ++ leBytes 1 x ++ leBytes 1 m ++ leBytes 1 n ++ zeros 5)

/-- A blank object: 64 bytes, all 00 or all FF (DEDUCED, log entry 55). -/
def blankObj (o : List Byte) : Bool := o.length == 64 && (o.all (fun b => b == 0) || o.all (fun b => b == 0xFF))

namespace State

/-- K_sw of a set (R238). -/
def shareKey (s : State) (setId : List Byte) : List Byte := kdf (s.bytes 0x0C801000 32) "ESN-SHARE" setId 32

/-- Judges a share object in COLLECT (R263): its code, and the share when accepted. -/
def judgeShare (s : State) (o : List Byte) : Nat × Nat × Nat × Nat × List Byte :=
  let c := s.kst.cer
  let x := leAt o 1 1
  let m := leAt o 2 1
  let n := leAt o 3 1
  if o.length ≠ 64 then (1, 0, 0, 0, [])
  else if leAt o 0 1 ≠ 1 ∨ slice o 8 8 ≠ c.setId then (2, 0, 0, 0, [])
  else match kwUnwrap (s.shareKey c.setId) (o.drop 16) with
    | none => (3, 0, 0, 0, [])
    | some p =>
      if p.drop 32 ≠ leBytes 1 x ++ leBytes 1 m ++ leBytes 1 n ++ zeros 5 then (3, 0, 0, 0, [])
      else if c.m ≠ 0 ∧ (m ≠ c.m ∨ n ≠ c.n) then (4, 0, 0, 0, [])
      else if c.shares.any (fun e => e.1 == x) then (5, 0, 0, 0, [])
      else (0, x, m, n, p.take 32)

/-! ### Opening (R262) -/

/-- An open is recorded, and cards already seated are activated. -/
def cerStart (s : State) (c : Cer) : State :=
  (({ s with kst := { s.kst with cer := c } }).faultFree Blk.KST 0 Kind.CEREMONY).ccKick

/-- An open that fails with FAIL 1: the custody card is absent. -/
def cerAbsent (s : State) (kind : Nat) : State :=
  (({ s with kst := { s.kst with cer := { kind := kind } } }).faultFree Blk.KST 0 Kind.CEREMONY).cerEnd 6 1

/-- Shares of a new secret are made and are to be written (COMMISSION, and injection as kind 0). -/
def cerWrite (s : State) (kind m n : Nat) : State :=
  s.drawBytes 32 (fun k s => s.drawBytes 8 (fun id s => s.drawBytes 256 (fun cs s =>
    let k := slice k 0 32
    let coef := (List.range (m - 1)).map (fun i => slice cs (32 * i) 32)
    s.cerStart { st := 1, kind := kind, m := m, n := n, setId := slice id 0 8, secret := k, kcv := kcvOf k
                 shares := (List.range n).map (fun i => (i + 1, shareAt k coef (i + 1))) })))

/-- Shares of a named set are to be collected. -/
def cerCollect (s : State) (kind m n : Nat) (setId kcv : List Byte) : State :=
  s.cerStart { st := 2, kind := kind, m := m, n := n, setId := setId, kcv := kcv }

/-- May a ceremony of `kind` be opened now? -/
def cerMay (s : State) (kind m n : Nat) : Bool :=
  let svc := s.mode == .service
  let lck := s.mode == .lockdown
  if kind = 1 then s.life == .shipped && svc && decide (2 ≤ m) && decide (m ≤ n) && decide (n ≤ 8)
  else if kind = 2 then s.life == .commissioned && lck
  else if kind = 3 then s.life == .vendor && svc
  else if kind = 4 then s.life == .commissioned && (svc || lck)
  else false

/-- The set of the custody card's current header. -/
def cardSet (s : State) : Option CHdr := if s.crd.present then s.curGen.map (·.2) else none

/-- Opens a ceremony. -/
def cerOpen (s : State) (kind m n : Nat) : State :=
  if kind = 1 then s.cerWrite 1 m n
  else if kind = 3 then s.cerCollect 3 0 0 (s.bytes 0x0C800140 8) (s.bytes 0x0C800148 8)
  else if kind = 4 ∧ s.kst.kcust.isSome then
    s.cerCollect 4 s.kst.setM s.kst.setN s.kst.setId (kcvOf (s.kst.kcust.getD []))
  else match s.cardSet with
    | some h => s.cerCollect kind h.m h.n h.setId h.kcv
    | none => s.cerAbsent kind

/-- A ceremony is in progress. -/
def cerRuns (s : State) : Bool := decide (1 ≤ s.kst.cer.st) && decide (s.kst.cer.st ≤ 4)

/-- A write of KST_CER_CMD; none is a violation. -/
def cerCmdWrite (s : State) (v : Word) : Option State :=
  let kind := bits v 3 0
  let m := bits v 11 8
  let n := bits v 7 4
  if bit v 31 ∧ (s.cerRuns ∨ !s.cerMay kind m n) then none
  else
    let s := s.setReg R.KST_CER_CMD (v &&& 0xFFF)
    let s := if bit v 30 then s.cerFail 2 else s
    some (if bit v 31 then s.cerOpen kind m n else s)

/-! ### The actions (ACT) -/

/-- AUTH_HASH of DBG page 2. -/
def authHash (s : State) : List Byte := (List.range 8).flatMap (fun k => leBytes 4 (s.reg (0x21002040 + 4 * k)).toNat)

/-- Programs `l` at OTP offset `o` if it is blank. -/
def otpFill (s : State) (o : Nat) (l : List Byte) : State :=
  if (s.bytes (0x0C800000 + o) l.length).all (fun b => b == 0xFF) then s.setBytes (0x0C800000 + o) l else s

/-- K_bb is drawn into Flask (R404). -/
def drawKbb (s : State) : State :=
  s.drawBytes 32 (fun k s => { s with flk := { s.flk with kbb := some (slice k 0 32) } })

/-- COMMISSION: K_cust held, CUSTODY record, customer authority, LIFECYCLE word 2 last (R464). The place of the customer
entry, 0x0120, is DEDUCED (log entry 56). -/
def actCommission (s : State) (c : Cer) (k : List Byte) : State :=
  let s := { s with kst := { s.kst with kcust := some k, setId := c.setId, setM := c.m, setN := c.n } }
  let s := s.imgAppend 0 (.custody c.setId c.m c.n k) .none
  let s := (s.otpFill 0x120 s.authHash).raiseWord 2
  ({ s with life := .commissioned }.cerEnd 5 0).ticketEnd 6

/-- RESTORE (R264, steps 1 and 2). -/
def actRestore (s : State) (c : Cer) (k : List Byte) : State :=
  let s := s.drawKbb
  let s := { s with kst := { s.kst with kcust := some k, setId := c.setId, setM := c.m, setN := c.n, restore := true } }
  (s.cerEnd 5 0).startBegin true 6 0

/-- RAISE: a new K_bb, LIFECYCLE word 1. -/
def actRaise (s : State) : State :=
  ({ s.drawKbb.raiseWord 1 with life := .shipped }.cerEnd 5 0).ticketEnd 6

/-- DECOMMISSION (R265): the quench with K_bb, DECOM_PENDING, a warm Start. -/
def actDecommission (s : State) : State :=
  let s := (s.cerEnd 5 0).quench true
  { s with flk := { s.flk with decom := true } }.startBegin true 7 0

/-- Identity injection after its cards are collected (R465, steps 4 to 6): SET_ID and KCV, LIFECYCLE word 0 last; the state
is VENDOR and the debug state CLOSED at once. -/
def actInjection (s : State) (c : Cer) : State :=
  let s := (s.otpFill 0x140 c.setId).otpFill 0x148 c.kcv
  let s := (s.raiseWord 0).cerEnd 5 0
  let s := { s with life := .vendor, dbg := { s.dbg with st := 0, injStep := 6 } }
  (s.injEnd 0).event Blk.DBG 0 6

/-- COMBINE: the secret is interpolated and its KCV compared; then the action of the kind. -/
def cerCombine (s : State) : State :=
  let c := s.kst.cer
  let k := interpolate c.shares
  let s := { s with kst := { s.kst with cer := { c with st := 4, shares := [], secret := [] } } }
  if kcvOf k ≠ c.kcv then
    let s := s.cerEnd 6 3
    if c.kind = 0 ∧ s.dbg.injOn then s.injEnd 4 else s
  else if c.kind = 1 then s.actCommission c k
  else if c.kind = 2 then s.actRestore c k
  else if c.kind = 3 then s.actRaise
  else if c.kind = 4 then s.actDecommission
  else s.actInjection c

/-! ### Cards (R262, R263) -/

/-- A card in WRITE: PUT SHARE of the next x on a card that gives none; N written leads to COLLECT. -/
def cerPut (s : State) (resp : Option (List Byte)) (put : Bool) : State :=
  let c := s.kst.cer
  let give := match resp with
    | none => true
    | some o => blankObj o
  if !give then s.faultFree Blk.KST 0 Kind.CEREMONY
  else if !put then s.cerResult 1
  else
    let acc := c.acc * 2 + 1
    let s := { s with kst := { s.kst with cer := { c with acc := acc } } }.cerResult 0
    if acc + 1 = 2 ^ c.n then
      { s with kst := { s.kst with cer := { s.kst.cer with st := 2, acc := 0, shares := [], secret := [] } } }
    else s

/-- A card in COLLECT: judged; M accepted lead to COMBINE. -/
def cerTake (s : State) (resp : Option (List Byte)) : State :=
  match resp with
  | none => s.cerResult 1
  | some o =>
    let (code, x, m, n, y) := s.judgeShare o
    if code ≠ 0 then s.cerResult code
    else
      let c := s.kst.cer
      let s := { s with kst := { s.kst with cer := { c with
        m := m, n := n, acc := setBit c.acc (x - 1) % 256, shares := c.shares ++ [(x, y)] } } }
      let s := s.cerResult 0
      if m ≤ s.kst.cer.shares.length then s.cerCombine else s

end State

/-- The word of KST_CER_CMD that opens a ceremony. -/
def cerWord (kind m n : Nat) : Word := w32 (0x80000000 + m % 16 * 0x100 + n % 16 * 0x10 + kind)

/-! ### Commands -/

/-- COMMISSION (R262): KST_CER_CMD is written with GO, KIND 1, M and N. -/
def execCommission (rq : Rq) (m n : Fin 16) (s : State) : Host.Outcome State Fault Refusal :=
  .next (s.asWrite rq Blk.KST 0 R.KST_CER_CMD (cerWord 1 m n) (fun s => s.cerCmdWrite (cerWord 1 m n)))

/-- RESTORE (R264): KST_CER_CMD is written with GO and KIND 2. -/
def execRestore (rq : Rq) (s : State) : Host.Outcome State Fault Refusal :=
  .next (s.asWrite rq Blk.KST 0 R.KST_CER_CMD (cerWord 2 0 0) (fun s => s.cerCmdWrite (cerWord 2 0 0)))

/-- RAISE (R262): KST_CER_CMD is written with GO and KIND 3. -/
def execRaise (rq : Rq) (s : State) : Host.Outcome State Fault Refusal :=
  .next (s.asWrite rq Blk.KST 0 R.KST_CER_CMD (cerWord 3 0 0) (fun s => s.cerCmdWrite (cerWord 3 0 0)))

/-- DECOMMISSION (R265): KST_CER_CMD is written with GO and KIND 4. -/
def execDecommission (rq : Rq) (s : State) : Host.Outcome State Fault Refusal :=
  .next (s.asWrite rq Blk.KST 0 R.KST_CER_CMD (cerWord 4 0 0) (fun s => s.cerCmdWrite (cerWord 4 0 0)))

/-- ABORT (R262): KST_CER_CMD is written with ABORT. -/
def execAbort (rq : Rq) (s : State) : Host.Outcome State Fault Refusal :=
  .next (s.asWrite rq Blk.KST 0 R.KST_CER_CMD 0x40000000 (fun s => s.cerCmdWrite 0x40000000))

/-- CEREMONY_CARD_RESULT (R263): the card active in slot `i` answers GET SHARE with `resp` (none: no share), and PUT SHARE
with `put`; the slot is deactivated when its part is over. -/
def execCeremonyCardResult (i : Fin 2) (resp : Option (List Byte)) (put : Bool) (s : State) :
    Host.Outcome State Fault Refusal :=
  .next (
    if (s.cslot i).st ≠ 4 then s
    else
      let s := s.ccDeact i
      if s.kst.cer.st = 1 then (s.cerPut resp put).ccKick
      else if s.kst.cer.st = 2 then s.cerTake resp
      else s)

/-- CEREMONY_TIMEOUT (R262): the ceremony has run for CER_TMO seconds. -/
def execCeremonyTimeout (s : State) : Host.Outcome State Fault Refusal :=
  .next (
    let inj := s.cerRuns && s.kst.cer.kind == 0 && s.dbg.injOn
    let s := s.cerFail 2
    if inj then s.injEnd 4 else s)

/-- QUENCH (R266): KST_QCTL is written with its key and QUENCH. -/
def execQuench (rq : Rq) (s : State) : Host.Outcome State Fault Refusal :=
  .next (s.asWrite rq Blk.KST 0 R.KST_QCTL 0x51430001 (fun s => some (s.quenchLock 3 false)))

end Sys2Proof.Machine
end

