-- ==== Sys2Proof/Machine/Clocks.lean ====
section
/-! DEFINITION. Clocks, leave and modes (17): judging the crystal (R438, R439), ramps (R441), a source's failure and return
(R442-R445), grants and the budget (R446-R448), Service, Hold and Lockdown (R450-R455), and how flash operations end. -/

namespace Sys2Proof.Machine

/-- D0 of a PLL domain (R436). -/
def dZero (k : Nat) : Nat := if k = 0 then 21 else if k = 1 then 25 else if k = 2 then 17 else 5

namespace State

/-! ### Judging the crystal (R438, R439) -/

/-- The crystal is being judged: main power is there and it is not judged. -/
def judging (s : State) : Bool := !s.fieldPower && !s.clk.judged

/-- Consecutive windows that have passed (CLK_XCNT.RUN). -/
def xRun (s : State) : Nat := s.fld R.CLK_XCNT 7 0

end State

/-- A count of `n` edges passes a window at a tolerance of `ppm`: |n − 533.33| ≤ 533.33 × ppm × 10⁻⁶, times 3 × 10⁶. -/
def windowPass (n ppm : Nat) : Bool :=
  decide (3 * n * 1000000 ≤ 1600 * (1000000 + ppm)) && decide (1600 * 1000000 ≤ 3 * n * 1000000 + 1600 * ppm)

namespace State

/-- The method's count has been reached: CLK_XSTAB units, or CLK_XWIN windows. -/
def xReached (s : State) : Bool :=
  if s.clk.compat then decide (s.fld R.CLK_XWIN 7 0 ≤ s.xRun) else decide (s.fld R.CLK_XSTAB 11 0 ≤ s.clk.judgeAt)

/-- The crystal is judged stable. -/
def xJudge (s : State) : State := { s with clk := { s.clk with judged := true } }.event Blk.CLK 0 2

/-- A write of CLK_XSTAB: 0 is a violation; a value already passed judges the crystal at once (R438). -/
def xstabWrite (s : State) (v : Word) : Option State :=
  if bits v 11 0 = 0 then none
  else
    let s := s.setReg R.CLK_XSTAB (w32 (bits v 11 0))
    some (if s.judging ∧ !s.clk.compat ∧ s.xReached then s.xJudge else s)

/-! ### Ramps (R440, R441) -/

/-- Any domain is ramping. -/
def ramping (s : State) : Bool := s.clk.doms.any (fun e => e.2.aim != 0)

/-- The XTAL milestone: every domain runs from the crystal at full rate, or is gated. -/
def xtalStep (s : State) : State :=
  if s.clk.refX ∧ !s.ramping ∧ !bit (s.reg R.SYS_SMS) 4 ∧ s.sys.start.isNone then
    (s.setFld R.SYS_SMS 4 4 1).smsDone
  else s

/-- A ramp ends. -/
def rampDone (s : State) : State := (s.event Blk.CLK 0 3).xtalStep

/-- Domain `k` moves one step (R441): up by one lower divider from D0 to 1, down by one higher divider to D0 and then IOSC;
there it relocks and rises again, or is gated. -/
def rampStep (s : State) (k : Nat) : State :=
  let d := s.pdom k
  let low := fun (s : State) =>
    if d.aim = 2 then
      let s := s.setPdom k { div := 0, aim := 1 }
      if (List.range 4).any (fun j => (s.pdom j).aim == 2) then s else { s with clk := { s.clk with refX := true } }
    else (s.setPdom k { div := 0xFF, aim := 0 }).rampDone
  if d.aim = 0 then s
  else if d.aim = 1 then
    let n := if d.div = 0 then dZero k else d.div - 1
    if n ≤ 1 then (s.setPdom k { div := 1, aim := 0 }).rampDone else s.setPdom k { d with div := n }
  else if d.div = 0 then low s
  else if d.div < dZero k then s.setPdom k { d with div := d.div + 1 }
  else s.setPdom k { d with div := 0 } |> low

/-! ### A source fails (R442-R444) -/

end State

/-- The bit of a source in State.clkFailed. -/
def srcBit (c : Nat) : Nat := if c < 16 then 2 ^ c else 2 ^ (c - 8)

namespace State

/-- HREFCLKp is monitored (R442): PORT_EN and PERSTp deasserted, and the port not held for want of its clock. -/
def hrefMon (s : State) (p : Nat) : Bool :=
  !s.fieldPower && decide (p < s.variant.ports) && s.portEn p && !(s.port p).perst && s.clk.hrefOff / 2 ^ p % 2 == 0

/-- Source `c` is one that can fail now (R442). -/
def canFail (s : State) (c : Nat) : Bool :=
  if s.fieldPower then false
  else if c = 1 then s.clk.judged
  else if 2 ≤ c ∧ c ≤ 5 then (s.pdom (c - 2)).div != 0xFF && !(s.clk.waiting && s.clkFailed / srcBit c % 2 == 1)
  else if 0x10 ≤ c ∧ c < 0x14 then s.hrefMon (c - 0x10) && s.clkFailed / srcBit c % 2 == 0
  else false

/-- SYS_MODE.MODE: 4 while Esnan waits. -/
def sysMode (s : State) : Nat := if s.clk.waiting then 4 else s.modeCode

/-- The record of one failed source: CLOCK_LOSS, CLK_LOSS. -/
def lossOf (ramp mode : Nat) (s : State) (c : Nat) : State :=
  let s := ((s.count R.CLK_LOSS 31 16).setFld R.CLK_LOSS 8 8 ramp).setFld R.CLK_LOSS 7 0 c
  let s := { s with clkFailed := if s.clkFailed / srcBit c % 2 = 1 then s.clkFailed else s.clkFailed + srcBit c }
  s.fault Blk.CLK 0 Kind.CLOCK_LOSS (c + ramp * 0x100 + mode * 0x200)

/-- The judgement of the crystal starts again (R445). -/
def xRestart (s : State) : State :=
  { s.setFld R.CLK_XCNT 7 0 0 with clk := { s.clk with judged := false, refX := false, judgeAt := 0 } }

/-- A port in electrical idle. -/
def portIdle (k : HPort) : HPort :=
  { k with linkUp := false, training := false, speed := 0, x1 := false, l1 := false, d3 := false, parkQ := [] }

/-- The safe states of R443: links idle, jobs abandoned without completion, leave and flash operations dropped, cards
deactivated, no reader answered, pairs halted, RNG off (R224). A tag commit completes without an answer (R460). -/
def safeState (s : State) : State :=
  let s := ((s.jobs ++ s.fwJob.toList ++ s.fwWait.toList).foldl abandon s).flashCut
  let s := (s.ccDeact 0).ccDeact 1
  let hush := fun (c : TCommit) => if c.who.reader then
    { c with who := TagWho.gone (c.who == TagWho.ticket || c.who == TagWho.gone true) } else c
  let halt := fun (k : KPair) => if k.run = PRun.running ∨ k.run = PRun.waiting ∨ k.run = PRun.debugHalt then
    { k with run := PRun.halted } else k
  let fetch := fun (k : QP) => { k with fetch := none, reread := none, ra := none }
  { s with
    ports := s.ports.map (fun e => (e.1, portIdle e.2))
    qps := s.qps.map (fun e => (e.1, fetch e.2))
    pairs := s.pairs.map (fun e => (e.1, halt e.2))
    lanes := s.lanes.map (fun e => (e.1, laneClear e.2))
    units := s.units.map (fun e => (e.1, unitClear e.2))
    jobs := [], fwJob := none, fwWait := none, staging := [], leavePend := [], leaveHeld := [], installs := []
    vault := { s.vault with pages := [], logWs := [], prog := false, ready := false }
    kst := { s.kst with prog := false }
    crd := { s.crd with run := none, op := 0, resolving := false, jq := [], jprog := false }
    tag := { s.tag with hostQ := [], held := none, tx := [], commit := s.tag.commit.map hush }
    rng := { s.rng with st := RngSt.off, internal := false, buf := [], waitQ := [], due := false }
    sys := { s.sys with holdPend := false } }

/-- The sources `l` fail together: one record each in SOURCE order; Esnan waits (R443). A source that fails during a judgement
restarts it (R445). -/
def clockFail (s : State) (l : List Nat) : State :=
  let l := (List.range 20).filter (fun c => l.contains c && s.canFail c)
  if l.isEmpty then s
  else
    let ramp := b2n s.ramping
    let mode := s.sysMode
    let s := l.foldl (lossOf ramp mode) s
    let s := if l.contains 1 then s.xRestart else s
    if s.clk.waiting then s
    else
      let before := s.mode
      let s := s.safeState
      { s with mode := .start, clk := { s.clk with waiting := true, before := before, doms := [] } }

/-- The crystal fails its judgement in progress: it restarts. -/
def judgeAgain (s : State) (l : List Nat) : State :=
  if s.clk.waiting ∧ l.contains 1 ∧ !s.clk.judged then s.xRestart else s

/-- Every failed source but the reference clocks has returned. -/
def othersBack (s : State) : Bool := s.clkFailed / 2 % 2 == 0 || s.clk.judged

/-- The Start that follows a wait (R445, R453): cold again before REPAIR in a cold Start, the messages not yet entered kept
(DEDUCED, log entry 61); in Lockdown it ends in Lockdown. -/
def returnStart (s : State) : State :=
  let lock := if s.clk.before = Mode.lockdown then s.sys.reason else (s.sys.start.map (·.lock)).getD 0
  let s := { s with clk := { s.clk with refX := true } }
  if s.coldPending then
    let t := s.startBegin false 4 0
    { t with inbox := s.inbox ++ t.inbox, skm := { t.skm with early := s.skm.early } }
  else s.startBegin true 4 lock

/-! ### Leave (R446-R448) -/

/-- What a grant sets going. -/
def granted (s : State) (l : Leave) : State :=
  let give := fun (o : FOp) => if o.rq.what = l.what then { o with granted := true } else o
  let s := { s with flashOn := s.flashOn.map give }
  match l.what with
  | .vaultPage => { s with vault := { s.vault with prog := true } }
  | .image =>
    let k := s.kst.kseal.getD []
    let key := fun (r : ImgRec) => { r with key := k }
    { s with kst := { s.kst with prog := true, queue := (s.kst.queue.take 1).map key ++ s.kst.queue.drop 1 } }
  | .journal => { s with crd := { s.crd with jprog := true } }
  | .cru n => if (s.unit n).st = UnitSt.leave then s.modUnit n (fun u => { u with st := .busy }) else s
  | .sd => s.cardGranted
  | .cc i => s.ccGranted i
  | .flash =>
    match s.flashOn.find? (fun o => o.rq.what == .flash) with
    | some o =>
      if o.rq.bank < 2 ∧ (o.rq.op = 1 ∨ o.rq.op = 2) then s.setFld R.SYS_RCAUSE 5 5 1 else s
    | none => s
  | .vaultErase | .imageErase | .audit | .auditErase | .journalErase | .fieldMap | .heal _ _ | .lane _ => s

/-- A waiting request is refused as LEAVE_IMPOSSIBLE; its requester ends what asked it (R446). -/
def leaveRefused (s : State) (l : Leave) : State :=
  let s := (s.leaveImpossible l.blk l.inst l.tok).releaseLeave l.what
  match l.what with
  | .vaultPage => { s with vault := { s.vault with refused := true } }
  | .lane n => (s.laneDormant n).endWaiters (fun _ => true) 5 0
  | .cru n => match s.unitJob n with
    | some j =>
      let fw := (s.unit n).fw
      (s.freeUnit n .idle).cruFail fw j St.ENGINE_UNAVAILABLE 5 0x016B 60
    | none => s.freeUnit n .idle
  | .flash => s.flcEnd 5
  | .sd =>
    if s.crd.st = 2 then { s with crd := { s.crd with st := 6, hdrs := [] } }
    else if s.crd.run.isSome then s.genFail St.ENGINE_UNAVAILABLE 0x01B7
    else if s.crd.op = 2 then s.custEnd St.ENGINE_UNAVAILABLE 0x01B7
    else s
  | .cc i => s.cardFail i
  | .vaultErase | .image | .imageErase | .audit | .auditErase | .journal | .journalErase | .fieldMap | .heal _ _ => s

/-- A write of PWR_BUDGET (R446, R448): outside the standing reservation to 950 it is a violation; grants stand, requests that
have become impossible are refused in queue order, and the vault asks again (R153). -/
def budgetWrite (s : State) (v : Word) : Option State :=
  let n := bits v 9 0
  if n < s.variant.standing ∨ 950 < n then none
  else
    let s := s.setReg R.PWR_BUDGET (w32 n)
    let bad := s.leavePend.filter (fun l => decide (l.tok > n - s.variant.standing))
    let s := bad.foldl leaveRefused s
    some (if s.vault.refused then s.vaultKick else s)

/-! ### Flash operations end (R330-R334, R344) -/

/-- A page program of a hardware client fails its verify (R333): the page holds undefined values, the sector is weak, and the
client asks again. -/
def clientProgFail (s : State) (o : FReq) : State :=
  let a := match o.what with
    | .vaultPage => pageAddr (s.vault.seq + 1)
    | .image => 0x09800000 + (s.kst.page % 16384) * 256
    | .audit => 0x09800000 + 1024 * 0x1000 + (s.skm.logPage % 12288) * 256
    | .journal => 0x09800000 + 1792 * 0x1000 + (s.crd.jpage % 2048) * 256
    | _ => sectorAddr o.bank o.sector
  let s := ((s.releaseLeave o.what).scramble a 256).weaken o.bank o.sector a
  match o.what with
  | .vaultPage => { s with vault := { s.vault with prog := false } }.vaultKick
  | .image => { s with kst := { s.kst with prog := false } }.imgKick
  | .audit => s.auditKick
  | .journal => { s with crd := { s.crd with jprog := false } }.jKick
  | .fieldMap => s.mapKick
  | _ => s

/-- An erase of a hardware client ends. -/
def clientErased (s : State) (o : FReq) (ok : Bool) (pulses : Nat) : State :=
  let s := s.eraseEnd o.bank o.sector ok pulses
  if !ok then s.releaseLeave o.what
  else match o.what with
    | .vaultErase => s.vaultErased
    | .imageErase => s.imgErased
    | .auditErase => s.auditErased
    | .journalErase => s.journalErased
    | _ => s.releaseLeave o.what

/-- The operation bank `b` carries out ends, its verify `ok` or failed, after `pulses` pulses. A client's page that succeeds
ends by the durable page's own command. -/
def flashEnd (s : State) (b : Nat) (ok : Bool) (pulses : Nat) : State :=
  match s.opOf b with
  | none => s
  | some o =>
    if o.rq.what = .flash then s.fwOpEnd o.rq ok pulses
    else if o.rq.op = 2 then s.clientErased o.rq ok pulses
    else if ok then s
    else s.clientProgFail o.rq

/-! ### Modes (R450-R454) -/

/-- A request for Service is allowed (R451, R450). -/
def serviceOk (s : State) : Bool :=
  !s.sys.holdPend && !s.clk.waiting &&
    (s.mode == .hold ||
      (s.mode == .start && s.sys.start.isNone && bit (s.reg R.SYS_SMS) 15 &&
        (s.kst.unsealed || s.life == .foundry || s.life == .vendor || s.life == .decommissioned)))

/-- Service is entered: PLL_ENG is started again from Hold, firmware regions and the tag bank are healed if AUTOHEAL (R338),
and the tag changes application (R352). -/
def enterService (s : State) : State :=
  let old := s.mode
  let s := { s with mode := .service }
  let s := if old = Mode.hold then s.setPdom 1 { div := 0, aim := 1 } else s
  let s := if bit (s.reg R.FLC_CFG) 4 then s.healAll else s
  (s.tagApp old .service).event Blk.SYS 0 2

/-- A write of SYS_MREQ (R450): another key or requester is a violation; a request the table does not allow sets
REQ_REFUSED. -/
def mreqWrite (s : State) (rq : Rq) (v : Word) : Option State :=
  let refused := some { s with sys := { s.sys with reqRefused := true } }
  let yes := { s with sys := { s.sys with reqRefused := false } }
  if bits v 31 16 ≠ 0x4D44 ∨ !s.isSup rq then none
  else if bits v 1 0 = 1 then (if s.serviceOk then some yes.enterService else refused)
  else if bits v 1 0 = 2 then
    (if s.mode = .service ∧ !s.clk.waiting then some (({ yes with sys := { yes.sys with holdPend := true } }).flushLog) else refused)
  else if bits v 1 0 = 3 then
    (if (s.mode = .start ∨ s.mode = .service ∨ s.mode = .hold) ∧ !s.clk.waiting then some (yes.lockdown 3 false) else refused)
  else refused

/-- Steps 1 to 3 of Hold entry are done (R454, R42): no entry read in progress, every job in flight finished, installs done,
no vault page or checkpoint word waiting, no lane at work, no unit busy, no generation being written (R390). -/
def holdReady (s : State) : Bool :=
  s.jobs.all (·.isDone) && s.fwJob.isNone && s.fwWait.isNone && s.installs.isEmpty && s.qps.all (fun e => e.2.fetch.isNone && e.2.chain.isEmpty) &&
    s.vault.logWs.isEmpty && s.vault.pages.isEmpty &&
    (List.range 9).all (fun n => (s.lane n).work == .none && (s.lane n).st != .waking) &&
    (List.range 3).all (fun u => (s.unit u).job.isNone && !(s.unit u).fw && (s.unit u).st != .busy && (s.unit u).st != .wipe) &&
    s.crd.run.isNone

/-- Hold is entered: heats are closed (R99), lanes go dormant, the custody card goes IDLE (R41), PLL_ENG is gated. -/
def enterHold (s : State) : State :=
  let s := (s.qps.map (·.1)).foldl (fun s q =>
    (s.modQp q (fun k => { k with closing := true, reread := none })).reportAll q) s
  let s := (List.range 9).foldl (fun s n => if (s.lane n).leave then s.laneDormant n else s) s
  let s := if s.crd.st = 4 then { s with crd := { s.crd with st := 3 } }.releaseLeave .sd else s
  let s := (s.setPdom 1 { div := 0xFF, aim := 0 }).event Blk.CLK 0 3
  { s with mode := .hold, sys := { s.sys with holdPend := false } }.event Blk.SYS 0 2

/-- A write of SYS_PAIR (R271): RELEASE starts the SERVICE pair, not in Lockdown; from a pair other than SUPERVISOR it is a
violation. -/
def sysPairWrite (s : State) (rq : Rq) (v : Word) : Option State :=
  if rq ≠ .debug ∧ !s.isSup rq then none
  else if !bit v 0 ∨ s.mode = .lockdown then some s
  else
    let l := (List.range 3).filter (fun p => (s.pair p).role == 2 && (s.pair p).run == PRun.held && !(s.pair p).fenced)
    let s := { s with sys := { s.sys with released := true } }
    some (l.foldl (fun s p => s.startPair p 2 false) s)

end State

/-! ### Commands: the crystal and the ramps -/

/-- XTAL_WINDOW (R439): a window of 1,024 IOSC periods ends with `edges` edges, and a unit of R438 with it. Under either
method a judged crystal whose count leaves 507-560 has failed (R442). -/
def execXtalWindow (edges : Fin 1024) (s : State) : Host.Outcome State Fault Refusal :=
  .next (
    if s.fieldPower then s
    else
      let n := edges.val
      let run := if windowPass n (s.fld R.CLK_XTOL 15 0) then satSucc 255 s.xRun else 0
      let s := (s.setFld R.CLK_XCNT 25 16 n).setFld R.CLK_XCNT 7 0 run
      if s.clk.judged then (if n < 507 ∨ 560 < n then s.clockFail [1] else s)
      else { s with clk := { s.clk with judgeAt := s.clk.judgeAt + 1 } })

/-- XTAL_JUDGED (R438, R439): the method's count has been reached. -/
def execXtalJudged (s : State) : Host.Outcome State Fault Refusal :=
  .next (if s.judging ∧ s.xReached then s.xJudge else s)

/-- PLL_REFERENCE_CHANGE (R440): the crystal judged and the Riser's steps complete, every domain ramps down, relocks and ramps
up; a gated one stays gated. -/
def execPllReferenceChange (s : State) : Host.Outcome State Fault Refusal :=
  .next (
    if !s.clk.judged ∨ s.clk.refX ∨ !s.ris.evalDone ∨ s.clk.waiting ∨ s.fieldPower ∨ s.ramping then s
    else (List.range 4).foldl (fun s k => if (s.pdom k).div = 0xFF then s else s.setPdom k { s.pdom k with aim := 2 }) s)

/-- RAMP_STEP (R441): 256 cycles of IOSC have passed at the divider of domain `k`. -/
def execRampStep (k : Fin 4) (s : State) : Host.Outcome State Fault Refusal :=
  .next (s.rampStep k)

/-- CLOCK_LOSS (R442, R443): the sources `srcs` fail. -/
def execClockLoss (srcs : List Nat) (s : State) : Host.Outcome State Fault Refusal :=
  .next ((s.judgeAgain srcs).clockFail srcs)

/-- SOURCE_RETURN (R445): every failed source has returned, the crystal by its judgement: a Start begins. -/
def execSourceReturn (s : State) : Host.Outcome State Fault Refusal :=
  .next (if s.clk.waiting ∧ s.othersBack then s.returnStart else s)

/-- HREFCLK_RETURN_TIMEOUT (R445): 100 ms after the others, reference clocks are still absent: their ports are held and the
Start begins. -/
def execHrefclkReturnTimeout (s : State) : Host.Outcome State Fault Refusal :=
  .next (
    if s.clk.waiting ∧ s.othersBack ∧ s.clkFailed / 256 ≠ 0 then
      let s := { s with clk := { s.clk with hrefOff := s.clk.hrefOff ||| (s.clkFailed / 256 % 16) } }
      s.returnStart
    else s)

/-! ### Commands: leave and flash -/

/-- LEAVE_GRANT (R447): the head of the queue fits and is granted. -/
def execLeaveGrant (s : State) : Host.Outcome State Fault Refusal :=
  .next (if s.clk.waiting ∨ s.fieldPower ∨ !(s.hdr Blk.CLK 0).en then s
    else match s.headFits with
      | none => s
      | some l => (s.grantHead l).granted l)

/-- LEAVE_WAIT (R448): the request at place `i` has waited `w` × 100 µs, beyond PWR_MAXWAIT; it is counted once. -/
def execLeaveWait (i : Nat) (w : Fin 65536) (s : State) : Host.Outcome State Fault Refusal :=
  .next (match s.leavePend[i]? with
    | none => s
    | some l =>
      if l.waited then s
      else
        let s := { s with leavePend := s.leavePend.set i { l with waited := true } }
        let s := (s.count R.PWR_WAITS 15 0).setFld R.PWR_WAITS 31 16 (max (s.fld R.PWR_WAITS 31 16) w)
        s.event Blk.CLK 0 4)

/-- PWR_BUDGET (R446): the register is written. -/
def execPwrBudget (rq : Rq) (v : Word) (s : State) : Host.Outcome State Fault Refusal :=
  .next (s.asWrite rq Blk.CLK 0 R.PWR_BUDGET v (fun s => s.budgetWrite v))

/-- FLASH_OP_COMPLETE (R333): the operation of bank `b` ends (5 is the OTP row). -/
def execFlashOpComplete (b : Fin 6) (ok : Bool) (pulses : Fin 256) (s : State) : Host.Outcome State Fault Refusal :=
  .next (s.flashEnd b ok pulses)

/-! ### Commands: modes -/

/-- SERVICE (R451): SYS_MREQ is written with REQ 1. -/
def execService (rq : Rq) (s : State) : Host.Outcome State Fault Refusal :=
  .next (s.asWrite rq Blk.SYS 0 R.SYS_MREQ 0x4D440001 (fun s => s.mreqWrite rq 0x4D440001))

/-- HOLD (R454): SYS_MREQ is written with REQ 2. -/
def execHold (rq : Rq) (s : State) : Host.Outcome State Fault Refusal :=
  .next (s.asWrite rq Blk.SYS 0 R.SYS_MREQ 0x4D440002 (fun s => s.mreqWrite rq 0x4D440002))

/-- HOLD_COMPLETE (R454): step 4 of Hold entry ends. -/
def execHoldComplete (s : State) : Host.Outcome State Fault Refusal :=
  .next (if s.sys.holdPend ∧ s.mode = .service ∧ s.holdReady then s.enterHold else s)

/-- LOCKDOWN (R455): SYS_MREQ is written with REQ 3. -/
def execLockdown (rq : Rq) (s : State) : Host.Outcome State Fault Refusal :=
  .next (s.asWrite rq Blk.SYS 0 R.SYS_MREQ 0x4D440003 (fun s => s.mreqWrite rq 0x4D440003))

/-- SERVICE_PAIR_RELEASE (R271): SYS_PAIR is written with RELEASE. -/
def execServicePairRelease (rq : Rq) (s : State) : Host.Outcome State Fault Refusal :=
  .next (s.asWrite rq Blk.SYS 0 R.SYS_PAIR 1 (fun s => s.sysPairWrite rq 1))

end Sys2Proof.Machine
end

