-- ==== Sys2Proof/Machine/Reach.lean ====
section
/-! DEFINITION. Which core accesses of a pair are refused, and how: width and alignment (R10, R285), the map (R33, R11),
locked regions (R23, R339), the Gate and the host windows (R35, R314), and memory that cannot be read (R337, R344, R427). -/

namespace Sys2Proof.Machine

/-- The block instance that detects the refusal of a pair's access at `a` (R15). -/
def detector (a : Nat) : Nat × Nat :=
  if 0x08000000 ≤ a ∧ a < 0x0D000000 then (Blk.FLC, 0)
  else if 0x20000000 ≤ a ∧ a < 0x21200000 then
    let b := (a - 0x20000000) / 0x100000
    let n := blkInsts b
    (b, if n ≤ 1 then 0 else min (n - 1) ((a - 0x20000000) % 0x100000 / blkStride b))
  else (Blk.GAT, 0)

/-- What a core access does. -/
inductive Acc where
  | load | store | fetch
  deriving DecidableEq, Repr

/-- Bit of the Gate's permission: R, W, X. -/
def Acc.perm : Acc → Nat
  | .load => 0 | .store => 1 | .fetch => 2

/-- Why a pair's access is refused: a violation, the Gate, a torn sector, a lost sector. -/
inductive Why where
  | viol | gate | torn | lost
  deriving DecidableEq, Repr

namespace State

/-- The flash bank and logical sector of a flash or tag-bank address. -/
def sectorOf (a : Nat) : Option (Nat × Nat) :=
  match area a with
  | .flash b => some (b, a % 0x800000 / 0x1000)
  | .tagBank => some (4, a % 0x10000 / 0x400)
  | _ => none

/-- Memory at `a` that the array cannot deliver: a torn or suspended sector (R337), a lost one (R344), an SRAM macro out of
repair (R427). -/
def unreadable (s : State) (a : Nat) : Option Why :=
  match area a with
  | .sram => if s.sramBad.contains ((a - 0x10000000) / 0x20000) then some .viol else none
  | _ =>
    match sectorOf a with
    | none => none
    | some (b, n) => if s.isTorn b n then some .torn else if s.lostSec.contains (b, n) then some .lost else none

/-- The sectors of the tag's credential record, which no core access reads (13, records of the tag store). -/
def credSector (a : Nat) : Bool :=
  let n := a % 0x10000 / 0x400
  n == 15 || n == 31

/-- The Ladle translation of a core access to a host window exists and the domain's link is up (R35). -/
def hostOpen (s : State) (d off : Nat) (wr : Bool) : Bool := (s.hostXlate d off wr).isSome

/-- Why the access of `n` bytes at `a` by pair `p` is refused, in the order of R24; none when it is allowed. -/
def refusal (s : State) (p a n : Nat) (k : Acc) : Option Why :=
  let g := s.gatePass p a k.perm
  if a % n ≠ 0 then some .viol
  else match area a with
  | .none => some .viol
  | .reg _ _ _ _ => if n ≠ 4 then some .viol else if g then none else some .gate
  | .host d off => if !g then some .gate else if s.hostOpen d off (k == .store) then none else some .viol
  | .sram => if !g then some .gate else s.unreadable a
  | .rom => if k = .store then some .viol else if g then none else some .gate
  | .otp => if k = .store ∨ otpSecret a then some .viol else if g then none else some .gate
  | .tagBank => if k = .store ∨ credSector a then some .viol else if !g then some .gate else s.unreadable a
  | .flash _ =>
    if k = .store ∨ (k = .load ∧ s.xoHit a) then some .viol else if !g then some .gate else s.unreadable a

/-- The refusal of an access of pair `p` at `a` (R20): one message, EAR and vector 4. The message of a torn or lost sector is
the flash controller's own (R337, R344). -/
def refusePair (s : State) (p a : Nat) (w : Why) : State :=
  match w with
  | .viol => s.busFault p a (detector a).1 (detector a).2
  | .gate => s.gateFault p a
  | .torn => s.busResp p a (fun s => s.fault Blk.FLC 0 Kind.FLASH_TORN a)
  | .lost => s.busResp p a (fun s => s.fault Blk.FLC 0 Kind.FLASH_WEAR a)

end State
end Sys2Proof.Machine
end

