-- ==== Sys2Proof/Machine/Pairs.lean ====
section
/-! DEFINITION. Pairs that fail and are replaced (R273-R276), the restart of a pair (R312) and refused fetches (R285, R298). -/

namespace Sys2Proof.Machine

namespace State

/-- Pair `p` executes, or waits for an interrupt. -/
def pairRuns (s : State) (p : Nat) : Bool := (s.pair p).run == .running || (s.pair p).run == .waiting

/-- A pair that holds a role stops for `kind` (R273, R276): it is fenced, the record names the PC of the oldest instruction
not completed, it takes a strike and is to be replaced. -/
def pairFail (s : State) (p kind : Nat) : State :=
  if (s.pair p).role = 0 ∨ (s.pair p).fenced ∨ !(s.pairRuns p || (s.pair p).run == .debugHalt) then s
  else
    let s := s.faultBy Blk.KEN p kind (s.pair p).pc.toNat 4 Blk.GAT 0
    let s := (s.haltEvents p).modPair p (fun k => { k with run := .mismatch, fenced := true })
    s.noteFence 2 p true (some kind)

/-- Sets the TAKEOVER event of every running pair but `p` (R274, R287). -/
def takeEvents (s : State) (p : Nat) : State :=
  (List.range 3).foldl (fun s q => if q ≠ p ∧ s.pairRuns q then s.modPair q (fun k => { k with takeEvt := true }) else s) s

/-- Pair `n` takes role `r` over (R274). -/
def takeRole (s : State) (n r : Nat) : State := (s.startPair n r true).takeEvents n

/-- The Riser replaces pair `p` (R274), or fills the roles without a spare (R275). -/
def takeover (s : State) (p : Nat) : State :=
  if !s.ris.due.contains (2, p) ∨ s.clk.waiting then s
  else
    let r := (s.pair p).role
    let s := { s with ris := { s.ris with due := s.ris.due.erase (2, p) } }
    let s := s.modPair p (fun k => { k with role := 0 })
    match s.spares 2 with
    | n :: _ => if r = 0 then s else (s.takeRole n r).spareIn 2 p
    | [] =>
      let s := s.exhausted 2 p
      if r ≠ 1 then s
      else match (List.range 3).find? (fun q => (s.pair q).role == 2 && !(s.pair q).fenced &&
          (s.pairRuns q || (s.pair q).run == .debugHalt)) with
        | some q => s.takeRole q 1
        | none => s.lockdown 2 false

/-- A write of GAT_PAIR_CTL (R312): without RESTART it does nothing; another key, the debug master, the writer itself or a
pair not halted in a double stack fault is a violation. The pair starts in the role it holds. -/
def pairCtlWrite (s : State) (rq : Rq) (v : Word) : Option State :=
  let q := bits v 1 0
  if !bit v 2 then some s
  else if bits v 31 16 ≠ 0x5354 ∨ q = 3 ∨ rq = .debug ∨ (s.pair q).run ≠ .doubleFault ∨ (s.pair q).fenced then none
  else match rq with
    | .pair p => if p.val = q then none else some (s.startPair q (s.pair q).role (s.pair q).takeover)
    | .debug => none

end State

/-- LOCKSTEP_MISMATCH (R273): the comparison fails in pair `p`. -/
def execLockstepMismatch (p : Pair) (s : State) : Host.Outcome State Fault Refusal :=
  .next (s.pairFail p Kind.LOCKSTEP_MISMATCH)

/-- ECC_UNCORRECTED (R276): an uncorrectable error in the register file or return stack of pair `p`. -/
def execEccUncorrected (p : Pair) (s : State) : Host.Outcome State Fault Refusal :=
  .next (s.pairFail p Kind.ECC_UNCORRECTED)

/-- PAIR_TAKEOVER (R274, R275): the Riser deals with the loss of pair `p`. -/
def execPairTakeover (p : Pair) (s : State) : Host.Outcome State Fault Refusal :=
  .next (s.takeover p)

/-- PAIR_RESTART (R312): GAT_PAIR_CTL is written with the key, RESTART and `target`. -/
def execPairRestart (rq : Rq) (target : Fin 4) (s : State) : Host.Outcome State Fault Refusal :=
  .next (s.asWrite rq Blk.GAT 0 R.GAT_PAIR_CTL (w32 (0x53540004 + target))
    (fun s => s.pairCtlWrite rq (w32 (0x53540004 + target))))

/-- REFUSED_FETCH (R285, R298): the fetch at the PC of pair `p` is refused, and vector 4 is entered with its address. A
fetch that is allowed is no refusal, and nothing changes. -/
def execRefusedFetch (p : Pair) (s : State) : Host.Outcome State Fault Refusal :=
  .next (
    if (s.pair p).run ≠ .running then s
    else match s.refusal p (s.pair p).pc.toNat 4 .fetch with
      | none => s
      | some w => s.refusePair p (s.pair p).pc.toNat w)

end Sys2Proof.Machine
end

