-- ==== Sys2Proof/Machine/View.lean ====
section
/-! DEFINITION. What a register read returns: the common header (R9) and, block by block, the registers that show state the
model holds elsewhere. A register not named here holds its own word in the register file. -/

namespace Sys2Proof.Machine

/-- A word made of fields: lowest bit and value of each. -/
def fields (l : List (Nat × Nat)) : Word := w32 ((l.map (fun f => f.2 * 2 ^ f.1)).sum)

/-- The bits `n` below `k` for which `f` holds, as a number. -/
def mask (k : Nat) (f : Nat → Bool) : Nat := (((List.range k).filter f).map (fun n => 2 ^ n)).sum

/-- SYM_LSTAT.STATE. -/
def laneCode : LaneSt → Nat
  | .spare => 0 | .dormant => 1 | .waking => 2 | .idle => 3 | .busy => 4 | .paused => 5 | .unseeded => 6 | .fenced => 7

/-- CRU_USTAT.STATE. -/
def unitCode : UnitSt → Nat
  | .spare => 0 | .test => 1 | .idle => 2 | .leave => 3 | .busy => 4 | .wipe => 5 | .fenced => 6

/-- RNG_STAT.STATE. -/
def rngCode : RngSt → Nat
  | .off => 0 | .startup => 1 | .run => 2 | .recover => 3 | .failed => 4

/-- RNG_SRCSTAT.STATE. -/
def srcCode : SrcSt → Nat
  | .spare => 0 | .settle => 1 | .test => 2 | .serving => 3 | .fenced => 4 | .capture => 5

/-- KST_SV0.STATE. -/
def slotCode : SlotSt → Nat
  | .empty => 0 | .reserved => 1 | .loaded => 2

/-- FLC_BSTAT.CLIENT of a requesting block. -/
def clientCode (b : Nat) : Nat :=
  if b = Blk.FLC then 0 else if b = Blk.CTX then 1 else if b = Blk.KST then 2 else if b = Blk.SKM then 3
  else if b = Blk.CRD then 4 else if b = Blk.RIS then 5 else if b = Blk.TAG then 6 else 7

namespace State

/-! ### The common header -/

/-- PLL_CORE, PLL_ENG, PLL_FAB, PLL_FL: domain `k` is locked. -/
def locks (s : State) (k : Nat) : Bool :=
  (s.pdom k).div != 0xFF && !(s.clk.waiting && s.clkFailed / 2 ^ (k + 2) % 2 == 1)

/-- BLK_CAP.ACTIVE. -/
def blkCap (s : State) (b i : Nat) : Nat :=
  if b = Blk.HPT then b2n (decide (i < s.variant.ports))
  else if b = Blk.TUN then s.variant.qps
  else if b = Blk.CTX then s.variant.contexts
  else if b = Blk.SYM then b2n ((s.lane i).serving && !s.arriving 0 i)
  else if b = Blk.CRU then b2n (s.unit i).serving
  else if b = Blk.RNG then s.servingSrcs
  else if b = Blk.KST then 4096
  else if b = Blk.GAT then 64
  else if b = Blk.FLC then 8192 - (s.lostSec.filter (fun x => decide (x.1 < 4))).length
  else if b = Blk.CRD then 3
  else if b = Blk.FLK ∨ b = Blk.RIS then 14
  else if b = Blk.SKM then 512
  else if b = Blk.CLK then ((List.range 4).filter s.locks).length
  else 1

/-- Spare SRAM rows left of 4 in each of 128 macros (R424). -/
def rowsLeft (s : State) : Nat := 512 - (s.ris.ents.filter (fun e => e.typ == 5)).length

/-- Spares left of a pool. -/
def poolLeft (s : State) (p : Nat) : Nat :=
  if p < 4 then (s.spares p).length else if p ≤ 7 then s.spareLeft (p - 4)
  else if p ≤ 11 then 8 - (s.ris.ents.filter (fun e => e.typ == 4 && e.pool == p)).length
  else if p = 12 then s.spareLeft 4 else if p = 13 then s.rowsLeft else 0

/-- Spares of a pool before any use. -/
def poolTotal (s : State) (p : Nat) : Nat :=
  if p = 0 then 9 - s.variant.lanes else if p = 1 then 3 - s.variant.crus else if p = 2 then 1 else if p = 3 then 2
  else if p ≤ 7 then 64 else if p ≤ 11 then 8 else if p = 12 then 4 else if p = 13 then 512 else 0

/-- BLK_SPARE: total and left; RSVD in blocks without spares. -/
def blkSpare (s : State) (b : Nat) : Word :=
  let of := fun (p : Nat) => fields [(16, s.poolTotal p), (0, s.poolLeft p)]
  if b = Blk.SYM then of 0 else if b = Blk.CRU then of 1 else if b = Blk.RNG then of 3
  else if b = Blk.RIS then of 13
  else if b = Blk.FLC then fields [(16, 256), (0, ((List.range 4).map s.spareLeft).sum)]
  else 0

/-- A purpose that is a flash operation. -/
def flashWhat : Purpose → Bool
  | .lane _ | .cru _ | .sd | .cc _ => false
  | .vaultPage | .vaultErase | .image | .imageErase | .audit | .auditErase | .journal | .journalErase | .fieldMap
  | .heal _ _ | .flash => true

/-- BLK_LEAVE: tokens pending and granted; CLK shows the device totals, FLC every flash operation's. -/
def blkLeave (s : State) (b i : Nat) : Word :=
  let f := fun (l : Leave) => b == Blk.CLK || (b == Blk.FLC && flashWhat l.what) || (l.blk == b && l.inst == i)
  let sum := fun (l : List Leave) => ((l.filter f).map (·.tok)).sum
  fields [(16, sum s.leavePend), (0, sum s.leaveHeld)]

/-- BLK_STAT.BUSY: the block has work in hand. -/
def blkBusy (s : State) (b i : Nat) : Bool :=
  if b = Blk.HPT then (s.port i).resetting
  else if b = Blk.TUN then !s.jobs.isEmpty
  else if b = Blk.CTX then !s.installs.isEmpty || !s.vault.pages.isEmpty
  else if b = Blk.SYM then (s.lane i).work != .none || (s.lane i).st == .waking
  else if b = Blk.CRU then (s.unit i).st != .spare && (s.unit i).st != .idle && (s.unit i).st != .fenced
  else if b = Blk.RNG then !s.rng.waitQ.isEmpty || s.rng.due
  else if b = Blk.KST then bit (s.reg R.KST_FW_STAT) 31 || (decide (1 ≤ s.kst.cer.st) && decide (s.kst.cer.st ≤ 4)) ||
    !s.kst.queue.isEmpty
  else if b = Blk.FLC then !s.flashOn.isEmpty || !s.flashQ.isEmpty
  else if b = Blk.TAG then s.tag.commit.isSome || s.tag.hostOn.isSome || s.tag.credOp.isSome
  else if b = Blk.CRD then s.crd.run.isSome || s.crd.op != 0 || s.crd.resolving || !s.crd.jq.isEmpty
  else if b = Blk.FLK then s.flk.meas || !s.flk.mq.isEmpty
  else if b = Blk.SKM then !s.inbox.isEmpty || !s.skm.react.isEmpty || !s.skm.pages.isEmpty
  else if b = Blk.RIS then !s.ris.subs.isEmpty || !s.ris.due.isEmpty || s.hasLeave .fieldMap
  else if b = Blk.CLK then s.ramping
  else if b = Blk.SYS then s.sys.start.isSome || s.sys.holdPend
  else if b = Blk.DBG then s.dbg.verify.isSome || s.dbg.injOn
  else if b = Blk.MLK then s.mlk.resp.isSome
  else false

/-- BLK_STAT.READY: the block has passed its Start checks and can accept work. -/
def blkReady (s : State) (b i : Nat) : Bool :=
  !s.fieldPower && !s.clk.waiting && (s.hdr b i).en &&
    (if b = Blk.HPT then decide (i < s.variant.ports) && (s.port i).linkUp
     else if b = Blk.TUN then s.mode == .service && !s.sys.holdPend
     else if b = Blk.CTX then s.vault.ready
     else if b = Blk.SYM then (s.lane i).serving
     else if b = Blk.CRU then (s.unit i).serving && (s.unit i).st != .test
     else if b = Blk.RNG then s.rng.st == .run
     else if b = Blk.KST then s.kst.unsealed || s.sys.start.isNone
     else if b = Blk.FLC then bit (s.reg R.SYS_SMS) 1
     else if b = Blk.RIS then s.ris.evalDone
     else true)

/-- BLK_STAT.BSTAT, from bit 16. -/
def bstat (s : State) (b i : Nat) : Nat :=
  if b = Blk.TUN then b2n (s.mode == .hold && s.jobs.isEmpty)
  else if b = Blk.CTX then b2n s.vault.ready
  else if b = Blk.SYM then laneCode (s.lane i).st
  else if b = Blk.CRU then unitCode (s.unit i).st
  else if b = Blk.RNG then rngCode s.rng.st
  else if b = Blk.KST then b2n s.kst.unsealed
  else if b = Blk.GAT then mask 3 (fun p => csBank (s.pair p).cs)
  else if b = Blk.FLC then mask 5 (fun k => s.bankBusy k || (k == 4 && s.tag.commit.isSome))
  else if b = Blk.TAG then b2n s.tag.field
  else if b = Blk.CRD then b2n s.crd.present + 2 * b2n (decide (2 ≤ (s.cslot 0).st)) + 4 * b2n (decide (2 ≤ (s.cslot 1).st))
  else if b = Blk.FLK then b2n s.flk.kbb.isSome
  else if b = Blk.SKM then b2n s.faultn
  else if b = Blk.DBG then s.dbg.st
  else 0

/-- BLK_STAT. -/
def blkStat (s : State) (b i : Nat) : Word :=
  let h := s.hdr b i
  let open' := s.skm.opens.any (fun e => e.2.cnt != 0 && e.2.blk == b && e.2.inst == i)
  fields [(16, s.bstat b i), (5, b2n h.srstBusy), (4, b2n h.lock), (3, b2n (h.fence != 0)), (2, b2n open'),
    (1, b2n (s.blkBusy b i)), (0, b2n (s.blkReady b i))]

/-- The common header of block `b`, instance `i`, read through page `p` at offset `o`. -/
def headRead (s : State) (b i p o : Nat) : Word :=
  let h := s.hdr b i
  match o / 4 with
  | 0 => fields [(10, p), (5, b), (0, i)]
  | 1 => 0x100
  | 2 => w32 (s.blkCap b i)
  | 3 => w32 (b2n h.en)
  | 4 => s.blkStat b i
  | 5 => h.evt
  | 6 => h.evtEn
  | 7 => w32 h.evtCnt
  | 8 => h.faultLo
  | 9 => h.faultCap
  | 10 => h.fence
  | 11 => s.blkSpare b
  | 12 => s.blkLeave b i
  | 13 => w32 (b2n h.lock)
  | _ => 0

/-! ### Blocks -/

/-- HPT_LINK.LTSSM. -/
def ltssm (s : State) (p : Nat) : Nat :=
  let k := s.port p
  if k.l1 then 5 else if k.linkUp then 3 else if k.training then 1 else 0

/-- HPT, instance `i`. -/
def viewHpt (s : State) (i a : Nat) : Word :=
  let k := s.port i
  let o := a % 0x40000
  if o = 0x40 then
    fields [(12, if k.d3 then 3 else 0), (11, b2n k.l1), (10, b2n k.linkUp), (7, k.speed),
      (5, if !k.linkUp then 0 else if k.x1 then 1 else 2), (0, s.ltssm i)]
  else if o = 0x44 then putBit (s.reg a) 31 k.resetting
  else s.reg a

/-- TUN. -/
def viewTun (s : State) (a : Nat) : Word :=
  let d := (a - R.TUN_DOM_QP) / 0x20
  let q := (s.reg R.TUN_QSEL).toNat % 0x4000
  if a = R.TUN_OCC then
    fields [(16, ((List.range 4).map s.dPark).sum), (0, ((List.range 4).map s.dInfl).sum)]
  else if a = R.TUN_DOM_SHQ + d * 0x20 ∧ d < 4 then putField (s.reg a) 14 8 (s.port d).share
  else if a = R.TUN_DOM_USE + d * 0x20 ∧ d < 4 then fields [(16, s.dPark d), (0, s.dInfl d)]
  else if R.TUN_QV ≤ a ∧ a < R.TUN_QV + 32 then w32 (leAt (s.queryBytes q) (a - R.TUN_QV) 4)
  else s.reg a

/-- The vault slot CTX_PEEK_SEL selects, and its context. -/
def peek (s : State) : VSlot × Option Ctx :=
  let n := (s.reg R.CTX_PEEK_SEL).toNat % 0x40000
  (s.vslot n, s.ctxs.find? (fun c => s.slotOf c.dom c.idx == n))

/-- CTX. -/
def viewCtx (s : State) (a : Nat) : Word :=
  let d := (a - R.CTX_DOM_VB) / 0x10 % 4
  let v := s.vault
  let x := s.peek.1
  if a = R.CTX_VSTAT then
    fields [(16, s.vaultFree), (7, b2n v.rangeBusy), (6, b2n v.stalled), (5, b2n v.compacting), (4, b2n v.closing),
      (3, b2n v.closed), (2, b2n v.opened), (1, b2n v.lastClean), (0, b2n v.ready)]
  else if a = R.CTX_OCC then
    fields [(16, (s.ctxs.filter (fun c => s.pinned c.dom c.idx)).length), (0, s.ctxs.length)]
  else if a = R.CTX_VSEQ_LO then w32 (v.seq % 2 ^ 37)
  else if a = R.CTX_DOM_TE + d * 0x10 then w32 ((s.bind d).recEpoch.getD 0)
  else if a = R.CTX_DOM_CR + d * 0x10 then
    putBit (putBit (s.reg a) 31 (s.bind d).bound) 30 (s.bind d).recEpoch.isSome
  else if a = R.CTX_PEEK0 then
    fields [(15, b2n x.doubt), (14, b2n s.peek.2.isSome), (13, b2n x.rekey), (12, b2n (x.status == 2)),
      (11, b2n (x.status == 1)), (0, x.epoch)]
  else if a = R.CTX_PEEK1 then w32 x.tx
  else if a = R.CTX_PEEK3 then w32 x.rx
  else s.reg a

/-- SYM, lane `i`. -/
def viewSym (s : State) (i a : Nat) : Word :=
  let l := s.lane i
  let o := a % 0x10000
  let j := match l.work with
    | .job id => s.job id
    | .none | .install _ _ => none
  let dom := match l.work with
    | .job _ => (j.map (·.dom)).getD 0
    | .install d _ => d
    | .none => 0
  let ins := match l.work with
    | .install _ _ => true
    | .none | .job _ => false
  let sel := (s.reg R.SYM_STRM_SEL).toNat % 0x400
  let st := s.stream sel
  if o = 0x40 then fields [(20, laneCode l.st), (16, dom), (15, b2n ins), (0, (j.map (·.qp)).getD 0)]
  else if o = 0x44 then w32 l.blocks
  else if o = 0x54 then putField (s.reg a) 16 0 l.since
  else if a = R.SYM_MAP then
    fields [(16, mask 9 (fun n => (s.lane n).active)), (0, mask 9 (fun n => (s.lane n).serving && !s.arriving 0 n))]
  else if a = R.SYM_STRM then
    fields [(16, s.variant.streams), (0, (s.streams.filter (fun e => e.2.bound)).length)]
  else if a = R.SYM_STRM_V0 then
    if st.bound then
      fields [(31, 1), (30, b2n (s.jobs.any (fun k => k.stream == some sel && k.stage == .running))), (28, st.dom),
        (24, st.mode), (0, st.qp)]
    else 0
  else if a = R.SYM_STRM_V1 then (if st.bound then w32 st.key else 0)
  else s.reg a

/-- CRU, unit `i`. -/
def viewCru (s : State) (i a : Nat) : Word :=
  let u := s.unit i
  let j := u.job.bind s.job
  let held := fun (n : Nat) => (s.unit n).st == .leave || (s.unit n).st == .busy || (s.unit n).st == .wipe
  if a % 0x10000 = 0x40 then
    fields [(24, if held i then u.klass else 0), (20, unitCode u.st), (16, (j.map (·.dom)).getD 0), (15, b2n u.fw),
      (0, (j.map (·.qp)).getD 0)]
  else if a = R.CRU_MAP then fields [(8, mask 3 held), (0, mask 3 (fun n => (s.unit n).serving))]
  else s.reg a

/-- RNG. -/
def viewRng (s : State) (a : Nat) : Word :=
  let n := (s.reg R.RNG_SRCSEL).toNat % 16
  let r := s.rng
  let x := s.src n
  if a = R.RNG_STAT then
    fields [(16, mask 10 (fun k => (s.src k).st == .serving)), (8, r.buf.length), (4, s.servingSrcs), (3, b2n r.internal),
      (0, rngCode r.st)]
  else if a = R.RNG_INST then fields [(4, b2n r.internal), (0, mask 4 (fun d => (s.port d).drbg))]
  else if a = R.RNG_SRCSTAT then
    if n < 10 then fields [(28, srcCode x.st), (24, x.last), (16, min 255 x.rct), (0, x.apt)] else 0
  else if a = R.RNG_CAPT then putField (s.reg a) 12 0 r.capWords.length
  else s.reg a

/-- The context whose vault slot KST_INSP_SEL names, if its record has HASPUB. -/
def inspected (s : State) : Option Ctx :=
  let n := (s.reg R.KST_INSP_SEL).toNat % 0x40000
  s.ctxs.find? (fun c => s.slotOf c.dom c.idx == n && c.policy / 4 % 2 == 1)

/-- KST. -/
def viewKst (s : State) (a : Nat) : Word :=
  let n := (s.reg R.KST_SEL).toNat % 0x1000
  let k := s.slot n
  let c := s.kst.cer
  if a = R.KST_STAT then
    fields [(20, 1536 - s.arenaUsed), (3, (s.slots.filter (fun e => e.2.st == .loaded)).length), (2, b2n s.kst.restore),
      (1, b2n s.kst.imgOk), (0, b2n s.kst.unsealed)]
  else if a = R.KST_IMG then
    fields [(16, min 0xFFFF (s.slots.filter (fun e => e.2.dirty && bit e.2.policy 17)).length), (0, s.imgFree)]
  else if a = R.KST_SV0 then
    fields [(30, slotCode k.st), (27, s.slotOwner n), (26, b2n k.dirty), (16, k.typ), (0, k.nbits)]
  else if a = R.KST_SV1 then k.policy
  else if a = R.KST_SV_INV_LO then w32 k.inv
  else if a = R.KST_CER_STAT then
    fields [(28, c.st), (24, c.kind), (16, c.acc), (12, c.last), (8, c.m), (4, c.n), (0, c.fail)]
  else if a = R.KST_INSP_SEL then putBit (s.reg a) 31 s.inspected.isSome
  else if R.KST_INSP ≤ a ∧ a < R.KST_INSP + 32 then
    match s.inspected with
    | some c => w32 (leAt c.pub (a - R.KST_INSP) 4)
    | none => 0
  else s.reg a

/-- GAT. -/
def viewGat (s : State) (a : Nat) : Word :=
  let names := fun (b : Bool) => (List.range 3).any (fun p => s.pairRuns p && csBank (s.pair p).cs == b)
  if a = R.GAT_STAT then
    fields [(8, mask 3 (fun p => csBank (s.pair p).cs)), (1, b2n (names true)), (0, b2n (names false))]
  else s.reg a

/-- FLC_BSTAT of bank `b`. -/
def bankStat (s : State) (b : Nat) : Word :=
  let ready := b2n (bit (s.reg R.SYS_SMS) 1)
  match s.flashOn.find? (fun o => o.rq.bank == b && o.susp == 0), s.flashOn.find? (fun o => o.rq.bank == b) with
  | some o, _ => fields [(28, min o.rq.op 6), (25, clientCode o.rq.blk), (23, ready), (0, o.rq.sector)]
  | none, some o => fields [(28, 3), (25, clientCode o.rq.blk), (23, ready), (0, o.rq.sector)]
  | none, none =>
    if b = 4 ∧ s.tag.commit.isSome then fields [(28, 1), (25, 6), (23, ready)] else fields [(23, ready)]

/-- FLC. -/
def viewFlc (s : State) (a : Nat) : Word :=
  let b := (a - R.FLC_BSTAT) / 0x10
  let t := s.torn.filter (fun x => x.listed)
  let own := s.flashOn.find? (fun o => o.rq.what == .flash)
  if a = R.FLC_STATUS then
    let susp := (own.map (fun o => decide (o.susp ≠ 0))).getD false
    let wait := bit (s.reg a) 31 && (own.map (fun o => !o.granted)).getD true
    putBit (putBit (s.reg a) 29 susp) 28 wait
  else if a = R.FLC_TORN then fields [(31, b2n (decide (8 < t.length))), (0, t.length)]
  else if R.FLC_TORN_E ≤ a ∧ a < R.FLC_TORN_E + 32 then
    match t[(a - R.FLC_TORN_E) / 4]? with
    | some x => fields [(31, 1), (30, b2n x.healing), (16, x.bank), (0, x.sector)]
    | none => 0
  else if a = R.FLC_BSTAT + b * 0x10 ∧ b < 5 then s.bankStat b
  else if a = R.FLC_WEAR + b * 0x10 ∧ b < 5 then
    let n := fun (l : List (Nat × Nat)) => min 255 (l.filter (fun x => x.1 == b)).length
    fields [(28, if b = 4 then 0 else s.poolLeft (8 + b)), (16, s.spareLeft b), (8, n s.lostSec), (0, n s.weak)]
  else s.reg a

/-- A field transaction is in progress (R368): a reader's command waits or is being committed. -/
def fieldTx (s : State) : Bool :=
  s.tag.held.isSome || (s.tag.commit.map (fun c => c.who.reader)).getD false

/-- TAG_CRED_STAT: what the last command left, and the credential record. -/
def credStat (s : State) : Word :=
  let w := s.reg R.TAG_CRED_STAT
  if s.credBlank then w
  else
    let pw := s.bytes (s.curAddr 15 + 4) 8
    w ||| fields [(20, s.cred 2 1 % 16), (16, s.cred 3 1 % 16), (12, s.cred 1 1 % 16), (11, b2n s.kTag.isSome),
      (10, b2n (pw != List.replicate 8 0xFF))]

/-- TAG. -/
def viewTag (s : State) (a : Nat) : Word :=
  let t := s.tag
  if a = R.TAG_STAT then
    fields [(20, t.proto), (18, t.app), (16, t.access), (14, t.dr), (12, t.ds), (11, b2n t.commit.isSome),
      (10, b2n t.hostOn.isSome), (9, b2n s.fieldTx), (8, b2n t.cfld), (0, b2n t.field)]
  else if a = R.TAG_SEQ then w32 t.seq
  else if a = R.TAG_LOCK then w32 t.lock
  else if a = R.TAG_CRED_STAT then s.credStat
  else if a = R.TAG_TKT then fields [(31, b2n (s.ticketLen != 0)), (0, s.ticketLen)]
  else s.reg a

/-- CRD. -/
def viewCrd (s : State) (a : Nat) : Word :=
  let c := s.crd
  let i := (a - R.CRD_CC_STAT) / 0x10
  if a = R.CRD_SD_STAT then
    fields [(20, if c.resolving then 5 else c.st), (19, b2n s.foreign), (18, b2n c.tooSmall), (17, b2n c.wp),
      (16, b2n c.present), (14, c.ccs), (13, b2n c.wide), (12, b2n c.hs)]
  else if a = R.CRD_JNL then
    fields [(31, b2n (jBound c.log).isSome), (30, b2n (jOpenGen c.log).isSome), (8, min 255 (jPending c.log).length),
      (0, s.fld a 7 0)]
  else if a = R.CRD_CC_STAT + i * 0x10 ∧ i < 2 then
    let x := s.cslot i
    fields [(28, x.st), (26, x.klass), (24, x.proto), (16, x.fd), (8, x.clk), (0, b2n (decide (2 ≤ x.st)))]
  else s.reg a

/-- FLK, but for the RTC (Bus.lean). -/
def viewFlk (s : State) (a : Nat) : Word :=
  let f := s.flk
  let i := (a - R.FLK_TS_LO) / 8
  if a = R.FLK_STAT then
    fields [(8, b2n f.clrMiss), (5, b2n f.vbat), (4, b2n s.rtcValid), (3, b2n f.pendLock), (2, b2n f.decom),
      (1, b2n f.kbb.isSome)]
  else if a = R.FLK_FLAG then w32 s.flags
  else if a = R.FLK_PEND then w32 f.pend
  else if a = R.FLK_LIVE then w32 f.live
  else if a = R.FLK_LIGHT then w32 f.light
  else if a = R.FLK_TEMP then (match f.temp with
    | some t => fields [(8, 1), (0, t)]
    | none => 0)
  else if a = R.FLK_RTC_LO then w32 s.rtc
  else if a = R.FLK_MSEQ then w32 f.mseq
  else if a = R.FLK_MCNT then putField (s.reg a) 4 0 f.mq.length
  else if a = R.FLK_TS_LO + i * 8 ∧ i < 14 then w32 (s.flkTime i)
  else s.reg a

/-- SKM. -/
def viewSkm (s : State) (a : Nat) : Word :=
  let e := (s.reg R.SKM_OSEL).toNat % 128
  let f := s.openF e
  if a = R.SKM_STAT then
    fields [(16, s.openCount), (5, b2n s.skm.pulse), (4, b2n s.skm.reasserted), (3, b2n s.skm.full), (2, b2n s.faultn),
      (0, s.maxSev)]
  else if a = R.SKM_PIN then putBit (s.reg a) 1 s.skm.pulsing
  else if a = R.SKM_SEQ then w32 s.skm.seq
  else if a = R.SKM_LOSS then fields [(16, s.auditPending), (0, s.skm.lost)]
  else if a = R.SKM_RV then (match s.skm.ring[(s.reg R.SKM_RSEL).toNat % 512]? with
    | some r => r.msg.lo
    | none => 0)
  else if a = R.SKM_OV0 then
    if f.cnt = 0 then 0
    else fields [(31, 1), (30, b2n (s.liveCause f)), (28, f.sev), (16, f.kind), (11, f.blk), (6, f.inst)]
  else if a = R.SKM_OV1 then (if f.cnt = 0 then 0 else fields [(16, f.first % 0x10000), (0, min 255 f.cnt)])
  else if R.SKM_KCFG ≤ a ∧ a < R.SKM_KCFG + 256 then putField (s.reg a) 7 6 (kindSev ((a - R.SKM_KCFG) / 4))
  else s.reg a

/-- RIS. -/
def viewRis (s : State) (a : Nat) : Word :=
  let p := (s.reg R.RIS_PSEL).toNat % 16
  let r := s.ris
  if a = R.RIS_STAT then
    fields [(2, b2n (s.flashOn.any (fun o => o.rq.op == 6))), (1, b2n s.belowLimit), (0, b2n r.evalDone)]
  else if a = R.RIS_POOL0 then fields [(16, s.poolLimit p), (0, s.poolServing p)]
  else if a = R.RIS_POOL1 then
    fields [(24, min 255 (r.ents.filter (fun e => e.typ == 2 && e.pool == p)).length), (12, s.poolTotal p), (0, s.poolLeft p)]
  else if a = R.RIS_MAP then
    fields [(31, b2n r.ok1), (30, b2n r.ok2), (29, b2n (s.hasLeave .fieldMap)), (0, min 1024 r.ents.length)]
  else if a = R.RIS_MSEQ then w32 r.seq
  else s.reg a

/-- CLK. -/
def viewClk (s : State) (a : Nat) : Word :=
  let up := fun (p : Nat) => s.clkFailed / 2 ^ (8 + p) % 2 == 0
  if a = R.CLK_STAT then
    fields [(20, mask 4 s.hrefMon), (16, mask 4 (fun p => s.hrefMon p && up p)), (12, b2n s.ramping), (11, b2n s.clk.waiting),
      (4, mask 4 s.locks), (3, b2n s.clk.refX), (2, b2n s.clk.judged), (0, b2n s.clk.compat)]
  else if a = R.CLK_DOM then fields ((List.range 4).map (fun k => (8 * k, (s.pdom k).div)))
  else if a = R.PWR_STAT then fields [(16, s.leaveGranted), (0, s.variant.standing)]
  else if a = R.PWR_PEND then
    let h := s.leavePend.head?
    fields [(16, min 255 s.leavePend.length), (11, (h.map (·.blk)).getD 0), (0, min 127 ((h.map (·.tok)).getD 0))]
  else s.reg a

/-- SYS. -/
def viewSys (s : State) (a : Nat) : Word :=
  let n := (s.reg R.SYS_CSEL).toNat % 16
  let y := s.sys
  if a = R.SYS_MODE then
    fields [(20, b2n (s.dbg.st != 0)), (16, s.lifeCode), (8, y.reason),
      (5, b2n (((y.start.map (·.warm)).getD (bit (s.reg R.SYS_RCAUSE) 4)))), (4, b2n y.reqRefused), (3, b2n y.holdPend),
      (0, s.sysMode)]
  else if a = R.SYS_PAIR then fields [(1, b2n y.released)]
  else if a = R.SYS_VAR then fields [(16, 0x8440), (8, s.variant.code), (0, 2 ^ s.variant.ports - 1)]
  else if a = R.SYS_CAPV then w32 (s.caps.getD n 0)
  else if a = R.SYS_LIMV then w32 (s.lims.getD n 0)
  else s.reg a

/-- A general or special register of a pair, as the debug master sees it (DBG_CREG_SEL): 0-15, 16 PC, 32-55. -/
def cregRead (s : State) (p n : Nat) : Word :=
  let k := s.pair p
  if n < 16 then Tbl.get (fun _ => 0) k.g n
  else if n = 16 then k.pc
  else if 32 ≤ n ∧ n ≤ 55 then Sys2Proof.Machine.srRead s p (n - 32)
  else 0

/-- DBG. -/
def viewDbg (s : State) (a : Nat) : Word :=
  let d := s.dbg
  let sel := s.reg R.DBG_CREG_SEL
  if 0x21001000 ≤ a ∧ a < 0x21002000 then 0
  else if a = R.DBG_STAT then fields [(16, d.minutes), (2, d.scope), (0, d.st)]
  else if a = R.DBG_PAIRSTAT then w32 (mask 3 (fun p => (s.pair p).run == .debugHalt))
  else if a = R.DBG_CREG_DATA then s.cregRead (bits sel 9 8) (bits sel 5 0)
  else if a = R.DBG_INJ_STAT then putField (s.reg a) 18 16 d.injStep
  else if a = R.DBG_DENY then putBit (s.reg a) 31 d.loaded
  else s.reg a

/-- MLK. -/
def viewMlk (s : State) (a : Nat) : Word :=
  if a = R.MLK_STAT then
    fields [(10, b2n s.chout), (9, b2n s.mlk.chin), (8, b2n s.mlk.addr.isSome), (0, s.mlk.addr.getD 0)]
  else s.reg a

/-- A block-specific register of block `b`, instance `i`. -/
def view (s : State) (b i a : Nat) : Word :=
  if b = Blk.HPT then s.viewHpt i a
  else if b = Blk.TUN then s.viewTun a
  else if b = Blk.CTX then s.viewCtx a
  else if b = Blk.SYM then s.viewSym i a
  else if b = Blk.CRU then s.viewCru i a
  else if b = Blk.RNG then s.viewRng a
  else if b = Blk.KST then s.viewKst a
  else if b = Blk.GAT then s.viewGat a
  else if b = Blk.FLC then s.viewFlc a
  else if b = Blk.TAG then s.viewTag a
  else if b = Blk.CRD then s.viewCrd a
  else if b = Blk.FLK then s.viewFlk a
  else if b = Blk.SKM then s.viewSkm a
  else if b = Blk.RIS then s.viewRis a
  else if b = Blk.CLK then s.viewClk a
  else if b = Blk.SYS then s.viewSys a
  else if b = Blk.DBG then s.viewDbg a
  else s.viewMlk a

end State
end Sys2Proof.Machine
end

