-- ==== Sys2Proof/Machine/DebugOps.lean ====
section
/-! DEFINITION. What the registers of DBG do when they are written (18): tickets (R470-R475), halted pairs (R469), identity
injection (R465). -/

namespace Sys2Proof.Machine

namespace State

/-! ### Tickets -/

/-- The first `n` bytes of the ticket buffer, DBG page 1. -/
def ticketBuf (s : State) (n : Nat) : List Byte :=
  ((List.range 256).flatMap (fun k => leBytes 4 (s.reg (0x21001040 + 4 * k)).toNat)).take n

/-- Debug tickets signed by the vendor (0) or the customer (1) serve this lifecycle state (R471). -/
def authServes (s : State) (auth : Nat) : Bool :=
  if auth = 0 then s.life == .vendor || s.life == .shipped || s.life == .decommissioned
  else if auth = 1 then s.life == .commissioned || s.life == .decommissioned
  else false

/-- The authority entry of the OTP row: vendor at 0x100, customer at 0x120 (DEDUCED, log entry 56). -/
def authEntry (s : State) (auth : Nat) : List Byte := s.bytes (0x0C800100 + 0x20 * auth) 32

/-- Check 1 of R472: the mode, a serving Crucible unit, a lifecycle other than FOUNDRY. -/
def ticketMode (s : State) : Bool :=
  (s.mode == .start || s.mode == .service || s.mode == .hold) && !s.clk.waiting && s.life != .foundry &&
    (List.range 3).any (fun u => (s.unit u).serving)

end State

/-- Check 2 of R472: the format of the `len` bytes `t`. -/
def ticketForm (t : List Byte) (len : Nat) : Bool :=
  let f := leAt t
  let alg := f 7 1
  t.take 4 == [0x53, 0x4C, 0x47, 0x54] && f 4 1 == 1 && f 5 1 == 1 && (alg == 1 || alg == 5) && f 34 2 == 0 &&
    decide (f 28 4 < 64) && decide (1 ≤ f 26 2) && decide (f 26 2 ≤ 1440) && decide (f 32 2 ≤ 64) &&
    decide (len = 36 + ticketKey t + f 32 2 + 64)

namespace State

/-- The first of checks 1 to 6 of R472 that ticket `t` fails, as its RESULT; the RTC reads `now`. -/
def ticketFails (s : State) (t : List Byte) (len now : Nat) : Option Nat :=
  let f := leAt t
  let e := s.authEntry (f 6 1)
  let na := f 20 6
  if !s.ticketMode then some 7
  else if !ticketForm t len then some 1
  else if slice t 8 8 ≠ s.serial then some 2
  else if !s.authServes (f 6 1) ∨ e = List.replicate 32 0xFF ∨ sha256 (slice t 36 (ticketKey t)) ≠ e then some 3
  else if na ≠ 0xFFFFFFFFFFFF ∧ (!s.rtcValid ∨ na < now) then some 4
  else if !s.dbg.loaded ∨ f 16 4 ≤ (s.reg R.DBG_TCTR).toNat then some 5
  else none

/-- GO on a ticket of `len` bytes: refused at once, or its signature waits for the port path. -/
def ticketGo (s : State) (len : Nat) : State :=
  s.rtcNow (fun now s =>
    let t := s.ticketBuf len
    match s.ticketFails t len now with
    | some r => s.ticketRefuse r
    | none =>
      let s := { s.setReg R.DBG_TKT_STAT 0x80000000 with dbg := { s.dbg with verify := some t, verdict := none } }
      if s.fwJob.isSome then s
      else { s with nextJob := s.nextJob + 1, fwJob := some (ticketJob s.nextJob t) })

/-- A write of DBG_TKT_CMD: CLOSE, then GO. GO by a core, or while a ticket is verified, and CLOSE by a pair other than
SUPERVISOR are violations (R474, R479). -/
def tktWrite (s : State) (rq : Rq) (v : Word) : Option State :=
  if (bit v 31 ∧ (rq ≠ .debug ∨ s.dbg.verify.isSome)) ∨ (bit v 30 ∧ rq ≠ .debug ∧ !s.isSup rq) then none
  else
    let s := if bit v 30 then s.ticketEnd (if rq = .debug then 2 else 3) else s
    some (if bit v 31 then s.ticketGo (bits v 10 0) else s)

/-- An accepted ticket (R473). A ticket in force ends with code 7. -/
def ticketAccept (s : State) (t : List Byte) : State :=
  let f := leAt t
  let s := s.ticketEnd 7
  let s := (s.setReg R.DBG_TCTR (w32 (f 16 4))).setReg R.DBG_TKT_STAT 0x40000000
  let s := { s with dbg := { s.dbg with
    st := 1, scope := f 28 4 % 64, minutes := f 26 2, verify := none, verdict := none } }
  (s.event Blk.DBG 0 2).fault Blk.DBG 0 Kind.CEREMONY (0xDB00000000 + f 16 4)

/-- The outcome of a verification whose signature check has ended: the counter is judged again (R19, R479). -/
def ticketDone (s : State) : State :=
  match s.dbg.verify, s.dbg.verdict with
  | some t, some true =>
    if leAt t 16 4 ≤ (s.reg R.DBG_TCTR).toNat then s.ticketRefuse 5 else s.ticketAccept t
  | some _, some false => s.ticketRefuse 6
  | _, _ => s

/-- A write of DBG_TCTR (R475): by the SUPERVISOR pair only, never below VALUE; it sets LOADED. -/
def tctrWrite (s : State) (rq : Rq) (v : Word) : Option State :=
  if !s.isSup rq ∨ v.toNat < (s.reg R.DBG_TCTR).toNat then none
  else some { s.setReg R.DBG_TCTR v with dbg := { s.dbg with loaded := true } }

/-! ### Pairs halted by debug (R469) -/

/-- The debug master controls pair `p`: its role is in scope, or FOUNDRY_OPEN. -/
def pairInScope (s : State) (p : Nat) : Bool :=
  s.dbg.st == 2 || ((s.pair p).role == 2 && s.inScope 0) || ((s.pair p).role == 1 && s.inScope 1)

/-- A write of DBG_PAIRCTL: HALT, STEP or RESUME, in that order when several are asked. -/
def dbgPairWrite (s : State) (rq : Rq) (v : Word) : Option State :=
  let p := bits v 5 4
  if rq ≠ .debug ∨ p = 3 ∨ !s.pairInScope p then none
  else if bit v 0 then
    some (if s.pairRuns p then s.modPair p (fun k => { k with run := .debugHalt, stepOne := false }) else s)
  else if (s.pair p).run ≠ .debugHalt then some s
  else if bit v 2 then some (s.modPair p (fun k => { k with run := .running, stepOne := true }))
  else if bit v 1 then some (s.modPair p (fun k => { k with run := .running, stepOne := false }))
  else some s

/-- The register DBG_CREG_SEL names can be reached by `rq`: its pair is halted by debug. -/
def cregOpen (s : State) : Bool :=
  let p := s.fld R.DBG_CREG_SEL 9 8
  p != 3 && (s.pair p).run == .debugHalt

/-- Writes register `n` of pair `p`: the level-0 column of R277; a CS written keeps what no MTS may write. -/
def cregWrite (s : State) (p n : Nat) (v : Word) : State :=
  s.modPair p (fun k =>
    if n < 16 then { k with g := Tbl.set (fun _ => 0) k.g n v }
    else if n = 16 then { k with pc := v }
    else if n = 32 then { k with cs := putField (putField k.cs 31 28 (bits v 31 28)) 8 7 (bits v 8 7) }
    else if 32 < n ∧ n ≤ 55 ∧ (mtsLevel (n - 32)).isSome then srWrite k (n - 32) v
    else k)

/-- A write of DBG_CREG_DATA. -/
def cregDataWrite (s : State) (v : Word) : Option State :=
  if s.cregOpen then some (s.cregWrite (s.fld R.DBG_CREG_SEL 9 8) (s.fld R.DBG_CREG_SEL 5 0) v) else none

/-! ### Identity injection (R465) -/

/-- The `n` bytes of the OTP row at `o` are blank. -/
def otpBlank (s : State) (o n : Nat) : Bool := (s.bytes (0x0C800000 + o) n).all (fun b => b == 0xFF)

/-- The 32 bytes of a secret at `o` are partly programmed: some 8-byte word is, and some is not. -/
def otpTorn (s : State) (o : Nat) : Bool :=
  let w := (List.range 4).map (fun i => s.otpBlank (o + 8 * i) 8)
  w.any id && w.any (fun b => !b)

/-- What an injection needs before it starts. -/
def injReady (s : State) (m n : Nat) : Bool :=
  let h := s.authHash
  !s.otpBlank 0 8 && !s.otpBlank 0x80 64 &&
    (!s.otpBlank 0x100 32 || (h != zeros 32 && h != List.replicate 32 0xFF)) &&
    decide (2 ≤ m) && decide (m ≤ n) && decide (n ≤ 8) && s.rngReady

/-- Step 1: DEV_SEED. -/
def injSeed (s : State) : State :=
  let s := { s with dbg := { s.dbg with injStep := 1 } }
  if s.otpBlank 0x1000 32 then s.reseedInternal.drawBytes 32 (fun k s => s.setBytes 0x0C801000 ((k ++ zeros 32).take 32)) else s

/-- Step 2: ID_KEY and ID_PUB. -/
def injKey (s : State) : State :=
  let s := { s with dbg := { s.dbg with injStep := 2 } }
  if s.otpBlank 0x1020 32 then
    s.drawUnit (fun r s =>
      let d := beBytes 32 ((curveOf 1).scalar r)
      let pub := ecPublic 1 d
      let s := s.setBytes 0x0C801020 d
      (List.range 17).foldl (fun s i => s.setReg (0x21002060 + 4 * i) (w32 (leAt pub (4 * i) 4))) s)
  else s

/-- Step 5 for a set programmed by an earlier command: LIFECYCLE word 0. -/
def injRaise (s : State) : State :=
  let s := s.raiseWord 0
  let s := { s with life := .vendor, dbg := { s.dbg with st := 0, injStep := 6 } }
  (s.injEnd 0).event Blk.DBG 0 6

/-- Steps 1 to 3, and the opening of step 4. -/
def injGo (s : State) (m n : Nat) : State :=
  if s.otpTorn 0x1000 ∨ s.otpTorn 0x1020 then s.injEnd 3
  else
    let s := s.injSeed.injKey
    let s := ({ s with dbg := { s.dbg with injStep := 3 } }).otpFill 0x100 s.authHash
    let s := { s with dbg := { s.dbg with injStep := 4 } }
    if s.otpBlank 0x140 8 then s.cerWrite 0 m n else s.injRaise

/-- A write of DBG_INJ_CMD: the debug master's GO, refused while an injection runs. -/
def injWrite (s : State) (rq : Rq) (v : Word) : Option State :=
  if rq ≠ .debug ∨ (bit v 31 ∧ s.dbg.injOn) then none
  else if !bit v 31 then some s
  else
    let m := bits v 11 8
    let n := bits v 7 4
    let s : State := { s.setReg R.DBG_INJ_STAT 0x80000000 with dbg := { s.dbg with injOn := true } }
    if s.dbg.st ≠ 2 ∨ s.mode ≠ Mode.service then some (s.injEnd 1)
    else if !s.injReady m n then some (s.injEnd 2)
    else some (s.injGo m n)

/-! ### The pages of DBG -/

/-- A write to a block-specific register of DBG; none is a violation. -/
def dbgWrite (s : State) (rq : Rq) (a : Nat) (v : Word) : Option State :=
  if a = R.DBG_TKT_CMD then s.tktWrite rq v
  else if a = R.DBG_TCTR then s.tctrWrite rq v
  else if a = R.DBG_PAIRCTL then s.dbgPairWrite rq v
  else if a = R.DBG_CREG_SEL then some (s.setReg a (v &&& 0x33F))
  else if a = R.DBG_CREG_DATA then s.cregDataWrite v
  else if a = R.DBG_INJ_CMD then s.injWrite rq v
  else if 0x21001000 ≤ a ∧ a < 0x21002000 then
    if rq ≠ .debug then none
    else if 0x21001040 ≤ a ∧ a < 0x21001440 then some (s.setReg a v) else some s
  else if 0x21002040 ≤ a ∧ a < 0x21002060 then some (s.setReg a v)
  else some s

end State
end Sys2Proof.Machine
end

