-- ==== Sys2Proof/Machine/SoftReset.lean ====
section
/-! DEFINITION. The soft reset of a block instance (R16, R17): the work each chapter says it ends, and the registers that
return to their reset values. -/

namespace Sys2Proof.Machine

/-- The registers a soft reset of block `b` keeps by its chapter (R165, R269, R320, R346, R392, R410, R461, R480, R503), or
that its work sets itself. A register whose reset value is set by Start keeps the value Start gave it or firmware recorded
since. -/
def srstKeep (b a : Nat) : Bool :=
  if b = Blk.TUN then a != R.TUN_ERR && a != R.TUN_QSEL
  else if b = Blk.CTX then
    a == R.CTX_CFG || a == R.CTX_VSEQ_HI ||
      (decide (R.CTX_DOM_VB ≤ a) && decide (a < R.CTX_PEEK_SEL) && (a % 16 == 0 || a % 16 == 4))
  else if b = Blk.HPT then a % 0x40000 == 0x4C
  else if b = Blk.KST then decide (R.KST_DOM_SL ≤ a) && decide (a < R.KST_DOM_SL + 16)
  else if b = Blk.FLC then decide (R.FLC_BSTAT ≤ a) && decide (a < R.FLC_XO_BASE)
  else if b = Blk.CRD then a == R.CRD_GEN
  else if b = Blk.FLK then a == R.FLK_CFG || a == R.FLK_RESP || a == R.FLK_RTC_TRIM
  else if b = Blk.CLK then a != R.PWR_WAITS && a != R.PWR_REFUSED
  else if b = Blk.SYS then a != R.SYS_CSEL
  else if b = Blk.DBG then a == R.DBG_TCTR
  else false

namespace State

/-- Registers of block `b`, instance `i` return to their reset values, but for locked RWL fields, those the chapter keeps and
`more`. -/
def clearRegs (s : State) (b i : Nat) (more : Nat → Bool) : State :=
  let lo := blkBase b i
  let hi := lo + blkPages b * 0x1000
  let mine := fun (a : Nat) => decide (lo ≤ a) && decide (a < hi)
  { s with regs := Tbl.clear (fun a => mine a && !srstKeep b a && !more a && !s.rwlShut b i a) s.regs }

/-! ### The work each block ends -/

/-- CTX (R165): parked jobs end; contexts are evicted when the reset ends, no job being pinned then. -/
def ctxSoftReset (s : State) : State :=
  let l := s.jobs.filter (fun j => j.stage == .parked)
  let s := { s with installs := [] }.failAll l St.ENGINE_UNAVAILABLE 4 0x0133 0
  if s.locked Blk.CTX 0 then s else (s.ctxCfgWrite (regReset R.CTX_CFG)).getD s

/-- SYM, lane `n` (R194): its work ends, keys, buffers and expander go, and the lane is dormant. -/
def symSoftReset (s : State) (n : Nat) : State :=
  let s := s.laneStop n 0x0156
  let s := if (s.lane n).leave then s.laneDormant n else s
  s.modLane n (fun l => { l with blocks := 0, since := 0 })

/-- CRU, unit `u` (R217): its job ends under R213, the unit is wiped and tested; instance 0 ends the port job too. -/
def cruSoftReset (s : State) (u : Nat) : State :=
  let s := s.cruAbort u St.ENGINE_UNAVAILABLE 0x016E u
  let k := s.unit u
  let s := if k.st = .idle then s.modUnit u (fun k => { k with st := .test, since := 0 })
    else if k.st = .wipe then s.modUnit u (fun k => { k with testDue := true })
    else s
  if u ≠ 0 then s
  else
    let s := match s.fwWait with
      | some j => s.fwFail j St.ENGINE_UNAVAILABLE 6 0x016E
      | none => s
    match s.fwJob with
    | none => s
    | some j =>
      if j.dom = 5 then s
      else match (List.range 3).find? (fun v => (s.unit v).fw) with
        | some v => s.cruAbort v St.ENGINE_UNAVAILABLE 0x016E v
        | none => s.fwFail j St.ENGINE_UNAVAILABLE 6 0x016E

/-- KST (R269): a ceremony fails, a firmware command ends with cause 0x018F; its record, if it waits for one, becomes
durable all the same, as slots and image are kept. -/
def kstSoftReset (s : State) : State :=
  let own := fun (r : ImgRec) => match r.who with
    | .fw _ _ => { r with who := .none }
    | _ => r
  let busy := bit (s.reg R.KST_FW_STAT) 31
  let s := if s.cerRuns then s.cerFail 2 else { s with kst := { s.kst with cer := {} } }
  let s := { s with kst := { s.kst with queue := s.kst.queue.map own } }
  if busy then s.kstFwEnd 0x018F else s

/-- FLC (R346): operations begun run on; a firmware command not yet begun ends with RESULT ABORTED. -/
def flcSoftReset (s : State) : State :=
  let begun := s.flashOn.any (fun o => o.rq.what == .flash && (o.granted || o.susp != 0))
  if s.flcBusy ∧ !begun then (s.releaseLeave .flash).flcEnd 6 else s

/-- CRD (R392): a card write already begun runs to its DONE; a generation is abandoned, the command ends, both slots are
deactivated. -/
def crdSoftReset (s : State) : State :=
  let s := if s.crd.op ≠ 0 then s.custEnd St.ENGINE_UNAVAILABLE 0x01B6 else s
  let s := match s.crd.run with
    | none => s
    | some g =>
      if (g.stage = GStage.writing ∧ s.crd.st = 4) ∨ g.stage = GStage.closing then
        { s with crd := { s.crd with run := some { g with stop := true } } }
      else if g.stage = GStage.ending ∧ s.crd.jprog then s
      else
        let s := { s with crd := { s.crd with jq := if s.crd.jprog then s.crd.jq.take 1 else [] } }.withdraw .journal
        s.genAbandon g.gen
  (s.ccDeact 0).ccDeact 1

/-- DBG (R480): a verification or an injection ends with RESULT 8; state, scope, timer, counter and halts stay. -/
def dbgSoftReset (s : State) : State :=
  let s := if s.dbg.verify.isSome then
      { s.setReg R.DBG_TKT_STAT 0x40000008 with dbg := { s.dbg with verify := none, verdict := none } }
    else s
  if s.dbg.injOn then (s.injEnd 8).cerFail 2 else s

/-- The work in hand of block `b`, instance `i`, ends or is kept as its chapter states (R16, step 2). -/
def srstWork (s : State) (b i : Nat) : State :=
  if b = Blk.HPT then
    if s.locked b i then s else s.hptCfgWrite i (w32 (b2n (decide (i < s.variant.ports))))
  else if b = Blk.CTX then s.ctxSoftReset
  else if b = Blk.SYM then s.symSoftReset i
  else if b = Blk.CRU then s.cruSoftReset i
  else if b = Blk.RNG then
    (if bit (s.reg R.RNG_CAPT) 31 then (s.captWrite 0).getD s else s).rngSoftReset
  else if b = Blk.KST then s.kstSoftReset
  else if b = Blk.FLC then s.flcSoftReset
  else if b = Blk.TAG then s.tagSoftReset
  else if b = Blk.CRD then s.crdSoftReset
  else if b = Blk.FLK then
    { s with flk := { s.flk with meas := false, temp := none, setLo := 0, clrMiss := false } }
  else if b = Blk.SKM then { s with skm := { s.skm with lost := 0 } }
  else if b = Blk.SYS then { s with sys := { s.sys with reqRefused := false } }
  else if b = Blk.DBG then s.dbgSoftReset
  else s

/-- Outcome registers that outlive the reset: those of a command that this reset has ended, or that runs on. -/
def srstMore (s t : State) (b a : Nat) : Bool :=
  if b = Blk.CRU then a == R.CRU_FW_STAT && s.portBusy
  else if b = Blk.KST then
    (a == R.KST_FW_STAT && bit (s.reg R.KST_FW_STAT) 31)
  else if b = Blk.FLC then a == R.FLC_STATUS && s.flcBusy
  else if b = Blk.TAG then a == R.TAG_CRED_STAT && bit (s.reg R.TAG_CRED_STAT) 31
  else if b = Blk.CRD then a == R.CRD_CUST_STAT && s.crd.op != 0
  else if b = Blk.DBG then
    (a == R.DBG_TKT_STAT && s.dbg.verify.isSome) || (a == R.DBG_INJ_STAT && t.dbg.injStep != 0 && s.dbg.injOn)
  else false

/-- A write of SRST = 1 (R16, steps 1 to 5). -/
def softReset (s : State) (b i : Nat) : State :=
  let h := s.hdr b i
  let s := s.setHdr b i { h with srstBusy := true }
  let t := s.srstWork b i
  let t := t.clearRegs b i (fun a => s.srstMore t b a)
  let h := t.hdr b i
  t.setHdr b i { h with evt := 0, evtCnt := 0 }

/-- A soft reset of the instance can end: for CTX, no job is pinned to a context (R165). -/
def srstReady (s : State) (b : Nat) : Bool := b != Blk.CTX || !s.ctxs.any (fun c => s.pinned c.dom c.idx)

/-- Step 6, and for CTX the eviction of every context. -/
def srstEnd (s : State) (b i : Nat) : State :=
  let s := if b = Blk.CTX then s.evict (fun _ => true) else s
  let h := s.hdr b i
  s.setHdr b i { h with srstBusy := false, held := [] }

end State
end Sys2Proof.Machine
end

