-- ==== Sys2Proof/Machine/Bus.lean ====
section
/-! DEFINITION. Register reads and writes (R10-R12, R18 and each chapter's registers), and the loads and stores of a pair and
of the debug master on the fabric (R20, R33, R285, R327, R466). -/

namespace Sys2Proof.Machine

/-- The events block `b` can raise besides FAULT and FENCE: the highest bit number of its BEVT table. -/
def lastEvent (b : Nat) : Nat :=
  if b = Blk.TUN ∨ b = Blk.CTX ∨ b = Blk.SYM ∨ b = Blk.RIS ∨ b = Blk.CLK ∨ b = Blk.FLK then 5
  else if b = Blk.CRU ∨ b = Blk.SKM then 4
  else if b = Blk.RNG then 5
  else if b = Blk.KST ∨ b = Blk.FLC ∨ b = Blk.DBG then 6
  else if b = Blk.GAT ∨ b = Blk.SYS then 3
  else if b = Blk.TAG ∨ b = Blk.CRD then 7
  else 1

/-- The defined bits of BLK_EVT of block `b`. -/
def evtMask (b : Nat) : Word := w32 (2 ^ (lastEvent b + 1) - 1)

/-- How many bits of a word are 1. -/
def ones (w : Word) : Nat := ((List.range 32).filter (fun n => bit w n)).length

namespace State

/-! ### Reads -/

/-- A read of the register at `a` with its value as the machine shows it. -/
def seen (s : State) (b i a : Nat) : Option (State × Word) := some (s, s.view b i a)

/-- A read of a low word, with the high word captured in register `hi` (R10). -/
def captures (s : State) (b i a hi v : Nat) : Option (State × Word) := some (s.setReg hi (w32 v), s.view b i a)

/-- The word of RNG pages 4-7 at `a`: raw bits captured, outside FOUNDRY and VENDOR 0 (R237). -/
def capWord (s : State) (a : Nat) : Word :=
  if s.life = .foundry ∨ s.life = .vendor then s.rng.capWords.getD ((a - 0x20904000) / 4) 0 else 0

/-- A read of DBG_CREG_DATA (R469): refused unless the pair is halted by debug; CYCLO is a free count and captures CYCHI. -/
def cregDataRead (s : State) : Option (State × Word) :=
  let p := s.fld R.DBG_CREG_SEL 9 8
  let n := s.fld R.DBG_CREG_SEL 5 0
  if !s.cregOpen then none
  else if n = 44 then
    let f := Config.free s.fresh
    some ({ s with fresh := s.fresh + 1 }.modPair p (fun k => { k with cycHi := w32 (f / 2 ^ 32) }), w32 f)
  else some (s, s.cregRead p n)

/-- The minutes left of TICKETED: a free amount has passed since they were last looked at (DBG_STAT.MINUTES, R474). -/
def minutesNow (s : State) : State :=
  if s.dbg.st = 1 ∧ 1 < s.dbg.minutes then
    s.withFree (fun n s => { s with dbg := { s.dbg with minutes := s.dbg.minutes - n % s.dbg.minutes } })
  else s

/-- SKM_RV0: a read captures SKM_RV1 to SKM_RV4 of the same record. -/
def ringRead (s : State) (a : Nat) : Option (State × Word) :=
  let hi := fun (s : State) (m r t u : Word) =>
    (((s.setReg (R.SKM_RV + 4) m).setReg (R.SKM_RV + 8) r).setReg (R.SKM_RV + 12) t).setReg (R.SKM_RV + 16) u
  match s.skm.ring[(s.reg R.SKM_RSEL).toNat % 512]? with
  | some r =>
    some (hi s r.msg.hi (w32 r.seq) (w32 r.rtc) (fields [(16, r.rep), (0, r.rtc / 2 ^ 32)]), s.view Blk.SKM 0 a)
  | none => some (hi s 0 0 0 0, 0)

/-- A read of a block-specific register; none is a violation. -/
def bodyRead (s : State) (b i a : Nat) : Option (State × Word) :=
  if b = Blk.SYM ∧ a = symReg R.SYM_BLK_LO i then s.captures b i a (symReg R.SYM_BLK_HI i) ((s.lane i).blocks / 2 ^ 32)
  else if a = R.CTX_VSEQ_LO then s.captures b i a R.CTX_VSEQ_HI (s.vault.seq % 2 ^ 37 / 2 ^ 32)
  else if a = R.CTX_PEEK1 then s.captures b i a R.CTX_PEEK2 (s.peek.1.tx / 2 ^ 32)
  else if a = R.CTX_PEEK3 then s.captures b i a R.CTX_PEEK4 (s.peek.1.rx / 2 ^ 32)
  else if a = R.KST_SV_INV_LO then
    s.captures b i a R.KST_SV_INV_HI ((s.slot ((s.reg R.KST_SEL).toNat % 0x1000)).inv / 2 ^ 32)
  else if a = R.RNG_FWRND_LO then
    let s := s.fwrndRead
    some (s.setReg R.RNG_FWRND_HI (w32 (b2n s.rng.fwValid)), s.rng.fwData)
  else if a = R.RNG_CAPT then s.capAdvance.seen b i a
  else if b = Blk.RNG ∧ 0x20904000 ≤ a then
    let s := s.capAdvance
    some (s, s.capWord a)
  else if a = R.FLK_RTC_LO then
    let s := s.rtcNow (fun t s => s.setReg R.FLK_RTC_HI (w32 (t / 2 ^ 32)))
    s.seen b i a
  else if R.FLK_TS_LO ≤ a ∧ a < R.FLK_TS_LO + 112 ∧ a % 8 = 0 then
    let n := (a - R.FLK_TS_LO) / 8
    some (s.setReg (a + 4) (fields [(24, s.flkCount n), (0, s.flkTime n / 2 ^ 32)]), w32 (s.flkTime n))
  else if a = R.SKM_RV then s.ringRead a
  else if a = R.DBG_CREG_DATA then s.cregDataRead
  else if a = R.DBG_STAT then s.minutesNow.seen b i a
  else s.seen b i a

/-- A read of the register at offset `off` of page `pg` of block `b`, instance `i`; none is a violation. -/
def regRead (s : State) (b i pg off : Nat) : Option (State × Word) :=
  if off < 0x40 then
    let h := s.hdr b i
    some (if off = 0x20 then s.setHdr b i { h with faultCap := h.faultHi } else s, s.headRead b i pg off)
  else s.bodyRead b i (blkBase b i + pg * 0x1000 + off)

/-! ### Writes to the common header -/

/-- A write of ones to BLK_EVT while hardware sets the bits of `hit` (R18): the set wins, and each bit met is counted. -/
def evtClear (s : State) (b i : Nat) (v hit : Word) : State :=
  let h := s.hdr b i
  let hit := hit &&& evtMask b
  s.setHdr b i { h with
    evt := (h.evt &&& ~~~v) ||| hit, evtCnt := min 0xFFFF (h.evtCnt + ones (v &&& hit)) }

/-- BLK_CTRL.EN. A block that runs again takes the work waiting for it. -/
def enWrite (s : State) (b i : Nat) (en : Bool) : State :=
  let h := s.hdr b i
  let s := s.setHdr b i { h with en := en }
  if b = Blk.FLC ∧ en then (List.range 6).foldl (fun s k => s.flashNext k (s.flashQ.length + 1)) s else s

/-- A write of BLK_CTRL (R16). -/
def ctrlWrite (s : State) (b i : Nat) (v : Word) : State :=
  let s := s.enWrite b i (bit v 0)
  if bit v 1 then s.softReset b i else s

/-- BLK_LOCK.LOCK is set (R11). -/
def lockWrite (s : State) (b i : Nat) : State :=
  let h := s.hdr b i
  s.setHdr b i { h with lock := true }

/-- A write to the common header. -/
def headWrite (s : State) (b i off : Nat) (v : Word) : State :=
  let h := s.hdr b i
  if off = 0x0C then s.ctrlWrite b i v
  else if off = 0x14 then s.evtClear b i v 0
  else if off = 0x18 then s.setHdr b i { h with evtEn := v }
  else if off = 0x28 then s.fenceWrite b i v
  else if off = 0x34 then (if bit v 0 then s.lockWrite b i else s)
  else s

/-! ### Writes to block-specific registers -/

/-- The value is set in the writable fields; a register without any ignores it (R11, R12). -/
def plainWrite (s : State) (a : Nat) (v : Word) : State :=
  match regRow a with
  | none => s
  | some r =>
    let m := w32 r.rw ||| w32 r.rwl
    s.setReg a ((s.reg a &&& ~~~m) ||| (v &&& m))

/-- `plainWrite` if `ok`, else a violation. -/
def checked (s : State) (a : Nat) (v : Word) (ok : Bool) : Option State := if ok then some (s.plainWrite a v) else none

/-- The sum over the domains of a field of a register array, register `d` taken as `v`. -/
def domSum (s : State) (base stride hi lo d : Nat) (v : Word) : Nat :=
  ((List.range 4).map (fun x => if x = d then bits v hi lo else s.fld (base + x * stride) hi lo)).sum

/-- A write of TUN_DOM_QP (R110). -/
def domQpWrite (s : State) (d a : Nat) (v : Word) : Option State :=
  let n := bits v 30 16
  let b := bits v 14 0
  let owned := s.qps.any (fun e => e.2.st != .absent && e.2.dom == d && decide (4 ≤ e.1))
  let clash := (List.range 4).any (fun x =>
    let r := R.TUN_DOM_QP + x * 0x20
    let m := s.fld r 30 16
    let c := s.fld r 14 0
    x != d && decide (n ≠ 0) && decide (m ≠ 0) && decide (b < c + m) && decide (c < b + n))
  s.checked a v (!owned && !clash && (n == 0 || (decide (4 ≤ b) && decide (b + n ≤ s.variant.qps))))

/-- A lower QUOTA takes the share in force down at once, and a share waiting for its period with it (R116). -/
def shareCap (s : State) (d q : Nat) : State :=
  s.modPort d (fun p => { p with share := min p.share q, newShare := p.newShare.map (min q) })

/-- TUN. -/
def tunWrite (s : State) (a : Nat) (v : Word) : Option State :=
  let d := (a - R.TUN_DOM_QP) / 0x20
  let o := (a - R.TUN_DOM_QP) % 0x20
  if R.TUN_DOM_QP ≤ a ∧ d < 4 then
    if o = 0x00 then s.domQpWrite d a v
    else if o = 0x04 then
      (s.checked a v (decide (s.domSum R.TUN_DOM_SHQ 0x20 6 0 d v ≤ 64))).map (fun s => s.shareCap d (bits v 6 0))
    else if o = 0x08 then
      s.checked a v (decide (bits v 13 0 ≤ bits v 29 16) && decide (s.domSum R.TUN_DOM_INFL 0x20 13 0 d v ≤ 8192))
    else if o = 0x0C then
      s.checked a v (decide (bits v 12 0 ≤ bits v 28 16) && decide (s.domSum R.TUN_DOM_PARK 0x20 12 0 d v ≤ 4096))
    else if o = 0x14 then s.checked a v (decide (s.domSum R.TUN_DOM_ENQ 0x20 18 0 d v ≤ s.variant.enrolled))
    else some (s.plainWrite a v)
  else some (s.plainWrite a v)

/-- CTX. -/
def ctxWrite (s : State) (a : Nat) (v : Word) : Option State :=
  let d := (a - R.CTX_DOM_VB) / 0x10
  let o := (a - R.CTX_DOM_VB) % 0x10
  if a = R.CTX_CFG then s.ctxCfgWrite v
  else if a = R.CTX_CTRL then s.ctxCtrlWrite v
  else if R.CTX_DOM_VB ≤ a ∧ d < 4 then
    if o = 0 then s.rangeWrite d false v
    else if o = 4 then s.rangeWrite d true v
    else if o = 12 then s.checked a v (decide (s.domSum R.CTX_DOM_CR 0x10 12 0 d v ≤ s.variant.contexts))
    else some s
  else some (s.plainWrite a v)

/-- CRU: a port register is refused while a port job runs (R215). -/
def cruWrite (s : State) (rq : Rq) (i a : Nat) (v : Word) : Option State :=
  if a = cruReg R.CRU_UCTRL i then s.uctrlWrite i v
  else if a = R.CRU_FW_CMD then s.fwCmdWrite rq v
  else if R.CRU_FW_CMD < a ∧ a ≤ R.CRU_FW_RES ∧ s.portBusy then none
  else some (s.plainWrite a v)

/-- RNG. -/
def rngWrite (s : State) (a : Nat) (v : Word) : Option State :=
  if a = R.RNG_CTRL then some (if bit v 0 then s.reseedInternal else s)
  else if a = R.RNG_CAPT then s.captWrite v
  else if a = R.RNG_CFG then
    s.checked a v (decide (10 ≤ bits v 20 16) && decide (bits v 20 16 ≤ 24) && decide (bits v 15 8 ≠ 0) &&
      decide (1 ≤ bits v 3 0) && decide (bits v 3 0 ≤ 8))
  else if a = R.RNG_HCFG then s.checked a v (decide (600 ≤ bits v 25 16) && decide (32 ≤ bits v 7 0))
  else some (s.plainWrite a v)

/-- A write of KST_DOM_SL (R243): every slot of the old and of the new range is empty, and no ranges overlap; the ranges are
then recorded in the image. -/
def domSlotWrite (s : State) (d a : Nat) (v : Word) : Option State :=
  let b := bits v 11 0
  let n := bits v 28 16
  let o := s.reg a
  let held := fun (lo n : Nat) => s.slots.any (fun e => e.2.st != .empty && decide (lo ≤ e.1) && decide (e.1 < lo + n))
  let clash := (List.range 4).any (fun x =>
    let r := R.KST_DOM_SL + x * 4
    let m := s.fld r 28 16
    let c := s.fld r 11 0
    x != d && decide (n ≠ 0) && decide (m ≠ 0) && decide (b < c + m) && decide (c < b + n))
  if clash ∨ held b n ∨ held (bits o 11 0) (bits o 28 16) ∨ 4096 < b + n then none
  else
    let s := s.plainWrite a v
    some (if s.kst.imgOk then
      s.imgAppend 0 (.ranges ((List.range 4).map (fun d => (s.reg (R.KST_DOM_SL + 4 * d)).toNat))) .none
    else s)

/-- KST. -/
def kstWrite (s : State) (a : Nat) (v : Word) : Option State :=
  if a = R.KST_FW_CMD then s.kstFwWrite v
  else if a = R.KST_CER_CMD then s.cerCmdWrite v
  else if a = R.KST_QCTL then
    if bits v 31 16 ≠ 0x5143 then none else some (if bit v 0 then s.quenchLock 3 false else s)
  else if a = R.KST_CFG then s.checked a v (decide (60 ≤ bits v 11 0) && decide (bits v 11 0 ≤ 3600))
  else if R.KST_DOM_SL ≤ a ∧ a < R.KST_DOM_SL + 16 then s.domSlotWrite ((a - R.KST_DOM_SL) / 4) a v
  else some (s.plainWrite a v)

/-- GAT: the regions of a bank that a running pair names cannot be written (R316). -/
def gatWrite (s : State) (rq : Rq) (a : Nat) (v : Word) : Option State :=
  let named := fun (b : Bool) => (List.range 3).any (fun p => s.pairRuns p && csBank (s.pair p).cs == b)
  if a = R.GAT_PAIR_CTL then s.pairCtlWrite rq v
  else if 0x20F01040 ≤ a ∧ a < 0x20F01240 then s.checked a v (!named false)
  else if 0x20F02040 ≤ a ∧ a < 0x20F02240 then s.checked a v (!named true)
  else some (s.plainWrite a v)

/-- FLC. -/
def flcWrite (s : State) (a : Nat) (v : Word) : Option State :=
  if a = R.FLC_CMD then s.flcCmdWrite v
  else if a = R.FLC_CFG then s.flcCfgWrite v
  else if a = R.FLC_ADDR ∨ (R.FLC_PBUF ≤ a ∧ a < R.FLC_PBUF + 256) then s.checked a v (!s.flcBusy)
  else some (s.plainWrite a v)

/-- TAG. -/
def tagWrite (s : State) (a : Nat) (v : Word) : Option State :=
  if a = R.TAG_CRED_CMD then s.credWrite v
  else if a = R.TAG_CRED_PW0 then s.pwWrite false v
  else if a = R.TAG_CRED_PW1 then s.pwWrite true v
  else some (s.plainWrite a v)

/-- FLK. -/
def flkWrite (s : State) (rq : Rq) (a : Nat) (v : Word) : Option State :=
  if a = R.FLK_CLR then s.flkClrWrite rq v
  else if a = R.FLK_CFG then s.flkCfgWrite v
  else if a = R.FLK_RESP then s.flkRespWrite v
  else if a = R.FLK_RTC_SET_LO then some { s with flk := { s.flk with setLo := v } }
  else if a = R.FLK_RTC_SET_HI then s.rtcSetWrite v
  else if a = R.FLK_RTC_MEAS then some (s.rtcMeasWrite v)
  else some (s.plainWrite a v)

/-- From SHIPPED on a kind's reaction may not be lowered, nor OPEN or MIRROR cleared (R413 and the text after it). -/
def kcfgOk (s : State) (a : Nat) (v : Word) : Bool :=
  s.life == .foundry || s.life == .vendor ||
    (decide (s.fld a 1 0 ≤ bits v 1 0) && (!bit (s.reg a) 2 || bit v 2) && (!bit (s.reg a) 3 || bit v 3))

/-- SKM. -/
def skmWrite (s : State) (a : Nat) (v : Word) : Option State :=
  if a = R.SKM_CLR then s.clrWrite v
  else if a = R.SKM_CFG then s.checked a v (decide (bits v 7 0 ≠ 0) && decide (bits v 23 16 ≠ 0))
  else if R.SKM_KCFG ≤ a ∧ a < R.SKM_KCFG + 256 then s.checked a v (s.kcfgOk a v)
  else some (s.plainWrite a v)

/-- RIS. -/
def risWrite (s : State) (a : Nat) (v : Word) : Option State :=
  if a = R.RIS_CFG then s.checked a v (decide (bits v 11 8 ≠ 0) && decide (bits v 7 0 ≠ 0))
  else if a = R.RIS_TREND then
    s.checked a v (decide (bits v 23 16 ≠ 0) && decide (bits v 15 8 ≠ 0) && decide (bits v 7 0 ≠ 0))
  else some (s.plainWrite a v)

/-- CLK. -/
def clkWrite (s : State) (a : Nat) (v : Word) : Option State :=
  if a = R.CLK_XSTAB then s.xstabWrite v
  else if a = R.CLK_XTOL then s.checked a v (decide (1000 ≤ bits v 15 0) && decide (bits v 15 0 ≤ 50000))
  else if a = R.CLK_XWIN then s.checked a v (decide (bits v 7 0 ≠ 0))
  else if a = R.PWR_BUDGET then s.budgetWrite v
  else if a = R.PWR_MAXWAIT then s.checked a v (decide (bits v 15 0 ≠ 0))
  else some (s.plainWrite a v)

/-- SYS. -/
def sysWrite (s : State) (rq : Rq) (a : Nat) (v : Word) : Option State :=
  if a = R.SYS_MREQ then s.mreqWrite rq v
  else if a = R.SYS_RST then s.sysRstWrite v
  else if a = R.SYS_PAIR then s.sysPairWrite rq v
  else some (s.plainWrite a v)

/-- A write to the register at offset `off` of page `pg` of block `b`, instance `i`; none is a violation. -/
def regWrite (s : State) (rq : Rq) (b i pg off : Nat) (v : Word) : Option State :=
  let a := blkBase b i + pg * 0x1000 + off
  if off < 0x40 then some (s.headWrite b i off v)
  else if b = Blk.HPT then some (if a = R.HPT_CFG + i * 0x40000 then s.hptCfgWrite i v else s)
  else if b = Blk.TUN then s.tunWrite a v
  else if b = Blk.CTX then s.ctxWrite a v
  else if b = Blk.CRU then s.cruWrite rq i a v
  else if b = Blk.RNG then s.rngWrite a v
  else if b = Blk.KST then s.kstWrite a v
  else if b = Blk.GAT then s.gatWrite rq a v
  else if b = Blk.FLC then s.flcWrite a v
  else if b = Blk.TAG then s.tagWrite a v
  else if b = Blk.CRD then (if a = R.CRD_CUST_CMD then s.custWrite v else some (s.plainWrite a v))
  else if b = Blk.FLK then s.flkWrite rq a v
  else if b = Blk.SKM then s.skmWrite a v
  else if b = Blk.RIS then s.risWrite a v
  else if b = Blk.CLK then s.clkWrite a v
  else if b = Blk.SYS then s.sysWrite rq a v
  else if b = Blk.DBG then s.dbgWrite rq a v
  else some (s.plainWrite a v)

/-- A register write as its requester makes it: `asWrite` over `regWrite`. An address that names no register is refused. -/
def writeAt (s : State) (rq : Rq) (a : Nat) (v : Word) : State :=
  if !s.live rq then s
  else if a % 4 ≠ 0 then s.refuse rq a (detector a).1 (detector a).2
  else match area a with
    | .reg b i pg off => s.asWrite rq b i a v (fun s => s.regWrite rq b i pg off v)
    | _ => s.refuse rq a (detector a).1 (detector a).2

/-- A register read as its requester makes it, its value going nowhere: what the read changes (R10, R20). -/
def readAt (s : State) (rq : Rq) (a : Nat) : State :=
  if !s.live rq then s
  else match area a with
    | .reg b i pg off =>
      match s.barred rq a false with
      | some t => t
      | none => match s.regRead b i pg off with
        | some x => x.1
        | none => s.refuse rq a b i
    | _ => s

/-! ### Waits -/

/-- A read at `a` waits for its bank (R327), for a commit of the tag store, or for a word of the OTP row. -/
def waits (s : State) (a : Nat) : Bool :=
  match area a with
  | .flash b => s.bankBusy b
  | .tagBank => s.bankBusy 4 || s.tag.commit.isSome
  | .otp => s.bankBusy 5
  | .reg b i _ _ => (s.hdr b i).srstBusy
  | _ => false

/-! ### Loads and stores of a pair -/

/-- A load of `n` bytes at `a` by pair `p`: refused; stalled, the state unchanged until it is issued again (R17, R327); or
carried out, `k` taking the value. -/
def load (s : State) (p : Pair) (a n : Nat) (k : Nat → State → State) : State :=
  match s.refusal p a n .load with
  | some w => s.refusePair p a w
  | none =>
    if s.waits a then s
    else match area a with
    | .reg b i pg off => match s.regRead b i pg off with
      | some x => k x.2.toNat x.1
      | none => s.refusePair p a .viol
    | .host d off =>
      let x := (s.hostXlate d off false).getD 0
      k (fromLe ((List.range n).map (fun i => Config.hostByte s.fresh (x + i)))) { s with fresh := s.fresh + 1 }
    | _ => k (fromLe (s.bytes a n)) s

/-- A store of `n` bytes of `v` at `a` by pair `p`, `k` following when it has been carried out. -/
def store (s : State) (p : Pair) (a n v : Nat) (k : State → State) : State :=
  match s.refusal p a n .store with
  | some w => s.refusePair p a w
  | none =>
    if s.waits a then s
    else match area a with
    | .reg b i pg off =>
      if s.rwlShut b i a then s.refusePair p a .viol
      else if startReg a && !(s.hdr b i).en then k s
      else match s.regWrite (.pair p) b i pg off (w32 v) with
        | some t => k t
        | none => s.refusePair p a .viol
    | .host d off => k (s.post d ((s.hostXlate d off true).getD 0) (leBytes n v) false)
    | _ => k (s.setBytes a (leBytes n v))

/-- The store's instruction completes, unless what it started has put the pair in reset. -/
def afterStore (s : State) (p : Nat) (f : KPair → KPair) : State :=
  if (s.pair p).run = .held then s else s.finish p f

/-! ### Accesses of the debug master (R466) -/

/-- The outcome the next DBGACC scan captures. -/
def dbgAck (s : State) (a : Nat) (data : Word) (ack : Nat) : State :=
  { s with dbg := { s.dbg with addr := w32 a, data := data, ack := ack } }

/-- Why a debug read at `a` cannot be served though it lies within reach: the state after the refusal. -/
def dbgUnread (s : State) (a : Nat) : Option State :=
  match s.unreadable a with
  | some .torn => some { s.fault Blk.FLC 0 Kind.FLASH_TORN a with dbgErr := true }
  | some .lost => some { s.fault Blk.FLC 0 Kind.FLASH_WEAR a with dbgErr := true }
  | some _ => some (s.dbgRefuse a Kind.ACCESS_VIOLATION)
  | none => match area a with
    | .tagBank => if credSector a then some (s.dbgRefuse a Kind.ACCESS_VIOLATION) else none
    | _ => none

/-- A debug read at `a`. -/
def dbgLoad (s : State) (a : Nat) : State :=
  if s.dbgErr then s.dbgAck a 0 2
  else if a % 4 ≠ 0 then (s.dbgRefuse a Kind.ACCESS_VIOLATION).dbgAck a 0 2
  else match s.debugReach a false with
  | some kind => (s.dbgRefuse a kind).dbgAck a 0 2
  | none => match s.dbgUnread a with
    | some t => t.dbgAck a 0 2
    | none =>
      if s.waits a then s.dbgAck a 0 1
      else match area a with
      | .reg b i pg off => match s.regRead b i pg off with
        | some x => x.1.dbgAck a x.2 0
        | none => (s.dbgRefuse a Kind.ACCESS_VIOLATION).dbgAck a 0 2
      | _ => s.dbgAck a (w32 (fromLe (s.bytes a 4))) 0

/-- A debug write of `v` at `a`: flash, tag bank, OTP row and boot ROM are not written on the fabric. -/
def dbgStore (s : State) (a : Nat) (v : Word) : State :=
  let no := fun (kind : Nat) => (s.dbgRefuse a kind).dbgAck a 0 2
  if s.dbgErr then s.dbgAck a 0 2
  else if a % 4 ≠ 0 then no Kind.ACCESS_VIOLATION
  else match s.debugReach a true with
  | some kind => no kind
  | none =>
    if s.waits a then s.dbgAck a 0 1
    else match area a with
    | .reg b i pg off =>
      if s.rwlShut b i a then no Kind.ACCESS_VIOLATION
      else if startReg a && !(s.hdr b i).en then s.dbgAck a 0 0
      else match s.regWrite .debug b i pg off v with
        | some t => t.dbgAck a 0 0
        | none => no Kind.ACCESS_VIOLATION
    | .sram =>
      if (s.unreadable a).isSome then no Kind.ACCESS_VIOLATION
      else (s.setBytes a (leBytes 4 v.toNat)).dbgAck a 0 0
    | _ => no Kind.ACCESS_VIOLATION

/-! ### The end of a soft reset -/

/-- An access held during a soft reset is carried out (R17). -/
def heldRun (s : State) (x : HeldAcc) : State :=
  match x.val with
  | some v => s.writeAt x.rq x.addr v
  | none => s.readAt x.rq x.addr

/-- Step 6, then the accesses held, in their order. -/
def srstDone (s : State) (b i : Nat) : State :=
  let l := (s.hdr b i).held
  if !(s.hdr b i).srstBusy ∨ !s.srstReady b then s else l.foldl heldRun (s.srstEnd b i)

end State

/-! ### Commands -/

/-- REGISTER_WRITE (R11): a write of `v` to the register at core address `addr`. -/
def execRegisterWrite (rq : Rq) (addr : Nat) (v : Word) (s : State) : Host.Outcome State Fault Refusal :=
  .next (s.writeAt rq addr v)

/-- A write by name to the header register at `off`, ignored for an instance that does not exist. -/
def headCmd (rq : Rq) (b i off : Nat) (v : Word) (eff : State → State) (s : State) : State :=
  if i < blkInsts b then s.asWrite rq b i (blkBase b i + off) v (fun s => some (eff s)) else s

/-- SOFT_RESET (R16): BLK_CTRL is written with SRST 1 and EN `en`. -/
def execSoftReset (rq : Rq) (blk inst : Nat) (en : Bool) (s : State) : Host.Outcome State Fault Refusal :=
  .next (headCmd rq blk inst 0x0C (w32 (2 + b2n en)) (fun s => s.ctrlWrite blk inst (w32 (2 + b2n en))) s)

/-- SOFT_RESET_COMPLETE (R16 step 6, R17). -/
def execSoftResetComplete (blk inst : Nat) (s : State) : Host.Outcome State Fault Refusal :=
  .next (s.srstDone blk inst)

/-- BLOCK_DISABLE: BLK_CTRL is written with EN `en`. -/
def execBlockDisable (rq : Rq) (blk inst : Nat) (en : Bool) (s : State) : Host.Outcome State Fault Refusal :=
  .next (headCmd rq blk inst 0x0C (w32 (b2n en)) (fun s => s.enWrite blk inst en) s)

/-- EVENT_CLEAR (R18): BLK_EVT is written with `mask` in a cycle in which hardware sets the bits of `collide`. -/
def execEventClear (rq : Rq) (blk inst : Nat) (mask collide : Word) (s : State) : Host.Outcome State Fault Refusal :=
  .next (headCmd rq blk inst 0x14 mask (fun s => s.evtClear blk inst mask collide) s)

/-- BLOCK_LOCK (R11): BLK_LOCK.LOCK is written 1. -/
def execBlockLock (rq : Rq) (blk inst : Nat) (s : State) : Host.Outcome State Fault Refusal :=
  .next (headCmd rq blk inst 0x34 1 (fun s => s.lockWrite blk inst) s)

end Sys2Proof.Machine
end

