-- ==== Sys2Proof/Machine/Debug.lean ====
section
/-! DEFINITION. The debug master's commands (18): DBGACC scans (R466), tickets (R472-R475), pairs halted by debug (R469),
identity injection (R465), the TAP and boundary scan (R476, R477). -/

namespace Sys2Proof.Machine

namespace State

/-- A DBGACC scan reaches the device: main power is present and the instruction is current. -/
def scans (s : State) : Bool := !s.fieldPower && s.dbg.ir == 8

/-- The instruction codes that give the pins to the boundary register (R476, R477): EXTEST, CLAMP, HIGHZ. -/
def takesPins (code : Nat) : Bool := code == 0 || code == 3 || code == 4

/-- The boundary register takes the pins: cards count as absent, the management link is silent (R477). -/
def pinsTaken (s : State) : State :=
  if s.dbg.pins then s
  else
    let s := ((s.sdGone.ccGone 0).ccGone 1)
    { s with
      dbg := { s.dbg with pins := true }
      mlk := { s.mlk with resp := none, ready := false, tx := [] } }

/-- Instruction `code` becomes current at Update-IR: one that takes the pins enters Lockdown first outside FOUNDRY, with
LOCK_REASON 5; any other gives them back. -/
def tapSelect (s : State) (code : Nat) : State :=
  if s.fieldPower then s
  else
    let s := { s with dbg := { s.dbg with ir := code } }
    if takesPins code then
      let s := if s.life = .foundry then s else (s.lockdown 5 false).event Blk.DBG 0 5
      s.pinsTaken
    else { s with dbg := { s.dbg with pins := false } }

/-- The level of FAULTN, true for asserted: the Skimmer's, or the boundary cell's while the scan holds the pins (R477; cells
11 and 12). -/
def faultnPin (s : State) : Bool :=
  if s.dbg.pins then s.dbg.ir != 4 && s.dbg.bnd / 2 ^ 12 % 2 == 1 else s.faultn

/-- The word of DBG_PAIRCTL that acts by bit `n` on pair `p`. -/
def pairCtlWord (p n : Nat) : Word := w32 (p * 16 + 2 ^ n)

end State

/-! ### DBGACC -/

/-- DBGACC_READ (R466): a scan with OP 1. -/
def execDbgaccRead (addr : Word) (s : State) : Host.Outcome State Fault Refusal :=
  .next (if s.scans then s.dbgLoad addr.toNat else s)

/-- DBGACC_WRITE (R466): a scan with OP 2. -/
def execDbgaccWrite (addr data : Word) (s : State) : Host.Outcome State Fault Refusal :=
  .next (if s.scans then s.dbgStore addr.toNat data else s)

/-- DBGACC_CLEAR_ERROR (R466): a scan with OP 3 clears the sticky error. -/
def execDbgaccClearError (s : State) : Host.Outcome State Fault Refusal :=
  .next (if s.scans then { s with dbgErr := false, dbg := { s.dbg with ack := 0 } } else s)

/-! ### Tickets -/

/-- TICKET_GO (R472): DBG_TKT_CMD is written with GO. -/
def execTicketGo (rq : Rq) (len : Fin 2048) (s : State) : Host.Outcome State Fault Refusal :=
  let w := w32 (0x80000000 + len)
  .next (s.asWrite rq Blk.DBG 0 R.DBG_TKT_CMD w (fun s => s.tktWrite rq w))

/-- TICKET_VERIFY_DONE (R472, R473): the ticket is accepted or refused, once its signature has been checked. -/
def execTicketVerifyDone (s : State) : Host.Outcome State Fault Refusal := .next s.ticketDone

/-- TICKET_CLOSE (R474): DBG_TKT_CMD is written with CLOSE. -/
def execTicketClose (rq : Rq) (s : State) : Host.Outcome State Fault Refusal :=
  .next (s.asWrite rq Blk.DBG 0 R.DBG_TKT_CMD 0x40000000 (fun s => s.tktWrite rq 0x40000000))

/-- TICKET_TIMER_EXPIRY (R474, code 1). -/
def execTicketTimerExpiry (s : State) : Host.Outcome State Fault Refusal := .next (s.ticketEnd 1)

/-- TCTR_WRITE (R475). -/
def execTctrWrite (rq : Rq) (v : Word) (s : State) : Host.Outcome State Fault Refusal :=
  .next (s.asWrite rq Blk.DBG 0 R.DBG_TCTR v (fun s => s.tctrWrite rq v))

/-! ### Pairs halted by debug -/

/-- HALT (R469): DBG_PAIRCTL is written with HALT. -/
def execHalt (rq : Rq) (p : Fin 4) (s : State) : Host.Outcome State Fault Refusal :=
  .next (s.asWrite rq Blk.DBG 0 R.DBG_PAIRCTL (State.pairCtlWord p 0) (fun s => s.dbgPairWrite rq (State.pairCtlWord p 0)))

/-- STEP (R469): DBG_PAIRCTL is written with STEP. The instruction, or the entry due, is the pair's next command. -/
def execStep (rq : Rq) (p : Fin 4) (s : State) : Host.Outcome State Fault Refusal :=
  .next (s.asWrite rq Blk.DBG 0 R.DBG_PAIRCTL (State.pairCtlWord p 2) (fun s => s.dbgPairWrite rq (State.pairCtlWord p 2)))

/-- RESUME (R469): DBG_PAIRCTL is written with RESUME. -/
def execResume (rq : Rq) (p : Fin 4) (s : State) : Host.Outcome State Fault Refusal :=
  .next (s.asWrite rq Blk.DBG 0 R.DBG_PAIRCTL (State.pairCtlWord p 1) (fun s => s.dbgPairWrite rq (State.pairCtlWord p 1)))

/-- CREG_ACCESS (R469): DBG_CREG_DATA is read (`wr` none), the register file answering, or written. -/
def execCregAccess (rq : Rq) (wr : Option Word) (s : State) : Host.Outcome State Fault Refusal :=
  .next (match wr with
    | some v => s.asWrite rq Blk.DBG 0 R.DBG_CREG_DATA v (fun s => s.cregDataWrite v)
    | none => s.asRead rq Blk.DBG 0 R.DBG_CREG_DATA (fun s => match s.cregDataRead with
      | some x => x.1
      | none => s.refuse rq R.DBG_CREG_DATA Blk.DBG 0))

/-- IDENTITY_INJECTION (R465): DBG_INJ_CMD is written with GO, M and N. -/
def execIdentityInjection (rq : Rq) (m n : Fin 16) (s : State) : Host.Outcome State Fault Refusal :=
  let w := w32 (0x80000000 + m * 256 + n * 16)
  .next (s.asWrite rq Blk.DBG 0 R.DBG_INJ_CMD w (fun s => s.injWrite rq w))

/-! ### The TAP -/

/-- EXTEST becomes current. -/
def execExtest (s : State) : Host.Outcome State Fault Refusal := .next (s.tapSelect 0)

/-- CLAMP becomes current. -/
def execClamp (s : State) : Host.Outcome State Fault Refusal := .next (s.tapSelect 3)

/-- HIGHZ becomes current. -/
def execHighz (s : State) : Host.Outcome State Fault Refusal := .next (s.tapSelect 4)

/-- IDCODE becomes current. -/
def execIdcode (s : State) : Host.Outcome State Fault Refusal := .next (s.tapSelect 1)

/-- SAMPLE/PRELOAD becomes current. -/
def execSamplePreload (s : State) : Host.Outcome State Fault Refusal := .next (s.tapSelect 2)

/-- DBGACC becomes current. -/
def execDbgacc (s : State) : Host.Outcome State Fault Refusal := .next (s.tapSelect 8)

/-- BYPASS becomes current, by its own code or by one that names no instruction (R476). A code with a row of its own is no
event of this one. -/
def execBypass (code : Fin 16) (s : State) : Host.Outcome State Fault Refusal :=
  .next (if code.val < 5 ∨ code.val = 8 then s else s.tapSelect 15)

/-- TAP_RESET (R476): IDCODE is selected and the pins return to functional control; the debug state stays. -/
def execTapReset (s : State) : Host.Outcome State Fault Refusal := .next (s.tapSelect 1)

/-- BOUNDARY_UPDATE (R477): at Update-DR the boundary register takes `cells`, which drive the pins under EXTEST or CLAMP. Under
SAMPLE/PRELOAD they are preloaded; otherwise another data register is selected, and nothing changes. -/
def execBoundaryUpdate (cells : BitVec 46) (s : State) : Host.Outcome State Fault Refusal :=
  .next (if !s.fieldPower ∧ (s.dbg.ir = 0 ∨ s.dbg.ir = 2 ∨ s.dbg.ir = 3) then
      { s with dbg := { s.dbg with bnd := cells.toNat } }
    else s)

end Sys2Proof.Machine
end

