-- ==== Sys2Proof/Machine/KMem.lean ====
section
/-! DEFINITION. Kennu loads and stores (R285), the data stack (R278), XCHG, and the bit space (R286-R288). -/

namespace Sys2Proof.Machine

/-! ### Loads and stores -/

/-- A load of `n` bytes at RA + imm, `f` making the word that RD takes. -/
def loadOp (p : Pair) (c : Cond) (rd ra : GReg) (imm : BitVec 14) (n : Nat) (f : Nat → Word) (s : State) : State :=
  s.instr p c false (fun s => s.load p (eaddr (s.pair p) ra imm) n (fun v s => s.finish p (fun k => k.setR rd (f v))))

/-- A store of `n` bytes of `v` at RA + imm. -/
def storeOp (p : Pair) (c : Cond) (ra : GReg) (imm : BitVec 14) (n : Nat) (v : KPair → Nat) (s : State) : State :=
  s.instr p c false (fun s =>
    s.store p (eaddr (s.pair p) ra imm) n (v (s.pair p)) (fun s => s.afterStore p id))

/-- LDW. -/
def execKLdw (p : Pair) (c : Cond) (rd ra : GReg) (imm : BitVec 14) (s : State) : Host.Outcome State Fault Refusal :=
  .next (loadOp p c rd ra imm 4 w32 s)

/-- LDH: zero-extended. -/
def execKLdh (p : Pair) (c : Cond) (rd ra : GReg) (imm : BitVec 14) (s : State) : Host.Outcome State Fault Refusal :=
  .next (loadOp p c rd ra imm 2 w32 s)

/-- LDHS: sign-extended. -/
def execKLdhs (p : Pair) (c : Cond) (rd ra : GReg) (imm : BitVec 14) (s : State) : Host.Outcome State Fault Refusal :=
  .next (loadOp p c rd ra imm 2 (fun v => (BitVec.ofNat 16 v).signExtend 32) s)

/-- LDB: zero-extended. -/
def execKLdb (p : Pair) (c : Cond) (rd ra : GReg) (imm : BitVec 14) (s : State) : Host.Outcome State Fault Refusal :=
  .next (loadOp p c rd ra imm 1 w32 s)

/-- LDBS: sign-extended. -/
def execKLdbs (p : Pair) (c : Cond) (rd ra : GReg) (imm : BitVec 14) (s : State) : Host.Outcome State Fault Refusal :=
  .next (loadOp p c rd ra imm 1 (fun v => (BitVec.ofNat 8 v).signExtend 32) s)

/-- STW. -/
def execKStw (p : Pair) (c : Cond) (rd ra : GReg) (imm : BitVec 14) (s : State) : Host.Outcome State Fault Refusal :=
  .next (storeOp p c ra imm 4 (fun k => (k.r rd).toNat) s)

/-- STH: RD[15:0]. -/
def execKSth (p : Pair) (c : Cond) (rd ra : GReg) (imm : BitVec 14) (s : State) : Host.Outcome State Fault Refusal :=
  .next (storeOp p c ra imm 2 (fun k => (k.r rd).toNat % 0x10000) s)

/-- STB: RD[7:0]. -/
def execKStb (p : Pair) (c : Cond) (rd ra : GReg) (imm : BitVec 14) (s : State) : Host.Outcome State Fault Refusal :=
  .next (storeOp p c ra imm 1 (fun k => (k.r rd).toNat % 0x100) s)

/-- LDD: the low word to RD, the high word to RD + 1; an odd RD is undefined (R283). -/
def execKLdd (p : Pair) (c : Cond) (rd ra : GReg) (imm : BitVec 14) (s : State) : Host.Outcome State Fault Refusal :=
  .next (s.instr p c false (fun s =>
    if rd.val % 2 = 1 then s.except p 1 0
    else s.load p (eaddr (s.pair p) ra imm) 8 (fun v s => s.finish p (fun k =>
      (k.setR rd (w32 v)).setR (rd + 1) (w32 (v / 2 ^ 32))))))

/-- STD: RD low, RD + 1 high; an odd RD is undefined (R283). -/
def execKStd (p : Pair) (c : Cond) (rd ra : GReg) (imm : BitVec 14) (s : State) : Host.Outcome State Fault Refusal :=
  .next (s.instr p c false (fun s =>
    if rd.val % 2 = 1 then s.except p 1 0
    else
      let k := s.pair p
      s.store p (eaddr k ra imm) 8 ((k.r rd).toNat + (k.r (rd + 1)).toNat * 2 ^ 32) (fun s => s.afterStore p id)))

/-- PUSH (R278): g15 is decremented by 4, then the register stored at it; a refused access leaves g15. -/
def execKPush (p : Pair) (c : Cond) (rd : GReg) (s : State) : Host.Outcome State Fault Refusal :=
  .next (s.instr p c false (fun s =>
    let k := s.pair p
    let a := k.r 15 - 4
    s.store p a.toNat 4 ((k.setR 15 a).r rd).toNat (fun s => s.afterStore p (fun k => k.setR 15 a))))

/-- POP (R278): the register is loaded from g15, then g15 incremented by 4. -/
def execKPop (p : Pair) (c : Cond) (rd : GReg) (s : State) : Host.Outcome State Fault Refusal :=
  .next (s.instr p c false (fun s =>
    let a := (s.pair p).r 15
    s.load p a.toNat 4 (fun v s => s.finish p (fun k =>
      let k := k.setR rd (w32 v)
      k.setR 15 (k.r 15 + 4)))))

/-- XCHG (R285): RD takes the word at RA and the word at RA takes RB, in system SRAM alone. -/
def execKXchg (p : Pair) (c : Cond) (rd ra rb : GReg) (s : State) : Host.Outcome State Fault Refusal :=
  .next (s.instr p c false (fun s =>
    let k := s.pair p
    let a := (k.r ra).toNat
    if a % 4 = 0 ∧ area a ≠ .sram then s.refusePair p a .viol
    else s.load p a 4 (fun v s =>
      s.store p a 4 (k.r rb).toNat (fun s => s.finish p (fun k => k.setR rd (w32 v))))))

/-! ### The bit space -/

/-- What a bit address names (R286, R287): a bit of the bit RAM, or bit `n` of word `w` of a block instance. -/
inductive BitSpot where
  | ram (n : Nat)
  | map (b i w n : Nat)
  deriving DecidableEq, Repr

/-- Decodes a bit address. -/
def bitSpot (a : Nat) : BitSpot :=
  if a < 0x8000 then .ram a
  else .map ((a - 0x8000) / 0x400) (a % 0x400 / 0x40) (a % 0x40 / 0x20) (a % 0x20)

namespace State

/-- Word `w` of the KEN bits of pair `q` (KEN bits table). -/
def kenWord (s : State) (q w : Nat) : Word :=
  let k := s.pair q
  if w = 1 then fields [(1, b2n k.takeEvt), (0, b2n k.haltEvt)]
  else
    let runs := k.run == .running
    fields [(7, b2n (k.run == .waiting)), (5, k.role), (4, b2n k.fenced), (3, b2n (k.run == .mismatch)),
      (2, b2n (k.run == .doubleFault)), (1, b2n (!runs && k.run != .waiting)), (0, b2n (runs || k.run == .waiting))]

/-- A mapped bit that no access of pair `p` reaches (R288). -/
def bitRefused (s : State) (p b i : Nat) : Bool :=
  s.level p == 2 || decide (0x13 ≤ b) || decide ((if b = Blk.KEN then 3 else blkInsts b) ≤ i)

/-- The refusal of a mapped bit: the logged address is 0xFFFF_0000 + the bit address. -/
def bitFault (s : State) (p a : Nat) : State := s.busFault p (0xFFFF0000 + a) Blk.GAT 0

/-- The block instance is held by a soft reset, and the instruction with it (R17, R288). -/
def bitHeld (s : State) (b i : Nat) : Bool := b != Blk.KEN && (s.hdr b i).srstBusy

/-- Reads the bit at `a` for pair `p`. -/
def bitGet (s : State) (p a : Nat) (f : Bool → State → State) : State :=
  match bitSpot a with
  | .ram n => f (decide ((Tbl.get (fun _ => 0) (s.pair p).bits (n / 8)).toNat / 2 ^ (n % 8) % 2 = 1)) s
  | .map b i w n =>
    if s.bitRefused p b i then s.bitFault p a
    else if s.bitHeld b i then s
    else if b = Blk.KEN then f (bit (s.kenWord i w) n) s
    else f (bit (if w = 0 then s.blkStat b i else (s.hdr b i).evt) n) s

/-- Sets or clears a bit of the pair's bit RAM. -/
def ramPut (s : State) (p n : Nat) (v : Bool) : State :=
  s.modPair p (fun k =>
    let old := Tbl.get (fun _ => 0) k.bits (n / 8)
    let m : Byte := BitVec.ofNat 8 (2 ^ (n % 8))
    { k with bits := Tbl.set (fun _ => 0) k.bits (n / 8) (if v then old ||| m else old &&& ~~~m) })

/-- Writes `v` to the bit at `a` for pair `p`: a mapped event bit is cleared by a 0, and nothing else mapped changes. -/
def bitPut (s : State) (p a : Nat) (v : Bool) (f : State → State) : State :=
  match bitSpot a with
  | .ram n => f (s.ramPut p n v)
  | .map b i w n =>
    if s.bitRefused p b i then s.bitFault p a
    else if s.bitHeld b i then s
    else if v ∨ w = 0 then f s
    else if b = Blk.KEN then
      f (s.modPair i (fun k => { k with haltEvt := k.haltEvt && n != 0, takeEvt := k.takeEvt && n != 1 }))
    else f (s.evtClear b i (w32 (2 ^ n)) 0)

end State

/-- A bit write of value `v`. -/
def bitStore (p : Pair) (c : Cond) (b : BitOp) (v : KPair → Bool) (s : State) : State :=
  s.instr p c false (fun s =>
    let k := s.pair p
    s.bitPut p (bitAddr k b) (v k) (fun s => s.finish p id))

/-- A bit read, `f` making the flags. -/
def bitLoad (p : Pair) (c : Cond) (b : BitOp) (f : NZCV → Bool → NZCV) (s : State) : State :=
  s.instr p c false (fun s =>
    s.bitGet p (bitAddr (s.pair p) b) (fun v s => s.finish p (fun k => k.setFl (f k.fl v))))

/-- SETB (R288). -/
def execKSetb (p : Pair) (c : Cond) (b : BitOp) (s : State) : Host.Outcome State Fault Refusal :=
  .next (bitStore p c b (fun _ => true) s)

/-- CLRB (R288). -/
def execKClrb (p : Pair) (c : Cond) (b : BitOp) (s : State) : Host.Outcome State Fault Refusal :=
  .next (bitStore p c b (fun _ => false) s)

/-- TSTB: Z is NOT b, C is b. -/
def execKTstb (p : Pair) (c : Cond) (b : BitOp) (s : State) : Host.Outcome State Fault Refusal :=
  .next (bitLoad p c b (fun f v => { f with z := !v, c := v }) s)

/-- MOVB: with D 0, C := b; with D 1, b := C. -/
def execKMovb (p : Pair) (c : Cond) (b : BitOp) (s : State) : Host.Outcome State Fault Refusal :=
  .next (if b.d then bitStore p c b (fun k => k.fl.c) s else bitLoad p c b (fun f v => { f with c := v }) s)

/-- ANDB: C := C AND (b, or NOT b with D). -/
def execKAndb (p : Pair) (c : Cond) (b : BitOp) (s : State) : Host.Outcome State Fault Refusal :=
  .next (bitLoad p c b (fun f v => { f with c := f.c && (v != b.d) }) s)

/-- ORB: C := C OR (b, or NOT b with D). -/
def execKOrb (p : Pair) (c : Cond) (b : BitOp) (s : State) : Host.Outcome State Fault Refusal :=
  .next (bitLoad p c b (fun f v => { f with c := f.c || (v != b.d) }) s)

/-- XORB: C := C XOR (b, or NOT b with D). -/
def execKXorb (p : Pair) (c : Cond) (b : BitOp) (s : State) : Host.Outcome State Fault Refusal :=
  .next (bitLoad p c b (fun f v => { f with c := f.c != (v != b.d) }) s)

end Sys2Proof.Machine
end

