-- ==== Sys2Proof/Machine/Dispatch.lean ====
section
/-! DEFINITION. The effect of every command on everything but the queue: one arm per row of the opcode table. -/

namespace Sys2Proof.Machine

def exec (i : Instr) (s : State) : Host.Outcome State Fault Refusal :=
  match i with
  | .registerWrite rq addr v => Sys2Proof.Machine.execRegisterWrite rq addr v s
  | .softReset rq blk inst en => Sys2Proof.Machine.execSoftReset rq blk inst en s
  | .softResetComplete blk inst => Sys2Proof.Machine.execSoftResetComplete blk inst s
  | .blockDisable rq blk inst en => Sys2Proof.Machine.execBlockDisable rq blk inst en s
  | .eventClear rq blk inst mask collide => Sys2Proof.Machine.execEventClear rq blk inst mask collide s
  | .firmwareFence rq blk inst mask => Sys2Proof.Machine.execFirmwareFence rq blk inst mask s
  | .blockLock rq blk inst => Sys2Proof.Machine.execBlockLock rq blk inst s
  | .sqTail p q v => Sys2Proof.Machine.execSqTail p q v s
  | .cqHint p q v => Sys2Proof.Machine.execCqHint p q v s
  | .inlinePush p q e0 e1 => Sys2Proof.Machine.execInlinePush p q e0 e1 s
  | .fetchTurn p => Sys2Proof.Machine.execFetchTurn p s
  | .entryReadCompletion q ents fail => Sys2Proof.Machine.execEntryReadCompletion q ents fail s
  | .ownReread q e => Sys2Proof.Machine.execOwnReread q e s
  | .inputReadCompletion job off r => Sys2Proof.Machine.execInputReadCompletion job off r s
  | .ladleReadTimeout job off => Sys2Proof.Machine.execLadleReadTimeout job off s
  | .creditPeriod => Sys2Proof.Machine.execCreditPeriod s
  | .jobDispatch cru cont => Sys2Proof.Machine.execJobDispatch cru cont s
  | .completionWrite q => Sys2Proof.Machine.execCompletionWrite q s
  | .cqReadAhead q => Sys2Proof.Machine.execCqReadAhead q s
  | .cqReadAheadCompletion q owns => Sys2Proof.Machine.execCqReadAheadCompletion q owns s
  | .openFrame job => Sys2Proof.Machine.execOpenFrame job s
  | .sealFrame job => Sys2Proof.Machine.execSealFrame job s
  | .enc job => Sys2Proof.Machine.execEnc job s
  | .dec job => Sys2Proof.Machine.execDec job s
  | .macGen job => Sys2Proof.Machine.execMacGen job s
  | .macVer job => Sys2Proof.Machine.execMacVer job s
  | .xtsEnc job => Sys2Proof.Machine.execXtsEnc job s
  | .xtsDec job => Sys2Proof.Machine.execXtsDec job s
  | .streamSave job => Sys2Proof.Machine.execStreamSave job s
  | .streamRestore job => Sys2Proof.Machine.execStreamRestore job s
  | .pkSign job => Sys2Proof.Machine.execPkSign job s
  | .pkVerify job => Sys2Proof.Machine.execPkVerify job s
  | .pkAgree job => Sys2Proof.Machine.execPkAgree job s
  | .pkKeygen job => Sys2Proof.Machine.execPkKeygen job s
  | .rsaPriv job => Sys2Proof.Machine.execRsaPriv job s
  | .rsaPub job => Sys2Proof.Machine.execRsaPub job s
  | .random job => Sys2Proof.Machine.execRandom job s
  | .reseed job => Sys2Proof.Machine.execReseed job s
  | .wrap job => Sys2Proof.Machine.execWrap job s
  | .unwrap job => Sys2Proof.Machine.execUnwrap job s
  | .derive job => Sys2Proof.Machine.execDerive job s
  | .enrolPut job => Sys2Proof.Machine.execEnrolPut job s
  | .enrolRetire job => Sys2Proof.Machine.execEnrolRetire job s
  | .ctxFlush job => Sys2Proof.Machine.execCtxFlush job s
  | .tagstoreRead job => Sys2Proof.Machine.execTagstoreRead job s
  | .tagstoreWrite job => Sys2Proof.Machine.execTagstoreWrite job s
  | .tagBusyTimeout job => Sys2Proof.Machine.execTagBusyTimeout job s
  | .nop job => Sys2Proof.Machine.execNop job s
  | .createQp job => Sys2Proof.Machine.execCreateQp job s
  | .destroyQp job => Sys2Proof.Machine.execDestroyQp job s
  | .destroyTmoExpiry q => Sys2Proof.Machine.execDestroyTmoExpiry q s
  | .queryQp job => Sys2Proof.Machine.execQueryQp job s
  | .setShare job => Sys2Proof.Machine.execSetShare job s
  | .bindTable job => Sys2Proof.Machine.execBindTable job s
  | .setWindow job => Sys2Proof.Machine.execSetWindow job s
  | .getCaps job => Sys2Proof.Machine.execGetCaps job s
  | .getFaults job => Sys2Proof.Machine.execGetFaults job s
  | .drbgInstantiate job => Sys2Proof.Machine.execDrbgInstantiate job s
  | .adminEnable p off v => Sys2Proof.Machine.execAdminEnable p off v s
  | .perstAssert p => Sys2Proof.Machine.execPerstAssert p s
  | .perstDeassert p => Sys2Proof.Machine.execPerstDeassert p s
  | .hotReset p => Sys2Proof.Machine.execHotReset p s
  | .linkDown p => Sys2Proof.Machine.execLinkDown p s
  | .functionLevelReset p => Sys2Proof.Machine.execFunctionLevelReset p s
  | .d3hotToD0 p => Sys2Proof.Machine.execD3hotToD0 p s
  | .portEn rq p v => Sys2Proof.Machine.execPortEn rq p v s
  | .domainResetComplete p => Sys2Proof.Machine.execDomainResetComplete p s
  | .linkUp p speed x1 => Sys2Proof.Machine.execLinkUp p speed x1 s
  | .l1Entry p => Sys2Proof.Machine.execL1Entry p s
  | .hsBeat => Sys2Proof.Machine.execHsBeat s
  | .assign u d crc => Sys2Proof.Machine.execAssign u d crc s
  | .release u d crc => Sys2Proof.Machine.execRelease u d crc s
  | .identity u d crc => Sys2Proof.Machine.execIdentity u d crc s
  | .health u d crc => Sys2Proof.Machine.execHealth u d crc s
  | .capacity u d crc => Sys2Proof.Machine.execCapacity u d crc s
  | .faultRead u d crc => Sys2Proof.Machine.execFaultRead u d crc s
  | .mlinkResponseReady => Sys2Proof.Machine.execMlinkResponseReady s
  | .mlinkRead => Sys2Proof.Machine.execMlinkRead s
  | .mlinkSclTimeout => Sys2Proof.Machine.execMlinkSclTimeout s
  | .mchinChange high => Sys2Proof.Machine.execMchinChange high s
  | .vaultTableReadReturn => Sys2Proof.Machine.execVaultTableReadReturn s
  | .recordFetchCompletion d idx r => Sys2Proof.Machine.execRecordFetchCompletion d idx r s
  | .installDone n => Sys2Proof.Machine.execInstallDone n s
  | .installEntryFree d idx => Sys2Proof.Machine.execInstallEntryFree d idx s
  | .vaultPageFlushTimer => Sys2Proof.Machine.execVaultPageFlushTimer s
  | .vaultPageDurable => Sys2Proof.Machine.execVaultPageDurable s
  | .vaultCompaction => Sys2Proof.Machine.execVaultCompaction s
  | .vaultRefresh old => Sys2Proof.Machine.execVaultRefresh old s
  | .vaultStall => Sys2Proof.Machine.execVaultStall s
  | .vaultLeaveRetry => Sys2Proof.Machine.execVaultLeaveRetry s
  | .closeVault rq => Sys2Proof.Machine.execCloseVault rq s
  | .vaultCloseComplete => Sys2Proof.Machine.execVaultCloseComplete s
  | .openVault rq => Sys2Proof.Machine.execOpenVault rq s
  | .vaultRangeWrite rq d cnt v => Sys2Proof.Machine.execVaultRangeWrite rq d cnt v s
  | .cklWrite rq v => Sys2Proof.Machine.execCklWrite rq v s
  | .laneActivationDone n kat => Sys2Proof.Machine.execLaneActivationDone n kat s
  | .laneIdleTimeout n => Sys2Proof.Machine.execLaneIdleTimeout n s
  | .laneSeedArrival n waited => Sys2Proof.Machine.execLaneSeedArrival n waited s
  | .laneSeedTimeout n late => Sys2Proof.Machine.execLaneSeedTimeout n late s
  | .cruDurationEnd u => Sys2Proof.Machine.execCruDurationEnd u s
  | .cruWipeDone u => Sys2Proof.Machine.execCruWipeDone u s
  | .cruRngTimeout job => Sys2Proof.Machine.execCruRngTimeout job s
  | .selftest rq u v => Sys2Proof.Machine.execSelftest rq u v s
  | .cruTestDone u fail => Sys2Proof.Machine.execCruTestDone u fail s
  | .cruFwGo rq v => Sys2Proof.Machine.execCruFwGo rq v s
  | .seedWordReady => Sys2Proof.Machine.execSeedWordReady s
  | .sourceStartupPass n => Sys2Proof.Machine.execSourceStartupPass n s
  | .rngHealthFail n test first => Sys2Proof.Machine.execRngHealthFail n test first s
  | .rngRun => Sys2Proof.Machine.execRngRun s
  | .internalReseed => Sys2Proof.Machine.execInternalReseed s
  | .reseedInt rq v => Sys2Proof.Machine.execReseedInt rq v s
  | .rngFwrndRead rq => Sys2Proof.Machine.execRngFwrndRead rq s
  | .rngWaitTimeout job => Sys2Proof.Machine.execRngWaitTimeout job s
  | .rngCapture rq v => Sys2Proof.Machine.execRngCapture rq v s
  | .generate rq n typ => Sys2Proof.Machine.execGenerate rq n typ s
  | .kstSetShare rq n => Sys2Proof.Machine.execKstSetShare rq n s
  | .narrow rq n => Sys2Proof.Machine.execNarrow rq n s
  | .kstErase rq n => Sys2Proof.Machine.execKstErase rq n s
  | .imageRecordDurable => Sys2Proof.Machine.execImageRecordDurable s
  | .imageStall => Sys2Proof.Machine.execImageStall s
  | .commission rq m n => Sys2Proof.Machine.execCommission rq m n s
  | .restore rq => Sys2Proof.Machine.execRestore rq s
  | .raise rq => Sys2Proof.Machine.execRaise rq s
  | .decommission rq => Sys2Proof.Machine.execDecommission rq s
  | .abort rq => Sys2Proof.Machine.execAbort rq s
  | .ceremonyCardResult n resp put => Sys2Proof.Machine.execCeremonyCardResult n resp put s
  | .ceremonyTimeout => Sys2Proof.Machine.execCeremonyTimeout s
  | .quench rq => Sys2Proof.Machine.execQuench rq s
  | .kAdd p c sf rd ra rb => Sys2Proof.Machine.execKAdd p c sf rd ra rb s
  | .kSub p c sf rd ra rb => Sys2Proof.Machine.execKSub p c sf rd ra rb s
  | .kAnd p c sf rd ra rb => Sys2Proof.Machine.execKAnd p c sf rd ra rb s
  | .kOr p c sf rd ra rb => Sys2Proof.Machine.execKOr p c sf rd ra rb s
  | .kXor p c sf rd ra rb => Sys2Proof.Machine.execKXor p c sf rd ra rb s
  | .kShl p c sf rd ra rb => Sys2Proof.Machine.execKShl p c sf rd ra rb s
  | .kShr p c sf rd ra rb => Sys2Proof.Machine.execKShr p c sf rd ra rb s
  | .kSar p c sf rd ra rb => Sys2Proof.Machine.execKSar p c sf rd ra rb s
  | .kRor p c sf rd ra rb => Sys2Proof.Machine.execKRor p c sf rd ra rb s
  | .kAddc p c sf rd ra rb => Sys2Proof.Machine.execKAddc p c sf rd ra rb s
  | .kSubc p c sf rd ra rb => Sys2Proof.Machine.execKSubc p c sf rd ra rb s
  | .kCmp p c ra rb => Sys2Proof.Machine.execKCmp p c ra rb s
  | .kTst p c ra rb => Sys2Proof.Machine.execKTst p c ra rb s
  | .kMov p c sf rd rb => Sys2Proof.Machine.execKMov p c sf rd rb s
  | .kAddv p c sf rd ra rb => Sys2Proof.Machine.execKAddv p c sf rd ra rb s
  | .kSubv p c sf rd ra rb => Sys2Proof.Machine.execKSubv p c sf rd ra rb s
  | .kAddi p c rd ra imm => Sys2Proof.Machine.execKAddi p c rd ra imm s
  | .kAndi p c rd ra imm => Sys2Proof.Machine.execKAndi p c rd ra imm s
  | .kOri p c rd ra imm => Sys2Proof.Machine.execKOri p c rd ra imm s
  | .kXori p c rd ra imm => Sys2Proof.Machine.execKXori p c rd ra imm s
  | .kShli p c rd ra imm => Sys2Proof.Machine.execKShli p c rd ra imm s
  | .kShri p c rd ra imm => Sys2Proof.Machine.execKShri p c rd ra imm s
  | .kSari p c rd ra imm => Sys2Proof.Machine.execKSari p c rd ra imm s
  | .kCmpi p c ra imm => Sys2Proof.Machine.execKCmpi p c ra imm s
  | .kMovw p c rd hw imm => Sys2Proof.Machine.execKMovw p c rd hw imm s
  | .kMovk p c rd hw imm => Sys2Proof.Machine.execKMovk p c rd hw imm s
  | .kAddvi p c rd ra imm => Sys2Proof.Machine.execKAddvi p c rd ra imm s
  | .kSetb p c b => Sys2Proof.Machine.execKSetb p c b s
  | .kClrb p c b => Sys2Proof.Machine.execKClrb p c b s
  | .kTstb p c b => Sys2Proof.Machine.execKTstb p c b s
  | .kMovb p c b => Sys2Proof.Machine.execKMovb p c b s
  | .kAndb p c b => Sys2Proof.Machine.execKAndb p c b s
  | .kOrb p c b => Sys2Proof.Machine.execKOrb p c b s
  | .kXorb p c b => Sys2Proof.Machine.execKXorb p c b s
  | .kLdw p c rd ra imm => Sys2Proof.Machine.execKLdw p c rd ra imm s
  | .kLdh p c rd ra imm => Sys2Proof.Machine.execKLdh p c rd ra imm s
  | .kLdhs p c rd ra imm => Sys2Proof.Machine.execKLdhs p c rd ra imm s
  | .kLdb p c rd ra imm => Sys2Proof.Machine.execKLdb p c rd ra imm s
  | .kLdbs p c rd ra imm => Sys2Proof.Machine.execKLdbs p c rd ra imm s
  | .kStw p c rd ra imm => Sys2Proof.Machine.execKStw p c rd ra imm s
  | .kSth p c rd ra imm => Sys2Proof.Machine.execKSth p c rd ra imm s
  | .kStb p c rd ra imm => Sys2Proof.Machine.execKStb p c rd ra imm s
  | .kLdd p c rd ra imm => Sys2Proof.Machine.execKLdd p c rd ra imm s
  | .kStd p c rd ra imm => Sys2Proof.Machine.execKStd p c rd ra imm s
  | .kPush p c rd => Sys2Proof.Machine.execKPush p c rd s
  | .kPop p c rd => Sys2Proof.Machine.execKPop p c rd s
  | .kXchg p c rd ra rb => Sys2Proof.Machine.execKXchg p c rd ra rb s
  | .kMul p c ra rb => Sys2Proof.Machine.execKMul p c ra rb s
  | .kMuls p c ra rb => Sys2Proof.Machine.execKMuls p c ra rb s
  | .kMac p c ra rb => Sys2Proof.Machine.execKMac p c ra rb s
  | .kMacs p c ra rb => Sys2Proof.Machine.execKMacs p c ra rb s
  | .mulResultLand p => Sys2Proof.Machine.execMulResultLand p s
  | .kDiv p c ra rb => Sys2Proof.Machine.execKDiv p c ra rb s
  | .kDivs p c ra rb => Sys2Proof.Machine.execKDivs p c ra rb s
  | .divResultLand p => Sys2Proof.Machine.execDivResultLand p s
  | .kMfs p c rd sr => Sys2Proof.Machine.execKMfs p c rd sr s
  | .kMts p c sr rd => Sys2Proof.Machine.execKMts p c sr rd s
  | .sfctlPush p c disc => Sys2Proof.Machine.execSfctlPush p c disc s
  | .sfctlDiscard p c => Sys2Proof.Machine.execSfctlDiscard p c s
  | .kBra p c off => Sys2Proof.Machine.execKBra p c off s
  | .kCall p c off => Sys2Proof.Machine.execKCall p c off s
  | .kBr p c ra => Sys2Proof.Machine.execKBr p c ra s
  | .kCallr p c ra => Sys2Proof.Machine.execKCallr p c ra s
  | .kRet p c => Sys2Proof.Machine.execKRet p c s
  | .kTrap p c n => Sys2Proof.Machine.execKTrap p c n s
  | .kRetx p c => Sys2Proof.Machine.execKRetx p c s
  | .kNop p c => Sys2Proof.Machine.execKNop p c s
  | .kWfe p c => Sys2Proof.Machine.execKWfe p c s
  | .wfeWake p => Sys2Proof.Machine.execWfeWake p s
  | .kBarrier p c => Sys2Proof.Machine.execKBarrier p c s
  | .kSwpb p c => Sys2Proof.Machine.execKSwpb p c s
  | .kEsync p c => Sys2Proof.Machine.execKEsync p c s
  | .interruptEntry p => Sys2Proof.Machine.execInterruptEntry p s
  | .lockstepMismatch p => Sys2Proof.Machine.execLockstepMismatch p s
  | .eccUncorrected p => Sys2Proof.Machine.execEccUncorrected p s
  | .pairTakeover p => Sys2Proof.Machine.execPairTakeover p s
  | .pairRestart rq target => Sys2Proof.Machine.execPairRestart rq target s
  | .program rq => Sys2Proof.Machine.execProgram rq s
  | .erase rq => Sys2Proof.Machine.execErase rq s
  | .blankCheck rq => Sys2Proof.Machine.execBlankCheck rq s
  | .otpProgram rq => Sys2Proof.Machine.execOtpProgram rq s
  | .susp rq op => Sys2Proof.Machine.execSusp rq op s
  | .resm rq op => Sys2Proof.Machine.execResm rq op s
  | .flashOpComplete b ok pulses => Sys2Proof.Machine.execFlashOpComplete b ok pulses s
  | .eraseSuspended b why => Sys2Proof.Machine.execEraseSuspended b why s
  | .eraseAutoResume b => Sys2Proof.Machine.execEraseAutoResume b s
  | .tornHeal => Sys2Proof.Machine.execTornHeal s
  | .sectorCopy b n => Sys2Proof.Machine.execSectorCopy b n s
  | .fieldOn => Sys2Proof.Machine.execFieldOn s
  | .fieldLost => Sys2Proof.Machine.execFieldLost s
  | .guardEnd => Sys2Proof.Machine.execGuardEnd s
  | .reqa => Sys2Proof.Machine.execReqa s
  | .wupa => Sys2Proof.Machine.execWupa s
  | .anticollision cl2 n v => Sys2Proof.Machine.execAnticollision cl2 n v s
  | .selectCascade cl2 d => Sys2Proof.Machine.execSelectCascade cl2 d s
  | .hlta => Sys2Proof.Machine.execHlta s
  | .rats => Sys2Proof.Machine.execRats s
  | .pps dr ds => Sys2Proof.Machine.execPps dr ds s
  | .deselect => Sys2Proof.Machine.execDeselect s
  | .select cla p d le => Sys2Proof.Machine.execSelect cla p d le s
  | .getIdentity cla p d le => Sys2Proof.Machine.execGetIdentity cla p d le s
  | .getStatus cla p d le => Sys2Proof.Machine.execGetStatus cla p d le s
  | .readTamper cla p d le => Sys2Proof.Machine.execReadTamper cla p d le s
  | .readBinary cla p d le => Sys2Proof.Machine.execReadBinary cla p d le s
  | .updateBinary cla p d le => Sys2Proof.Machine.execUpdateBinary cla p d le s
  | .putTicket cla p d le => Sys2Proof.Machine.execPutTicket cla p d le s
  | .password cla p d le => Sys2Proof.Machine.execPassword cla p d le s
  | .auth1 cla p d le => Sys2Proof.Machine.execAuth1 cla p d le s
  | .auth2 cla p d le => Sys2Proof.Machine.execAuth2 cla p d le s
  | .readFaults cla p d le => Sys2Proof.Machine.execReadFaults cla p d le s
  | .commitEnergyReady => Sys2Proof.Machine.execCommitEnergyReady s
  | .wtxResend => Sys2Proof.Machine.execWtxResend s
  | .commitEnergyTimeout => Sys2Proof.Machine.execCommitEnergyTimeout s
  | .tagCommitDone bad => Sys2Proof.Machine.execTagCommitDone bad s
  | .markerPreErase => Sys2Proof.Machine.execMarkerPreErase s
  | .setPassword rq v => Sys2Proof.Machine.execSetPassword rq v s
  | .setFlags rq v => Sys2Proof.Machine.execSetFlags rq v s
  | .loadKey rq v => Sys2Proof.Machine.execLoadKey rq v s
  | .resetTries rq v => Sys2Proof.Machine.execResetTries rq v s
  | .eraseCred rq v => Sys2Proof.Machine.execEraseCred rq v s
  | .clearTicket rq v => Sys2Proof.Machine.execClearTicket rq v s
  | .sdCardDetect => Sys2Proof.Machine.execSdCardDetect s
  | .sdDebounceDone fail cid blocks ccs wide hs wp h0 h1 => Sys2Proof.Machine.execSdDebounceDone fail cid blocks ccs wide hs wp h0 h1 s
  | .sdRemoval => Sys2Proof.Machine.execSdRemoval s
  | .sdIdle => Sys2Proof.Machine.execSdIdle s
  | .writeGen rq => Sys2Proof.Machine.execWriteGen rq s
  | .verify rq => Sys2Proof.Machine.execVerify rq s
  | .discardJournal rq => Sys2Proof.Machine.execDiscardJournal rq s
  | .journalRecordDurable wp => Sys2Proof.Machine.execJournalRecordDurable wp s
  | .journalTimeout => Sys2Proof.Machine.execJournalTimeout s
  | .cardWriteDone res => Sys2Proof.Machine.execCardWriteDone res s
  | .cardBusyTimeout => Sys2Proof.Machine.execCardBusyTimeout s
  | .journalResolution wp vs => Sys2Proof.Machine.execJournalResolution wp vs s
  | .ccPresent n => Sys2Proof.Machine.execCcPresent n s
  | .ccRemoved n => Sys2Proof.Machine.execCcRemoved n s
  | .ccAtr n a b t1 ta ta2bad pps => Sys2Proof.Machine.execCcAtr n a b t1 ta ta2bad pps s
  | .ccAtrTimeout n a => Sys2Proof.Machine.execCcAtrTimeout n a s
  | .ccClassaRetry n => Sys2Proof.Machine.execCcClassaRetry n s
  | .flaskWindow k live light => Sys2Proof.Machine.execFlaskWindow k live light s
  | .flaskSample checked live temp => Sys2Proof.Machine.execFlaskSample checked live temp s
  | .flaskContinuousTrip live light => Sys2Proof.Machine.execFlaskContinuousTrip live light s
  | .flagClear rq v => Sys2Proof.Machine.execFlagClear rq v s
  | .rtcSet rq v => Sys2Proof.Machine.execRtcSet rq v s
  | .rtcMeasure rq => Sys2Proof.Machine.execRtcMeasure rq s
  | .rtcMeasureDone err => Sys2Proof.Machine.execRtcMeasureDone err s
  | .mirrorEntryWrite => Sys2Proof.Machine.execMirrorEntryWrite s
  | .faultMessageTaken ms => Sys2Proof.Machine.execFaultMessageTaken ms s
  | .skimmerPass => Sys2Proof.Machine.execSkimmerPass s
  | .auditFlushTimer => Sys2Proof.Machine.execAuditFlushTimer s
  | .auditPageDurable => Sys2Proof.Machine.execAuditPageDurable s
  | .auditSectorErase => Sys2Proof.Machine.execAuditSectorErase s
  | .faultClear rq v => Sys2Proof.Machine.execFaultClear rq v s
  | .faultnDrive rq drive => Sys2Proof.Machine.execFaultnDrive rq drive s
  | .faultnPulseExpiry => Sys2Proof.Machine.execFaultnPulseExpiry s
  | .spareIn pool => Sys2Proof.Machine.execSpareIn pool s
  | .fieldMapWrite => Sys2Proof.Machine.execFieldMapWrite s
  | .xtalWindow edges => Sys2Proof.Machine.execXtalWindow edges s
  | .xtalJudged => Sys2Proof.Machine.execXtalJudged s
  | .pllReferenceChange => Sys2Proof.Machine.execPllReferenceChange s
  | .rampStep k => Sys2Proof.Machine.execRampStep k s
  | .clockLoss srcs => Sys2Proof.Machine.execClockLoss srcs s
  | .sourceReturn => Sys2Proof.Machine.execSourceReturn s
  | .hrefclkReturnTimeout => Sys2Proof.Machine.execHrefclkReturnTimeout s
  | .leaveGrant => Sys2Proof.Machine.execLeaveGrant s
  | .leaveWait n w => Sys2Proof.Machine.execLeaveWait n w s
  | .pwrBudget rq v => Sys2Proof.Machine.execPwrBudget rq v s
  | .mainPowerGood => Sys2Proof.Machine.execMainPowerGood s
  | .mainPowerLost => Sys2Proof.Machine.execMainPowerLost s
  | .rstn => Sys2Proof.Machine.execRstn s
  | .coldStart xtal bad rows => Sys2Proof.Machine.execColdStart xtal bad rows s
  | .warmStart bad recs => Sys2Proof.Machine.execWarmStart bad recs s
  | .service rq => Sys2Proof.Machine.execService rq s
  | .hold rq => Sys2Proof.Machine.execHold rq s
  | .holdComplete => Sys2Proof.Machine.execHoldComplete s
  | .lockdown rq => Sys2Proof.Machine.execLockdown rq s
  | .cold rq => Sys2Proof.Machine.execCold rq s
  | .warm rq => Sys2Proof.Machine.execWarm rq s
  | .servicePairRelease rq => Sys2Proof.Machine.execServicePairRelease rq s
  | .dbgaccRead addr => Sys2Proof.Machine.execDbgaccRead addr s
  | .dbgaccWrite addr data => Sys2Proof.Machine.execDbgaccWrite addr data s
  | .dbgaccClearError => Sys2Proof.Machine.execDbgaccClearError s
  | .ticketGo rq len => Sys2Proof.Machine.execTicketGo rq len s
  | .ticketVerifyDone => Sys2Proof.Machine.execTicketVerifyDone s
  | .ticketClose rq => Sys2Proof.Machine.execTicketClose rq s
  | .ticketTimerExpiry => Sys2Proof.Machine.execTicketTimerExpiry s
  | .tctrWrite rq v => Sys2Proof.Machine.execTctrWrite rq v s
  | .halt rq p => Sys2Proof.Machine.execHalt rq p s
  | .step rq p => Sys2Proof.Machine.execStep rq p s
  | .resume rq p => Sys2Proof.Machine.execResume rq p s
  | .cregAccess rq wr => Sys2Proof.Machine.execCregAccess rq wr s
  | .identityInjection rq m n => Sys2Proof.Machine.execIdentityInjection rq m n s
  | .extest => Sys2Proof.Machine.execExtest s
  | .clamp => Sys2Proof.Machine.execClamp s
  | .highz => Sys2Proof.Machine.execHighz s
  | .idcode => Sys2Proof.Machine.execIdcode s
  | .samplePreload => Sys2Proof.Machine.execSamplePreload s
  | .dbgacc => Sys2Proof.Machine.execDbgacc s
  | .bypass code => Sys2Proof.Machine.execBypass code s
  | .tapReset => Sys2Proof.Machine.execTapReset s
  | .vbatLoss => Sys2Proof.Machine.execVbatLoss s
  | .undef p c => Sys2Proof.Machine.execUndef p c s
  | .refusedFetch p => Sys2Proof.Machine.execRefusedFetch p s
  | .unsupportedRequest p bar off shape => Sys2Proof.Machine.execUnsupportedRequest p bar off shape s
  | .d3hotEntry p => Sys2Proof.Machine.execD3hotEntry p s
  | .l1Exit p => Sys2Proof.Machine.execL1Exit p s
  | .ccOvercurrent n => Sys2Proof.Machine.execCcOvercurrent n s
  | .tagBadFrame => Sys2Proof.Machine.execTagBadFrame s
  | .unsupportedIns cla ins p d le => Sys2Proof.Machine.execUnsupportedIns cla ins p d le s
  | .mlinkBadFrame u cmd d crc => Sys2Proof.Machine.execMlinkBadFrame u cmd d crc s
  | .boundaryUpdate cells => Sys2Proof.Machine.execBoundaryUpdate cells s

end Sys2Proof.Machine
end

