-- ==== Sys2Proof/Machine/Step.lean ====
section
/-! DEFINITION. One step of the block: it takes the command at the front of the queue and carries it out; the queue is
the model's (log entry 1). -/

namespace Sys2Proof.Machine

/-- One step: the command at the front of the queue runs with the rest of the queue; an empty queue idles (DESIGN CHOICE,
log entry 1). -/
def step (s : State) : Host.Outcome State Fault Refusal :=
  match s.pending with
  | [] => .next s
  | c :: t => exec c { s with pending := t }

/-- `s` with the command that a word of the opcode table spells at the front of its queue: the table gives no row bits, so
no word spells a command and `s` stays as it is (log entry 1). -/
def State.withFetchWord (s : State) (nbits w : Nat) : State :=
  match Sys2Proof.decodeTableWord nbits w with
  | some c => { s with pending := c :: s.pending }
  | none => s

end Sys2Proof.Machine
end

