-- ==== Sys2Proof/Safety.lean ====
section
/-! DEFINITION. What claims say of a run: when a pair issues, what a completed instruction leaves, when a register write or
a read reaches its rule, and the form every step keeps. -/

namespace Sys2Proof.Machine

/-- A step that neither faults nor is refused. -/
def safe (s : State) : Prop := ∃ t, step s = .next t

/-- The invariant every step keeps: memory in its one canonical form. -/
def State.Inv (s : State) : Prop := memWf s.mem = true

/-! ### Pairs -/

/-- Pair `p` is running, no arithmetic exception pends, and condition `c` holds: an instruction has its own effect (R282,
R293). -/
def State.issues (s : State) (p : Pair) (c : Cond) : Bool :=
  (s.pair p).run == .running && !csAep (s.pair p).cs && condHolds c (s.pair p).fl

/-- A pair whose instruction has completed at `pc`: a debug step ends with it (R469), and a pending arithmetic exception
comes one instruction nearer (R293). -/
def KPair.done (k : KPair) (pc : Word) : KPair :=
  { k with pc := pc, aepLeft := k.aepLeft - 1, stepOne := false, run := if k.stepOne then .debugHalt else k.run }

/-- `k` with `rd` written and, with the S bit, the flags. -/
def KPair.alu (k : KPair) (sf : Bool) (rd : GReg) (v : Word) (f : NZCV) : KPair :=
  if sf then (k.setR rd v).setFl f else k.setR rd v

/-- The state after an instruction of pair `p` that leaves the pair as `k` and goes on to the next instruction: nothing
else changes. -/
def State.next (s : State) (p : Pair) (k : KPair) : State := s.setPair p (k.done ((s.pair p).pc + 4))

/-- Bit `n` of the pair's bit RAM (R286). -/
def KPair.bitRam (k : KPair) (n : Nat) : Bool := (Tbl.get (fun _ => 0) k.bits (n / 8)).getLsbD (n % 8)

/-- Pair `p` has entered the handler of vector `v` through descriptor `d` with resume address `a` (R301): the frame of R302
is on the return stack in the descriptor's window, the level, interrupt enable, data stack and PC are the descriptor's, the
entry is counted, and memory and the other pairs are as before. -/
def Entered (s t : State) (p : Pair) (v : Nat) (a : Word) (d : Desc) : Prop :=
  let k := s.pair p
  let e := t.pair p
  let w := window k d
  e.pc = d.handler ∧ e.rsb = w.1 ∧ e.rsl = w.2.1 ∧ e.rsp = w.2.2 + 16 ∧
    e.rstack = pushFrame k.rstack w.2.2 (frameOf k v a) ∧
    e.r 15 = (if d.keepSp then k.r 15 else d.dsp) ∧
    e.xcnt = k.xcnt + 1 ∧ t.mem = s.mem ∧ ∀ q : Nat, q ≠ p → t.pair q = s.pair q

/-- The descriptor of vector `v` is usable for pair `p` and its window has room for a frame (R300, R301). -/
def State.vector (s : State) (p : Pair) (v : Nat) (d : Desc) : Prop :=
  s.desc p v = .ok d ∧ (window (s.pair p) d).2.2 + 16 ≤ (window (s.pair p) d).2.1

/-- The pair and condition of a Kennu instruction; none for every other command and for the UNDEF word with COND 0xF. -/
def kennuOf : Instr → Option (Pair × Cond)
  | .kAdd p c _ _ _ _ => some (p, c)
  | .kSub p c _ _ _ _ => some (p, c)
  | .kAnd p c _ _ _ _ => some (p, c)
  | .kOr p c _ _ _ _ => some (p, c)
  | .kXor p c _ _ _ _ => some (p, c)
  | .kShl p c _ _ _ _ => some (p, c)
  | .kShr p c _ _ _ _ => some (p, c)
  | .kSar p c _ _ _ _ => some (p, c)
  | .kRor p c _ _ _ _ => some (p, c)
  | .kAddc p c _ _ _ _ => some (p, c)
  | .kSubc p c _ _ _ _ => some (p, c)
  | .kCmp p c _ _ => some (p, c)
  | .kTst p c _ _ => some (p, c)
  | .kMov p c _ _ _ => some (p, c)
  | .kAddv p c _ _ _ _ => some (p, c)
  | .kSubv p c _ _ _ _ => some (p, c)
  | .kAddi p c _ _ _ => some (p, c)
  | .kAndi p c _ _ _ => some (p, c)
  | .kOri p c _ _ _ => some (p, c)
  | .kXori p c _ _ _ => some (p, c)
  | .kShli p c _ _ _ => some (p, c)
  | .kShri p c _ _ _ => some (p, c)
  | .kSari p c _ _ _ => some (p, c)
  | .kCmpi p c _ _ => some (p, c)
  | .kMovw p c _ _ _ => some (p, c)
  | .kMovk p c _ _ _ => some (p, c)
  | .kAddvi p c _ _ _ => some (p, c)
  | .kSetb p c _ => some (p, c)
  | .kClrb p c _ => some (p, c)
  | .kTstb p c _ => some (p, c)
  | .kMovb p c _ => some (p, c)
  | .kAndb p c _ => some (p, c)
  | .kOrb p c _ => some (p, c)
  | .kXorb p c _ => some (p, c)
  | .kLdw p c _ _ _ => some (p, c)
  | .kLdh p c _ _ _ => some (p, c)
  | .kLdhs p c _ _ _ => some (p, c)
  | .kLdb p c _ _ _ => some (p, c)
  | .kLdbs p c _ _ _ => some (p, c)
  | .kStw p c _ _ _ => some (p, c)
  | .kSth p c _ _ _ => some (p, c)
  | .kStb p c _ _ _ => some (p, c)
  | .kLdd p c _ _ _ => some (p, c)
  | .kStd p c _ _ _ => some (p, c)
  | .kPush p c _ => some (p, c)
  | .kPop p c _ => some (p, c)
  | .kXchg p c _ _ _ => some (p, c)
  | .kMul p c _ _ => some (p, c)
  | .kMuls p c _ _ => some (p, c)
  | .kMac p c _ _ => some (p, c)
  | .kMacs p c _ _ => some (p, c)
  | .kDiv p c _ _ => some (p, c)
  | .kDivs p c _ _ => some (p, c)
  | .kMfs p c _ _ => some (p, c)
  | .kMts p c _ _ => some (p, c)
  | .sfctlPush p c _ => some (p, c)
  | .sfctlDiscard p c => some (p, c)
  | .kBra p c _ => some (p, c)
  | .kCall p c _ => some (p, c)
  | .kBr p c _ => some (p, c)
  | .kCallr p c _ => some (p, c)
  | .kRet p c => some (p, c)
  | .kTrap p c _ => some (p, c)
  | .kRetx p c => some (p, c)
  | .kNop p c => some (p, c)
  | .kWfe p c => some (p, c)
  | .kBarrier p c => some (p, c)
  | .kSwpb p c => some (p, c)
  | .kEsync p c => some (p, c)
  | .undef p (some c) => some (p, c)
  | _ => none

/-! ### Jobs -/

/-- Job `j` of id `id` is an admin command of opcode `op` whose turn has come and which has passed admission (R108). -/
def State.turn (s : State) (id op : Nat) (j : Job) : Prop :=
  s.job id = some j ∧ j.op = op ∧ j.qp < 4 ∧ s.adminTurn j ∧ j.stage = .ready

/-- Lane `n` has run a work of `total` blocks for job `j` under its seed, the domain charged `tenths` of a cycle (R122, R171,
R172). -/
def State.worked (s : State) (j : Job) (n total tenths : Nat) : State :=
  let l := s.lane n
  (s.setLane n { l with
    done := l.done + (total - l.done), blocks := (l.blocks + (total - l.done)) % 2 ^ 48
    since := l.since + (total - l.done) }).chargeLane j.dom tenths

/-- Lane `n` can run a work of `total` blocks without switching seeds (R171). -/
def State.fits (s : State) (n total : Nat) : Prop := total - (s.lane n).done ≤ 65536 - (s.lane n).since

/-- The bytes of `l` that are real payload of job `j`, the rest of the last block zero (R181). -/
def cut (j : Job) (l : List Byte) : List Byte := l.take j.realLen ++ zeros (l.length - j.realLen)

/-- A general symmetric job without stream and without device-generated IV (R183, R188). -/
def oneShot (j : Job) : Prop := j.ivGen = false ∧ j.stateIn = false ∧ j.stateOut = false ∧ j.stream = none

/-! ### Register writes -/

/-- A write by `rq` to the register at `a` of block `b`, instance `i`, reaches the register's own rule: the requester can use
the fabric, the Gate or the debug reach lets it pass, no soft reset holds it, the register is not locked, and a register
that starts work belongs to a block with EN 1. -/
def State.writable (s : State) (rq : Rq) (b i a : Nat) : Bool :=
  s.live rq && (s.barred rq a true).isNone && !(s.hdr b i).srstBusy && !s.rwlShut b i a &&
    (!startReg a || (s.hdr b i).en)

end Sys2Proof.Machine
end

