-- ==== Sys2Proof/Certificates/Slice0/Obligations.lean ====
section
/-! DEFINITION. The statements about the model: what each command does, and what every step keeps. Statements about commands
that complete give the whole next state, or what it holds, under conditions on the state and the operands alone. -/

open Sys2Proof Sys2Proof.Machine

/-! ### The step and the state after reset -/

/-- What one step is: exec of the command at the front of the queue, on the state with the queue's rest. -/
def Obligations.StepRunsTheFrontCommand : Prop :=
  ∀ (s : State) (c : Instr) (l : List Instr),
    step { s with pending := c :: l } = exec c { s with pending := l }

/-- R449, R450. Every command has an effect: exec answers a next state for every command in every state, and an empty queue
leaves the block as it is (idling is the model's choice, log entry 1). -/
def Obligations.NoCommandStops : Prop :=
  (∀ (c : Instr) (s : State), ∃ t, exec c s = .next t) ∧ ∀ s : State, s.pending = [] → step s = .next s

/-- R13, R394, R456, R462. After a cold Start of a new part: the lifecycle state is FOUNDRY, no job and no message waits,
every slot is EMPTY, no queue pair exists, the units have passed their tests and lanes are dormant, SUPERVISOR
runs at PC 0 and SERVICE is held, and flag 13 alone of the Flask flags is set. Mode Start, the variant and the
fitted cell are the model's choice (log entry 3). -/
def Obligations.ResetState : Prop :=
  let s := State.reset
  s.life = .foundry ∧ s.jobs = [] ∧ s.inbox = [] ∧ (∀ n, (s.slot n).st = .empty) ∧ (∀ q, (s.qp q).st = .absent) ∧
    (s.pair 0).role = 1 ∧ (s.pair 0).run = .running ∧ (s.pair 0).pc = 0 ∧ (s.pair 1).role = 2 ∧ (s.pair 1).run = .held ∧
    (∀ n, n < 8 → (s.lane n).st = .dormant) ∧ (∀ u, u < 2 → (s.unit u).st = .idle) ∧ s.rng.st = .run ∧
    s.flags = 2 ^ 13 ∧ s.kst.unsealed = false ∧ s.rtcValid = false ∧ s.dbg.st = 2 ∧ s.Inv

/-- The invariant of every step: memory keeps its one canonical form, addresses strictly rising and no entry equal to what an
unlisted address reads as, whatever the command, so that states with equal memories are equal data. -/
def Obligations.EveryStepKeepsMemoryCanonical : Prop :=
  ∀ s t : State, s.Inv → step s = .next t → t.Inv

/-! ### Kennu pairs -/

/-- R284. An issued ADD, SUB, ADDC, SUBC or ADDI writes RD with the sum or difference modulo 2^32, ADDC and SUBC taking C in;
with S, and in CMP and CMPI, the flags are N bit 31, Z zero, C the carry out of bit 31 of an addition and the borrow of a
subtraction, V signed overflow. Nothing but RD, the flags and the pair's own progress changes. -/
def Obligations.KennuAddSubtractResultAndFlags : Prop :=
  ∀ (s : State) (p : Pair) (c : Cond) (sf : Bool) (rd ra rb : GReg) (imm : BitVec 14), s.issues p c →
    let k := s.pair p
    let a := k.r ra
    let b := k.r rb
    let i := imm.signExtend 32
    let cin := b2n k.fl.c
    exec (.kAdd p c sf rd ra rb) s = .next (s.next p (k.alu sf rd (a + b)
      ⟨(a + b).msb, a + b == 0, decide (2 ^ 32 ≤ a.toNat + b.toNat), a.saddOverflow b⟩)) ∧
    exec (.kSub p c sf rd ra rb) s = .next (s.next p (k.alu sf rd (a - b)
      ⟨(a - b).msb, a - b == 0, decide (a.toNat < b.toNat), a.ssubOverflow b⟩)) ∧
    exec (.kAddc p c sf rd ra rb) s = .next (s.next p (k.alu sf rd (a + b + w32 cin)
      ⟨(a + b + w32 cin).msb, a + b + w32 cin == 0, decide (2 ^ 32 ≤ a.toNat + b.toNat + cin),
        decide ((a + b + w32 cin).toInt ≠ a.toInt + b.toInt + cin)⟩)) ∧
    exec (.kSubc p c sf rd ra rb) s = .next (s.next p (k.alu sf rd (a - b - w32 cin)
      ⟨(a - b - w32 cin).msb, a - b - w32 cin == 0, decide (a.toNat < b.toNat + cin),
        decide ((a - b - w32 cin).toInt ≠ a.toInt - b.toInt - cin)⟩)) ∧
    exec (.kCmp p c ra rb) s = .next (s.next p (k.setFl
      ⟨(a - b).msb, a - b == 0, decide (a.toNat < b.toNat), a.ssubOverflow b⟩)) ∧
    exec (.kCmpi p c ra imm) s = .next (s.next p (k.setFl
      ⟨(a - i).msb, a - i == 0, decide (a.toNat < i.toNat), a.ssubOverflow i⟩)) ∧
    exec (.kAddi p c rd ra imm) s = .next (s.next p (k.setR rd (a + i)))

/-- R284, R281. An issued logical operation or MOV writes RD; with S, and in TST, N and Z follow the result and C and V keep
their values. Immediate forms change no flag: ANDI, ORI and XORI zero-extend, MOVW clears the other halfword, MOVK keeps
it. -/
def Obligations.KennuLogicAndMoveResult : Prop :=
  ∀ (s : State) (p : Pair) (c : Cond) (sf hw : Bool) (rd ra rb : GReg) (imm : BitVec 14) (h : BitVec 16),
    s.issues p c →
    let k := s.pair p
    let a := k.r ra
    let b := k.r rb
    let u := imm.zeroExtend 32
    let nz := fun (v : Word) => (⟨v.msb, v == 0, k.fl.c, k.fl.v⟩ : NZCV)
    exec (.kAnd p c sf rd ra rb) s = .next (s.next p (k.alu sf rd (a &&& b) (nz (a &&& b)))) ∧
    exec (.kOr p c sf rd ra rb) s = .next (s.next p (k.alu sf rd (a ||| b) (nz (a ||| b)))) ∧
    exec (.kXor p c sf rd ra rb) s = .next (s.next p (k.alu sf rd (a ^^^ b) (nz (a ^^^ b)))) ∧
    exec (.kMov p c sf rd rb) s = .next (s.next p (k.alu sf rd b (nz b))) ∧
    exec (.kTst p c ra rb) s = .next (s.next p (k.setFl (nz (a &&& b)))) ∧
    exec (.kAndi p c rd ra imm) s = .next (s.next p (k.setR rd (a &&& u))) ∧
    exec (.kOri p c rd ra imm) s = .next (s.next p (k.setR rd (a ||| u))) ∧
    exec (.kXori p c rd ra imm) s = .next (s.next p (k.setR rd (a ^^^ u))) ∧
    exec (.kMovw p c rd hw h) s = .next (s.next p (k.setR rd (if hw then h ++ (0 : BitVec 16) else h.zeroExtend 32))) ∧
    exec (.kMovk p c rd hw h) s = .next (s.next p (k.setR rd
      (if hw then h ++ (k.r rd).extractLsb' 0 16 else (k.r rd).extractLsb' 16 16 ++ h)))

/-- R284. An issued shift or rotation moves RA by RB[4:0], or by the immediate; with S, N and Z follow the result, C is the
last bit shifted out and unchanged for an amount of 0, and V is unchanged. -/
def Obligations.KennuShiftResultAndFlags : Prop :=
  ∀ (s : State) (p : Pair) (c : Cond) (sf : Bool) (rd ra rb : GReg) (m : Fin 32), s.issues p c →
    let k := s.pair p
    let a := k.r ra
    let n := (k.r rb).toNat % 32
    let fl := fun (v : Word) (out : Bool) => (⟨v.msb, v == 0, if n = 0 then k.fl.c else out, k.fl.v⟩ : NZCV)
    exec (.kShl p c sf rd ra rb) s = .next (s.next p (k.alu sf rd (a <<< n) (fl (a <<< n) (bit a (32 - n))))) ∧
    exec (.kShr p c sf rd ra rb) s = .next (s.next p (k.alu sf rd (a >>> n) (fl (a >>> n) (bit a (n - 1))))) ∧
    exec (.kSar p c sf rd ra rb) s = .next (s.next p (k.alu sf rd (a.sshiftRight n)
      (fl (a.sshiftRight n) (bit a (n - 1))))) ∧
    exec (.kRor p c sf rd ra rb) s = .next (s.next p (k.alu sf rd (a.rotateRight n)
      (fl (a.rotateRight n) (bit a (n - 1))))) ∧
    exec (.kShli p c rd ra m) s = .next (s.next p (k.setR rd (a <<< m.val))) ∧
    exec (.kShri p c rd ra m) s = .next (s.next p (k.setR rd (a >>> m.val))) ∧
    exec (.kSari p c rd ra m) s = .next (s.next p (k.setR rd (a.sshiftRight m.val)))

/-- R292, R293. ADDV, SUBV and ADDVI without signed overflow act as ADD, SUB and ADDI. With it and PRC 1 nothing is written:
AEA takes the instruction's address, AEC the value 1, and vector 5 is entered with the instruction as resume address. With
it and PRC 0 the instruction completes, AEP is set, AEA and AEC are written, and the exception is due within 8
instructions. -/
def Obligations.KennuOverflowChecked : Prop :=
  ∀ (s : State) (p : Pair) (c : Cond) (sf : Bool) (rd ra rb : GReg) (imm : BitVec 14), s.issues p c →
    let k := s.pair p
    let a := k.r ra
    let b := k.r rb
    let i := imm.signExtend 32
    let add := fun (x : Word) => (⟨(a + x).msb, a + x == 0, decide (2 ^ 32 ≤ a.toNat + x.toNat), a.saddOverflow x⟩ : NZCV)
    let sub := (⟨(a - b).msb, a - b == 0, decide (a.toNat < b.toNat), a.ssubOverflow b⟩ : NZCV)
    let precise := (s.setPair p { k with aea := k.pc, aec := 1 }).enter p 5 k.pc 0
    let late := fun (w : KPair) (t : State) => ∃ n ≤ 8,
      t = { s with fresh := s.fresh + 1 }.next p
        { w with aea := k.pc, aec := 1, cs := putBit w.cs 3 true, aepLeft := 1 + n }
    (if a.saddOverflow b then
        (csPrc k.cs → exec (.kAddv p c sf rd ra rb) s = .next precise) ∧
        (csPrc k.cs = false → ∃ t, exec (.kAddv p c sf rd ra rb) s = .next t ∧ late (k.alu sf rd (a + b) (add b)) t)
      else exec (.kAddv p c sf rd ra rb) s = .next (s.next p (k.alu sf rd (a + b) (add b)))) ∧
    (if a.ssubOverflow b then
        (csPrc k.cs → exec (.kSubv p c sf rd ra rb) s = .next precise) ∧
        (csPrc k.cs = false → ∃ t, exec (.kSubv p c sf rd ra rb) s = .next t ∧ late (k.alu sf rd (a - b) sub) t)
      else exec (.kSubv p c sf rd ra rb) s = .next (s.next p (k.alu sf rd (a - b) sub))) ∧
    (if a.saddOverflow i then
        (csPrc k.cs → exec (.kAddvi p c rd ra imm) s = .next precise) ∧
        (csPrc k.cs = false → ∃ t, exec (.kAddvi p c rd ra imm) s = .next t ∧ late (k.setR rd (a + i)) t)
      else exec (.kAddvi p c rd ra imm) s = .next (s.next p (k.setR rd (a + i))))

/-- R289. An issued product goes into the multiplier behind those in flight; MAC and MACS add to the latest product in
flight, or to MH:ML. The oldest product in flight lands in MH:ML; with none in flight nothing changes. -/
def Obligations.KennuProductsInIssueOrder : Prop :=
  ∀ (s : State) (p : Pair) (c : Cond) (ra rb : GReg),
    let k := s.pair p
    let u := (k.r ra).zeroExtend 64 * (k.r rb).zeroExtend 64
    let v := (k.r ra).signExtend 64 * (k.r rb).signExtend 64
    let acc := k.mulQ.getLast?.getD (k.mh ++ k.ml)
    let put := fun (x : BitVec 64) => s.next p { k with mulQ := k.mulQ ++ [x] }
    (s.issues p c →
      exec (.kMul p c ra rb) s = .next (put u) ∧ exec (.kMuls p c ra rb) s = .next (put v) ∧
      exec (.kMac p c ra rb) s = .next (put (acc + u)) ∧ exec (.kMacs p c ra rb) s = .next (put (acc + v))) ∧
    (∀ x l, k.mulQ = x :: l → exec (.mulResultLand p) s =
      .next (s.setPair p { k with mulQ := l, mh := x.extractLsb' 32 32, ml := x.extractLsb' 0 32 }))

/-- R290, R294. An issued division by a divisor other than 0 (and not of -2^31 by -1 for DIVS) puts its quotient and
remainder in flight, an earlier division landing first; with PRC 1 it lands before the next instruction. The division in
flight lands in QT and RM. -/
def Obligations.KennuDivisionLands : Prop :=
  ∀ (s : State) (p : Pair) (c : Cond) (ra rb : GReg),
    let k := s.pair p
    let a := k.r ra
    let b := k.r rb
    let go := fun (q r : Word) => s.next p (if csPrc k.cs then { k with divQ := none, qt := q, rm := r }
      else { landDiv k with divQ := some (q, r) })
    (s.issues p c → b ≠ 0 → exec (.kDiv p c ra rb) s = .next (go (a / b) (a % b))) ∧
    (s.issues p c → b ≠ 0 → ¬(a = 0x80000000 ∧ b = 0xFFFFFFFF) →
      exec (.kDivs p c ra rb) s = .next (go (a.sdiv b) (a.srem b))) ∧
    (∀ q r, k.divQ = some (q, r) →
      exec (.divResultLand p) s = .next (s.setPair p { k with divQ := none, qt := q, rm := r }))

/-- R279, R280, R281, R284, R307. What an issued branch, call, return, NOP, BARRIER, ESYNC or WFE leaves: a call pushes the
address of the next instruction as a CALL word below RSL, RET pops one from above RSB, and a push or pop that faults does
nothing but take the stack fault at the instruction; WFE waits unless an interrupt pends, and a waiting pair runs again when
one does. -/
def Obligations.KennuControlFlow : Prop :=
  ∀ (s : State) (p : Pair) (c : Cond) (ra : GReg) (off : BitVec 22),
    let k := s.pair p
    let target := k.pc + (off.signExtend 32 <<< 2)
    let pushed := { k with rstack := Tbl.set (fun _ => {}) k.rstack (k.rsp / 4) ⟨k.pc + 4, false⟩, rsp := k.rsp + 4 }
    (s.issues p c →
      exec (.kBra p c off) s = .next (s.setPair p (k.done target)) ∧
      exec (.kBr p c ra) s = .next (s.setPair p (k.done (k.r ra))) ∧
      exec (.kNop p c) s = .next (s.next p k) ∧
      exec (.kBarrier p c) s = .next (s.next p k) ∧
      exec (.kEsync p c) s = .next (s.next p (landDiv (landMuls k))) ∧
      (k.rsp + 4 ≤ k.rsl → exec (.kCall p c off) s = .next (s.setPair p (pushed.done target)) ∧
        exec (.kCallr p c ra) s = .next (s.setPair p (pushed.done (k.r ra)))) ∧
      (k.rsb + 4 ≤ k.rsp → (rsWord k (k.rsp - 4)).frame = false →
        exec (.kRet p c) s = .next (s.setPair p ({ k with rsp := k.rsp - 4 }.done (rsWord k (k.rsp - 4)).val))) ∧
      (k.rsl < k.rsp + 4 → exec (.kCall p c off) s = .next (s.enter p 2 k.pc 1) ∧
        exec (.kCallr p c ra) s = .next (s.enter p 2 k.pc 1)) ∧
      (k.rsp < k.rsb + 4 → exec (.kRet p c) s = .next (s.enter p 2 k.pc 2)) ∧
      (k.rsb + 4 ≤ k.rsp → (rsWord k (k.rsp - 4)).frame → exec (.kRet p c) s = .next (s.enter p 2 k.pc 3)) ∧
      (s.firstIrq p = none → k.stepOne = false →
        exec (.kWfe p c) s = .next (s.setPair p { k.done (k.pc + 4) with run := .waiting })) ∧
      ((s.firstIrq p).isSome → exec (.kWfe p c) s = .next (s.next p k))) ∧
    (k.run = .waiting → (s.firstIrq p).isSome →
      exec (.wfeWake p) s = .next (s.setPair p { k with run := .running }))

/-- R317, R318. SWPB at level 0 swaps the pair's Gate bank, counted in GAT_SWAPS, when the other bank is well-formed; a
bank that is not is refused: the pair keeps its bank and MPU_OVERLAP is sent. -/
def Obligations.KennuBankSwap : Prop :=
  ∀ (s : State) (p : Pair) (c : Cond), s.issues p c →
    let k := s.pair p
    (csPl k.cs = 0 → s.gateDefect (!csBank k.cs) = none →
      exec (.kSwpb p c) s =
        .next ((s.count R.GAT_SWAPS 15 0).next p { k with cs := putBit k.cs 6 (!csBank k.cs) })) ∧
    (csPl k.cs = 0 → (s.gateDefect (!csBank k.cs)).isSome →
      ∃ t, exec (.kSwpb p c) s = .next t ∧ t.pair p = k.done (k.pc + 4) ∧ t.mem = s.mem ∧
        ∃ m, t.inbox = s.inbox ++ [m] ∧ m.blk = Blk.GAT ∧ m.kind = Kind.MPU_OVERLAP)

/-- R285, R278. An issued load from system SRAM that is not refused writes RD with the bytes read, little-endian: zero- or
sign-extended, LDD with RD + 1 for the high word, POP with g15 then 4 higher. Nothing else changes. -/
def Obligations.KennuLoadsFromSram : Prop :=
  ∀ (s : State) (p : Pair) (c : Cond) (rd ra : GReg) (imm : BitVec 14), s.issues p c →
    let k := s.pair p
    let a := (k.r ra + imm.signExtend 32).toNat
    let sp := (k.r 15).toNat
    let ok := fun (a n : Nat) => area a = .sram ∧ s.refusal p a n .load = none
    let v := fun (n : Nat) => fromLe (s.bytes a n)
    (ok a 4 → exec (.kLdw p c rd ra imm) s = .next (s.next p (k.setR rd (w32 (v 4))))) ∧
    (ok a 2 → exec (.kLdh p c rd ra imm) s = .next (s.next p (k.setR rd (w32 (v 2)))) ∧
      exec (.kLdhs p c rd ra imm) s = .next (s.next p (k.setR rd ((BitVec.ofNat 16 (v 2)).signExtend 32)))) ∧
    (ok a 1 → exec (.kLdb p c rd ra imm) s = .next (s.next p (k.setR rd (w32 (v 1)))) ∧
      exec (.kLdbs p c rd ra imm) s = .next (s.next p (k.setR rd ((BitVec.ofNat 8 (v 1)).signExtend 32)))) ∧
    (ok a 8 → rd.val % 2 = 0 → exec (.kLdd p c rd ra imm) s =
      .next (s.next p ((k.setR rd (w32 (v 8))).setR (rd + 1) (w32 (v 8 / 2 ^ 32))))) ∧
    (ok sp 4 → exec (.kPop p c rd) s = .next (s.next p
      (let k := k.setR rd (w32 (fromLe (s.bytes sp 4)))
       k.setR 15 (k.r 15 + 4))))

/-- R285, R278. An issued store to system SRAM that is not refused writes the bytes of its register at its address,
little-endian, and changes no other byte and no other state; PUSH stores at g15 - 4 and moves g15 there; XCHG reads the old
word into RD. -/
def Obligations.KennuStoresToSram : Prop :=
  ∀ (s : State) (p : Pair) (c : Cond) (rd ra rb : GReg) (imm : BitVec 14), s.issues p c →
    let k := s.pair p
    let a := (k.r ra + imm.signExtend 32).toNat
    let b := (k.r ra).toNat
    let sp := k.r 15 - 4
    let ok := fun (a n : Nat) => area a = .sram ∧ s.refusal p a n .store = none
    let stored := fun (t : State) (a n v : Nat) => ∀ x, t.byte x =
      if a ≤ x ∧ x < a + n then BitVec.ofNat 8 (v / 256 ^ (x - a)) else s.byte x
    let rest := fun (t : State) (j : KPair) => { t with mem := s.mem } = s.next p j
    (ok a 4 → ∃ t, exec (.kStw p c rd ra imm) s = .next t ∧ stored t a 4 (k.r rd).toNat ∧ rest t k) ∧
    (ok a 2 → ∃ t, exec (.kSth p c rd ra imm) s = .next t ∧ stored t a 2 (k.r rd).toNat ∧ rest t k) ∧
    (ok a 1 → ∃ t, exec (.kStb p c rd ra imm) s = .next t ∧ stored t a 1 (k.r rd).toNat ∧ rest t k) ∧
    (ok a 8 → rd.val % 2 = 0 → ∃ t, exec (.kStd p c rd ra imm) s = .next t ∧
      stored t a 8 ((k.r rd).toNat + 2 ^ 32 * (k.r (rd + 1)).toNat) ∧ rest t k) ∧
    (ok sp.toNat 4 → ∃ t, exec (.kPush p c rd) s = .next t ∧ stored t sp.toNat 4 ((k.setR 15 sp).r rd).toNat ∧
      rest t (k.setR 15 sp)) ∧
    (ok b 4 → s.refusal p b 4 .load = none → ∃ t, exec (.kXchg p c rd ra rb) s = .next t ∧
      stored t b 4 (k.r rb).toNat ∧ rest t (k.setR rd (w32 (fromLe (s.bytes b 4)))))

/-- R286, R288 and the bit instruction table. On a bit of the bit RAM (an address below 0x8000) SETB and CLRB write it, TSTB
gives Z NOT b and C b, MOVB moves it to C or C to it, and ANDB, ORB and XORB combine C with b, or with NOT b where D is 1.
No other bit of the bit RAM and no other state changes. -/
def Obligations.KennuBitRam : Prop :=
  ∀ (s : State) (p : Pair) (c : Cond) (b : BitOp), s.issues p c → bitAddr (s.pair p) b < 0x8000 →
    let k := s.pair p
    let n := bitAddr k b
    let v := k.bitRam n
    let put := fun (t : State) (x : Bool) => ∃ j, t = s.next p { k with bits := j } ∧
      ∀ m, { k with bits := j }.bitRam m = if m = n then x else k.bitRam m
    let cc := fun (x : Bool) => s.next p (k.setFl { k.fl with c := x })
    (∃ t, exec (.kSetb p c b) s = .next t ∧ put t true) ∧
    (∃ t, exec (.kClrb p c b) s = .next t ∧ put t false) ∧
    exec (.kTstb p c b) s = .next (s.next p (k.setFl { k.fl with z := !v, c := v })) ∧
    (if b.d then ∃ t, exec (.kMovb p c b) s = .next t ∧ put t k.fl.c else exec (.kMovb p c b) s = .next (cc v)) ∧
    exec (.kAndb p c b) s = .next (cc (k.fl.c && (v != b.d))) ∧
    exec (.kOrb p c b) s = .next (cc (k.fl.c || (v != b.d))) ∧
    exec (.kXorb p c b) s = .next (cc (k.fl.c != (v != b.d)))

/-- R277, R291, R310. MFS reads the special register into RD (a read of CYCLO captures its high word in CYCHI; the count is a
free value), MTS writes it, each where the pair's level allows; a register the table does not give takes vector 1. SFCTL.PUSH moves the shadow frame to the return stack, or sets SFERR when there is no room;
DISCARD clears SFV. -/
def Obligations.KennuSpecialRegisters : Prop :=
  ∀ (s : State) (p : Pair) (c : Cond) (rd : GReg) (sr : Fin 32) (disc : Bool),
    let k := s.pair p
    (s.issues p c → ∀ l, mfsLevel sr.val = some l → csPl k.cs ≤ l →
      (sr.val ≠ 12 → exec (.kMfs p c rd sr) s = .next (s.next p (k.setR rd (srRead s p sr.val)))) ∧
      (sr.val = 12 → ∃ n, exec (.kMfs p c rd sr) s = .next ({ s with fresh := s.fresh + 1 }.next p
        { k.setR rd (w32 n) with cycHi := w32 (n / 2 ^ 32) }))) ∧
    (s.issues p c → ∀ l, mtsLevel sr.val = some l → csPl k.cs ≤ l →
      exec (.kMts p c sr rd) s = .next (s.next p (srWrite k sr.val (k.r rd)))) ∧
    (s.issues p c → mfsLevel sr.val = none → exec (.kMfs p c rd sr) s = .next (s.enter p 1 k.pc 0)) ∧
    (s.issues p c → mtsLevel sr.val = none → exec (.kMts p c sr rd) s = .next (s.enter p 1 k.pc 0)) ∧
    (s.issues p c → csPl k.cs = 0 →
      (k.rsp + 16 ≤ k.rsl → exec (.sfctlPush p c disc) s = .next (s.next p { k with
        rstack := pushFrame k.rstack k.rsp (k.sf0, k.sf1, k.sf2, k.sf3), rsp := k.rsp + 16
        esr := putBit k.esr 16 false })) ∧
      (k.rsl < k.rsp + 16 → exec (.sfctlPush p c disc) s = .next (s.next p { k with esr := putBit k.esr 18 true })) ∧
      exec (.sfctlDiscard p c) s = .next (s.next p { k with esr := putBit k.esr 16 false }))

/-- R285, R298-R304, R307. TRAP (level at most TPL), an undefined word, a pending interrupt with IE 1 and a refused fetch enter
their vector: through a usable descriptor with room in its window the frame is pushed, its resume address the next instruction
for TRAP and an interrupt's own boundary, the instruction itself for an undefined word and a refused fetch; g15, level, IE
and pc are the descriptor's. A refused fetch sends a message and sets EAR to the address fetched. -/
def Obligations.KennuVectorEntry : Prop :=
  ∀ (s : State) (p : Pair) (c : Cond) (n : Fin 128) (b : Nat) (d : Desc),
    let k := s.pair p
    (s.issues p c → s.vector p (128 + n.val) d → csPl k.cs ≤ d.tpl →
      ∃ t, exec (.kTrap p c n) s = .next t ∧ Entered s t p (128 + n.val) (k.pc + 4) d) ∧
    (s.issues p c → s.vector p 1 d → ∃ t, exec (.undef p (some c)) s = .next t ∧ Entered s t p 1 k.pc d) ∧
    (s.issues p .al → s.vector p 1 d → ∃ t, exec (.undef p none) s = .next t ∧ Entered s t p 1 k.pc d) ∧
    ((k.run = .running ∨ k.run = .waiting) → csAep k.cs = false → csIe k.cs → s.firstIrq p = some b →
      s.vector p (16 + b) d → ∃ t, exec (.interruptEntry p) s = .next t ∧ Entered s t p (16 + b) k.pc d) ∧
    (∀ w, k.run = .running → csAep k.cs = false → s.refusal p k.pc.toNat 4 .fetch = some w → s.vector p 4 d →
      ∃ t, exec (.refusedFetch p) s = .next t ∧ Entered s t p 4 k.pc d ∧
        (t.pair p).ear = w32 k.pc.toNat ∧ s.inbox.length < t.inbox.length)

/-- R297. The privilege exception, vector 3, with the instruction as resume address and nothing else done: an MFS or MTS (of SFCTL
too) above the level its table allows, SWPB at level 1 or 2, TRAP above the level its descriptor allows, and RETX whose frame
holds a level below the pair's. -/
def Obligations.KennuPrivilegeException : Prop :=
  ∀ (s : State) (p : Pair) (c : Cond) (rd : GReg) (sr : Fin 32) (n : Fin 128) (disc : Bool) (l : Nat) (d : Desc),
    s.issues p c →
    let k := s.pair p
    let w := fun (i : Nat) => rsWord k (k.rsp - 16 + 4 * i)
    (mfsLevel sr.val = some l → l < csPl k.cs → exec (.kMfs p c rd sr) s = .next (s.enter p 3 k.pc 0)) ∧
    (mtsLevel sr.val = some l → l < csPl k.cs → exec (.kMts p c sr rd) s = .next (s.enter p 3 k.pc 0)) ∧
    (csPl k.cs ≠ 0 → exec (.sfctlPush p c disc) s = .next (s.enter p 3 k.pc 0) ∧
      exec (.sfctlDiscard p c) s = .next (s.enter p 3 k.pc 0) ∧ exec (.kSwpb p c) s = .next (s.enter p 3 k.pc 0)) ∧
    (s.desc p (128 + n.val) = .ok d → d.tpl < csPl k.cs → exec (.kTrap p c n) s = .next (s.enter p 3 k.pc 0)) ∧
    (k.rsb + 16 ≤ k.rsp → (w 0).frame → (w 1).frame → (w 2).frame → (w 3).frame → bits (w 1).val 5 4 < csPl k.cs →
      exec (.kRetx p c) s = .next (s.enter p 3 k.pc 0))

/-- R305. RETX with a frame of four FRAME words on top, whose level is not below the pair's and whose bank is the pair's or one
that may be swapped to, resumes at the frame's address with its flags, PRC, IE, level, bank, g15 and window, the frame
popped; each failed check enters its vector: stack fault 5, stack fault 4, privilege, SWAP. -/
def Obligations.KennuReturnFromException : Prop :=
  ∀ (s : State) (p : Pair) (c : Cond), s.issues p c →
    let k := s.pair p
    let w := fun (i : Nat) => rsWord k (k.rsp - 16 + 4 * i)
    let frames := (w 0).frame && (w 1).frame && (w 2).frame && (w 3).frame
    let w1 := (w 1).val
    let w3 := (w 3).val
    let cs := putField (putField (putField k.cs 31 28 (bits w1 31 28)) 8 7 (bits w1 8 7)) 5 4 (bits w1 5 4)
    (k.rsb + 16 ≤ k.rsp → frames → csPl k.cs ≤ bits w1 5 4 → bit w1 6 = csBank k.cs →
      exec (.kRetx p c) s = .next (s.setPair p ({ k with
        cs := cs, g := Tbl.set (fun _ => 0) k.g 15 (w 2).val, rsp := bits w3 12 2 * 4
        rsl := bits w3 21 13 * 16, rsb := bits w3 29 22 * 16 }.done (w 0).val))) ∧
    (k.rsb + 16 ≤ k.rsp → frames → csPl k.cs ≤ bits w1 5 4 → bit w1 6 ≠ csBank k.cs →
      (s.gateDefect (bit w1 6) = none → exec (.kRetx p c) s = .next ((s.count R.GAT_SWAPS 15 0).setPair p ({ k with
        cs := putField (putField (putField (putBit k.cs 6 (bit w1 6)) 31 28 (bits w1 31 28)) 8 7 (bits w1 8 7)) 5 4
          (bits w1 5 4), g := Tbl.set (fun _ => 0) k.g 15 (w 2).val, rsp := bits w3 12 2 * 4
        rsl := bits w3 21 13 * 16, rsb := bits w3 29 22 * 16 }.done (w 0).val))) ∧
      ((s.gateDefect (bit w1 6)).isSome → ∃ u : State, exec (.kRetx p c) s = .next (u.enter p 6 k.pc 0) ∧
        u.pairs = s.pairs ∧ u.mem = s.mem ∧ ∃ m, u.inbox = s.inbox ++ [m] ∧ m.kind = Kind.MPU_OVERLAP)) ∧
    (k.rsp < k.rsb + 16 → exec (.kRetx p c) s = .next (s.enter p 2 k.pc 5)) ∧
    (k.rsb + 16 ≤ k.rsp → frames = false → exec (.kRetx p c) s = .next (s.enter p 2 k.pc 4)) ∧
    (k.rsb + 16 ≤ k.rsp → frames → bits w1 5 4 < csPl k.cs → exec (.kRetx p c) s = .next (s.enter p 3 k.pc 0))

/-- R282. A Kennu instruction whose condition fails, of a running pair with no arithmetic exception pending, does nothing but
go on to the next instruction; a pair that is not running does nothing at all. -/
def Obligations.KennuConditionAndIssue : Prop :=
  ∀ (i : Instr) (p : Pair) (c : Cond) (s : State), kennuOf i = some (p, c) →
    ((s.pair p).run = .running → csAep (s.pair p).cs = false → condHolds c (s.pair p).fl = false →
      exec i s = .next (s.next p (s.pair p))) ∧
    ((s.pair p).run ≠ .running → exec i s = .next s)

/-! ### Fault collection and repair -/

/-- R411, R416-R420. A message is taken oldest first: it leaves the inbox and waits for the next pass; it joins the newest
record when it repeats it within the window, else a record with the next SEQ is entered; before the flash step of a cold
Start it goes to the early buffer. -/
def Obligations.FaultMessagesRecordedInOrder : Prop :=
  ∀ (s : State) (ms : Nat) (m : Msg) (l : List Msg), s.inbox = m :: l →
    (s.hdr Blk.SKM 0).srstBusy = false → (s.hdr Blk.SKM 0).en →
    (s.skm.earlyOn = false → s.skm.lostDue = false → s.coalesces m ms = false → s.skm.ring.length < 512 →
      ∃ t r x, exec (.faultMessageTaken ms) s = .next t ∧ t.inbox = l ++ x ∧ t.skm.react = s.skm.react ++ [m] ∧
        t.skm.ring = r :: s.skm.ring ∧ r.msg = m ∧ r.seq = (s.skm.seq + 1) % 2 ^ 32 ∧ r.rep = 0 ∧ t.mem = s.mem) ∧
    (s.skm.earlyOn = false → ∀ r q, s.skm.ring = r :: q → s.coalesces m ms →
      ∃ t, exec (.faultMessageTaken ms) s = .next t ∧ t.inbox = l ∧ t.skm.react = s.skm.react ++ [m] ∧
        t.skm.ring = { r with rep := satSucc 0xFFFF r.rep } :: q ∧ t.mem = s.mem) ∧
    (s.skm.earlyOn → s.skm.early.length < 32 → exec (.faultMessageTaken ms) s =
      .next { s with inbox := l, skm := { s.skm with early := s.skm.early ++ [m] } })

/-- R414, R416. A Skimmer pass takes the highest reaction of the messages waiting: none leaves only the list empty, one of
LOCKDOWN with none of QUENCH ends in Lockdown 2, and the list is empty after it. -/
def Obligations.SkimmerPassReacts : Prop :=
  ∀ s : State,
    ((∀ m ∈ s.skm.react, s.reaction m = 0) →
      exec .skimmerPass s = .next { s with skm := { s.skm with react := [] } }) ∧
    ((∃ m ∈ s.skm.react, s.reaction m = 2) → (∀ m ∈ s.skm.react, s.reaction m ≤ 2) → s.mode ≠ .lockdown →
      s.clk.waiting = false →
      ∃ t, exec .skimmerPass s = .next t ∧ t.mode = .lockdown ∧ t.sys.reason = 2 ∧ t.skm.react = [])

/-- R418, R419. A part-filled audit page joins the pages to program; a page that becomes durable stands in flash at its place
in the ring of pages and the next page follows; the erase of the oldest sector leaves it all ones. -/
def Obligations.AuditLogPages : Prop :=
  ∀ s : State,
    (s.skm.page ≠ [] → ∃ t, exec .auditFlushTimer s = .next t ∧ t.skm.page = [] ∧
      t.skm.pages = s.skm.pages ++ [⟨false, s.skm.page⟩] ∧ t.skm.ring = s.skm.ring ∧ t.mem = s.mem) ∧
    (∀ p l, s.inHand .audit → s.skm.pages = p :: l →
      ∃ t, exec .auditPageDurable s = .next t ∧ t.skm.logPage = s.skm.logPage + 1 ∧ t.skm.ring = s.skm.ring ∧
        t.mem = (s.setBytes (0x09C00000 + s.skm.logPage % 12288 * 256) p.bytes).mem) ∧
    (s.inHand .auditErase → ∃ t, exec .auditSectorErase s = .next t ∧ t.skm.logTail = s.skm.logTail + 16 ∧
      t.skm.log = s.skm.log.filter (fun e => decide (s.skm.logTail + 16 ≤ e.1)) ∧
      ∀ a, t.byte a = if 0x09C00000 + s.skm.logTail % 12288 * 256 ≤ a ∧
        a < 0x09C00000 + s.skm.logTail % 12288 * 256 + 0x1000 then 0xFF else s.byte a)

/-- R422, R423. A keyed write of SKM_CLR closes the entry it names when its cause has gone, and leaves it open with
REASSERTED when the cause is present. SKM_PIN.DRIVE asserts FAULTN; the pulse timer ends the pulse. -/
def Obligations.FaultClearAndFaultn : Prop :=
  ∀ (s : State) (rq : Rq) (v : Word) (drive : Bool),
    (s.writable rq Blk.SKM 0 R.SKM_CLR → bits v 31 16 = 0x4643 → bit v 8 = false →
      (s.openF (bits v 6 0)).cnt ≠ 0 →
      (s.liveCause (s.openF (bits v 6 0)) = false → ∃ t, exec (.faultClear rq v) s = .next t ∧
        t.openF (bits v 6 0) = {} ∧ t.skm.reasserted = false ∧ t.mem = s.mem ∧ t.regs = s.regs) ∧
      (s.liveCause (s.openF (bits v 6 0)) → ∃ t, exec (.faultClear rq v) s = .next t ∧
        t.openF (bits v 6 0) = s.openF (bits v 6 0) ∧ t.skm.reasserted ∧ t.mem = s.mem ∧ t.regs = s.regs)) ∧
    (s.writable rq Blk.SKM 0 R.SKM_PIN → ∃ t, exec (.faultnDrive rq drive) s = .next t ∧
      t = s.setReg R.SKM_PIN (w32 (b2n drive)) ∧ (drive → t.faultn)) ∧
    exec .faultnPulseExpiry s = .next { s with skm := { s.skm with pulsing := false } }

/-- R14, R429-R433, R502. A firmware fence takes its lane out of use. A pool's replaced unit gets the lowest spare, or
REPAIR_EXHAUSTED is sent when none is left. A field-map entry is written to copy 1 and then to copy 2, where it is the
newest. -/
def Obligations.FencesSparesAndFieldMap : Prop :=
  ∀ (s : State) (rq : Rq) (n : Fin 9) (mask : Word) (pool : Fin 4) (u : Nat) (e : MapEnt),
    (s.writable rq Blk.SYM n (0x20700028 + n * 0x10000) → bit mask 0 → (s.lane n).st ≠ .fenced →
      ∃ t, exec (.firmwareFence rq Blk.SYM n mask) s = .next t ∧ (t.lane n).st = .fenced ∧ t.isFenced Blk.SYM n 0) ∧
    (pool.val ≠ 2 → s.clk.waiting = false → s.ris.subs = [] → s.ris.due = [(pool.val, u)] →
      (∀ x l, s.spares pool = x :: l → ∃ t, exec (.spareIn pool) s = .next t ∧
        t.ris.subs = [(pool.val, u, x)] ∧ t.ris.due = [] ∧ t.mem = s.mem) ∧
      (s.spares pool = [] → ∃ t m, exec (.spareIn pool) s = .next t ∧ t.inbox = s.inbox ++ [m] ∧
        m.kind = Kind.REPAIR_EXHAUSTED ∧ m.blk = Blk.RIS ∧ t.ris.due = [])) ∧
    (s.inHand .fieldMap → s.flashOn.any (fun o => o.rq.what == .fieldMap && o.rq.bank == 1) →
      s.ris.ents[s.ris.copy1]? = some e → s.ris.half1 % 1024 ≠ 0 → ∃ t, exec .fieldMapWrite s = .next t ∧
        t.ris.copy1 = s.ris.copy1 + 1 ∧ t.ris.copy2 = s.ris.copy2 ∧
        t.mem = (s.setBytes (0x08FF0000 + s.ris.half1 / 1024 % 2 * 0x8000 + s.ris.half1 % 1024 * 32) e.bytes).mem) ∧
    (s.inHand .fieldMap → s.flashOn.any (fun o => o.rq.what == .fieldMap && o.rq.bank == 1) = false →
      s.ris.ents[s.ris.copy2]? = some e → s.ris.half2 % 1024 ≠ 0 → ∃ t, exec .fieldMapWrite s = .next t ∧
        t.ris.copy2 = s.ris.copy2 + 1 ∧ t.ris.seq = e.seq ∧
        t.mem = (s.setBytes (0x09FF0000 + s.ris.half2 / 1024 % 2 * 0x8000 + s.ris.half2 % 1024 * 32) e.bytes).mem)

/-- R273-R276, R312. A mismatch, or an uncorrectable error, in a running pair that holds a role halts and fences it, with one
message of its kind naming the pair and its PC; the Riser puts a spare in its role; a doubly faulted pair restarts in its
role on a keyed write by another pair. -/
def Obligations.PairsFailAndAreReplaced : Prop :=
  ∀ (s : State) (p q : Pair),
    let k := s.pair p
    let dead := fun (t : State) (kind : Nat) => (t.pair p).run = .mismatch ∧ (t.pair p).fenced ∧
      (t.pair p).role = k.role ∧ (2, p.val) ∈ t.ris.due ∧
      ∃ m, m ∈ t.inbox ∧ m.blk = Blk.KEN ∧ m.inst = p ∧ m.kind = kind ∧ m.addr = k.pc.toNat
    ((k.run = .running ∨ k.run = .waiting) → k.role ≠ 0 → k.fenced = false → s.ris.subs = [] →
      (∃ t, exec (.lockstepMismatch p) s = .next t ∧ dead t Kind.LOCKSTEP_MISMATCH) ∧
      ∃ t, exec (.eccUncorrected p) s = .next t ∧ dead t Kind.ECC_UNCORRECTED) ∧
    ((2, p.val) ∈ s.ris.due → s.clk.waiting = false → k.role ≠ 0 → k.fenced → (s.pair q).role = 0 →
      (s.pair q).fenced = false → (∀ x : Pair, x ≠ p → x ≠ q → (s.pair x).role ≠ 0) →
      ∃ t, exec (.pairTakeover p) s = .next t ∧ (t.pair p).role = 0 ∧ (t.pair q).role = k.role ∧
        (t.pair q).takeover ∧ (t.pair q).run = .running ∧ (t.pair q).pc = 0) ∧
    (s.writable (.pair q) Blk.GAT 0 R.GAT_PAIR_CTL → q ≠ p → k.run = .doubleFault → k.fenced = false →
      ∃ t, exec (.pairRestart (.pair q) (p.castLT (by omega))) s = .next t ∧ (t.pair p).run = .running ∧
        (t.pair p).role = k.role ∧ (t.pair p).pc = 0 ∧ (t.pair p).rstack = [] ∧ (t.pair p).bits = [] ∧
        ∀ x : Nat, x ≠ p → t.pair x = s.pair x)

/-! ### Register accesses and the common header -/

/-- R11, R12, R17, R20. A register write that reaches its register sets the writable fields and no other bit, and one to an
offset without a register has no effect; during a soft reset of the instance it is held; a debug write to an address
beyond the pages of any instance is refused with one message and the sticky error. -/
def Obligations.RegisterWriteSetsWritableFields : Prop :=
  ∀ (s : State) (rq : Rq) (a : Nat) (v : Word) (b i pg off : Nat),
    (a % 4 = 0 → area a = .reg b i pg off → 0x40 ≤ off → a = blkBase b i + pg * 0x1000 + off → (b = Blk.SYM ∨ b = Blk.MLK) →
      s.writable rq b i a →
      (∀ r, regRow a = some r → exec (.registerWrite rq a v) s =
        .next (s.setReg a ((s.reg a &&& ~~~(w32 r.rw ||| w32 r.rwl)) ||| (v &&& (w32 r.rw ||| w32 r.rwl))))) ∧
      (regRow a = none → exec (.registerWrite rq a v) s = .next s)) ∧
    (a % 4 = 0 → area a = .reg b i pg off → a % 0x1000 ≠ 0x0C → s.live rq → s.barred rq a true = none →
      (s.hdr b i).srstBusy → exec (.registerWrite rq a v) s = .next (s.setHdr b i
        { s.hdr b i with held := (s.hdr b i).held ++ [⟨rq, a, some v⟩] })) ∧
    (area a = .none → s.dbgErr = false → ∃ t m, exec (.registerWrite .debug a v) s = .next t ∧ t.dbgErr ∧
      t.inbox = s.inbox ++ [m] ∧ m.kind = Kind.ACCESS_VIOLATION ∧ m.addr = a % 2 ^ 40 ∧ t.mem = s.mem ∧
      t.pairs = s.pairs)

/-- R11, R16, R17, R18. The header commands on an instance: a soft reset of a block that ends no work clears BLK_EVT and
BLK_EVTCNT, takes EN from the write and returns the registers of its pages to their reset values; its end releases the
instance; EN alone is written; a clear of event bits loses to hardware, each such bit being counted; the lock is set. -/
def Obligations.HeaderCommandsHaveTheirEffect : Prop :=
  ∀ (s : State) (rq : Rq) (b i : Nat) (en : Bool) (mask collide : Word), i < blkInsts b →
    let h := s.hdr b i
    (s.writable rq b i (blkBase b i + 0x0C) →
      (b = Blk.GAT ∨ b = Blk.RIS ∨ b = Blk.MLK ∨ b = Blk.CLK → ∃ t, exec (.softReset rq b i en) s = .next t ∧
        t.hdr b i = { h with en := en, srstBusy := true, evt := 0, evtCnt := 0 } ∧
        (∀ a, blkBase b i ≤ a → a < blkBase b i + blkPages b * 0x1000 → srstKeep b a = false → s.rwlShut b i a = false →
          t.reg a = regReset a) ∧
        (∀ a, (a < blkBase b i ∨ blkBase b i + blkPages b * 0x1000 ≤ a) → t.reg a = s.reg a) ∧
        t.mem = s.mem ∧ t.jobs = s.jobs ∧ t.pairs = s.pairs) ∧
      (b ≠ Blk.FLC → exec (.blockDisable rq b i en) s = .next (s.setHdr b i { h with en := en }))) ∧
    (h.srstBusy → b ≠ Blk.CTX → h.held = [] →
      exec (.softResetComplete b i) s = .next (s.setHdr b i { h with srstBusy := false, held := [] })) ∧
    (s.writable rq b i (blkBase b i + 0x14) → exec (.eventClear rq b i mask collide) s = .next (s.setHdr b i { h with
      evt := (h.evt &&& ~~~mask) ||| (collide &&& evtMask b)
      evtCnt := min 0xFFFF (h.evtCnt + ones (mask &&& (collide &&& evtMask b))) })) ∧
    (s.writable rq b i (blkBase b i + 0x34) →
      exec (.blockLock rq b i) s = .next (s.setHdr b i { h with lock := true }))

/-! ### Host ports, domains and the management link -/

/-- R20, R50, R54, R60, R62. A request that the port refuses is counted, logged for AER and sent as a message of its HPT: as
Unsupported Request, or as Completer Abort where it breaks R49 or R50 in a window that answers. A cause
of domain reset on a port not in reset takes the domain's queue pairs, jobs and bootstrap away, leaving the other domains'
queue pairs; during the reset a further cause is only counted. -/
def Obligations.PortCausesResetTheDomain : Prop :=
  ∀ (s : State) (p : Port) (bar : Fin 8) (off : Nat) (shape : Bool),
    let ca := shape && !s.unclaimed p bar off
    let viol := R.HPT_VIOL + p * 0x40000
    let down := fun (t : State) => (t.port p).resetting ∧ (t.port p).adminEn = false ∧ (t.port p).drbg = false ∧
      (t.port p).gen = (s.port p).gen ∧ (∀ q, (t.qp q).st ≠ .absent → (t.qp q).dom ≠ p) ∧
      (∀ q, (s.qp q).dom ≠ p → t.qp q = s.qp q) ∧ (∀ j ∈ t.jobs, j.dom ≠ p) ∧ t.mem = s.mem ∧ t.pairs = s.pairs
    (s.portLive p →
      (∃ t m, exec (.unsupportedRequest p bar off shape) s = .next t ∧ t.inbox = s.inbox ++ [m] ∧
        m.kind = Kind.ACCESS_VIOLATION ∧ m.blk = Blk.HPT ∧ m.inst = p.val ∧ (t.port p).aer = (if ca then 2 else 1) :: (s.port p).aer ∧
        t.fld viol 15 0 = (if ca then s.fld viol 15 0 else satSucc 0xFFFF (s.fld viol 15 0)) ∧
        t.fld viol 31 16 = (if ca then satSucc 0xFFFF (s.fld viol 31 16) else s.fld viol 31 16) ∧
        t.jobs = s.jobs ∧ t.mem = s.mem) ∧
      ((s.port p).resetting = false →
        (∃ t, exec (.hotReset p) s = .next t ∧ down t ∧ (t.port p).linkUp = false ∧ (t.port p).training) ∧
        (∃ t, exec (.linkDown p) s = .next t ∧ down t ∧ (t.port p).linkUp = false) ∧
        (∃ t, exec (.functionLevelReset p) s = .next t ∧ down t ∧ (t.port p).linkUp ∧ (t.port p).d3 = false) ∧
        ((s.port p).d3 → ∃ t, exec (.d3hotToD0 p) s = .next t ∧ down t ∧ (t.port p).d3 = false) ∧
        (s.portRuns p → (s.port p).perst = false →
          ∃ t, exec (.perstAssert p) s = .next t ∧ down t ∧ (t.port p).perst ∧ (t.port p).training = false)) ∧
      ((s.port p).resetting → exec (.functionLevelReset p) s =
        .next ((s.setPort p { s.port p with d3 := false }).count (R.HPT_DRST + p * 0x40000) 15 0)))

/-- R53, R60 step 6, R64, R65. The bootstrap checked good makes window 0 and the admin queue pair at the addresses the host
wrote, and no other queue pair; firmware clearing PORT_EN resets the domain; the end of a domain reset advances the
generation and sends HOST_RESET; PERST released starts training; D3hot, the link and L1 are entered and left. -/
def Obligations.PortBootstrapAndLink : Prop :=
  ∀ (s : State) (rq : Rq) (p : Port) (v : Word) (speed : Fin 5) (x1 : Bool),
    let k := s.port p
    let k' := { k with sqN := bits v 4 0, cqN := bits v 12 8 }
    (s.portLive p → k.d3 = false → k.adminEn = false → (s.mode = .service ∨ s.mode = .hold) → bit v 31 →
      (State.bootErr k' = 0 → ∃ t, exec (.adminEnable p 0x220 v) s = .next t ∧ (t.port p).adminEn ∧ (t.port p).cfgError = false ∧
        t.win p 0 = { base := k.bwin, len := k.bwinLen, lr := true, lw := true } ∧ (t.qp p).st = .active ∧
        (t.qp p).dom = p ∧ (t.qp p).sqBase = k.asq ∧ (t.qp p).cqBase = k.acq ∧ (t.qp p).sqN = bits v 4 0 ∧
        (∀ q : Nat, q ≠ p → t.qp q = s.qp q) ∧ t.mem = s.mem ∧ t.regs = s.regs) ∧
      (State.bootErr k' ≠ 0 → exec (.adminEnable p 0x220 v) s =
        .next (s.setPort p { k' with cfgErr := State.bootErr k', cfgError := true }))) ∧
    (s.writable rq Blk.HPT p (R.HPT_CFG + p * 0x40000) → s.portEn p → bit v 0 = false → k.resetting = false →
      ∃ t, exec (.portEn rq p v) s = .next t ∧ t.portEn p = false ∧ (t.port p).resetting ∧ (t.port p).linkUp = false ∧
        ∀ j ∈ t.jobs, j.dom ≠ p) ∧
    (k.resetting → ∃ t m, exec (.domainResetComplete p) s = .next t ∧ (t.port p).resetting = false ∧
      (t.port p).gen = k.gen + 1 ∧ m ∈ t.inbox ∧ m.kind = Kind.HOST_RESET ∧ m.blk = Blk.HPT ∧ m.inst = p.val) ∧
    (k.perst → s.portRuns p → ∃ t, exec (.perstDeassert p) s = .next t ∧ (t.port p).training ∧ (t.port p).perst = false ∧
      t.qps = s.qps ∧ t.jobs = s.jobs) ∧
    (k.training → speed.val ≠ 0 → exec (.linkUp p speed x1) s = .next (s.setPort p { k with
      linkUp := true, training := false, speed := speed, x1 := x1, l1 := false, d3 := false })) ∧
    (s.portLive p → exec (.d3hotEntry p) s = .next (s.setPort p { k with d3 := true })) ∧
    (s.portLive p → s.mode = .hold → exec (.l1Entry p) s = .next (s.setPort p { k with l1 := true })) ∧
    exec (.l1Exit p) s = .next (s.setPort p { k with l1 := false }) ∧
    ((s.mode = .service ∨ s.mode = .hold) → s.clk.waiting = false →
      exec .hsBeat s = .next { s with sys := { s.sys with beat := s.sys.beat + 1 } })

/-- R68-R70. A frame with a good CRC: ASSIGN gives the candidate its address; RELEASE to the unit answers OK and forgets the
address; IDENTITY, HEALTH, CAPACITY and FAULT_READ answer OK with their data. Nothing but the link's own state changes, and
the free junction temperature is one fresh value. -/
def Obligations.ManagementCommandsAnswer : Prop :=
  ∀ (s : State) (u n : Byte) (x : BitVec 16) (r : SRec),
    let frame := fun (cmd : Byte) (d : List Byte) => crc8 ([u, cmd, BitVec.ofNat 8 d.length] ++ d)
    let answer := fun (d : List Byte) (a : Option Nat) =>
      { s with fresh := s.fresh + 1, mlk := { s.mlk with resp := some (mlkResp 0 d), ready := false, addr := a } }
    s.fieldPower = false → s.dbg.pins = false →
    (s.mlk.addr = none → s.mlk.chin → 1 ≤ n.toNat → n.toNat ≤ 0xFE → u = 0 → exec (.assign u [n] (frame 0x01 [n])) s =
      .next { s with mlk := { s.mlk with resp := none, ready := false, addr := some n.toNat } }) ∧
    (s.mlk.addr = some u.toNat → 1 ≤ u.toNat → u.toNat ≤ 0xFE →
      exec (.release u [] (frame 0x02 [])) s = .next (answer [] none) ∧
      exec (.identity u [] (frame 0x10 [])) s = .next (answer s.mlkIdentity s.mlk.addr) ∧
      exec (.health u [] (frame 0x11 [])) s = .next (answer (s.mlkHealth (Config.free s.fresh)) s.mlk.addr) ∧
      (s.mode ≠ .start → s.mode ≠ .lockdown → bit (s.reg R.MLK_CFG) 1 →
        exec (.capacity u [] (frame 0x12 [])) s = .next (answer s.mlkCapacity s.mlk.addr)) ∧
      (s.mode ≠ .start → bit (s.reg R.MLK_CFG) 0 → x.toNat < 512 → s.skm.ring[x.toNat]? = some r →
        exec (.faultRead u (leBytes 2 x.toNat) (frame 0x13 (leBytes 2 x.toNat))) s =
          .next (answer (s.mlkFault x.toNat).2 s.mlk.addr)))

/-- R68-R70. A frame with a bad CRC that names this unit selects it no longer and is counted; a read before the response is
ready answers BUSY and is counted, and answers the response when it is ready, or 0xFF with no unit selected; a clock held
low discards the frame; MCHIN is followed, MCHOUT being driven while an address is held and MCHIN is high. -/
def Obligations.ManagementFramesAndReads : Prop :=
  ∀ (s : State) (u cmd crc : Byte) (d r : List Byte) (high : Bool),
    let m := s.mlk
    (s.fieldPower = false → s.dbg.pins = false → s.mlkNamed u.toNat → crc ≠ crc8 ([u, cmd, BitVec.ofNat 8 d.length] ++ d) →
      ∃ t, exec (.mlinkBadFrame u cmd d crc) s = .next t ∧ t.mlk = { m with resp := none, ready := false } ∧
        t.fld R.MLK_ERRCNT 15 0 = satSucc 0xFFFF (s.fld R.MLK_ERRCNT 15 0) ∧ t.inbox = s.inbox) ∧
    (m.resp = some r → exec .mlinkResponseReady s = .next { s with mlk := { m with ready := true } } ∧
      (m.ready → exec .mlinkRead s = .next { s with mlk := { m with tx := r } }) ∧
      (m.ready = false → ∃ t, exec .mlinkRead s = .next t ∧ t.mlk = { m with tx := mlkResp 6 [] } ∧
        t.fld R.MLK_ERRCNT 15 0 = satSucc 0xFFFF (s.fld R.MLK_ERRCNT 15 0))) ∧
    (m.resp = none → exec .mlinkRead s = .next { s with mlk := { m with tx := [0xFF] } }) ∧
    (∃ t, exec .mlinkSclTimeout s = .next t ∧ t.mlk.resp = none ∧ t.mlk.addr = m.addr ∧ t.jobs = s.jobs) ∧
    (∃ t, exec (.mchinChange high) s = .next t ∧ t = { s with mlk := { m with chin := high } } ∧
      t.chout = (m.addr.isSome && high))

/-! ### Rings, completions and dispatch -/

/-- R79, R83, R85, R92. On a queue pair whose doorbell window answers: an accepted SQ_TAIL moves T and not H, any other value moves
neither and is counted and recorded as DOORBELL_VALUE; an accepted CQ_HINT with entries outstanding moves C to its value, and
with none outstanding has no effect, any other being discarded; an inline push with room advances T by its entries, the entry
being held at slot T, or, the store being full, written whole to its ring slot; one without room is discarded whole. -/
def Obligations.DoorbellsMoveTheRings : Prop :=
  ∀ (s : State) (p : Port) (q : Nat) (v : Word) (e0 e1 : List Byte),
    let k := s.qp q
    let n := 2 ^ k.sqN
    let m := 2 ^ k.cqN
    s.portLive p → s.bar0Up p → s.doorOf p q → k.st ≠ .destroying → k.w < m →
    ((v.toNat < n ∧ (v.toNat + n - k.h) % n ≥ (k.t + n - k.h) % n) →
      ∃ t, exec (.sqTail p q v) s = .next t ∧ (t.qp q).t = v.toNat ∧ (t.qp q).h = k.h ∧ (t.qp q).lastTail = v ∧
        t.mem = s.mem ∧ t.regs = s.regs) ∧
    (¬(v.toNat < n ∧ (v.toNat + n - k.h) % n ≥ (k.t + n - k.h) % n) →
      ∃ t d, exec (.sqTail p q v) s = .next t ∧ t.qp q = { k with lastTail := v, dbErr := satSucc 0xFFFF k.dbErr } ∧
        t.inbox = s.inbox ++ [d] ∧ d.kind = Kind.DOORBELL_VALUE ∧ d.blk = Blk.HPT ∧ d.inst = p.val ∧ d.addr = q * 256 % 2 ^ 40 ∧
        t.jobs = s.jobs ∧ t.staging = s.staging) ∧
    ((v.toNat < m ∧ (v.toNat + m - (k.w + k.free) % m) % m ≤ (k.w + m - (k.w + k.free) % m) % m) →
      (k.outst = 0 → exec (.cqHint p q v) s = .next (s.setQp q { k with lastHint := v })) ∧
      (k.outst ≠ 0 → ∃ t, exec (.cqHint p q v) s = .next t ∧ ((t.qp q).w + (t.qp q).free) % m = v.toNat ∧
        (t.qp q).lastHint = v ∧ t.mem = s.mem) ∧
      (k.outst ≠ 0 → v.toNat = k.w → s.qjobs q = [] → k.ringMsg = none → k.closing = false → exec (.cqHint p q v) s =
        .next (s.setQp q { k with lastHint := v, free := m, outst := 0 }))) ∧
    (¬(v.toNat < m ∧ (v.toNat + m - (k.w + k.free) % m) % m ≤ (k.w + m - (k.w + k.free) % m) % m) →
      ∃ t d, exec (.cqHint p q v) s = .next t ∧ t.qp q = { k with lastHint := v, dbErr := satSucc 0xFFFF k.dbErr } ∧
        t.inbox = s.inbox ++ [d] ∧ d.kind = Kind.DOORBELL_VALUE ∧ d.blk = Blk.HPT ∧ d.inst = p.val ∧
        d.addr = (q * 256 + 8) % 2 ^ 40 ∧ t.jobs = s.jobs ∧ t.staging = s.staging) ∧
    ((k.t + n - k.h) % n + 1 ≤ n - 1 →
      (s.inlineHeld p < 1024 → exec (.inlinePush p q e0 none) s = .next (s.setQp q { k with
        t := (k.t + 1) % n
        inl := Tbl.set (fun _ => ⟨[], true⟩) k.inl k.t ⟨slice e0 0 64, true⟩ })) ∧
      (1024 ≤ s.inlineHeld p → s.granuleOk k.dom (k.sqBase + k.t * 64) true →
        ∃ t, exec (.inlinePush p q e0 none) s = .next t ∧
          t.staging = s.staging ++ [⟨k.dom, k.sqBase + k.t * 64, slice e0 0 64, false⟩] ∧
          t.qp q = { k with t := (k.t + 1) % n, spilled := k.spilled ++ [k.t] })) ∧
    ((k.t + n - k.h) % n + 2 ≤ n - 1 → ∃ t, exec (.inlinePush p q e0 (some e1)) s = .next t ∧
      (t.qp q).t = ((k.t + 1) % n + 1) % n ∧ (t.qp q).h = k.h ∧ t.jobs = s.jobs ∧
      (s.inlineHeld p + 2 ≤ 1024 → (t.qp q).inl = Tbl.set (fun _ => ⟨[], true⟩)
        (Tbl.set (fun _ => ⟨[], true⟩) k.inl k.t ⟨slice e0 0 64, true⟩) ((k.t + 1) % n) ⟨slice e1 0 64, true⟩)) ∧
    (∀ o : Option (List Byte), n - 1 < (k.t + n - k.h) % n + 1 + b2n o.isSome →
      ∃ t d, exec (.inlinePush p q e0 o) s = .next t ∧ t.qp q = { k with dbErr := satSucc 0xFFFF k.dbErr } ∧
        t.inbox = s.inbox ++ [d] ∧ d.kind = Kind.DOORBELL_VALUE ∧ d.blk = Blk.HPT ∧ d.inst = p.val ∧
        d.addr = (q * 256 + 0x40) % 2 ^ 40 ∧ t.jobs = s.jobs ∧ t.staging = s.staging)

/-- R80-R82, R87, R106, R121. A fetch turn reads the entries from H that lie in the ring and are posted, at most 16. An entry
taken has its OWN bit cleared in host memory, H advances, and an entry with FIRST and not LAST opens a chain. An entry
whose OWN still reads 0 when read again ends as a job failed with BAD_ENTRY, cause 1. A failed read leaves the queue pair
FAULTED at its slot, recorded as RING_FAULT. -/
def Obligations.EntriesAreFetchedAndTaken : Prop :=
  ∀ (s : State) (p : Port) (q : Nat) (b : List Byte) (f : Fin 3),
    let k := s.qp q
    let e := slice b 0 64
    let wb : Tlp := ⟨k.dom, k.sqBase + k.h * 64, [BitVec.ofNat 8 (leAt e 0 1 % 128)], false⟩
    (∀ c, s.mode = .service → s.sys.holdPend = false → s.portLive p → (s.port p).resetting = false → (s.port p).d3 = false →
      (s.hdr Blk.TUN 0).en → (s.hdr Blk.HPT p).en → s.fetchPick p = some (c, q) → k.inl = [] →
      0 < State.ringRun k k.h (min 16 (s.room q)) →
      (∀ i, i < State.ringRun k k.h (min 16 (s.room q)) → s.granuleOk k.dom (k.sqBase + (k.h + i) * 64) false) →
      ∃ t, exec (.fetchTurn p) s = .next t ∧ t.jobs = s.jobs ∧
        t.qp q = { k with fetch := some ⟨k.h, State.ringRun k k.h (min 16 (s.room q)), false⟩ } ∧
        t.port p = { s.port p with rr := Tbl.set (fun _ => 0) (s.port p).rr c (q + 1) }) ∧
    (k.st = .active → s.granuleOk k.dom (k.sqBase + k.h * 64) true → k.chain = [] → k.pend = none →
      (k.fetch = some ⟨k.h, 1, false⟩ → leAt e 0 1 / 128 = 1 → leAt e 0 1 / 64 % 2 = 1 → leAt e 0 1 / 32 % 2 = 0 →
        exec (.entryReadCompletion q [b] none) s = .next ({ s with staging := s.staging ++ [wb] }.setQp q { k with
          fetch := none, h := (k.h + 1) % 2 ^ k.sqN, inl := Tbl.del k.inl k.h
          spilled := k.spilled.filter (fun x => x != k.h), chain := [⟨e, true⟩] })) ∧
      (∀ x, k.reread = some [x] → leAt e 0 1 / 128 ≠ 1 → k.free = 0 → k.faultRing = 0 → k.ringMsg = none →
        s.job s.nextJob = none → ∃ t j, exec (.ownReread q b) s = .next t ∧ t.job s.nextJob = some j ∧ j.stage = .done ∧
          j.status = St.BAD_ENTRY ∧ j.result = failWord 2 0 1 ∧ j.tag = leAt e 2 2 ∧ (t.qp q).reread = none ∧
          (t.qp q).h = (k.h + 1) % 2 ^ k.sqN ∧ wb ∈ t.staging)) ∧
    (∀ n r, k.st = .active → k.fetch = some ⟨k.h, n, r⟩ → 0 < n → k.free = 0 → k.ringMsg = none →
      ∃ t m, exec (.entryReadCompletion q [] (some f)) s = .next t ∧ (t.qp q).st = .faulted ∧
        (t.qp q).faultSlot = k.h ∧ (t.qp q).faultStatus = St.HOST_MEM_FAULT ∧ (t.qp q).fetch = none ∧
        t.inbox = s.inbox ++ [m] ∧ m.kind = Kind.RING_FAULT ∧ m.addr = (k.sqBase + k.h * 64) % 2 ^ 40 ∧
        (t.qp q).ringMsg = some (St.HOST_MEM_FAULT, 10 + f.val, k.h) ∧ t.jobs = s.jobs ∧ t.staging = s.staging)

/-- R90-R92, R94, R96, R97, R107. A completion due for the only job of a queue pair is one posted write of 16 bytes into slot W,
after which the job's in-flight slot is free; with no free slot it waits and is counted. A read-ahead is issued from C with
fewer than 16 slots known to be free, moves C over consecutive entries whose OWN reads 0, and on an error leaves the queue
pair FAULTED with its finished jobs released. -/
def Obligations.CompletionsAndReadAhead : Prop :=
  ∀ (s : State) (q : Nat) (j : Job) (owns : List Bool) (c m : Nat),
    let k := s.qp q
    let n := 2 ^ k.cqN
    (k.st = .active → k.ringMsg = none → k.faultRing = 0 → s.qjobs q = [j] → j.isDone → j.ordr = false →
      (j.status ≠ 0 ∨ j.cmpl) →
      (k.free ≠ 0 → s.granuleOk k.dom (k.cqBase + k.w * 16) true → ∃ t, exec (.completionWrite q) s = .next t ∧
        t.staging = s.staging ++ [⟨k.dom, k.cqBase + k.w * 16,
          complBytes false false j.status j.tag 1 k.h j.result j.detail, false⟩] ∧
        t.jobs = s.jobs.filter (fun x => x.id != j.id) ∧ (t.qp q).w = (k.w + 1) % n ∧ (t.qp q).free = k.free - 1 ∧
        (t.qp q).jobsCov = (k.jobsCov + 1) % 2 ^ 32 ∧ t.mem = s.mem ∧ t.regs = s.regs) ∧
      (k.free = 0 → k.waiting = false → exec (.completionWrite q) s = .next (s.setQp q { k with
        judge := true, waiting := true, cqWaits := satSucc 0xFFFFFFFF k.cqWaits }))) ∧
    (k.st = .active → k.faultRing = 0 → k.ra = none → k.free < 16 → k.judge →
      s.winRefusal k.dom (k.cqBase + (k.w + k.free) % n * 16) (min 64 (n - (k.w + k.free) % n) * 16) false = none →
      exec (.cqReadAhead q) s = .next (s.setQp q { k with
        ra := some ((k.w + k.free) % n, min 64 (n - (k.w + k.free) % n)), judge := false })) ∧
    (k.ra = some (c, m) → c = (k.w + k.free) % n → k.w < n →
      (k.free + ((owns.take m).takeWhile (fun o => !o)).length ≤ n → ∃ t, exec (.cqReadAheadCompletion q (some owns)) s = .next t ∧
        (t.qp q).ra = none ∧ ((t.qp q).w + (t.qp q).free) % n = (c + ((owns.take m).takeWhile (fun o => !o)).length) % n) ∧
      (k.st = .active → ∃ t, exec (.cqReadAheadCompletion q none) s = .next t ∧ (t.qp q).st = .faulted ∧
        (t.qp q).faultRing = 1 ∧ (t.qp q).faultSlot = c ∧ t.jobs = s.jobs.filter (fun x => !(x.qp == q && x.isDone)) ∧
        t.staging = s.staging ∧ t.mem = s.mem))

/-- R94, R97, R102, R105. A job that finishes while no CQ slot is free keeps its in-flight slot as finished: with status OK and
its result and detail, or with the status of its failure and a result word of stage, entry and cause. A job that delivers
posts its output first. -/
def Obligations.FinishedJobsHoldTheirOutcome : Prop :=
  ∀ (s : State) (j : Job) (r d : Word) (status stage entry cause detail : Nat) (out : List Byte),
    s.job j.id = some j → (s.qp j.qp).free = 0 → (s.qp j.qp).ringMsg = none → (s.qp j.qp).faultRing = 0 →
    (∃ x, (s.succeed j r d).job j.id = some x ∧ x.stage = .done ∧ x.status = St.OK ∧ x.result = r ∧ x.detail = d ∧
      x.tag = j.tag ∧ (s.succeed j r d).staging = s.staging) ∧
    (∃ x, (s.failJob j status stage entry cause detail).job j.id = some x ∧ x.stage = .done ∧ x.status = status ∧
      x.result = failWord stage entry cause ∧ x.detail = w32 detail ∧ x.tag = j.tag ∧
      (stage < 6 → (s.failJob j status stage entry cause detail).staging = s.staging)) ∧
    (∃ x, (s.deliver j out d).job j.id = some x ∧ x.stage = .done ∧ x.status = St.OK ∧ x.result = w32 out.length ∧
      (s.deliver j out d).staging = (s.postOutput j out).staging)

/-- R55, R103, R122. Input that arrives extends what a job holds; a read that fails ends it with HOST_MEM_FAULT, and so does the
completion timeout. A credit period grows each credit by share times active units, up to 64 periods, and takes new shares. A free
lane takes the job dispatch picks; a free Crucible unit takes its job, its domain being charged the job's time. NOP ends
with no output. -/
def Obligations.JobsAreReadDispatchedAndCharged : Prop :=
  ∀ (s s' : State) (id off : Nat) (d : List Byte) (j : Job),
    (s.job id = some j → State.reading j →
      (j.stage ≠ .input → exec (.inputReadCompletion id off (.ok d)) s = .next (s.modJob j.id (fun _ =>
        { j with input := j.input ++ slice d 0 (min 16384 (j.inTotal - j.input.length)) }))) ∧
      (j.input.length ≤ off → off < j.inTotal → j.op ≠ 0x19 → j.stage ≠ .parked →
        exec (.inputReadCompletion id off .unsuccessful) s = .next (s.failJob j St.HOST_MEM_FAULT 6 0 1 off) ∧
        exec (.inputReadCompletion id off .poisoned) s = .next (s.failJob j St.HOST_MEM_FAULT 6 0 2 off) ∧
        exec (.ladleReadTimeout id off) s = .next (s.failJob j St.HOST_MEM_FAULT 6 0 3 off))) ∧
    (∃ t, exec .creditPeriod s = .next t ∧ ∀ x : Nat, x < 4 →
      (t.port x).share = (s.port x).newShare.getD (s.port x).share ∧ (t.port x).newShare = none ∧
      ∀ e : Nat, e < 2 → let g : Int := ((t.port x).share * s.active e * 12000 : Nat)
        t.creditOf e x = min (s.creditOf e x + g) (64 * g)) ∧
    (∀ n, (s.mode = .service ∨ s.mode = .hold) → s.idleLane = some n → s.installReady = none →
      s.pickJob 0 = some (j, s') → j.op ∉ [0x02, 0x10, 0x12] → s'.blocksLeft j = none → State.xtsPast j = false →
      s'.job j.id = some j → ∃ t, exec (.jobDispatch false none) s = .next t ∧
        t.lane n = { s.lane n with st := .busy, work := .job j.id, done := 0 } ∧
        t.job j.id = some { j with stage := .running, unit := n, seg := 1 } ∧ t.mem = s.mem ∧ t.staging = s.staging) ∧
    (∀ u, s.freeUnitNo = some u → s.fwJob = none → s.pickJob 1 = some (j, s') → pkRandom j.op = false → j.op ≠ 0x23 →
      60 ≤ s.budget - s.variant.standing → ∃ t, exec (.jobDispatch true none) s = .next t ∧ (t.unit u).st = .leave ∧
        (t.unit u).job = some j.id ∧ t.creditOf 1 j.dom = s.creditOf 1 j.dom - (640 * jobTime j : Nat) ∧
        t.leavePend = s.leavePend ++ [⟨Blk.CRU, u, 60, .cru u, false⟩]) ∧
    (s.job id = some j → j.op = 0x70 → j.stage = .ready → exec (.nop id) s = .next (s.succeed j 0 0))

/-! ### Admin commands -/

/-- R113, R114, R119. CREATE_QP makes its queue pair live with every index 0 and reports its number and doorbell offset.
DESTROY_QP without DRAIN of a queue pair without jobs makes it cease to exist, its stream slots freed; when TMO expires no job of
it is left. QUERY_QP and GET_CAPS deliver 64 and 128 bytes of the state as it is. -/
def Obligations.QueuePairsAreMadeDestroyedAndQueried : Prop :=
  ∀ (s : State) (id q : Nat) (j : Job),
    (s.turn id 0x80 j → j.u 32 2 = q → q ≠ 0xFFFF → exec (.createQp id) s = .next ((s.setQp q {
        st := .active, dom := j.dom, prio := j.u 36 1, weight := max 1 (j.u 37 1)
        infl := if j.u 38 2 = 0 then s.fld R.TUN_CFG 28 16 else j.u 38 2
        sqN := j.u 34 1, cqN := j.u 35 1, sqBase := j.u 40 8, cqBase := j.u 48 8 }).succeed j (w32 q) (w32 (q * 256)))) ∧
    (s.turn id 0x81 j → j.u 32 2 = q → 4 ≤ q → j.u 34 1 % 2 = 0 → s.qjobs q = [] → (s.qp q).chain = [] →
      (s.qp q).ringMsg = none → (s.qp q).st ≠ .absent → s.destroyer q = none → (s.port (s.qp q).dom).parkQ = [] →
      ∃ t, exec (.destroyQp id) s = .next t ∧ (t.qp q).st = .absent ∧ (∀ x ∈ t.jobs, x.qp ≠ q) ∧
        (∀ n, (t.stream n).bound → (t.stream n).qp ≠ q) ∧ t.mem = s.mem) ∧
    (s.destroyer q = some j → j.qp ≠ q → ∃ t, exec (.destroyTmoExpiry q) s = .next t ∧ (t.qp q).st = .absent ∧
      (∀ x ∈ t.jobs, x.qp ≠ q) ∧ ∀ n, (t.stream n).bound → (t.stream n).qp ≠ q) ∧
    (s.turn id 0x82 j → exec (.queryQp id) s = .next (s.deliver j (s.queryBytes (j.u 32 2)) 0) ∧
      (s.queryBytes (j.u 32 2)).length = 64) ∧
    (s.turn id 0x86 j → exec (.getCaps id) s = .next (s.deliver j (s.capsBytes j.dom) 0) ∧
      (s.capsBytes j.dom).length = 128)

/-- R116, R118, R120, R136, R227. SET_SHARE reports the share in force and gives the new one to the next credit period;
SET_WINDOW sets or clears its window; BIND_TABLE at the recorded epoch binds at once and at a lower one fails; GET_FAULTS delivers
the newest records; DRBG_INSTANTIATE takes three seed words, or fails with the RNG failed. -/
def Obligations.AdminCommandsSetTheDomain : Prop :=
  ∀ (s : State) (id : Nat) (j : Job) (r : Nat) (a b c : Nat) (l : List Nat),
    (s.turn id 0x83 j → exec (.setShare id) s = .next ((s.setPort j.dom { s.port j.dom with
      newShare := some (j.u 32 1) }).succeed j (w32 (s.port j.dom).share) 0)) ∧
    (s.turn id 0x85 j → exec (.setWindow id) s = .next ((s.setWin j.dom (j.u 32 1)
      (if j.u 33 1 = 128 then {} else { base := j.u 40 8, len := j.u 48 4, lr := j.u 33 1 % 2 == 1, lw := j.u 33 1 / 2 % 2 == 1
                                        cr := j.u 33 1 / 4 % 2 == 1, cw := j.u 33 1 / 8 % 2 == 1
                                        coreEn := j.u 54 1 % 2 == 1, coreOff := j.u 52 2 })).succeed j (w32 (j.u 32 1)) 0)) ∧
    (s.turn id 0x84 j → j.u 50 1 % 2 = 0 → s.vault.rangeBusy = false → (s.bind j.dom).recEpoch = some r →
      (j.u 44 4 < r → exec (.bindTable id) s = .next (s.failJob j St.RECORD_INVALID 4 0 0x012C r)) ∧
      (j.u 44 4 = r → exec (.bindTable id) s = .next ((s.setBind j.dom { s.bind j.dom with
        bound := true, unbinding := false, base := j.u 32 8, records := j.u 40 4, epoch := r, keySlot := j.u 48 2
        kwrap := kdf j.ks.mat "ESN-TBL-WRAP" (beBytes 1 j.dom ++ beBytes 4 r) 32
        kmac := kdf j.ks.mat "ESN-TBL-MAC" (beBytes 1 j.dom ++ beBytes 4 r) 32 }).succeed j (w32 (j.u 40 4)) (w32 r)))) ∧
    (s.turn id 0x87 j → ∀ f q, s.faultRecs j = f :: q → exec (.getFaults id) s = .next (s.deliver j
      ((f :: q).flatMap (fun x => leBytes 4 x.lo.toNat ++ leBytes 4 x.hi.toNat ++ leBytes 2 x.seq ++ zeros 6)) (w32 f.seq))) ∧
    (s.turn id 0x88 j → s.rng.waitQ = [] →
      (s.rng.st = .run → s.minSrc ≤ s.servingSrcs → s.rng.buf = a :: b :: c :: l → (s.port j.dom).drbg = false →
        ∃ t : State, exec (.drbgInstantiate id) s = .next (t.succeed j 0 0) ∧ (t.port j.dom).drbg ∧ t.rng.buf = l ∧
          t.jobs = s.jobs ∧ t.mem = s.mem) ∧
      (s.rng.st = .failed → exec (.drbgInstantiate id) s = .next (s.failJob j St.RNG_FAIL 6 0 0x0174 0)))

/-! ### Lanes: field frames, symmetric jobs, streams and slots -/

/-- R148, R173-R178. A sealed frame is header, ciphertext and tag under the context's frame key and the counter taken. A frame to
open whose tag fails ends with AUTH_FAIL and changes no counter; with a good tag, and no earlier commit of the context
waiting, a counter 64 or more below the mark is a replay, and one above it, within the durable reservation, raises the mark
and delivers the plaintext. -/
def Obligations.FieldFramesAreSealedAndOpened : Prop :=
  ∀ (s : State) (id n : Nat) (j : Job) (c : Ctx),
    let t := suiteTag c.suite
    let f := j.input
    let ctr := fromBe (slice f 8 6)
    let plen := fromBe (slice f 14 2)
    let pt := frameX c.suite c.fkey (frameNonce c.suite c.idx 1 c.kep ctr) (slice f 16 plen)
    let good := frameTag c.suite c.fkey (frameNonce c.suite c.idx 1 c.kep ctr) (f.take 16) pt (slice f 16 plen) =
      slice f (16 + plen) t
    let v := s.slotOf c.dom c.idx
    let x := s.vslot v
    let w := s.worked j n (frameBlocks c.suite (j.inTotal - 16 - t)) (frameTenths c.suite (j.inTotal - 16 - t))
    s.ctx j.dom j.devIdx = some c →
    (s.laneJob id 0x02 = some (j, n) → s.fits n (frameBlocks c.suite j.inTotal) →
      exec (.sealFrame id) s = .next ((s.worked j n (frameBlocks c.suite j.inTotal) (frameTenths c.suite j.inTotal)).deliver j
        (let h := frameHeader c.suite c.idx c.kep 0 (j.u 32 1) j.aux j.inTotal
         let o := frameX c.suite c.fkey (frameNonce c.suite c.idx 0 c.kep j.aux) f
         h ++ o ++ frameTag c.suite c.fkey (frameNonce c.suite c.idx 0 c.kep j.aux) h f o) (w32 j.aux))) ∧
    (s.laneJob id 0x01 = some (j, n) → s.fits n (frameBlocks c.suite (j.inTotal - 16 - t)) →
      leAt f 0 1 = 1 → leAt f 7 1 = 0 → fromBe (slice f 2 3) = c.idx → leAt f 1 1 = c.suite → leAt f 5 1 = c.kep →
      128 ≤ leAt f 6 1 → j.inTotal = 16 + plen + t → plen ≤ j.outTotal → j.u 32 1 % 2 = 0 →
      (¬good → exec (.openFrame id) s = .next (w.failJob j St.AUTH_FAIL 6 0 0 0)) ∧
      (good → x.doubt = false → s.commitBusy j c = false →
        (ctr + 63 < x.rx → ∃ u : State, exec (.openFrame id) s = .next (u.failJob { j with aux := ctr } St.REPLAY 6 0 0x012D
            (x.rx % 2 ^ 32)) ∧ u.vslots = s.vslots ∧ u.ctxs = s.ctxs ∧ u.mem = s.mem) ∧
        (x.rx < ctr → ctr < x.rxD + x.rxI / 2 → s.vault.closed = false →
          ∃ u : State, exec (.openFrame id) s = .next (u.deliver { j with aux := ctr } pt 0) ∧ (u.vslot v).rx = ctr ∧
            (∀ m, m ≠ v → u.vslot m = s.vslot m) ∧ u.mem = s.mem)))

/-- R181, R182, R184-R187. A whole general symmetric job outputs the mode's transform of its payload, the invalid bytes of its
last block zero: CTR and CBC both ways, GCM encryption with its tag, CMAC, and XTS; a verification whose tag differs ends
with AUTH_FAIL and delivers nothing. -/
def Obligations.SymmetricJobsTransformTheirPayload : Prop :=
  ∀ (s : State) (id n : Nat) (j : Job),
    let key := j.ks.mat
    let iv := slice j.e0 48 16
    let p := j.pay
    let w := s.worked j n (symBlocks j) (symTenths j key.length)
    let zk := aesEnc key (zeros 16)
    let j0 := gcmJ0 (slice j.e0 48 12)
    let ct := cut j (ctrX key 4 (ctrAt 4 j0 1) p)
    let mac := cmacEnd key (cmacRun key (zeros 16) ((p.take j.realLen).take (((p.take j.realLen).length - 1) / 16 * 16)))
      ((p.take j.realLen).drop (((p.take j.realLen).length - 1) / 16 * 16))
    s.fits n (symBlocks j) → j.inTotal ≤ j.input.length → oneShot j →
    (s.laneJob id 0x10 = some (j, n) →
      (j.mode = 1 → exec (.enc id) s = .next (w.finishOut j (cut j (ctrX key 4 iv p)))) ∧
      (j.mode = 2 → exec (.enc id) s = .next (w.finishOut j (cut j (cbcEnc key iv p).1))) ∧
      (j.mode = 3 → exec (.enc id) s = .next (w.finishOut j (ct ++
        ((xorB (aesEnc key j0) (ghash zk (ghash zk (ghash zk (zeros 16) j.aad) (ct.take j.realLen))
          (lenBlock j.aadLen (ct.take j.realLen).length))).take j.tagLen ++ zeros 16).take 16)))) ∧
    (s.laneJob id 0x11 = some (j, n) →
      (j.mode = 1 → exec (.dec id) s = .next (w.finishOut j (cut j (ctrX key 4 iv p)))) ∧
      (j.mode = 2 → exec (.dec id) s = .next (w.finishOut j (cut j (cbcDec key iv p).1)))) ∧
    (s.laneJob id 0x12 = some (j, n) → j.mode = 8 →
      exec (.macGen id) s = .next (w.finishOut j ((mac.take j.tagLen ++ zeros 16).take 16))) ∧
    (s.laneJob id 0x13 = some (j, n) → j.mode = 8 →
      (mac.take j.tagLen = j.tagIn → exec (.macVer id) s = .next (w.finishOut j [])) ∧
      (mac.take j.tagLen ≠ j.tagIn → exec (.macVer id) s = .next (w.failJob j St.AUTH_FAIL 6 0 0 0))) ∧
    (s.laneJob id 0x14 = some (j, n) → j.mode = 9 →
      exec (.xtsEnc id) s = .next (w.finishOut j (cut j (xtsAll true key (fromLe iv) j.duLog p)))) ∧
    (s.laneJob id 0x15 = some (j, n) → j.mode = 9 →
      exec (.xtsDec id) s = .next (w.finishOut j (cut j (xtsAll false key (fromLe iv) j.duLog p))))

/-- R190, R191, R257-R259. STREAM_SAVE delivers the 96 bytes of its slot, wrapped unless CLEAR; STREAM_RESTORE binds the state they
give, or fails. WRAP delivers the slot's blob under KWP; UNWRAP of a blob that fails its check is AUTH_FAIL; DERIVE refuses
inputs that begin with "ESN-", and otherwise fills its slot with the KDF's output. -/
def Obligations.StreamsAndSlotsAreSavedAndMade : Prop :=
  ∀ (s : State) (id n : Nat) (j : Job),
    let fl := j.u 34 1
    let st := j.u 32 2
    let w := s.worked j n 72 7200
    let b := 4 * ((j.inTotal + 8 + 15) / 16 + 1)
    let wd := s.worked j n b (1200 + 96 * b)
    let made : KSlot :=
      { st := .loaded, typ := 0x30, nbits := 256, policy := w32 (j.u 36 4), mat := kdfRaw (State.prfKey j.ks) j.input 32 }
    (s.laneJob id 0x18 = some (j, n) → s.fits n 72 → fl / 2 % 2 = 0 →
      (fl % 2 = 1 → exec (.streamSave id) s = .next (w.deliver j (streamBytes (s.stream st) true) 0)) ∧
      (fl % 2 = 0 → exec (.streamSave id) s =
        .next (w.deliver j (kwWrap (s.stateKey j.dom) (streamBytes (s.stream st) false)) 0))) ∧
    (s.laneJob id 0x19 = some (j, n) → s.fits n 72 → fl % 2 = 1 →
      (leAt j.input 0 1 = 1 → leAt j.input 3 1 % 2 = 1 → leAt j.input 4 2 = j.qp → leAt j.input 6 2 = j.keySlot →
        exec (.streamRestore id) s = .next ((w.setStream st (streamOf j.dom j.input)).succeed j 0 0)) ∧
      (leAt j.input 0 1 ≠ 1 → exec (.streamRestore id) s =
        .next (w.failJob j St.AUTH_FAIL 6 0 0x015F (leAt j.input 0 1)))) ∧
    (s.laneJob id 0x40 = some (j, n) → s.fits n (6 * ((blobOf j.ks).length / 8 + 1)) → fl % 4 = 0 →
      exec (.wrap id) s = .next ((s.worked j n (6 * ((blobOf j.ks).length / 8 + 1))
        (1200 + 96 * (6 * ((blobOf j.ks).length / 8 + 1)))).deliver j
        (kwpWrap j.kek (blobOf { j.ks with inv := (s.slot j.keySlot).inv })) 0)) ∧
    (s.laneJob id 0x41 = some (j, n) → s.unitWork id 0x41 = none → s.fits n (6 * (j.inTotal / 8)) → kwpUnwrap j.ks.mat j.input = none →
      exec (.unwrap id) s = .next ((s.worked j n (6 * (j.inTotal / 8)) (1200 + 96 * (6 * (j.inTotal / 8)))).failJob j
        St.AUTH_FAIL 6 0 0 0)) ∧
    (s.laneJob id 0x41 = some (j, n) → s.unitWork id 0x41 = none → s.fits n (6 * (j.inTotal / 8)) → ∀ p k, kwpUnwrap j.ks.mat j.input = some p →
      blobKey j p = .inl k → k.typ ≠ 0x20 → bit k.policy 17 = false → arenaNeed k.typ k.nbits ≤ 1536 - s.arenaUsed →
      ∃ u : State, exec (.unwrap id) s = .next (u.succeed j 0 (w32 j.keySlot)) ∧ u.slot j.keySlot = { k with st := .loaded } ∧
        u.mem = s.mem ∧ u.jobs = s.jobs) ∧
    (s.laneJob id 0x42 = some (j, n) → s.fits n b →
      (j.input.take 4 = ascii "ESN-" → exec (.derive id) s = .next (wd.failJob j St.KEY_DENIED 6 0 0x0185 0)) ∧
      (j.input.take 4 ≠ ascii "ESN-" → fl = 0x30 → bit (w32 (j.u 36 4)) 17 = false →
        exec (.derive id) s = .next ((wd.setSlot st made).succeed j 0 (w32 st))))

/-! ### Lane states, contexts and the counter vault -/

/-- R166-R169, R171. A lane that wakes and passes its known-answer test is IDLE with the four test blocks counted; one that fails
is fenced and recorded as LANE_SELFTEST. An idle lane above MIN_AWAKE goes dormant, its seed erased and its tokens released. A
seed lets a paused lane run on and makes an unseeded one IDLE; 50 ms without a seed make a waking or paused lane
UNSEEDED. The seed is a free value. -/
def Obligations.LanesWakeSeedAndRest : Prop :=
  ∀ (s : State) (n : Fin 9) (waited : Nat) (late : List Nat),
    let l := s.lane n
    (l.st = .waking → l.seed.isSome → s.leaveHeld.any (fun x => x.what == .lane n) →
      (∃ t, exec (.laneActivationDone n true) s = .next t ∧
        t.lane n = { l with st := .idle, since := 4, blocks := (l.blocks + 4) % 2 ^ 48 } ∧
        bit (t.hdr Blk.SYM n).evt 2 ∧ (∀ m : Nat, m ≠ n → t.lane m = s.lane m) ∧ t.jobs = s.jobs ∧ t.mem = s.mem) ∧
      (l.work = .none → ∃ t m, exec (.laneActivationDone n false) s = .next t ∧ (t.lane n).st = .fenced ∧
        t.isFenced Blk.SYM n 0 ∧ m ∈ t.inbox ∧ m.kind = Kind.LANE_SELFTEST ∧ m.blk = Blk.SYM ∧ m.inst = n.val)) ∧
    (l.st = .idle → s.fld R.SYM_CFG 15 0 ≠ 0 → s.activeLanes > s.fld R.SYM_CFG 19 16 →
      ∃ t, exec (.laneIdleTimeout n) s = .next t ∧
        t.lane n = { l with st := .dormant, work := .none, done := 0, since := 0, seed := none, next := none } ∧
        (∀ x ∈ t.leaveHeld, x.what ≠ .lane n) ∧ bit (t.hdr Blk.SYM n).evt 3 ∧ t.jobs = s.jobs) ∧
    (s.rngReady →
      (l.st = .paused → ∃ t, exec (.laneSeedArrival n waited) s = .next t ∧
        t.lane n = { l with st := .busy, seed := some s.fresh, next := none, since := 0 } ∧
        bit (t.hdr Blk.SYM n).evt 4 ∧ t.jobs = s.jobs) ∧
      (l.st = .unseeded → ∃ t, exec (.laneSeedArrival n waited) s = .next t ∧
        t.lane n = { l with st := .idle, seed := some s.fresh, next := none, since := 0 } ∧ t.jobs = s.jobs)) ∧
    ((l.st = .waking ∨ l.st = .paused) → l.work = .none → ∃ t, exec (.laneSeedTimeout n late) s = .next t ∧
      (t.lane n).st = .unseeded ∧ (t.lane n).seed = none ∧ t.mem = s.mem)

/-- R143-R146, R158, R160-R163. An install's vault state and record arrive; a RETIRED slot and a failed read end it; a record
that passes is installed with the frame key of R174 and a bitmap of ones. ENROL_PUT NEW evicts the context and queues the
GROUP page of its slot, ENROLLED at the next epoch, before it answers; ENROL_RETIRE queues RETIRED; CTX_FLUSH evicts the
contexts of its domain and answers their number. -/
def Obligations.ContextsAreInstalledAndEnrolled : Prop :=
  ∀ (s : State) (d : Port) (idx id : Nat) (n : Fin 9) (x : Install) (c : Ctx) (rec p : List Byte) (j : Job),
    let v := s.slotOf d idx
    let e := s.slotOf j.dom j.devIdx
    let y := s.vslot e
    (s.installs.find? (fun x => !x.vault) = some x →
      ((s.vslot (s.slotOf x.dom x.idx)).status = 1 → exec .vaultTableReadReturn s =
        .next (s.modInstall x.dom x.idx (fun i => { i with vault := true }))) ∧
      ((s.vslot (s.slotOf x.dom x.idx)).status = 2 → exec .vaultTableReadReturn s =
        .next (s.endInstall x.dom x.idx St.NO_CONTEXT 4 0x0124 (s.vslot (s.slotOf x.dom x.idx)).epoch))) ∧
    (s.install d idx = some x → x.record = none →
      exec (.recordFetchCompletion d idx (.ok rec)) s =
        .next (s.modInstall d idx (fun i => { i with record := some (slice rec 0 128) })) ∧
      exec (.recordFetchCompletion d idx .poisoned) s = .next (s.endInstall d idx St.HOST_MEM_FAULT 4 5 0)) ∧
    ((s.lane n).work = .install d idx → (s.lane n).st = .busy → s.install d idx = some x → x.record = some rec →
      s.fits n 99 → s.tableKey d → (s.vslot v).status ≠ 2 →
      judgeRecord (s.bind d).kwrap (s.bind d).kmac rec idx (s.vslot v) = .inl p → s.ctxs.length < s.variant.contexts →
      s.parkedOn d idx = [] → (s.port d).parkQ = [] →
      ∃ t k, exec (.installDone n) s = .next t ∧ t.ctxs = s.ctxs ++ [k] ∧ k.dom = d.val ∧ k.idx = idx ∧
        k.fkey = kdf (slice p 8 32) "ESN-FRAME" (beBytes 3 idx ++ beBytes 1 (leAt p 5 1) ++ beBytes 1 (leAt p 4 1))
          (if suiteGcm (leAt p 4 1) then 32 else 16) ∧ k.map = BitVec.allOnes 64 ∧ (t.lane n).st = .idle ∧
        t.installs = s.installs.filter (fun i => !(i.dom == d.val && i.idx == idx)) ∧ t.vslots = s.vslots) ∧
    (s.install d idx = some x → x.ready = some c → s.ctxs.length < s.variant.contexts → s.parkedOn c.dom c.idx = [] →
      (s.port c.dom).parkQ = [] → exec (.installEntryFree d idx) s = .next { s with
        ctxs := s.ctxs ++ [c], installs := s.installs.filter (fun i => !(i.dom == c.dom && i.idx == c.idx)) }) ∧
    (s.laneJob id 0x50 = some (j, n.val) → j.u 32 1 = 0 → s.fits n 97 → s.vault.stalled = false → y.epoch < 255 →
      ∃ t l, exec (.enrolPut id) s = .next t ∧ VPage.group (e / 20) false l (some j.id) ∈ t.vault.pages ∧
        (e, { status := 1, epoch := if y.status = 0 then 0 else y.epoch + 1, rxExact := true }) ∈ l ∧
        t.ctx j.dom j.devIdx = none ∧ t.vslots = s.vslots ∧ t.staging = s.staging) ∧
    (s.job id = some j → j.op = 0x51 → j.stage = .ready → s.enrolTurn j → s.vault.stalled = false →
      ∃ t l, exec (.enrolRetire id) s = .next t ∧ VPage.group (e / 20) false l (some j.id) ∈ t.vault.pages ∧
        (e, { y with status := 2 }) ∈ l ∧ t.ctx j.dom j.devIdx = none ∧ t.vslots = s.vslots) ∧
    (s.job id = some j → j.op = 0x52 → j.stage = .ready → j.keyField = 0 → j.u 32 1 % 2 = 0 →
      s.ctxs.any (fun c => c.dom == j.dom && s.pinned c.dom c.idx) = false → ∃ t : State, exec (.ctxFlush id) s =
        .next (t.succeed j (w32 (s.ctxs.filter (fun c => c.dom == j.dom)).length) 0) ∧
        t.ctxs = s.ctxs.filter (fun c => c.dom != j.dom) ∧ t.vslots = s.vslots ∧ t.mem = s.mem)

/-- R151-R153, R156. The open LOG page joins the pages to program; a LOG page that becomes durable stands in flash at its place
and its words are bases; a CLOSE MARK that becomes durable closes the vault; compaction queues a GROUP page of every group
alive in the oldest sector, and a refresh its MARK; a stall ends every job that waits for a page and is recorded; a refused
page asks again. -/
def Obligations.VaultPagesBecomeDurable : Prop :=
  ∀ (s : State) (l : List VPage) (ckl : Nat) (w : CkWord),
    let q := s.vault.seq + 1
    (s.mode ≠ .lockdown → s.vault.logWs ≠ [] → s.vault.closed = false →
      ∃ t, exec .vaultPageFlushTimer s = .next t ∧ t.vault.logWs = [] ∧
        t.vault.pages = s.vault.pages ++ [.log s.vault.logCkl s.vault.logWs] ∧ t.vslots = s.vslots ∧ t.mem = s.mem) ∧
    (s.vault.pages = .log ckl [w] :: l → s.vault.prog → s.jobs.any (fun j => j.stage == .wait .ckpt) = false →
      ∃ t, exec .vaultPageDurable s = .next t ∧ t.vault.seq = q ∧ t.vault.pages = l ∧ t.vault.stalled = false ∧
        t.mem = (s.setBytes (State.pageAddr q) (s.pageBytes 0 q (.log ckl [w]))).mem ∧
        (w.tx → (t.vslot w.slot).txD = w.basis ∧ (t.vslot w.slot).txI = 2 ^ ckl) ∧
        (w.tx = false → (t.vslot w.slot).rxD = w.basis ∧ (t.vslot w.slot).rxI = 2 ^ ckl) ∧
        ∀ m, m ≠ w.slot → t.vslot m = s.vslot m) ∧
    (s.vault.pages = .mark 2 none none none :: l → s.vault.prog → s.jobs.any (fun j => j.stage == .wait .ckpt) = false →
      ∃ t, exec .vaultCloseComplete s = .next t ∧ t.vault.closed ∧ t.vault.closing = false ∧ t.vault.seq = q ∧
        bit (t.hdr Blk.CTX 0).evt 5) ∧
    (s.vaultFree < 64 → s.mode ≠ .lockdown → ∃ t, exec .vaultCompaction s = .next t ∧ t.vault.compacting ∧
      (∀ g ∈ s.liveGroups, ∃ ex ls who, VPage.group g ex ls who ∈ t.vault.pages) ∧ t.vslots = s.vslots ∧ t.mem = s.mem) ∧
    (s.mode ≠ .lockdown → ∃ t, exec (.vaultRefresh false) s = .next t ∧ .mark 4 none none none ∈ t.vault.pages ∧
      t.vslots = s.vslots ∧ t.mem = s.mem) ∧
    (s.mode ≠ .lockdown → s.vault.pages ≠ [] → ∃ t m, exec .vaultStall s = .next t ∧ t.vault.stalled ∧
      (∀ j ∈ t.jobs, j.stage ≠ .wait .ckpt ∧ j.stage ≠ .wait .mark) ∧ m ∈ t.inbox ∧ m.kind = Kind.VAULT_STALL ∧
      m.blk = Blk.CTX ∧ bit (t.hdr Blk.CTX 0).evt 3 ∧ t.vslots = s.vslots) ∧
    (s.vault.refused → s.vault.pages ≠ [] → s.vault.prog = false → s.hasLeave .vaultPage = false → s.mode ≠ .lockdown →
      4 ≤ s.budget - s.variant.standing → ∃ t, exec .vaultLeaveRetry s = .next t ∧ t.vault.refused = false ∧
        t.vault.pages = s.vault.pages ∧ t.mem = s.mem)

/-- R134, R135, R151, R156. CLOSE in Hold queues the CLOSE MARK and outside Hold is a violation; OPEN of a closed vault queues an
OPEN MARK; a vault range of a domain without a bound table is written and recorded in a MARK page, and one of a bound
domain is a violation; a new interval is written, the open LOG page being programmed first, and one out of range is a
violation. -/
def Obligations.VaultIsClosedOpenedAndSet : Prop :=
  ∀ (s : State) (rq : Rq) (d : Port) (v : Word),
    (s.writable rq Blk.CTX 0 R.CTX_CTRL →
      (s.mode = .hold → s.vault.closing = false → s.vault.closed = false → ∃ t, exec (.closeVault rq) s = .next t ∧
        t.vault.closing ∧ .mark 2 none none none ∈ t.vault.pages ∧ t.vault.logWs = [] ∧ t.vslots = s.vslots ∧ t.mem = s.mem) ∧
      (s.mode ≠ .hold → exec (.closeVault rq) s = .next (s.refuse rq R.CTX_CTRL Blk.CTX 0)) ∧
      (s.vault.closed → s.vault.pages.contains (.mark 1 none none none) = false → ∃ t, exec (.openVault rq) s = .next t ∧
        t.vault.pages = s.vault.pages ++ [.mark 1 none none none] ∧ t.vslots = s.vslots ∧ t.mem = s.mem)) ∧
    (s.writable rq Blk.CTX 0 (R.CTX_DOM_VB + d * 0x10) →
      ((s.bind d).bound = false → s.fld (R.CTX_DOM_VC + d * 0x10) 18 0 = 0 →
        ∃ t, exec (.vaultRangeWrite rq d false v) s = .next t ∧ t.vault.rangeBusy ∧
          t.reg (R.CTX_DOM_VB + d * 0x10) = w32 (bits v 17 0) ∧
          .mark 3 none (some (d.val, bits v 17 0, 0)) none ∈ t.vault.pages ∧ t.binds = s.binds ∧ t.mem = s.mem) ∧
      ((s.bind d).bound → exec (.vaultRangeWrite rq d false v) s =
        .next (s.refuse rq (R.CTX_DOM_VB + d * 0x10) Blk.CTX 0))) ∧
    (s.writable rq Blk.CTX 0 R.CTX_CFG →
      (8 ≤ bits v 12 8 → bits v 12 8 ≤ 16 → bits v 7 0 ≠ 0 → ∃ t, exec (.cklWrite rq v) s = .next t ∧
        t.reg R.CTX_CFG = v &&& 0x1FFF ∧ (bits v 12 8 ≠ s.fld R.CTX_CFG 12 8 → t.vault.logWs = []) ∧ t.vslots = s.vslots ∧
        t.mem = s.mem) ∧
      (bits v 12 8 < 8 ∨ 16 < bits v 12 8 ∨ bits v 7 0 = 0 → exec (.cklWrite rq v) s =
        .next (s.refuse rq R.CTX_CFG Blk.CTX 0)))


/-! ### Crucible and random numbers -/

/-- R198, R201-R205, R209-R211. What a busy unit computes: an ECDSA or Ed25519 signature, the verdict of a verification, the
secret of an agreement, a key pair, and the RSA operations; one outcome for every rejected input. The random material and
whether a unit finds a fault in its own result are free values. -/
def Obligations.CrucibleUnitsComputeResults : Prop :=
  ∀ (s : State) (id u : Nat) (j : Job),
    let c := curveOf j.alg
    let m := j.ks.mat
    let r := Config.rnd s.fresh 256
    let i := j.input
    let k := j.nbits / 8
    let put := fun (n : Nat) (bad : Bool) (o : COut) =>
      ({ s with fresh := n }).modUnit u (fun k => { k with out := some (if bad then pkFaulty u else o) })
    (s.unitWork id 0x20 = some (j, u) →
      (j.alg = 5 → exec (.pkSign id) s = .next (put (s.fresh + 2) (Config.unitFaults u (s.fresh + 1))
        (pkDone (edSign (m.take 32) (slice m 32 32) i) []))) ∧
      (j.alg ≠ 5 → exec (.pkSign id) s = .next (put (s.fresh + 2) (Config.unitFaults u (s.fresh + 1))
        (pkDone (c.sign (fromBe (m.take c.len)) (c.digestInt i) 3 r) [])))) ∧
    (s.unitWork id 0x21 = some (j, u) →
      (j.alg = 5 → exec (.pkVerify id) s = .next (put (s.fresh + 1) (Config.unitFaults u s.fresh)
        (if edVerify (slice i 0 32) (slice i 32 64) (i.drop 96) then pkDone [] [] else pkReject))) ∧
      (j.alg ≠ 5 → exec (.pkVerify id) s = .next (put (s.fresh + 1) (Config.unitFaults u s.fresh)
        (if c.verify (slice i 0 (1 + 2 * c.len)) (slice i (1 + 2 * c.len) (2 * c.len)) (i.drop (1 + 4 * c.len))
          then pkDone [] [] else pkReject)))) ∧
    (s.unitWork id 0x22 = some (j, u) → ∀ z,
      z = (if j.alg = 4 then xAgree (m.take 32) i else c.agree (fromBe (m.take c.len)) i) →
      (∀ x, z = some x → exec (.pkAgree id) s =
        .next (put (s.fresh + 1) (Config.unitFaults u s.fresh) (pkDone [] x))) ∧
      (z = none → exec (.pkAgree id) s = .next (put (s.fresh + 1) (Config.unitFaults u s.fresh) pkReject))) ∧
    (s.unitWork id 0x23 = some (j, u) → ∀ d,
      d = (if j.alg = 4 ∨ j.alg = 5 then (r ++ zeros 32).take 32 else beBytes c.len (c.scalar r)) →
      exec (.pkKeygen id) s = .next (put (s.fresh + 2) (Config.unitFaults u (s.fresh + 1))
        (pkDone (ecPublic j.alg d) (d ++ ecPublic j.alg d)))) ∧
    (s.unitWork id 0x24 = some (j, u) → ∀ g x y, g = rsaPart m k → x = fromBe i →
      y = rsaCrt (g 2) (g 3) (g 4) (g 5) (g 6) x →
      (x = 0 ∨ g 0 ≤ x → exec (.rsaPriv id) s = .next (put (s.fresh + 1) (Config.unitFaults u s.fresh) pkReject)) ∧
      (x ≠ 0 → x < g 0 → powMod (g 0) 32 y (g 1) = x → exec (.rsaPriv id) s =
        .next (put (s.fresh + 1) (Config.unitFaults u s.fresh) (pkDone (beBytes k y) []))) ∧
      (x ≠ 0 → x < g 0 → powMod (g 0) 32 y (g 1) ≠ x → exec (.rsaPriv id) s =
        .next (put (s.fresh + 1) true pkReject))) ∧
    (s.unitWork id 0x25 = some (j, u) → ∀ n e x, n = fromBe (slice i 0 k) → e = fromBe (slice i k 4) →
      x = fromBe (slice i (k + 4) k) →
      (n % 2 = 0 ∨ n < 2 ^ (j.nbits - 1) ∨ e % 2 = 0 ∨ e < 3 ∨ x = 0 ∨ n ≤ x →
        exec (.rsaPub id) s = .next (put s.fresh false pkReject)) ∧
      (n % 2 = 1 → 2 ^ (j.nbits - 1) ≤ n → e % 2 = 1 → 3 ≤ e → x ≠ 0 → x < n →
        exec (.rsaPub id) s = .next (put s.fresh false (pkDone (beBytes k (powMod n 32 x e)) []))))

/-- R197, R205, R206, R209, R212, R215, R218. A busy unit whose work is done wipes; when the wipe ends it is idle, or tests when a
test is due, and the job is delivered or completes with its one failure. A job without random material for 50 ms fails.
SELFTEST asks a test; a test passed makes the unit serve, one failed fences it. GO takes the port's operands. -/
def Obligations.CrucibleUnitsTakeWipeAndTest : Prop :=
  ∀ (s : State) (rq : Rq) (u : Fin 3) (v : Word) (id : Nat) (j : Job) (d key : List Byte) (cls : Fin 256) (kr : KeyRef),
    let k := s.unit u
    let due : Bool := k.testDue ||
      (decide (s.fld R.CRU_CFG 15 0 ≠ 0) && decide (s.fld R.CRU_CFG 15 0 * 65536 ≤ k.since + 1))
    let freed : CUnit := { k with st := (if due then .test else .idle), job := none, fw := false, out := none, klass := 0
                                  testDue := false, since := (if due then 0 else k.since + 1) }
    let bank := match rq with | .pair p => bit (s.pair p).cs 6 | .debug => false
    let s0 := s.setReg R.CRU_FW_CMD (v &&& 0xFFFF)
    let e := s0.portEntry
    let p : Job := { id := s.nextJob, qp := 0, dom := 4, tag := b2n bank, op := leAt e 1 1, ordr := false, cmpl := true
                     ents := [e], stage := .ready }
    let s1 := { (s0.setReg R.CRU_FW_STAT 0x80000000) with nextJob := s.nextJob + 1, fwJob := some p }
    (k.st = .busy → k.out.isSome → exec (.cruDurationEnd u) s = .next (s.modUnit u (fun k => { k with st := .wipe }))) ∧
    (k.st = .wipe → k.fw = false → k.job = some id → s.job id = some j →
      (k.out = some (pkDone d key) → j.fill = none → ∃ t : State,
        exec (.cruWipeDone u) s = .next (t.deliver j d 0) ∧ t.unit u = freed ∧ t.mem = s.mem ∧ t.jobs = s.jobs) ∧
      (k.out = some pkReject → ∃ t : State,
        exec (.cruWipeDone u) s = .next (t.failJob j St.PK_INPUT_REJECTED 6 0 0 0) ∧ t.unit u = freed ∧ t.mem = s.mem ∧
          t.jobs = s.jobs)) ∧
    (s.job id = some j → j.kind = 1 → j.stage = .wait .rng →
      exec (.cruRngTimeout id) s = .next (s.failJob j St.RNG_FAIL 6 0 0x0168 0)) ∧
    (s.writable rq Blk.CRU u (cruReg R.CRU_UCTRL u) → bit v 0 →
      (k.st = .idle → exec (.selftest rq u v) s = .next (s.modUnit u (fun k => { k with st := .test, since := 0 }))) ∧
      (k.st = .busy ∨ k.st = .leave ∨ k.st = .wipe → exec (.selftest rq u v) s =
        .next (s.modUnit u (fun k => { k with testDue := true })))) ∧
    (k.st = .test → exec (.cruTestDone u none) s = .next ((s.setFld (cruReg R.CRU_KAT u) 0 0 1).modUnit u
      (fun k => { k with st := .idle, up := true }))) ∧
    (k.st = .test → k.job = none → k.fw = false → ∃ t m, exec (.cruTestDone u (some cls)) s = .next t ∧
      (t.unit u).st = .fenced ∧ t.isFenced Blk.CRU u 0 ∧ m ∈ t.inbox ∧ m.kind = Kind.CRU_SELFTEST ∧ m.blk = Blk.CRU ∧
      m.inst = u.val ∧ m.addr = cls.val) ∧
    (s.writable rq Blk.CRU 0 R.CRU_FW_CMD →
      (s.portBusy → exec (.cruFwGo rq v) s = .next (s.refuse rq R.CRU_FW_CMD Blk.CRU 0)) ∧
      (s.portBusy = false → bit v 31 = false → exec (.cruFwGo rq v) s = .next s0) ∧
      (s.portBusy = false → bit v 31 → s.mode ≠ .lockdown → s.fwJob = none → State.portBad p = none →
        (if p.op = 0x21 ∨ p.op = 0x25 then .pass .none else s1.resolvePk true p) = .pass kr →
        s1.engineRefused bank (p.u 8 8) p.inLen 7 = none → (List.range 3).any (fun n => (s1.unit n).serving) →
        exec (.cruFwGo rq v) s = .next { s1 with
          fwJob := some { p with key := kr, ks := s1.keyOf kr, input := s1.bytes (p.u 8 8) p.inLen } }))

/-- R220-R232, R237. RANDOM delivers fresh output of the domain's instance, or fails without one; RESEED and a reseed of the
internal instance take two words of the buffer while MIN_SRC sources serve, or wait for them; a wait of 50 ms fails. Seed words
enter the buffer; a source joins service after its start-up; one that fails a test is fenced and its path cut; three words make
the RNG run. FWRND captures 32 fresh bits; capture takes a source out of service in FOUNDRY and VENDOR only. All values are free. -/
def Obligations.RandomNumbersSourcesAndSeeds : Prop :=
  ∀ (s : State) (rq : Rq) (v : Word) (id : Nat) (j : Job) (n : Fin 10) (first : Nat),
    let g := s.rng
    let reqs := Tbl.get (fun _ => 0) g.reqs j.dom
    let inst := (s.port j.dom).drbg
    let c := s.src n
    (s.job id = some j → j.stage = .ready → g.waitQ = [] →
      (j.op = 0x30 → g.st = .run → inst → j.u 32 1 % 2 = 0 → reqs + 1 ≤ 2 ^ s.fld R.RNG_CFG 20 16 →
        exec (.random id) s = .next (({ s with
          fresh := s.fresh + 1, rng := { g with reqs := Tbl.set (fun _ => 0) g.reqs j.dom (reqs + 1) } }).deliver j
            ((Config.rnd s.fresh (j.u 28 4) ++ zeros (j.u 28 4)).take (j.u 28 4)) 0)) ∧
      (j.op = 0x30 → g.st = .run → inst = false → exec (.random id) s = .next (s.failJob j St.RNG_FAIL 6 0 0x0170 0)) ∧
      (j.op = 0x31 → g.st = .run → inst → s.minSrc ≤ s.servingSrcs → 2 ≤ g.buf.length → ∃ t : State,
        exec (.reseed id) s = .next (t.succeed j 0 0) ∧ t.rng.buf = g.buf.drop 2 ∧
          Tbl.get (fun _ => 0) t.rng.reqs j.dom = 0 ∧ t.jobs = s.jobs ∧ t.mem = s.mem) ∧
      (j.op = 0x31 → g.st = .run → inst → g.buf.length < 2 ∨ s.servingSrcs < s.minSrc → ∃ t, exec (.reseed id) s = .next t ∧
        t.job id = some { j with stage := .wait .rng } ∧ t.rng = { g with waitQ := [id] })) ∧
    (s.job id = some j → s.rngWaiters.any (fun x => x.id == id) → exec (.rngWaitTimeout id) s =
      .next ((s.setFld R.RNG_WAITS 31 16 (max 500 (s.fld R.RNG_WAITS 31 16))).failJob j St.RNG_FAIL 6 0 0x0171 0)) ∧
    (g.st ≠ .off → g.st ≠ .failed → 0 < s.servingSrcs → g.due = false → g.waitQ = [] →
      exec .seedWordReady s = .next { s with rng := { g with
        word := g.word + 1, buf := if g.buf.length < 16 then g.buf ++ [g.word] else g.buf } }) ∧
    (c.st = .settle ∨ c.st = .test → exec (.sourceStartupPass n) s =
      .next (s.setSrc n { c with st := if s.servingSrcs < 8 then .serving else .spare })) ∧
    (∀ (m test : Fin 16), m.val = n.val → test = 1 ∨ test = 2 → c.st = .serving → g.st = .run →
      ∃ t x, exec (.rngHealthFail m test first) s = .next t ∧ t.src n = { c with st := .fenced, last := test } ∧
        t.rng.buf = [] ∧ t.rng.internal = false ∧ (t.rng.st = .recover ∨ t.rng.st = .failed) ∧ x ∈ t.inbox ∧
        x.kind = Kind.RNG_HEALTH ∧ x.blk = Blk.RNG ∧ x.addr = test.val * 16 + n) ∧
    (g.st = .startup ∨ g.st = .recover → s.minSrc ≤ s.servingSrcs → 3 ≤ g.buf.length → g.waitQ = [] →
      ∃ t, exec .rngRun s = .next t ∧ t.rng.st = .run ∧ t.rng.internal ∧ t.rng.buf = g.buf.drop 3 ∧ t.mem = s.mem ∧
        t.jobs = s.jobs.map (fun j => if j.kind = 1 ∧ j.stage = .wait .rng then { j with stage := .ready } else j)) ∧
    (g.st = .run → s.minSrc ≤ s.servingSrcs → 2 ≤ g.buf.length → ∃ t, exec .internalReseed s = .next t ∧ t.rng.buf = g.buf.drop 2 ∧
      t.rng.due = false ∧ t.rng.st = .run ∧ t.jobs = s.jobs ∧ t.regs = s.regs ∧ t.mem = s.mem) ∧
    (g.st = .run → g.buf.length < 2 ∨ s.servingSrcs < s.minSrc → exec .internalReseed s = .next { s with rng := { g with due := true } }) ∧
    (s.writable rq Blk.RNG 0 R.RNG_CTRL →
      exec (.reseedInt rq v) s = if bit v 0 then exec .internalReseed s else .next s) ∧
    (s.live rq → s.barred rq R.RNG_FWRND_LO false = none → (s.hdr Blk.RNG 0).srstBusy = false →
      (s.rngReady → exec (.rngFwrndRead rq) s = .next { s with
        fresh := s.fresh + 1, rng := { g with fwData := w32 (Config.free s.fresh), fwValid := true } }) ∧
      (s.rngReady = false → exec (.rngFwrndRead rq) s = .next { s with rng := { g with fwData := 0, fwValid := false } })) ∧
    (s.writable rq Blk.RNG 0 R.RNG_CAPT → bit v 31 →
      (s.life ≠ .foundry → s.life ≠ .vendor → exec (.rngCapture rq v) s = .next (s.refuse rq R.RNG_CAPT Blk.RNG 0)) ∧
      (s.life = .foundry ∨ s.life = .vendor → bit (s.reg R.RNG_CAPT) 31 = false → bits v 19 16 = n.val → c.st ≠ .fenced →
        ∃ t, exec (.rngCapture rq v) s = .next t ∧ t.src n = { c with st := .capture } ∧ t.rng.capSrc = some n.val ∧
          t.rng.capWords = [] ∧ t.jobs = s.jobs ∧ t.mem = s.mem))

/-! ### The key store and ceremonies -/

/-- R244-R248, R250, R251, R253. GENERATE fills an empty slot with random material, SET_SHARE replaces the sharing, NARROW clears
policy bits and ERASE empties; a volatile slot changes at once, a PERSIST slot through an image record. A durable record
stands in flash at its page under the next SEQ and its change takes effect; a stalled one is undone and recorded. A full
slot, a reserved slot and a write while BUSY are refused. -/
def Obligations.SlotsFirmwareCommandsAndImage : Prop :=
  ∀ (s : State) (rq : Rq) (n : Fin 4096) (typ : Fin 256) (r : ImgRec) (l : List ImgRec) (ks : List Byte) (undo : KSlot),
    let k := s.slot n
    let arg := s.reg R.KST_FW_ARG
    let len := if typ.val = 1 then 16 else if typ.val = 4 then 64 else 32
    let nb := if typ.val = 0x30 then 256 else 0
    let go := fun (w : Word) => (s.setReg R.KST_FW_CMD (w &&& 0x0FFF0FFF)).setReg R.KST_FW_STAT 0x80000000
    let made : KSlot := { st := .loaded, typ := typ, nbits := nb, policy := arg
                          mat := (Config.rnd s.fresh len ++ zeros len).take len }
    let shared : KSlot := { k with policy := putField k.policy 3 0 (bits arg 3 0) }
    let page := if s.kst.page % 16384 + r.pages > 16384 then roundUp s.kst.page 16384 else s.kst.page
    let done : ImgRec := { r with seq := s.kst.seq + 1, page := page, key := ks }
    (s.writable rq Blk.KST 0 R.KST_FW_CMD → bit (s.reg R.KST_FW_STAT) 31 →
      exec (.generate rq n typ) s = .next (s.refuse rq R.KST_FW_CMD Blk.KST 0)) ∧
    (s.writable rq Blk.KST 0 R.KST_FW_CMD → bit (s.reg R.KST_FW_STAT) 31 = false →
      (typ.val ∈ [1, 2, 3, 4, 0x30] → policyOk typ nb arg →
        (k.st = .empty → s.rngReady → bit arg 17 = false → exec (.generate rq n typ) s =
          .next ((({ go (kstCmd 1 typ n) with fresh := s.fresh + 1 }).setSlot n made).kstFwEnd 0)) ∧
        (k.st ≠ .empty → exec (.generate rq n typ) s = .next ((go (kstCmd 1 typ n)).kstFwEnd 0x0164))) ∧
      (k.st = .loaded → bit k.policy 17 = false →
        exec (.kstSetShare rq n) s = .next (((go (kstCmd 2 0 n)).setSlot n shared).kstFwEnd 0) ∧
        exec (.narrow rq n) s =
          .next (((go (kstCmd 3 0 n)).setSlot n { k with policy := k.policy &&& arg }).kstFwEnd 0) ∧
        exec (.kstErase rq n) s = .next (((go (kstCmd 4 0 n)).setSlot n {}).kstFwEnd 0)) ∧
      (k.st = .loaded → bit k.policy 17 →
        exec (.kstSetShare rq n) s = .next (((go (kstCmd 2 0 n)).setSlot n { shared with dirty := true }).imgAppend n
          (.slot (s.slotOwner n) { shared with dirty := true }) (.fw n k)) ∧
        exec (.kstErase rq n) s = .next (((go (kstCmd 4 0 n)).setSlot n { dirty := true }).imgAppend n .erase (.fw n k))) ∧
      (k.st = .reserved → exec (.kstErase rq n) s = .next ((go (kstCmd 4 0 n)).kstFwEnd 0x0164))) ∧
    (s.kst.queue = r :: l → s.kst.prog → r.key = [] → s.kst.kseal = some ks → (∀ i n u, r.who ≠ .job i n u) →
      ∃ t, exec .imageRecordDurable s = .next t ∧ t.kst.log = s.kst.log ++ [done] ∧ t.kst.seq = s.kst.seq + 1 ∧
        t.kst.page = page + r.pages ∧ t.kst.prog = false ∧
        t.mem = (s.setBytes (0x09800000 + page % 16384 * 256) done.bytes).mem ∧
        (∀ o x, r.body = .slot o x → (s.slot r.slot).st = .reserved → (t.slot r.slot).st = .loaded) ∧
        (∀ m u, r.who = .fw m u → t.reg R.KST_FW_STAT = 0x40000000)) ∧
    (s.kst.queue = r :: l → r.who = .fw n undo → ∃ t m, exec .imageStall s = .next t ∧ t.kst.queue = l ∧
      t.slot n = undo ∧ t.reg R.KST_FW_STAT = 0x4000018E ∧ m ∈ t.inbox ∧ m.kind = Kind.KEY_IMAGE ∧
      bit (t.hdr Blk.KST 0).evt 5 ∧ t.mem = s.mem) ∧
    (∀ id j, s.kst.queue = r :: l → r.who = .job id n undo → s.job id = some j → j.stage = .wait .image →
      ∃ t : State, exec .imageStall s = .next ((t.failJob { j with fill := none } St.ENGINE_UNAVAILABLE 6 0 0x018E 0).imgKick) ∧
        t.slot n = undo ∧ t.job id = some j ∧ (∃ m ∈ t.inbox, m.kind = Kind.KEY_IMAGE) ∧ t.mem = s.mem)

/-- R261-R266. Each kind of ceremony opens in its lifecycle and mode only: COMMISSION makes a secret and N shares over GF(256), the
others collect the shares of the set the custody card, the OTP or the CUSTODY record names. A card in WRITE takes the next
share; one in COLLECT is judged; enough shares whose secret has another KCV fail the ceremony, and a commissioned secret
is held. ABORT and the time limit fail it. A firmware quench erases every volatile secret but K_bb and locks down. -/
def Obligations.CeremoniesAndQuench : Prop :=
  ∀ (s : State) (rq : Rq) (m n : Fin 16) (i : Fin 2) (o y : List Byte) (x m' n' : Nat) (h : CHdr),
    let c := s.kst.cer
    let k := slice (Config.rnd s.fresh 32) 0 32
    let coef := (List.range (m - 1)).map (fun i => slice (Config.rnd (s.fresh + 2) 256) (32 * i) 32)
    let sum := interpolate (c.shares ++ [(x, y)])
    (s.writable rq Blk.KST 0 R.KST_CER_CMD →
      (s.cerRuns = false →
        (s.life = .shipped → s.mode = .service → 2 ≤ m.val → m ≤ n → n.val ≤ 8 →
          ∃ t e, exec (.commission rq m n) s = .next t ∧ t.kst.cer.st = 1 ∧ t.kst.cer.kind = 1 ∧ t.kst.cer.m = m ∧
            t.kst.cer.n = n ∧ t.kst.cer.secret = k ∧ t.kst.cer.kcv = kcvOf k ∧
            t.kst.cer.setId = slice (Config.rnd (s.fresh + 1) 8) 0 8 ∧
            t.kst.cer.shares = (List.range n).map (fun i => (i + 1, shareAt k coef (i + 1))) ∧
            e ∈ t.inbox ∧ e.kind = Kind.CEREMONY ∧ t.slots = s.slots ∧ t.mem = s.mem) ∧
        (s.life ≠ .shipped ∨ s.mode ≠ .service ∨ m.val < 2 ∨ n < m ∨ 8 < n.val →
          exec (.commission rq m n) s = .next (s.refuse rq R.KST_CER_CMD Blk.KST 0)) ∧
        (s.life = .commissioned → s.mode = .lockdown → s.cardSet = some h → ∃ t, exec (.restore rq) s = .next t ∧
          t.kst.cer.st = 2 ∧ t.kst.cer.kind = 2 ∧ t.kst.cer.setId = h.setId ∧ t.kst.cer.kcv = h.kcv ∧ t.mem = s.mem) ∧
        (s.life = .vendor → s.mode = .service → ∃ t, exec (.raise rq) s = .next t ∧ t.kst.cer.st = 2 ∧
          t.kst.cer.kind = 3 ∧ t.kst.cer.setId = s.bytes 0x0C800140 8 ∧ t.kst.cer.kcv = s.bytes 0x0C800148 8 ∧
          t.mem = s.mem) ∧
        (s.life = .commissioned → s.mode = .service ∨ s.mode = .lockdown → s.kst.kcust = some y →
          ∃ t, exec (.decommission rq) s = .next t ∧ t.kst.cer.st = 2 ∧ t.kst.cer.kind = 4 ∧
            t.kst.cer.setId = s.kst.setId ∧ t.kst.cer.kcv = kcvOf y ∧ t.mem = s.mem) ∧
        exec (.abort rq) s = .next (s.setReg R.KST_CER_CMD 0)) ∧
      (s.cerRuns →
        exec (.commission rq m n) s = .next (s.refuse rq R.KST_CER_CMD Blk.KST 0) ∧
        ∃ t, exec (.abort rq) s = .next t ∧ t.kst.cer.st = 6 ∧ t.kst.cer.fail = 2 ∧ t.kst.cer.secret = [] ∧
          t.kst.cer.shares = [] ∧ t.slots = s.slots)) ∧
    (s.cerRuns → ∃ t, exec .ceremonyTimeout s = .next t ∧ t.kst.cer.st = 6 ∧ t.kst.cer.fail = 2 ∧
      t.kst.cer.secret = [] ∧ t.kst.cer.shares = [] ∧ t.mem = s.mem) ∧
    ((s.cslot i).st = 4 → c.st = 1 →
      (c.acc * 2 + 2 ≠ 2 ^ c.n → ∃ t, exec (.ceremonyCardResult i none true) s = .next t ∧ t.kst.cer.st = 1 ∧
        t.kst.cer.acc = c.acc * 2 + 1 ∧ t.kst.cer.shares = c.shares ∧ t.mem = s.mem) ∧
      (c.acc * 2 + 2 = 2 ^ c.n → ∃ t, exec (.ceremonyCardResult i none true) s = .next t ∧ t.kst.cer.st = 2 ∧
        t.kst.cer.acc = 0 ∧ t.kst.cer.shares = [] ∧ t.kst.cer.secret = [] ∧ t.mem = s.mem)) ∧
    ((s.cslot i).st = 4 → c.st = 2 → s.judgeShare o = (0, x, m', n', y) →
      (c.shares.length + 1 < m' → ∃ t, exec (.ceremonyCardResult i (some o) false) s = .next t ∧ t.kst.cer.st = 2 ∧
        t.kst.cer.last = 0 ∧ t.kst.cer.shares = c.shares ++ [(x, y)] ∧ t.mem = s.mem) ∧
      (m' ≤ c.shares.length + 1 → kcvOf sum ≠ c.kcv → ∃ t, exec (.ceremonyCardResult i (some o) false) s = .next t ∧
        t.kst.cer.st = 6 ∧ t.kst.cer.fail = 3 ∧ t.kst.cer.shares = [] ∧ t.life = s.life ∧ t.mem = s.mem) ∧
      (m' ≤ c.shares.length + 1 → kcvOf sum = c.kcv → c.kind = 1 → ∃ t,
        exec (.ceremonyCardResult i (some o) false) s = .next t ∧ t.kst.cer.st = 5 ∧ t.kst.kcust = some sum ∧
          t.kst.setId = c.setId ∧ t.life = .commissioned)) ∧
    ((s.cslot i).st = 4 → c.st = 2 → (s.judgeShare o).1 ≠ 0 → ∃ t,
      exec (.ceremonyCardResult i (some o) false) s = .next t ∧ t.kst.cer.st = 2 ∧ t.kst.cer.last = (s.judgeShare o).1 ∧
        t.kst.cer.shares = c.shares ∧ t.mem = s.mem) ∧
    (s.writable rq Blk.KST 0 R.KST_QCTL → s.clk.waiting = false → ∃ t, exec (.quench rq) s = .next t ∧
      t.mode = .lockdown ∧ t.slots = [] ∧ t.ctxs = [] ∧ t.streams = [] ∧ t.kst.kseal = none ∧ t.kst.keph = none ∧
      t.kst.kcust = none ∧ t.flk.kbb = s.flk.kbb ∧ (s.mode ≠ .lockdown → t.sys.reason = 3))

/-! ### Flash -/

/-- R328-R334, R338, R340, R343, R344. A GO whose address and region pass starts its operation on a free bank, asking leave; any
other is a violation, one while BUSY too, and in Lockdown it ends with RESULT MODE. A program that ends puts the page
buffer in flash, an erase leaves the sector all ones, a blank check reports, and a failed verify leaves only the page
undefined or the sector torn. An erase of the port suspends and resumes; an automatic one resumes by itself; a listed sector
is healed; a condemned one is remapped to a spare. -/
def Obligations.FlashOperations : Prop :=
  ∀ (s : State) (rq : Rq) (op : Fin 16) (b : Fin 4) (n : Fin 2048) (pulses : Fin 256) (o : FOp),
    let go := fun (i : Instr) (k : Nat) =>
      (s.flcBusy → exec i s = .next (s.refuse rq R.FLC_CMD Blk.FLC 0)) ∧
      (s.flcBusy = false → s.mode = .lockdown → exec i s = .next ((s.setReg R.FLC_CMD (w32 k)).flcEnd 7)) ∧
      (s.flcBusy = false → s.mode ≠ .lockdown → s.fwReq k = none →
        exec i s = .next (s.refuse rq R.FLC_CMD Blk.FLC 0)) ∧
      (s.flcBusy = false → s.mode ≠ .lockdown → ∀ r, s.fwReq k = some r → s.fwBlock r = none → s.flashQ = [] →
        s.flashOn = [] → ∃ t, exec i s = .next t ∧ t.flashOn = [{ rq := r, granted := r.tok == 0 }] ∧ t.flcBusy ∧
          t.leavePend = s.leavePend ++ (if r.tok = 0 then [] else [⟨Blk.FLC, 0, r.tok, .flash, false⟩]) ∧
          t.flcAddr = (s.reg R.FLC_ADDR).toNat ∧ t.flcData = s.pbuf 64 ∧ t.mem = s.mem ∧ t.jobs = s.jobs)
    let a := s.flcAddr
    let z := sectorAddr b o.rq.sector
    (s.writable rq Blk.FLC 0 R.FLC_CMD →
      go (.program rq) 1 ∧ go (.erase rq) 2 ∧ go (.blankCheck rq) 3 ∧ go (.otpProgram rq) 4 ∧
      (s.flashOn = [o] → o.rq.what = .flash → o.rq.op = 2 →
        (o.susp = 0 → o.granted → exec (.susp rq op) s =
          .next { (s.setReg R.FLC_CMD (w32 op)) with flashOn := [{ o with ask := true }] }) ∧
        (o.susp = 1 → s.flashQ = [] → exec (.resm rq op) s = .next { (s.setReg R.FLC_CMD (w32 op)) with
          flashOn := [{ o with susp := 0, granted := false, ask := false }],
          leavePend := s.leavePend ++ [⟨o.rq.blk, 0, o.rq.tok, .flash, false⟩] }))) ∧
    (s.opOf b = some o → o.rq.what = .flash →
      (o.rq.op = 1 → ∃ t, exec (.flashOpComplete (b.castLE (by decide)) true pulses) s = .next t ∧
        t.reg R.FLC_STATUS = 0x40000000 ∧ t.mem = (s.setBytes a s.flcData).mem ∧ t.slots = s.slots ∧ t.jobs = s.jobs) ∧
      (o.rq.op = 1 → ∃ t m, exec (.flashOpComplete (b.castLE (by decide)) false pulses) s = .next t ∧
        t.reg R.FLC_STATUS = 0x40000002 ∧ m ∈ t.inbox ∧ m.kind = Kind.FLASH_WEAR ∧
        ∀ x, x < a ∨ a + 256 ≤ x → t.byte x = s.byte x) ∧
      (o.rq.op = 2 → ∃ t, exec (.flashOpComplete (b.castLE (by decide)) true pulses) s = .next t ∧
        t.reg R.FLC_STATUS = 0x40000000 ∧
        ∀ x, t.byte x = if z ≤ x ∧ x < z + 0x1000 then memDefault x else s.byte x) ∧
      (o.rq.op = 2 → s.weak.contains (b.val, o.rq.sector) = false → ∃ t,
        exec (.flashOpComplete (b.castLE (by decide)) false pulses) s = .next t ∧ t.reg R.FLC_STATUS = 0x40000002 ∧
        t.isTorn b o.rq.sector ∧ (b.val, o.rq.sector) ∈ t.weak ∧ t.mem = s.mem) ∧
      (o.rq.op = 4 → (∀ x, a ≤ x → x < a + 4096 → s.byte x = 0xFF) → ∃ t,
        exec (.flashOpComplete (b.castLE (by decide)) true pulses) s = .next t ∧ t.reg R.FLC_STATUS = 0x40000000 ∧
        t.reg R.FLC_RES = 0 ∧ t.mem = s.mem)) ∧
    (s.opOf b = some o → s.flashOn = [o] → s.flashQ = [] → o.rq.op = 2 → o.ask →
      ∃ t, exec (.eraseSuspended b 0) s = .next t ∧ t.flashOn = [{ o with susp := 1, granted := false, ask := false }] ∧
        t.leaveHeld = s.leaveHeld.filter (fun l => l.what != o.rq.what) ∧ t.mem = s.mem) ∧
    (s.flashOn = [o] → o.rq.bank = b.val → o.susp = 2 → s.urgent b = false → exec (.eraseAutoResume b) s = .next { s with
      flashOn := [{ o with susp := 0, granted := false, ask := false }],
      leavePend := s.leavePend ++ [⟨o.rq.blk, 0, o.rq.tok, o.rq.what, false⟩] }) ∧
    (s.torn = [⟨b, n, true, true⟩] → s.flashOn = [] → s.flashQ = [] → s.hasLeave (.heal b n) = false →
      (s.hdr Blk.FLC 0).en → 12 ≤ s.budget - s.variant.standing → ∃ t, exec .tornHeal s = .next t ∧
        t.flashOn = [{ rq := ⟨b, 5, 2, n, Blk.FLC, 12, .heal b n⟩ }] ∧ t.mem = s.mem) ∧
    (0 < s.spareLeft b → s.isTorn b n = false → s.lostSec.contains (b.val, n.val) = false → s.clk.waiting = false →
      ∃ t m, exec (.sectorCopy b n) s = .next t ∧ m ∈ t.inbox ∧ m.kind = Kind.WEAR_TREND ∧ m.addr = sectorAddr b n ∧
        t.spareLeft b + 1 = s.spareLeft b ∧ (b.val, n.val) ∉ t.weak ∧ t.mem = s.mem)

/-! ### The tag -/

/-- R346-R350. The states of the reader protocol: the field starts the guard and its loss erases the session; REQA or WUPA makes the
tag READY, each cascade level is answered by the rest of its bits and selected by all of them, RATS opens layer 4, PPS is
taken once, HLTA and DESELECT lead to HALT, and an unexpected frame back to IDLE or HALT without an answer. -/
def Obligations.TagProtocolStates : Prop :=
  ∀ (s : State) (cl2 : Bool) (n : Fin 40) (v : Nat) (dr ds : Fin 4),
    let g := s.tag
    let w := fromLe (s.cascade cl2)
    (g.field = false → s.fieldPower = false → exec .fieldOn s =
      .next (({ s with tag := { g with field := true, proto := 1 } }).event Blk.TAG 0 2)) ∧
    (g.field = false → s.mode = .backup → exec .fieldOn s =
      .next { s with mode := .field, tag := { g with field := true, proto := 1 } }) ∧
    (g.field → g.commit = none → g.hostQ = [] → g.credOp = none → ∃ t, exec .fieldLost s = .next t ∧
      t.tag.field = false ∧ t.tag.proto = 0 ∧ t.tag.access = 0 ∧ t.tag.held = none ∧ t.tag.ksEnc = [] ∧ t.tag.ksMac = [] ∧
      t.tag.rndB = none ∧ t.tag.ctr = none ∧ t.tag.tx = [] ∧ t.mem = s.mem ∧ t.jobs = s.jobs) ∧
    (g.proto = 1 → exec .guardEnd s = .next { s with tag := { g with proto := 2 } }) ∧
    (s.clk.waiting = false →
      (g.proto = 2 → exec .reqa s =
        .next { s with tag := { g with proto := 3, fromHalt := false, level := 0, tx := [0x44, 0x00] } }) ∧
      (g.proto = 5 → exec .wupa s =
        .next { s with tag := { g with proto := 3, fromHalt := true, level := 0, tx := [0x44, 0x00] } }) ∧
      (g.proto = 3 → (g.level == 1) = cl2 →
        (w % 2 ^ n.val = v % 2 ^ n.val → exec (.anticollision cl2 n v) s =
          .next { s with tag := { g with tx := leBytes ((47 - n) / 8) (w / 2 ^ n.val) } }) ∧
        (w % 2 ^ n.val ≠ v % 2 ^ n.val → exec (.anticollision cl2 n v) s = .next s) ∧
        exec (.selectCascade cl2 (s.cascade cl2)) s = .next { s with tag :=
          if cl2 then { g with proto := 4, level := 2, l4 := false, tx := [0x20] } else { g with level := 1, tx := [0x04] } }) ∧
      (g.proto = 4 → g.l4 = false → exec .rats s = .next { s with tag := { g with
        l4 := true, pps := true, app := 0, access := 0, dr := 0, ds := 0, tx := tagAts } }) ∧
      (s.tagL4 → g.pps → dr.val ≤ 2 → ds.val ≤ 2 → exec (.pps dr ds) s =
        .next { s with tag := { g with pps := false, dr := dr, ds := ds, tx := [0xD0] } }) ∧
      (s.tagL4 → ∃ t, exec .deselect s = .next t ∧ t.tag.proto = 5 ∧ t.tag.tx = [0xC2] ∧ t.tag.access = 0 ∧
        t.tag.ksEnc = [] ∧ t.tag.ksMac = [] ∧ t.mem = s.mem)) ∧
    (g.proto = 4 → g.l4 = false → exec .hlta s =
      .next { s with tag := { g with proto := 5, level := 0, fromHalt := false } }) ∧
    (g.proto = 3 → exec .tagBadFrame s =
      .next { s with tag := { g with proto := if g.fromHalt then 5 else 2, level := 0, fromHalt := false } }) ∧
    (g.proto = 5 → exec .reqa s = .next s)

/-- R352-R358, R360, R365, R408. An APDU that nothing of R354 bars is answered with its data and 90 00, or starts its commit; a barred
one is answered with the first status word that applies. SELECT opens the application of the mode, AUTH1 gives the next
challenge, AUTH2 a session under derived keys or 63 00, a wrong protected command ends the session. -/
def Obligations.TagApplicationCommands : Prop :=
  ∀ (s : State) (p : BitVec 16) (d k b : List Byte) (le : Fin 256) (r : SRec),
    let g := s.tag
    let n := if le.val = 0 then 256 else le.val
    let sent := fun (i : Instr) (l : List Byte) => ∃ t, exec i s = .next t ∧ t.tag.tx = l ∧ t.tag.commit = none ∧
      t.mem = s.mem ∧ t.jobs = s.jobs ∧ t.slots = s.slots
    let ok : List Byte := [0x90, 0x00]
    let bar := fun (cla ins : Nat) => s.apduBar ⟨cla, ins, p.toNat, d, le⟩
    let commits := fun (i : Instr) (w : TagWho) (l : List (Nat × List Byte)) => ∃ t, exec i s = .next t ∧
      t.tag.commit = some ⟨w, l, s.fieldPower && !g.cfld⟩ ∧ t.mem = s.mem ∧ t.jobs = s.jobs
    let c := g.ctr.getD (s.cred 28 8)
    let ra := d.take 16
    s.tagL4 → g.commit = none → s.clk.waiting = false → g.field → g.chain = none →
    (g.access ≠ 3 →
      (bar 0 0xA4 = 0 → ∃ t, exec (.select 0 p d le) s = .next t ∧ t.tag.tx = ok ∧ t.tag.app = appOf s.mode ∧
        t.tag.access = 1 ∧ t.tag.rndB = none ∧ t.mem = s.mem ∧ t.jobs = s.jobs) ∧
      (bar 0 0xA4 = 0x6A82 → sent (.select 0 p d le) [0x6A, 0x82]) ∧
      (bar 0x80 0x10 = 0 → s.fieldPower = false → sent (.getIdentity 0x80 p d le) (s.identityNow ++ ok)) ∧
      (bar 0x80 0x10 = 0 → s.fieldPower → sent (.getIdentity 0x80 p d le) (s.bytes 0x0C009000 16 ++ ok)) ∧
      (bar 0x80 0x12 = 0 → sent (.getStatus 0x80 p d le) (s.statusBytes ++ ok)) ∧
      (bar 0x80 0x12 ≠ 0 → sent (.getStatus 0x80 p d le) (beBytes 2 (bar 0x80 0x12))) ∧
      (bar 0x80 0x14 = 0 → p = 0 → sent (.readTamper 0x80 p d le)
        (leBytes 2 s.flags ++ leBytes 2 s.flk.pend ++ leBytes 6 ((s.rtc + Config.free s.fresh) % 2 ^ 48) ++
          [BitVec.ofNat 8 (b2n s.rtcValid + 2 * b2n s.flk.kbb.isSome + 4 * b2n s.flk.pendLock + 8 * b2n s.fieldPower), 0] ++
          ok)) ∧
      (bar 0x80 0x14 = 0 → p ≠ 0 → sent (.readTamper 0x80 p d le)
        (((s.mirList.drop (p.toNat - 1)).take (n / 16)).flatMap (fun k => s.bytes (State.mirAddr k) 16) ++ ok)) ∧
      (bar 0 0xB0 = 0 → sent (.readBinary 0 p d le) (s.storeBytes p.toNat n ++ ok)) ∧
      (bar 0 0xD6 = 0 → s.writeRecs p.toNat d = [] → sent (.updateBinary 0 p d le) ok) ∧
      (bar 0 0xD6 = 0 → s.writeRecs p.toNat d ≠ [] →
        commits (.updateBinary 0 p d le) .update (s.writeRecs p.toNat d)) ∧
      (bar 0x90 0xE0 = 0 → ∃ t, exec (.putTicket 0x90 p d le) s = .next t ∧ t.tag.chain = some d ∧ t.tag.tx = ok ∧
        t.mem = s.mem) ∧
      (bar 0x80 0xE0 = 0 → s.writeRecs 14336 (leBytes 2 d.length ++ d) ≠ [] →
        commits (.putTicket 0x80 p d le) .ticket (s.writeRecs 14336 (leBytes 2 d.length ++ d))) ∧
      (bar 0x80 0x20 = 0 → commits (.password 0x80 p d le) (.pwTry (d == s.bytes (s.curAddr 15 + 4) 8))
        [(15, overlay (s.record 15) [BitVec.ofNat 8 (s.cred 2 1 + 1)] 2)]) ∧
      (bar 0x80 0xA0 = 0 → s.kTag = some k →
        (c + 512 < s.cred 28 8 → ∃ t, exec (.auth1 0x80 p d le) s = .next t ∧ t.tag.ctr = some (c + 1) ∧
          t.tag.rndB = some (aesEnc k (beBytes 16 c)) ∧ t.tag.tx = aesEnc k (beBytes 16 c) ++ ok ∧
          t.tag.commit = none ∧ t.mem = s.mem) ∧
        (s.cred 28 8 ≤ c + 512 → commits (.auth1 0x80 p d le) .auth1
          [(15, overlay (s.record 15) (leBytes 8 (s.cred 28 8 + 1024)) 28)])) ∧
      (bar 0x80 0xA2 = 0 → s.kTag = some k → g.rndB = some b →
        (d.drop 16 = cmac k ([0x52] ++ s.uid ++ b ++ ra) → ∃ t, exec (.auth2 0x80 p d le) s = .next t ∧
          t.tag.access = 3 ∧ t.tag.cc = 0 ∧ t.tag.rndB = none ∧ t.tag.ksEnc = kdf k "ESN-TAG-ENC" (ra ++ b) 16 ∧
          t.tag.ksMac = kdf k "ESN-TAG-MAC" (ra ++ b) 16 ∧ t.tag.tx = cmac k ([0x54] ++ s.uid ++ ra ++ b) ++ ok ∧
          t.mem = s.mem) ∧
        (d.drop 16 ≠ cmac k ([0x52] ++ s.uid ++ b ++ ra) → ∃ t, exec (.auth2 0x80 p d le) s = .next t ∧
          t.tag.tx = [0x63, 0x00] ∧ t.tag.rndB = none ∧ t.tag.access = g.access ∧ t.mem = s.mem)) ∧
      (bar 0x80 0x16 = 0 → s.skm.ring[p.toNat]? = some r → sent (.readFaults 0x80 p d le)
        (leBytes 4 r.msg.lo.toNat ++ leBytes 4 r.msg.hi.toNat ++ leBytes 2 r.seq ++ ok)) ∧
      (∀ ins : Byte, tagIns ins.toNat = false → sent (.unsupportedIns 0x80 ins p d le) [0x6D, 0x00])) ∧
    (g.access = 3 → d.length < 8 → ∃ t, exec (.getStatus 0x84 p d le) s = .next t ∧ t.tag.tx = [0x69, 0x88] ∧
      t.tag.access = 1 ∧ t.tag.ksEnc = [] ∧ t.tag.ksMac = [] ∧ t.mem = s.mem)

/-- R359, R361-R364, R366-R370. A commit waits for its energy or its time runs out with 64 01; done, its record's new content is
current, every other record is as before, SEQ is one more and the reader has 90 00; with a bad shadow all records are as
before. Host reads and writes of the store run one after another; a wait behind the reader ends with TAG_BUSY. A
credential command starts the commit of its record or is refused with its RESULT. -/
def Obligations.TagCommitsHostJobsAndCredentials : Prop :=
  ∀ (s : State) (rq : Rq) (v : Word) (id : Nat) (j : Job) (q : Fin 16) (l : List Byte) (k : TCommit),
    let g := s.tag
    let o := 1 - s.markSector
    let a := State.markAddr (o * 16)
    let waits := s.fieldPower && !g.cfld
    let rest := g.held = none ∧ g.hostQ = [] ∧ g.credOp = none
    let put := fun (i : Instr) (op n : Nat) (l : List Byte) => l ≠ s.record n → ∃ t, exec i s = .next t ∧
      t.tag.commit = some ⟨.cred op, [(n, l)], waits⟩ ∧ t.mem = s.mem ∧ t.slots = s.slots ∧ t.jobs = s.jobs
    let refused := fun (i : Instr) (n : Nat) => ∃ t, exec i s = .next t ∧
      t.reg R.TAG_CRED_STAT = w32 (0x40000000 + n * 0x1000000) ∧ t.tag.commit = none ∧ t.mem = s.mem ∧ t.slots = s.slots
    let c := s.record 15
    let pw := beBytes 4 g.pw0.toNat ++ beBytes 4 g.pw1.toNat
    let x := s.slot (bits v 11 0)
    (g.field → g.commit = some k → exec .commitEnergyReady s =
      .next { s with tag := { g with cfld := true, commit := some { k with waits := false } } }) ∧
    (g.commit = some k → k.waits → s.clk.waiting = false → exec .wtxResend s =
      .next { s with tag := { g with tx := tagWtx } }) ∧
    (g.commit = some k → k.waits → k.who = .update → rest → g.field → s.clk.waiting = false → g.access ≠ 3 →
      exec .commitEnergyTimeout s = .next { s with tag := { g with commit := none, tx := [0x64, 0x01] } }) ∧
    (g.commit = some ⟨.update, [(q, l)], false⟩ → l.length = 1024 → g.toIdle = false → rest → g.field →
      s.clk.waiting = false → g.access ≠ 3 →
      (∃ t, exec (.tagCommitDone none) s = .next t ∧ t.record q = l ∧ (∀ m < 16, m ≠ q.val → t.record m = s.record m) ∧
        t.tag.seq = g.seq + 1 ∧ t.tag.commit = none ∧ t.tag.tx = [0x90, 0x00] ∧ t.jobs = s.jobs) ∧
      (∃ t m, exec (.tagCommitDone (some 0)) s = .next t ∧ (∀ m < 16, t.record m = s.record m) ∧ t.tag.seq = g.seq ∧
        t.tag.commit = none ∧ t.tag.tx = [0x65, 0x81] ∧ m ∈ t.inbox ∧ m.kind = Kind.FLASH_WEAR)) ∧
    (g.commit = none → s.markLeft.length ≤ 4 → (List.range 16).all (fun i => s.markBlank (o * 16 + i)) = false →
      waits = false → ∃ t, exec .markerPreErase s = .next t ∧ (∀ x, t.byte x = if a ≤ x ∧ x < a + 0x400 then 0xFF else s.byte x) ∧
        t.tag.seq = g.seq ∧ t.tag.map = g.map) ∧
    (s.job id = some j → j.stage = .ready → g.commit = none →
      (j.op = 0x60 → exec (.tagstoreRead id) s =
        .next (s.deliver j (s.storeBytes (j.u 32 4) j.outTotal) (w32 g.seq))) ∧
      (j.op = 0x61 → s.writeRecs (j.u 32 4) j.input ≠ [] → ∃ t, exec (.tagstoreWrite id) s = .next t ∧
        t.tag.commit = some ⟨.host id, s.writeRecs (j.u 32 4) j.input, waits⟩ ∧
        t.job id = some { j with stage := .wait .tag } ∧ t.mem = s.mem)) ∧
    (s.job id = some j → j.stage = .wait .tag → j.aux = 1 → g.hostQ.contains id → exec (.tagBusyTimeout id) s =
      .next ((({ s with tag := { g with hostQ := g.hostQ.erase id } }).count R.TAG_HCNT 31 16).failJob j St.TAG_BUSY 6 0
        0x01A8 0)) ∧
    (s.writable rq Blk.TAG 0 R.TAG_CRED_CMD →
      (bit (s.reg R.TAG_CRED_STAT) 31 → exec (.resetTries rq v) s = .next (s.refuse rq R.TAG_CRED_CMD Blk.TAG 0)) ∧
      (bit (s.reg R.TAG_CRED_STAT) 31 = false → g.commit = none → g.held = none → g.hostQ = [] → s.credBlank = false →
        (pw.all (fun b => decide (b.toNat % 16 ≤ 9) && decide (b.toNat / 16 ≤ 9)) →
          put (.setPassword rq v) 1 15 (overlay c pw 4)) ∧
        (pw.any (fun b => decide (9 < b.toNat % 16) || decide (9 < b.toNat / 16)) → refused (.setPassword rq v) 2) ∧
        (bits v 15 12 ≠ 0 → put (.setFlags rq v) 2 15
          (overlay c [BitVec.ofNat 8 (bits v 19 16), BitVec.ofNat 8 (s.cred 2 1), BitVec.ofNat 8 (bits v 15 12)] 1)) ∧
        (bits v 15 12 = 0 → refused (.setFlags rq v) 1) ∧
        (s.life = .commissioned → x.st = .loaded → x.typ = 1 → s.slotOwner (bits v 11 0) = 4 → bit x.policy 18 →
          put (.loadKey rq v) 3 15 (overlay c (x.mat.take 16 ++ leBytes 8 1024) 12)) ∧
        (s.life ≠ .commissioned → refused (.loadKey rq v) 1) ∧
        put (.resetTries rq v) 4 15 (overlay c [0] 2) ∧
        put (.eraseCred rq v) 5 15 (List.replicate 1024 0xFF) ∧
        put (.clearTicket rq v) 6 14 (List.replicate 1024 0xFF)))

/-! ### Cards -/

/-- R374-R376, R380-R384, R386, R388, R389. A card is debounced, initialised under leave, idles and leaves. WRITE_GEN asks GEN_START
for the next generation, or ends with the first check of R381 that fails; a durable journal record takes the next SEQ and
stands in flash at its page; a card write that ends asks its DONE; a failed write, or a journal that stalls, ends the
command. Resolution commits or abandons a pending entry. Custodian cards are activated, retried and deactivated. -/
def Obligations.CardsJournalAndCustodianSlots : Prop :=
  ∀ (s : State) (rq : Rq) (i : Fin 2) (fail : Fin 3) (cid : List Byte) (blocks : Nat) (ccs : Fin 4) (wp : Bool)
    (h0 h1 : List Byte) (r : JRec) (l : List JRec) (g : GenRun) (ta : Byte),
    let d := s.crd
    let c := s.cslot i
    let q := d.jseq + 1
    let done : JRec := { r with seq := q, page := d.jpage }
    let stat := fun (a b : Nat) => w32 (0x40000000 + a * 0x10000 + b)
    let next := (d.hdrs.map (fun h => h.2.gen) ++ d.log.map (fun e => e.gen)).foldl max 0 + 1
    (d.st = 0 → s.fieldPower = false → s.dbg.pins = false →
      exec .sdCardDetect s = .next { s with crd := { d with st := 1 } }) ∧
    (d.st = 1 → 15 ≤ s.budget - s.variant.standing →
      ∃ t, exec (.sdDebounceDone fail cid blocks ccs false false wp h0 h1) s = .next t ∧ t.crd.st = 2 ∧ t.crd.present ∧
        t.crd.wp = wp ∧ t.crd.card = (sha256 cid).take 8 ∧ (t.crd.tooSmall ↔ fail = 0 ∧ blocks < 73728) ∧
        t.leavePend = s.leavePend ++ [⟨Blk.CRD, 0, 15, .sd, false⟩] ∧ t.mem = s.mem) ∧
    (d.st ≠ 0 → d.run = none → d.op ≠ 2 → ∃ t, exec .sdRemoval s = .next t ∧ t.crd.st = 0 ∧ t.crd.present = false ∧
      t.crd.hdrs = [] ∧ (d.present → bit (t.hdr Blk.CRD 0).evt 3) ∧ t.crd.log = d.log ∧ t.mem = s.mem) ∧
    (d.st = 4 → d.run = none → d.resolving = false → d.op ≠ 2 → s.fld R.CRD_SD_CFG 15 0 ≠ 0 →
      ∃ t, exec .sdIdle s = .next t ∧ t.crd = { d with st := 3 } ∧ (∀ x ∈ t.leaveHeld, x.what ≠ .sd) ∧ t.mem = s.mem) ∧
    (s.writable rq Blk.CRD 0 R.CRD_CUST_CMD → bit (s.reg R.CRD_CUST_STAT) 31 = false →
      (s.genBar = none → ∃ t g, exec (.writeGen rq) s = .next t ∧ t.crd.run = some g ∧ g.gen = next ∧ g.stage = .start ∧
        (∀ h, s.curGen = some h → g.area = 1 - h.1) ∧
        t.crd.jq = d.jq ++ [{ typ := 3, seq := 0, card := d.card, gen := next, area := g.area }] ∧ t.slots = s.slots ∧
        t.mem = s.mem) ∧
      (∀ e, s.genBar = some e → ∃ t, exec (.writeGen rq) s = .next t ∧ t.reg R.CRD_CUST_STAT = stat e.1 e.2 ∧
        t.crd = { d with op := 0 } ∧ t.mem = s.mem) ∧
      (s.mode = .service → d.st = 4 → d.tooSmall = false → ∃ t, exec (.verify rq) s = .next t ∧ t.crd.op = 0 ∧
        t.reg R.CRD_CUST_STAT = (if Config.free s.fresh % 3 = 0 then stat St.OK 0
          else if Config.free s.fresh % 3 = 1 then stat St.AUTH_FAIL 0x01B8 else stat St.ENGINE_UNAVAILABLE 0x01B2) ∧
        t.mem = s.mem) ∧
      (s.mode = .service → ∃ t, exec (.discardJournal rq) s = .next t ∧
        t.crd.jq = d.jq ++ [{ typ := 6, seq := 0, card := d.card, gen := 0 }] ∧ t.crd.op = 3 ∧ t.mem = s.mem) ∧
      (s.mode ≠ .service → ∃ t, exec (.discardJournal rq) s = .next t ∧
        t.reg R.CRD_CUST_STAT = stat St.MODE_DENIED 1 ∧ t.crd = { d with op := 0 } ∧ t.mem = s.mem)) ∧
    (d.jq = r :: l → d.jprog → r.seq = 0 → r.typ = 2 → d.run = none → ∃ t, exec (.journalRecordDurable wp) s = .next t ∧
      t.crd.log = d.log.filter (fun x => x.seq != q) ++ [done] ∧ t.crd.jpage = d.jpage + 1 ∧ t.crd.jprog = false ∧
      t.mem = (s.setBytes (0x09F00000 + d.jpage % 2048 * 256) done.bytes).mem) ∧
    (d.jq = r :: l → d.op = 3 → r.typ = 6 → ∃ t, exec .journalTimeout s = .next t ∧ t.crd.jq = l ∧
      t.reg R.CRD_CUST_STAT = stat St.ENGINE_UNAVAILABLE 0x01B5 ∧ t.crd.op = 0 ∧ t.crd.log = d.log ∧ t.mem = s.mem) ∧
    (d.run = some g → g.stage = .writing → d.st = 4 →
      (∃ t n, exec (.cardWriteDone 0) s = .next t ∧ t.crd.run = some { g with stage := .closing } ∧
        t.crd.jq = d.jq ++ [{ typ := 2, seq := 0, card := d.card, gen := g.gen, ref := n }] ∧ t.mem = s.mem) ∧
      (d.op = 1 → ∃ t, exec (.cardWriteDone 2) s = .next t ∧ t.crd.run = none ∧ t.crd.op = 0 ∧
        t.reg R.CRD_CUST_STAT = stat St.ENGINE_UNAVAILABLE 0x01B2 ∧ t.mem = s.mem) ∧
      (d.op = 1 → ∃ t, exec .cardBusyTimeout s = .next t ∧ t.crd.run = none ∧ t.crd.op = 0 ∧
        t.reg R.CRD_CUST_STAT = stat St.ENGINE_UNAVAILABLE 0x01B2 ∧ t.mem = s.mem)) ∧
    (d.resolving → d.st = 4 → s.mode ≠ .lockdown → s.kst.kcust.isSome → jPending d.log = [r] → jOpenGen d.log = none →
      (∃ t, exec (.journalResolution wp [0]) s = .next t ∧ t.crd.resolving = false ∧
        t.crd.jq = d.jq ++ [{ typ := 2, seq := 0, card := r.card, gen := r.gen, ref := r.seq }] ∧ t.mem = s.mem) ∧
      (d.jq = [] → ∃ t m, exec (.journalResolution wp [2]) s = .next t ∧ t.crd.resolving = false ∧
        t.crd.jq = [{ typ := 5, seq := 0, card := r.card, gen := r.gen }] ∧ m ∈ t.inbox ∧
        m.kind = Kind.CARD_JOURNAL ∧ m.blk = Blk.CRD ∧ t.mem = s.mem)) ∧
    (c.st ≤ 1 → s.fieldPower = false → s.clk.waiting = false → s.dbg.pins = false → s.cerCards = false →
      exec (.ccPresent i) s = .next ((s.setCslot i { st := 2 }).event Blk.CRD 0 6)) ∧
    (c.st ≠ 0 → s.cerCards = false → ∃ t, exec (.ccRemoved i) s = .next t ∧ t.cslot i = {} ∧
      bit (t.hdr Blk.CRD 0).evt 7 ∧ t.kst = s.kst ∧ t.mem = s.mem) ∧
    (c.st = 3 → c.klass = 1 → c.nopps = false → taOk ta.toNat → exec (.ccAtr i true true true ta false true) s =
      .next (s.setCslot i { c with
        st := 4, proto := 2, fd := ta.toNat, clk := if ta.toNat / 16 = 0 then 40 else 50 })) ∧
    (c.st = 3 → c.klass = 2 → bit (s.reg R.CRD_CC_CFG) 2 → ∃ t, exec (.ccAtrTimeout i true) s = .next t ∧
      t.cslot i = { st := 2, used := c.used, again := true } ∧ t.kst = s.kst ∧ t.mem = s.mem) ∧
    (c.st = 2 → c.again → s.cerCards → 25 ≤ s.budget - s.variant.standing → exec (.ccClassaRetry i) s =
      .next { (s.setCslot i { c with again := false, clsA := true }) with
        leavePend := s.leavePend ++ [⟨Blk.CRD, 0, 25, .cc i, false⟩] }) ∧
    (c.st = 3 ∨ c.st = 4 → ∃ t, exec (.ccOvercurrent i) s = .next t ∧ t.cslot i = { st := 6, used := true } ∧
      (s.cerCards → t.kst.cer.last = 1) ∧ (∀ x ∈ t.leaveHeld, x.what ≠ .cc i) ∧ t.mem = s.mem)

/-! ### Flask and the backup domain -/

/-- R393-R402, R405, R407. A source whose cause a check newly finds raises its flag and counts, and its response is taken: a record,
Lockdown 1, or the quench with the backup key; on the cell alone only the backup key goes and the rest is left pending. A
flag is cleared by SUPERVISOR in Service when the count matches. The RTC is set forward only and measured in Service. A
mirror entry stands at its place; the loss of the cell resets the backup domain. RTC readings are free. -/
def Obligations.FlaskAlarmsRtcAndMirror : Prop :=
  ∀ (s : State) (rq : Rq) (i : Fin 14) (k : Nat) (v : Word) (err : BitVec 16) (e : MirE) (q : List MirE),
    let f := s.flk
    let b : BitVec 14 := BitVec.ofNat 14 (2 ^ i.val)
    let now := (s.rtc + Config.free s.fresh) % 2 ^ 48
    let per := max 1 (s.fld R.FLK_CFG 10 0)
    let new := s.flkEnabled i ∧ f.live / 2 ^ i.val % 2 = 0
    let raised := fun (t : State) => t.flags = setBit s.flags i ∧ t.flkCount i = satSucc 255 (s.flkCount i) ∧
      (∀ m : Nat, m ≠ i → t.flkCount m = s.flkCount m)
    let alarm := fun (x : Instr) => new →
      (s.flkTaken i ≤ 1 → ∃ t, exec x s = .next t ∧ raised t ∧ t.mode = s.mode ∧ t.slots = s.slots ∧ t.jobs = s.jobs ∧
        bit (t.hdr Blk.FLK 0).evt 2 ∧ t.mem = s.mem ∧
        (s.flkTaken i = 1 → Tbl.get (fun _ => 0) f.sent i = 0 → ∃ m ∈ t.inbox, m.kind = Kind.TAMPER ∧ m.sev = 2)) ∧
      (s.flkTaken i = 2 → s.mode ≠ .lockdown → s.clk.waiting = false → ∃ t, exec x s = .next t ∧ raised t ∧
        t.mode = .lockdown ∧ t.sys.reason = 1 ∧ t.slots = [] ∧ t.flk.kbb = f.kbb) ∧
      (s.flkTaken i = 3 → s.mode ≠ .lockdown → s.clk.waiting = false → ∃ t, exec x s = .next t ∧ raised t ∧
        t.mode = .lockdown ∧ t.sys.reason = 1 ∧ t.slots = [] ∧ t.flk.kbb = none)
    (s.fieldPower = false →
      (i.val ≠ 6 → i.val ≠ 7 → i.val ≠ 8 → i.val ≠ 11 → alarm (.flaskSample b b none)) ∧
      (i.val = 6 ∨ i.val = 7 ∨ i.val = 8 ∨ i.val = 11 → alarm (.flaskContinuousTrip b 0)) ∧
      (∃ t, exec (.flaskSample b 0 none) s = .next t ∧ t.flags = s.flags ∧ t.mode = s.mode ∧ t.slots = s.slots ∧
        t.mem = s.mem ∧ t.jobs = s.jobs)) ∧
    (s.fieldPower → i.val ≠ 6 → i.val ≠ 7 → i.val ≠ 8 → new → ∃ t, exec (.flaskWindow k b 0) s = .next t ∧ raised t ∧
      t.rtc = (s.rtc / per + 1 + k) * per % 2 ^ 48 ∧ t.flk.pend = setBit f.pend i ∧ t.mode = s.mode ∧ t.mem = s.mem ∧
      t.flk.kbb = (if s.flkTaken i = 3 then none else f.kbb) ∧
      t.flk.pendLock = (f.pendLock || decide (2 ≤ s.flkTaken i))) ∧
    (s.writable rq Blk.FLK 0 R.FLK_CLR →
      (s.mode = .service → s.isSup rq → bits v 31 16 = 0x434C → bits v 4 0 = i.val →
        (s.flkCount i = bits v 15 8 → ∃ t, exec (.flagClear rq v) s = .next t ∧ t.flags = clearBit s.flags i ∧
          t.flkCount i = 0 ∧ t.flk.clrMiss = false ∧ t.mode = s.mode ∧ t.mem = s.mem ∧
          (f.mq.length < 16 → t.flk.mq = f.mq ++ [⟨now, i, State.mirEvent (s.flkResp i) 1 false true, 0⟩])) ∧
        (s.flkCount i ≠ bits v 15 8 → exec (.flagClear rq v) s =
          .next (({ s with flk := { f with clrMiss := true } }).event Blk.FLK 0 3))) ∧
      (s.mode ≠ .service ∨ s.isSup rq = false ∨ bits v 31 16 ≠ 0x434C ∨ 13 < bits v 4 0 →
        exec (.flagClear rq v) s = .next (s.refuse rq R.FLK_CLR Blk.FLK 0))) ∧
    (s.writable rq Blk.FLK 0 R.FLK_RTC_SET_HI → ∀ t, t = bits v 15 0 * 2 ^ 32 + f.setLo.toNat →
      (now ≤ t → exec (.rtcSet rq v) s = .next { s with fresh := s.fresh + 1, rtc := t, rtcValid := true }) ∧
      (t < now → exec (.rtcSet rq v) s = .next (s.refuse rq R.FLK_RTC_SET_HI Blk.FLK 0))) ∧
    (s.writable rq Blk.FLK 0 R.FLK_RTC_MEAS →
      (s.mode = .service → exec (.rtcMeasure rq) s =
        .next { (s.setReg R.FLK_RTC_MEAS 0) with flk := { f with meas := true } }) ∧
      (s.mode ≠ .service → exec (.rtcMeasure rq) s = .next s)) ∧
    (f.meas → ∃ t, exec (.rtcMeasureDone err) s = .next t ∧ t.flk = { f with meas := false } ∧
      t.reg R.FLK_RTC_MEAS = w32 (0x40000000 + err.toNat) ∧ bit (t.hdr Blk.FLK 0).evt 5 ∧ t.mem = s.mem) ∧
    (f.mq = e :: q → s.fieldPower = false → s.tag.commit = none → f.mpos % 64 ≠ 0 → exec .mirrorEntryWrite s =
      .next { (s.setBytes (State.mirAddr f.mpos) (mirBytes (f.mseq + 1) e)) with
        flk := { f with mq := q, mpos := f.mpos + 1, mseq := f.mseq + 1 } }) ∧
    (s.fieldPower → ∃ t, exec .vbatLoss s = .next t ∧ t.flk.kbb = none ∧ t.flags = 0x2000 ∧ t.rtc = 0 ∧
      t.rtcValid = false ∧ t.flkCount 13 = 1 ∧ t.reg R.FLK_RESP = regReset R.FLK_RESP ∧ t.mem = s.mem)

/-! ### Starts and modes -/

/-- R449-R459, R271, R497. Main power, RSTN and the keyed reset commands begin a Start, whose steps complete it; a warm Start keeps the
key store; one without a healthy pair ends in Lockdown 2. The loss of main power empties SRAM and keeps flash and the
backup key. SUPERVISOR enters Service from Start or Hold, asks Hold from Service, and enters Lockdown 3; any other request
is refused; Hold is entered when nothing is in flight. RELEASE starts the held SERVICE pair. -/
def Obligations.StartsModesAndPower : Prop :=
  ∀ (s : State) (rq : Rq) (x : Bool) (bad rows : List (Nat × Nat)) (recs : List (List Byte)) (r : StartReq) (p : Fin 3),
    let began := fun (t : State) (warm : Bool) (cause : Nat) =>
      t.mode = .start ∧ t.sys.start = some ⟨warm, cause, 0⟩ ∧ t.jobs = [] ∧ t.qps = [] ∧ t.ctxs = [] ∧ t.leaveHeld = []
    let ended := fun (i : Instr) => ∃ t, exec i s = .next t ∧ t.sys.start = none ∧ t.ris.evalDone ∧ t.vault.ready ∧
      (s.flk.decom = false → t.life = lifeOf s.lifeCount) ∧ t.reg R.SYS_SMS &&& 0x3EF = 0x3EF
    let refused := fun (i : Instr) => exec i s = .next (s.refuse rq R.SYS_MREQ Blk.SYS 0)
    let denied := fun (i : Instr) => exec i s = .next { s with sys := { s.sys with reqRefused := true } }
    (s.fieldPower → ∃ t, exec .mainPowerGood s = .next t ∧ began t false 1 ∧ t.slots = []) ∧
    (s.fieldPower = false → s.tag.commit = none → s.flashOn = [] → ∃ t, exec .mainPowerLost s = .next t ∧
      t.mode = (if s.tag.field then .field else .backup) ∧ t.jobs = [] ∧ t.slots = [] ∧ t.flk.kbb = s.flk.kbb ∧
      t.flags = s.flags ∧ ∀ a, t.byte a = if 0x10000000 ≤ a ∧ a < 0x10800000 then 0 else s.byte a) ∧
    (s.fieldPower = false → ∃ t, exec .rstn s = .next t ∧ began t false 2 ∧ t.slots = []) ∧
    (s.writable rq Blk.SYS 0 R.SYS_RST →
      (∃ t, exec (.cold rq) s = .next t ∧ began t false 3 ∧ t.slots = [] ∧ t.kst.kseal = none) ∧
      (s.mode ≠ .lockdown → s.coldPending = false → ∃ t, exec (.warm rq) s = .next t ∧ began t true 5 ∧
        (s.jobs = [] → s.fwJob = none → s.fwWait = none → t.slots = s.slots) ∧ t.kst.kseal = s.kst.kseal) ∧
      (s.mode = .lockdown → exec (.warm rq) s = .next (s.refuse rq R.SYS_RST Blk.SYS 0))) ∧
    (s.sys.start = some r → s.clk.waiting = false →
      (r.warm = false → ended (.coldStart x bad rows)) ∧ (r.warm → ended (.warmStart bad recs)) ∧
      (r.warm = false → s.mode ≠ .lockdown → (∀ u < 3, (2, u) ∈ bad) → ∃ t, exec (.coldStart x bad rows) s = .next t ∧ t.mode = .lockdown ∧
        t.sys.reason = 2)) ∧
    (s.writable rq Blk.SYS 0 R.SYS_MREQ →
      (s.isSup rq = false → refused (.service rq) ∧ refused (.hold rq) ∧ refused (.lockdown rq)) ∧
      (s.isSup rq → s.clk.waiting = false →
        (s.sys.holdPend = false → s.mode = .hold ∨ (s.mode = .start ∧ s.sys.start = none ∧ bit (s.reg R.SYS_SMS) 15 ∧
            (s.kst.unsealed ∨ s.life = .foundry ∨ s.life = .vendor ∨ s.life = .decommissioned)) →
          ∃ t, exec (.service rq) s = .next t ∧ t.mode = .service ∧ t.sys.reqRefused = false ∧
            bit (t.hdr Blk.SYS 0).evt 2 ∧ t.slots = s.slots ∧ t.jobs = s.jobs ∧ t.mem = s.mem) ∧
        (s.mode = .service ∨ s.mode = .lockdown → denied (.service rq)) ∧
        (s.mode = .service → ∃ t, exec (.hold rq) s = .next t ∧ t.sys.holdPend ∧ t.mode = .service ∧
          t.vault.logWs = [] ∧ t.jobs = s.jobs ∧ t.slots = s.slots ∧ t.mem = s.mem) ∧
        (s.mode ≠ .service → denied (.hold rq)) ∧
        (s.mode = .start ∨ s.mode = .service ∨ s.mode = .hold → ∃ t, exec (.lockdown rq) s = .next t ∧
          t.mode = .lockdown ∧ t.sys.reason = 3 ∧ t.slots = [] ∧ t.kst.kseal = none ∧ t.flk.kbb = s.flk.kbb ∧
          bit (t.hdr Blk.SYS 0).evt 2) ∧
        (s.mode = .lockdown → denied (.lockdown rq)))) ∧
    (s.sys.holdPend → s.mode = .service → s.holdReady → ∃ t, exec .holdComplete s = .next t ∧ t.mode = .hold ∧
      t.sys.holdPend = false ∧ bit (t.hdr Blk.SYS 0).evt 2 ∧ t.slots = s.slots ∧ t.mem = s.mem ∧
      (∀ n < 9, (t.lane n).leave = false)) ∧
    (s.writable rq Blk.SYS 0 R.SYS_PAIR →
      (s.isSup rq → s.mode ≠ .lockdown → ∃ t, exec (.servicePairRelease rq) s = .next t ∧ t.sys.released ∧
        ((s.pair p).role = 2 → (s.pair p).run = .held → (s.pair p).fenced = false → (t.pair p).run = .running ∧
          (t.pair p).role = 2) ∧
        ((s.pair p).role ≠ 2 → t.pair p = s.pair p) ∧ t.mem = s.mem) ∧
      (s.isSup rq = false → rq ≠ .debug →
        exec (.servicePairRelease rq) s = .next (s.refuse rq R.SYS_PAIR Blk.SYS 0)))

/-! ### Clocks and leave -/

/-- R437-R448. A window that passes counts, one that fails restarts the count; the crystal is judged once the method's count is
reached, and every running domain then ramps down and up again, a step at a time. A failed source makes Esnan wait in a
safe state with its record; its return begins a Start. The head of the leave queue is granted whole when it fits; a long
wait is counted once; a budget outside its range is a violation. -/
def Obligations.ClocksFailAndReturnAndLeaveIsGranted : Prop :=
  ∀ (s : State) (rq : Rq) (edges : Fin 1024) (k : Fin 4) (c i : Nat) (w : Fin 65536) (v : Word) (l : Leave) (q : List Leave),
    let d := s.pdom k
    let pass := windowPass edges (s.fld R.CLK_XTOL 15 0)
    let lock := if s.clk.before = .lockdown then s.sys.reason else (s.sys.start.map (·.lock)).getD 0
    (s.fieldPower = false → s.clk.judged = false → exec (.xtalWindow edges) s =
      .next { ((s.setFld R.CLK_XCNT 25 16 edges).setFld R.CLK_XCNT 7 0
        (if pass then satSucc 255 (s.fld R.CLK_XCNT 7 0) else 0)) with
          clk := { s.clk with judgeAt := s.clk.judgeAt + 1 } }) ∧
    (s.fieldPower = false → s.clk.judged = false → s.xReached → exec .xtalJudged s =
      .next (({ s with clk := { s.clk with judged := true } }).event Blk.CLK 0 2)) ∧
    (s.clk.judged → s.clk.refX = false → s.ris.evalDone → s.clk.waiting = false → s.fieldPower = false →
      s.ramping = false → ∃ t, exec .pllReferenceChange s = .next t ∧ t.mem = s.mem ∧ t.regs = s.regs ∧
        t.pdom k = if d.div = 0xFF then d else { d with aim := 2 }) ∧
    (d.aim = 1 → 2 < d.div → exec (.rampStep k) s = .next (s.setPdom k { d with div := d.div - 1 })) ∧
    (d.aim = 1 → d.div = 2 ∨ d.div = 1 → ∃ t, exec (.rampStep k) s = .next t ∧ t.pdom k = { div := 1, aim := 0 } ∧
      bit (t.hdr Blk.CLK 0).evt 3 ∧ t.mem = s.mem) ∧
    (2 ≤ d.aim → d.div ≠ 0 → d.div < dZero k → exec (.rampStep k) s = .next (s.setPdom k { d with div := d.div + 1 })) ∧
    (s.canFail c → c < 20 → s.clk.waiting = false → ∃ t m, exec (.clockLoss [c]) s = .next t ∧ t.clk.waiting ∧
      t.clk.before = s.mode ∧ t.mode = .start ∧ t.jobs = [] ∧ t.leaveHeld = [] ∧ m ∈ t.inbox ∧
      m.kind = Kind.CLOCK_LOSS ∧ m.blk = Blk.CLK ∧ m.addr % 256 = c ∧ (∀ u : Fin 3, (t.pair u).run ≠ .running) ∧
      t.vslots = s.vslots) ∧
    (s.clk.waiting → s.othersBack → s.coldPending = false →
      (∃ t, exec .sourceReturn s = .next t ∧ t.clk.waiting = false ∧ t.mode = .start ∧
        t.sys.start = some ⟨true, 4, lock⟩ ∧ t.kst.kseal = s.kst.kseal) ∧
      (s.clkFailed / 256 ≠ 0 → ∃ t, exec .hrefclkReturnTimeout s = .next t ∧ t.clk.waiting = false ∧
        t.sys.start = some ⟨true, 4, lock⟩ ∧ t.clk.hrefOff = s.clk.hrefOff ||| (s.clkFailed / 256 % 16))) ∧
    (s.clk.waiting = false → s.fieldPower = false → (s.hdr Blk.CLK 0).en → s.leavePend = l :: q →
      (s.variant.standing + s.leaveGranted + l.tok ≤ s.budget → l.what = .cru k → (s.unit k).st = .leave →
        s.flashOn = [] → exec .leaveGrant s = .next (({ s with
          leavePend := q, leaveHeld := s.leaveHeld ++ [l] }).modUnit k (fun u => { u with st := .busy }))) ∧
      (s.budget < s.variant.standing + s.leaveGranted + l.tok → exec .leaveGrant s = .next s)) ∧
    (s.leavePend[i]? = some l → l.waited = false → ∃ t, exec (.leaveWait i w) s = .next t ∧
      t.leavePend = s.leavePend.set i { l with waited := true } ∧ bit (t.hdr Blk.CLK 0).evt 4 ∧ t.mem = s.mem ∧
      t.fld R.PWR_WAITS 31 16 = max (s.fld R.PWR_WAITS 31 16) w) ∧
    (s.writable rq Blk.CLK 0 R.PWR_BUDGET →
      (s.variant.standing ≤ bits v 9 0 → bits v 9 0 ≤ 950 → s.vault.refused = false →
        (∀ x ∈ s.leavePend, x.tok ≤ bits v 9 0 - s.variant.standing) →
        exec (.pwrBudget rq v) s = .next (s.setReg R.PWR_BUDGET (w32 (bits v 9 0)))) ∧
      (bits v 9 0 < s.variant.standing ∨ 950 < bits v 9 0 →
        exec (.pwrBudget rq v) s = .next (s.refuse rq R.PWR_BUDGET Blk.CLK 0)))

/-! ### Debug -/

/-- R465-R469, R472-R477. A DBGACC scan within the ticket's reach reads or writes, any other is refused with a sticky error that OP 3
clears. A ticket that passes checks 1 to 6 has its signature verified and is then in force; any other is refused; CLOSE and
the timer end it. DBG_TCTR only rises. The debug master halts, steps and resumes pairs in scope and reaches a halted
pair's registers; injection is refused outside FOUNDRY_OPEN and Service. EXTEST, CLAMP and HIGHZ take the pins, in Lockdown
outside FOUNDRY; the boundary register takes the cells. -/
def Obligations.DebugAccessTicketsPairsAndScan : Prop :=
  ∀ (s : State) (rq : Rq) (a v : Word) (p : Fin 3) (m n : Fin 16) (code : Fin 16) (cells : BitVec 46) (len : Fin 2048)
    (t0 : List Byte),
    let g := s.dbg
    let x := a.toNat
    let scanned := fun (t : State) (d : Word) (k : Nat) => t.dbg = { g with addr := a, data := d, ack := k }
    let now := (s.rtc + Config.free s.fresh) % 2 ^ 48
    let q := p.castLE (by decide : 3 ≤ 4)
    let sel := s.fld R.DBG_CREG_SEL 9 8 = p.val ∧ s.fld R.DBG_CREG_SEL 5 0 = n.val ∧ (s.pair p).run = .debugHalt
    let pins := fun (i : Instr) (k : Nat) => (s.life = .foundry → g.pins → exec i s =
        .next { s with dbg := { g with ir := k } }) ∧
      (s.life ≠ .foundry → s.clk.waiting = false → s.mode ≠ .lockdown → ∃ t, exec i s = .next t ∧ t.dbg.ir = k ∧
        t.dbg.pins ∧ t.mode = .lockdown ∧ t.sys.reason = 5 ∧ bit (t.hdr Blk.DBG 0).evt 5)
    let frees := fun (i : Instr) (k : Nat) => exec i s = .next { s with dbg := { g with ir := k, pins := false } }
    (s.fieldPower = false → g.ir = 8 → s.dbgErr = false → x % 4 = 0 → area x = .sram → s.waits x = false →
      s.unreadable x = none →
      (s.debugReach x false = none → ∃ t, exec (.dbgaccRead a) s = .next t ∧
        scanned t (w32 (fromLe (s.bytes x 4))) 0 ∧ t.mem = s.mem) ∧
      (s.debugReach x true = none → ∃ t, exec (.dbgaccWrite a v) s = .next t ∧ scanned t 0 0 ∧
        t.mem = (s.setBytes x (leBytes 4 v.toNat)).mem)) ∧
    (s.fieldPower = false → g.ir = 8 → s.dbgErr = false → x % 4 = 0 → ∀ kind, s.debugReach x false = some kind →
      ∃ t e, exec (.dbgaccRead a) s = .next t ∧ scanned t 0 2 ∧ t.dbgErr ∧ e ∈ t.inbox ∧ e.kind = kind ∧ t.mem = s.mem) ∧
    (s.fieldPower = false → g.ir = 8 → exec .dbgaccClearError s =
      .next { s with dbgErr := false, dbg := { g with ack := 0 } }) ∧
    (s.writable .debug Blk.DBG 0 R.DBG_TKT_CMD → g.verify = none →
      (s.ticketFails (s.ticketBuf len) len now = none → s.fwJob = none → ∃ t j, exec (.ticketGo .debug len) s = .next t ∧
        t.dbg = { g with verify := some (s.ticketBuf len), verdict := none } ∧ t.fwJob = some j ∧ j.op = 0x21 ∧
        t.reg R.DBG_TKT_STAT = 0x80000000 ∧ t.mem = s.mem) ∧
      (∀ r, s.ticketFails (s.ticketBuf len) len now = some r → ∃ t e, exec (.ticketGo .debug len) s = .next t ∧
        t.reg R.DBG_TKT_STAT = w32 (0x40000000 + r) ∧ t.dbg.st = g.st ∧ e ∈ t.inbox ∧ e.kind = Kind.DEBUG_DENIED ∧
        t.mem = s.mem)) ∧
    (g.verify = some t0 →
      (g.verdict = some true → (s.reg R.DBG_TCTR).toNat < leAt t0 16 4 → g.st = 0 → ∃ t e,
        exec .ticketVerifyDone s = .next t ∧
        t.dbg = { g with st := 1, scope := leAt t0 28 4 % 64, minutes := leAt t0 26 2, verify := none, verdict := none } ∧
        t.reg R.DBG_TCTR = w32 (leAt t0 16 4) ∧ e ∈ t.inbox ∧ e.kind = Kind.CEREMONY ∧ t.mem = s.mem) ∧
      (g.verdict = some false → ∃ t, exec .ticketVerifyDone s = .next t ∧ t.reg R.DBG_TKT_STAT = 0x40000006 ∧
        t.dbg.st = g.st ∧ t.dbg.verify = none ∧ t.mem = s.mem)) ∧
    (g.st = 1 → (∃ t, exec .ticketTimerExpiry s = .next t ∧ t.dbg = { g with st := 0, scope := 0, minutes := 0 } ∧
        ((s.pair p).run = .debugHalt → (t.pair p).run = .running) ∧ bit (t.hdr Blk.DBG 0).evt 3 ∧ t.mem = s.mem) ∧
      (s.writable rq Blk.DBG 0 R.DBG_TKT_CMD → rq = .debug ∨ s.isSup rq → ∃ t, exec (.ticketClose rq) s = .next t ∧
        t.dbg = { g with st := 0, scope := 0, minutes := 0 } ∧ bit (t.hdr Blk.DBG 0).evt 3 ∧ t.mem = s.mem)) ∧
    (s.writable rq Blk.DBG 0 R.DBG_TCTR →
      (s.isSup rq → (s.reg R.DBG_TCTR).toNat ≤ v.toNat → exec (.tctrWrite rq v) s =
        .next { (s.setReg R.DBG_TCTR v) with dbg := { g with loaded := true } }) ∧
      (s.isSup rq = false ∨ v.toNat < (s.reg R.DBG_TCTR).toNat →
        exec (.tctrWrite rq v) s = .next (s.refuse rq R.DBG_TCTR Blk.DBG 0))) ∧
    (s.writable .debug Blk.DBG 0 R.DBG_PAIRCTL → s.pairInScope p →
      (s.pairRuns p → exec (.halt .debug q) s =
        .next (s.modPair p (fun k => { k with run := .debugHalt, stepOne := false }))) ∧
      ((s.pair p).run = .debugHalt →
        exec (.step .debug q) s = .next (s.modPair p (fun k => { k with run := .running, stepOne := true })) ∧
        exec (.resume .debug q) s = .next (s.modPair p (fun k => { k with run := .running, stepOne := false })))) ∧
    (s.writable .debug Blk.DBG 0 R.DBG_PAIRCTL → s.pairInScope p = false →
      exec (.halt .debug q) s = .next (s.refuse .debug R.DBG_PAIRCTL Blk.DBG 0)) ∧
    (sel → s.writable .debug Blk.DBG 0 R.DBG_CREG_DATA → exec (.cregAccess .debug (some v)) s =
      .next (s.modPair p (fun k => { k with g := Tbl.set (fun _ => 0) k.g n v }))) ∧
    (sel → s.dbgErr = false → s.barred .debug R.DBG_CREG_DATA false = none → (s.hdr Blk.DBG 0).srstBusy = false →
      exec (.cregAccess .debug none) s = .next s) ∧
    (s.writable .debug Blk.DBG 0 R.DBG_INJ_CMD → g.injOn = false →
      (g.st ≠ 2 ∨ s.mode ≠ .service → ∃ t, exec (.identityInjection .debug m n) s = .next t ∧
        t.reg R.DBG_INJ_STAT = w32 (0x40000001 + g.injStep * 0x10000) ∧ t.life = s.life ∧ t.mem = s.mem) ∧
      (g.st = 2 → s.mode = .service → s.injReady m n → s.otpTorn 0x1000 = false → s.otpTorn 0x1020 = false →
        s.otpBlank 0x140 8 → ∃ t, exec (.identityInjection .debug m n) s = .next t ∧ t.dbg.injOn ∧ t.dbg.injStep = 4 ∧
          t.kst.cer.st = 1 ∧ t.kst.cer.kind = 0 ∧ t.kst.cer.m = m ∧ t.kst.cer.n = n ∧
          (s.otpBlank 0x1000 32 = false → t.bytes 0x0C801000 32 = s.bytes 0x0C801000 32))) ∧
    (s.fieldPower = false →
      pins .extest 0 ∧ pins .clamp 3 ∧ pins .highz 4 ∧ frees .idcode 1 ∧ frees .samplePreload 2 ∧ frees .dbgacc 8 ∧
      frees .tapReset 1 ∧ (code.val = 15 ∨ code.val = 9 → frees (.bypass code) 15) ∧
      (g.ir = 0 ∨ g.ir = 2 ∨ g.ir = 3 → exec (.boundaryUpdate cells) s =
        .next { s with dbg := { g with bnd := cells.toNat } }))
end

