-- ==== Sys2Proof/Laws/Tbl.lean ====
section
/-! SUPPORT. Sparse tables: a read after a write, and the canonical form that every write keeps. -/

namespace Sys2Proof.Machine

variable {α : Type}

/-- A deleted key holds its default. -/
theorem Tbl.get_del_self (d : Nat → α) (t : Tbl α) (k : Nat) : Tbl.get d (Tbl.del t k) k = d k := by
  induction t with
  | nil => rfl
  | cons e t ih =>
    obtain ⟨j, v⟩ := e
    by_cases h : j = k <;> simp [Tbl.del, Tbl.get, h, ih]

/-- Deleting one key leaves every other. -/
theorem Tbl.get_del_ne (d : Nat → α) (t : Tbl α) {k j : Nat} (h : j ≠ k) :
    Tbl.get d (Tbl.del t k) j = Tbl.get d t j := by
  induction t with
  | nil => rfl
  | cons e t ih =>
    obtain ⟨i, v⟩ := e
    by_cases hi : i = k
    · have : i ≠ j := by omega
      simp [Tbl.del, Tbl.get, hi, ih]
      omega
    · by_cases hj : i = j
      · simp [Tbl.del, Tbl.get, hj]
        simp [← hj, hi, Tbl.get]
      · simp [Tbl.del, Tbl.get, hi, hj, ih]

/-- The inserted key holds its value. -/
theorem Tbl.get_ins_self (d : Nat → α) (t : Tbl α) (k : Nat) (v : α) (h : Tbl.get d t k = d k ∧ ∀ e ∈ t, e.1 ≠ k) :
    Tbl.get d (Tbl.ins t k v) k = v := by
  induction t with
  | nil => simp [Tbl.ins, Tbl.get]
  | cons e t ih =>
    obtain ⟨i, u⟩ := e
    have hi : i ≠ k := h.2 (i, u) (by simp)
    have ht : Tbl.get d t k = d k := by simpa [Tbl.get, hi] using h.1
    unfold Tbl.ins
    split
    · simp [Tbl.get]
    · simp [Tbl.get, hi]
      exact ih ⟨ht, fun e he => h.2 e (by simp [he])⟩

/-- An insertion leaves every other key. -/
theorem Tbl.get_ins_ne (d : Nat → α) (t : Tbl α) {k j : Nat} (v : α) (h : j ≠ k) :
    Tbl.get d (Tbl.ins t k v) j = Tbl.get d t j := by
  have h' : k ≠ j := fun e => h e.symm
  induction t with
  | nil => simp [Tbl.ins, Tbl.get, h']
  | cons e t ih =>
    obtain ⟨i, u⟩ := e
    unfold Tbl.ins
    split
    · simp [Tbl.get, h']
    · simp [Tbl.get, ih]

/-- No entry of a table keeps a deleted key. -/
theorem Tbl.mem_del_ne (t : Tbl α) (k : Nat) : ∀ e ∈ Tbl.del t k, e.1 ≠ k := by
  induction t with
  | nil => simp [Tbl.del]
  | cons e t ih =>
    obtain ⟨j, v⟩ := e
    by_cases h : j = k
    · simpa [Tbl.del, h] using ih
    · intro e he
      simp only [Tbl.del, h, if_false, List.mem_cons] at he
      rcases he with rfl | he
      · exact h
      · exact ih e he

variable [DecidableEq α]

/-- A read of the key just written gives the value written. -/
@[simp] theorem Tbl.get_set_self (d : Nat → α) (t : Tbl α) (k : Nat) (v : α) :
    Tbl.get d (Tbl.set d t k v) k = v := by
  unfold Tbl.set
  split
  · rename_i h
    rw [Tbl.get_del_self, h]
  · exact Tbl.get_ins_self d _ k v ⟨Tbl.get_del_self d t k, Tbl.mem_del_ne t k⟩

/-- A write leaves every other key. -/
theorem Tbl.get_set_ne (d : Nat → α) (t : Tbl α) {k j : Nat} (v : α) (h : j ≠ k) :
    Tbl.get d (Tbl.set d t k v) j = Tbl.get d t j := by
  unfold Tbl.set
  split
  · exact Tbl.get_del_ne d t h
  · rw [Tbl.get_ins_ne d _ v h, Tbl.get_del_ne d t h]

omit [DecidableEq α] in
/-- Deleting a key that is not listed changes nothing. -/
theorem Tbl.del_of_ne (t : Tbl α) (k : Nat) (h : ∀ e ∈ t, e.1 ≠ k) : Tbl.del t k = t := by
  induction t with
  | nil => rfl
  | cons e t ih =>
    obtain ⟨j, v⟩ := e
    have hj : j ≠ k := h (j, v) (by simp)
    simp [Tbl.del, hj, ih (fun e he => h e (by simp [he]))]

omit [DecidableEq α] in
/-- Deleting an inserted key gives back the table. -/
theorem Tbl.del_ins (t : Tbl α) (k : Nat) (v : α) (h : ∀ e ∈ t, e.1 ≠ k) : Tbl.del (Tbl.ins t k v) k = t := by
  induction t with
  | nil => simp [Tbl.ins, Tbl.del]
  | cons e t ih =>
    obtain ⟨j, u⟩ := e
    have hj : j ≠ k := h (j, u) (by simp)
    have ht : ∀ e ∈ t, e.1 ≠ k := fun e he => h e (by simp [he])
    unfold Tbl.ins
    split
    · simp [Tbl.del, hj, Tbl.del_of_ne t k ht]
    · simp [Tbl.del, hj, ih ht]

/-- The second of two writes of one key is the one that counts. -/
@[simp] theorem Tbl.set_set (d : Nat → α) (t : Tbl α) (k : Nat) (u v : α) :
    Tbl.set d (Tbl.set d t k u) k v = Tbl.set d t k v := by
  have hd : Tbl.del (Tbl.set d t k u) k = Tbl.del t k := by
    unfold Tbl.set
    split
    · exact Tbl.del_of_ne _ k (Tbl.mem_del_ne t k)
    · exact Tbl.del_ins _ k u (Tbl.mem_del_ne t k)
  unfold Tbl.set at hd ⊢
  rw [hd]

omit [DecidableEq α] in
/-- Every key of a table stays above a bound when a key is deleted. -/
theorem Tbl.above_del (m : Nat) (t : Tbl α) (k : Nat) (h : Tbl.above m t = true) : Tbl.above m (Tbl.del t k) = true := by
  induction t with
  | nil => rfl
  | cons e t ih =>
    obtain ⟨j, v⟩ := e
    simp only [Tbl.above, List.all_cons, Bool.and_eq_true] at h ih ⊢
    by_cases hj : j = k
    · simpa [Tbl.del, hj] using ih h.2
    · simpa [Tbl.del, hj] using ⟨by simpa using h.1, by simpa using ih h.2⟩

/-- A deletion keeps the canonical form. -/
theorem Tbl.wf_del (d : Nat → α) (t : Tbl α) (k : Nat) (h : Tbl.wf d t = true) : Tbl.wf d (Tbl.del t k) = true := by
  induction t with
  | nil => rfl
  | cons e t ih =>
    obtain ⟨j, v⟩ := e
    simp only [Tbl.wf, Bool.and_eq_true] at h
    by_cases hj : j = k
    · simpa [Tbl.del, hj] using ih h.2
    · simp only [Tbl.del, hj, if_false, Tbl.wf, Bool.and_eq_true]
      exact ⟨⟨Tbl.above_del j t k h.1.1, h.1.2⟩, ih h.2⟩

omit [DecidableEq α] in
/-- A bound below the inserted key still holds after the insertion. -/
theorem Tbl.above_ins (m : Nat) (t : Tbl α) (k : Nat) (v : α) (hm : m < k) (h : Tbl.above m t = true) :
    Tbl.above m (Tbl.ins t k v) = true := by
  induction t with
  | nil => simp [Tbl.ins, Tbl.above, hm]
  | cons e t ih =>
    obtain ⟨j, u⟩ := e
    have h' : m < j ∧ Tbl.above m t = true := by simpa [Tbl.above] using h
    unfold Tbl.ins
    split
    · simpa [Tbl.above, hm] using h'
    · simpa [Tbl.above] using ⟨h'.1, by simpa [Tbl.above] using ih h'.2⟩

omit [DecidableEq α] in
/-- A lower bound of a bound is a bound. -/
theorem Tbl.above_mono {m n : Nat} (t : Tbl α) (hm : m < n) (h : Tbl.above n t = true) : Tbl.above m t = true := by
  simp only [Tbl.above, List.all_eq_true, decide_eq_true_eq] at h ⊢
  exact fun e he => Nat.lt_trans hm (h e he)

/-- An insertion of a value that is no default keeps the canonical form. -/
theorem Tbl.wf_ins (d : Nat → α) (t : Tbl α) (k : Nat) (v : α) (hv : v ≠ d k) (hk : ∀ e ∈ t, e.1 ≠ k)
    (h : Tbl.wf d t = true) : Tbl.wf d (Tbl.ins t k v) = true := by
  induction t with
  | nil => simp [Tbl.ins, Tbl.wf, Tbl.above, hv]
  | cons e t ih =>
    obtain ⟨j, u⟩ := e
    have hj : j ≠ k := hk (j, u) (by simp)
    have h' : (Tbl.above j t = true ∧ u ≠ d j) ∧ Tbl.wf d t = true := by simpa [Tbl.wf] using h
    unfold Tbl.ins
    split
    · rename_i hlt
      have ha : Tbl.above k ((j, u) :: t) = true := by
        simpa [Tbl.above] using ⟨hlt, by simpa [Tbl.above] using Tbl.above_mono t hlt h'.1.1⟩
      simp only [Tbl.wf, Bool.and_eq_true, decide_eq_true_eq]
      exact ⟨⟨ha, hv⟩, ⟨h'.1, h'.2⟩⟩
    · have hlt : j < k := by omega
      simp only [Tbl.wf, Bool.and_eq_true, decide_eq_true_eq]
      exact ⟨⟨Tbl.above_ins j t k v hlt h'.1.1, h'.1.2⟩, ih (fun e he => hk e (by simp [he])) h'.2⟩

/-- A write keeps the canonical form. -/
theorem Tbl.wf_set (d : Nat → α) (t : Tbl α) (k : Nat) (v : α) (h : Tbl.wf d t = true) :
    Tbl.wf d (Tbl.set d t k v) = true := by
  unfold Tbl.set
  split
  · exact Tbl.wf_del d t k h
  · rename_i hv
    exact Tbl.wf_ins d _ k v hv (Tbl.mem_del_ne t k) (Tbl.wf_del d t k h)

/-- Dropping entries keeps the canonical form. -/
theorem Tbl.wf_clear (d : Nat → α) (p : Nat → Bool) (t : Tbl α) (h : Tbl.wf d t = true) :
    Tbl.wf d (Tbl.clear p t) = true := by
  induction t with
  | nil => rfl
  | cons e t ih =>
    obtain ⟨j, v⟩ := e
    have h' : (Tbl.above j t = true ∧ v ≠ d j) ∧ Tbl.wf d t = true := by simpa [Tbl.wf] using h
    unfold Tbl.clear at ih ⊢
    by_cases hp : p j = true
    · simpa [hp] using ih h'.2
    · simp only [List.filter_cons, hp, Bool.not_false, if_true, Tbl.wf, Bool.and_eq_true, decide_eq_true_eq]
      refine ⟨⟨?_, h'.1.2⟩, ih h'.2⟩
      have ha := h'.1.1
      simp only [Tbl.above, List.all_eq_true, decide_eq_true_eq] at ha ⊢
      exact fun e he => ha e (List.mem_filter.mp he).1

omit [DecidableEq α] in
/-- A dropped key holds its default. -/
theorem Tbl.get_clear (d : Nat → α) (p : Nat → Bool) (t : Tbl α) (k : Nat) :
    Tbl.get d (Tbl.clear p t) k = if p k then d k else Tbl.get d t k := by
  induction t with
  | nil => simp [Tbl.clear, Tbl.get]
  | cons e t ih =>
    obtain ⟨j, v⟩ := e
    unfold Tbl.clear at ih ⊢
    by_cases hp : p j = true
    · by_cases hk : j = k
      · subst hk
        simpa [Tbl.get, hp] using ih
      · simpa [Tbl.get, hp, hk] using ih
    · by_cases hk : j = k
      · subst hk
        simp [Tbl.get, hp]
      · simpa [Tbl.get, hp, hk] using ih

end Sys2Proof.Machine
end

