-- ==== Sys2Proof/Laws/State.lean ====
section
/-! SUPPORT. What each update of one entry leaves alone: one lemma for each field of State and each of the updates the
meanings are made of, and what a read gives after it. -/

namespace Sys2Proof.Machine.State

variable (s : State)

/-! ### setReg -/

@[simp] theorem setReg_pending (a : Nat) (v : Word) : (s.setReg a v).pending = s.pending := rfl
@[simp] theorem setReg_fresh (a : Nat) (v : Word) : (s.setReg a v).fresh = s.fresh := rfl
@[simp] theorem setReg_variant (a : Nat) (v : Word) : (s.setReg a v).variant = s.variant := rfl
@[simp] theorem setReg_mode (a : Nat) (v : Word) : (s.setReg a v).mode = s.mode := rfl
@[simp] theorem setReg_life (a : Nat) (v : Word) : (s.setReg a v).life = s.life := rfl
@[simp] theorem setReg_mem (a : Nat) (v : Word) : (s.setReg a v).mem = s.mem := rfl
@[simp] theorem setReg_hdrs (a : Nat) (v : Word) : (s.setReg a v).hdrs = s.hdrs := rfl
@[simp] theorem setReg_pairs (a : Nat) (v : Word) : (s.setReg a v).pairs = s.pairs := rfl
@[simp] theorem setReg_inbox (a : Nat) (v : Word) : (s.setReg a v).inbox = s.inbox := rfl
@[simp] theorem setReg_ports (a : Nat) (v : Word) : (s.setReg a v).ports = s.ports := rfl
@[simp] theorem setReg_wins (a : Nat) (v : Word) : (s.setReg a v).wins = s.wins := rfl
@[simp] theorem setReg_qps (a : Nat) (v : Word) : (s.setReg a v).qps = s.qps := rfl
@[simp] theorem setReg_jobs (a : Nat) (v : Word) : (s.setReg a v).jobs = s.jobs := rfl
@[simp] theorem setReg_nextJob (a : Nat) (v : Word) : (s.setReg a v).nextJob = s.nextJob := rfl
@[simp] theorem setReg_nextFin (a : Nat) (v : Word) : (s.setReg a v).nextFin = s.nextFin := rfl
@[simp] theorem setReg_staging (a : Nat) (v : Word) : (s.setReg a v).staging = s.staging := rfl
@[simp] theorem setReg_leavePend (a : Nat) (v : Word) : (s.setReg a v).leavePend = s.leavePend := rfl
@[simp] theorem setReg_leaveHeld (a : Nat) (v : Word) : (s.setReg a v).leaveHeld = s.leaveHeld := rfl
@[simp] theorem setReg_vslots (a : Nat) (v : Word) : (s.setReg a v).vslots = s.vslots := rfl
@[simp] theorem setReg_binds (a : Nat) (v : Word) : (s.setReg a v).binds = s.binds := rfl
@[simp] theorem setReg_ctxs (a : Nat) (v : Word) : (s.setReg a v).ctxs = s.ctxs := rfl
@[simp] theorem setReg_installs (a : Nat) (v : Word) : (s.setReg a v).installs = s.installs := rfl
@[simp] theorem setReg_closedIdx (a : Nat) (v : Word) : (s.setReg a v).closedIdx = s.closedIdx := rfl
@[simp] theorem setReg_vault (a : Nat) (v : Word) : (s.setReg a v).vault = s.vault := rfl
@[simp] theorem setReg_lanes (a : Nat) (v : Word) : (s.setReg a v).lanes = s.lanes := rfl
@[simp] theorem setReg_streams (a : Nat) (v : Word) : (s.setReg a v).streams = s.streams := rfl
@[simp] theorem setReg_units (a : Nat) (v : Word) : (s.setReg a v).units = s.units := rfl
@[simp] theorem setReg_fwJob (a : Nat) (v : Word) : (s.setReg a v).fwJob = s.fwJob := rfl
@[simp] theorem setReg_fwWait (a : Nat) (v : Word) : (s.setReg a v).fwWait = s.fwWait := rfl
@[simp] theorem setReg_rng (a : Nat) (v : Word) : (s.setReg a v).rng = s.rng := rfl
@[simp] theorem setReg_slots (a : Nat) (v : Word) : (s.setReg a v).slots = s.slots := rfl
@[simp] theorem setReg_kst (a : Nat) (v : Word) : (s.setReg a v).kst = s.kst := rfl
@[simp] theorem setReg_credit (a : Nat) (v : Word) : (s.setReg a v).credit = s.credit := rfl
@[simp] theorem setReg_rounds (a : Nat) (v : Word) : (s.setReg a v).rounds = s.rounds := rfl
@[simp] theorem setReg_rtc (a : Nat) (v : Word) : (s.setReg a v).rtc = s.rtc := rfl
@[simp] theorem setReg_dbgErr (a : Nat) (v : Word) : (s.setReg a v).dbgErr = s.dbgErr := rfl
@[simp] theorem setReg_flashQ (a : Nat) (v : Word) : (s.setReg a v).flashQ = s.flashQ := rfl
@[simp] theorem setReg_flashOn (a : Nat) (v : Word) : (s.setReg a v).flashOn = s.flashOn := rfl
@[simp] theorem setReg_flcAddr (a : Nat) (v : Word) : (s.setReg a v).flcAddr = s.flcAddr := rfl
@[simp] theorem setReg_flcData (a : Nat) (v : Word) : (s.setReg a v).flcData = s.flcData := rfl
@[simp] theorem setReg_torn (a : Nat) (v : Word) : (s.setReg a v).torn = s.torn := rfl
@[simp] theorem setReg_weak (a : Nat) (v : Word) : (s.setReg a v).weak = s.weak := rfl
@[simp] theorem setReg_lostSec (a : Nat) (v : Word) : (s.setReg a v).lostSec = s.lostSec := rfl
@[simp] theorem setReg_flashUsed (a : Nat) (v : Word) : (s.setReg a v).flashUsed = s.flashUsed := rfl
@[simp] theorem setReg_skm (a : Nat) (v : Word) : (s.setReg a v).skm = s.skm := rfl
@[simp] theorem setReg_ris (a : Nat) (v : Word) : (s.setReg a v).ris = s.ris := rfl
@[simp] theorem setReg_rtcValid (a : Nat) (v : Word) : (s.setReg a v).rtcValid = s.rtcValid := rfl
@[simp] theorem setReg_clkFailed (a : Nat) (v : Word) : (s.setReg a v).clkFailed = s.clkFailed := rfl
@[simp] theorem setReg_flags (a : Nat) (v : Word) : (s.setReg a v).flags = s.flags := rfl
@[simp] theorem setReg_flk (a : Nat) (v : Word) : (s.setReg a v).flk = s.flk := rfl
@[simp] theorem setReg_tag (a : Nat) (v : Word) : (s.setReg a v).tag = s.tag := rfl
@[simp] theorem setReg_crd (a : Nat) (v : Word) : (s.setReg a v).crd = s.crd := rfl
@[simp] theorem setReg_clk (a : Nat) (v : Word) : (s.setReg a v).clk = s.clk := rfl
@[simp] theorem setReg_sys (a : Nat) (v : Word) : (s.setReg a v).sys = s.sys := rfl
@[simp] theorem setReg_dbg (a : Nat) (v : Word) : (s.setReg a v).dbg = s.dbg := rfl
@[simp] theorem setReg_mlk (a : Nat) (v : Word) : (s.setReg a v).mlk = s.mlk := rfl
@[simp] theorem setReg_sramBad (a : Nat) (v : Word) : (s.setReg a v).sramBad = s.sramBad := rfl

/-! ### setHdr -/

@[simp] theorem setHdr_pending (b i : Nat) (h : Hdr) : (s.setHdr b i h).pending = s.pending := rfl
@[simp] theorem setHdr_fresh (b i : Nat) (h : Hdr) : (s.setHdr b i h).fresh = s.fresh := rfl
@[simp] theorem setHdr_variant (b i : Nat) (h : Hdr) : (s.setHdr b i h).variant = s.variant := rfl
@[simp] theorem setHdr_mode (b i : Nat) (h : Hdr) : (s.setHdr b i h).mode = s.mode := rfl
@[simp] theorem setHdr_life (b i : Nat) (h : Hdr) : (s.setHdr b i h).life = s.life := rfl
@[simp] theorem setHdr_regs (b i : Nat) (h : Hdr) : (s.setHdr b i h).regs = s.regs := rfl
@[simp] theorem setHdr_mem (b i : Nat) (h : Hdr) : (s.setHdr b i h).mem = s.mem := rfl
@[simp] theorem setHdr_pairs (b i : Nat) (h : Hdr) : (s.setHdr b i h).pairs = s.pairs := rfl
@[simp] theorem setHdr_inbox (b i : Nat) (h : Hdr) : (s.setHdr b i h).inbox = s.inbox := rfl
@[simp] theorem setHdr_ports (b i : Nat) (h : Hdr) : (s.setHdr b i h).ports = s.ports := rfl
@[simp] theorem setHdr_wins (b i : Nat) (h : Hdr) : (s.setHdr b i h).wins = s.wins := rfl
@[simp] theorem setHdr_qps (b i : Nat) (h : Hdr) : (s.setHdr b i h).qps = s.qps := rfl
@[simp] theorem setHdr_jobs (b i : Nat) (h : Hdr) : (s.setHdr b i h).jobs = s.jobs := rfl
@[simp] theorem setHdr_nextJob (b i : Nat) (h : Hdr) : (s.setHdr b i h).nextJob = s.nextJob := rfl
@[simp] theorem setHdr_nextFin (b i : Nat) (h : Hdr) : (s.setHdr b i h).nextFin = s.nextFin := rfl
@[simp] theorem setHdr_staging (b i : Nat) (h : Hdr) : (s.setHdr b i h).staging = s.staging := rfl
@[simp] theorem setHdr_leavePend (b i : Nat) (h : Hdr) : (s.setHdr b i h).leavePend = s.leavePend := rfl
@[simp] theorem setHdr_leaveHeld (b i : Nat) (h : Hdr) : (s.setHdr b i h).leaveHeld = s.leaveHeld := rfl
@[simp] theorem setHdr_vslots (b i : Nat) (h : Hdr) : (s.setHdr b i h).vslots = s.vslots := rfl
@[simp] theorem setHdr_binds (b i : Nat) (h : Hdr) : (s.setHdr b i h).binds = s.binds := rfl
@[simp] theorem setHdr_ctxs (b i : Nat) (h : Hdr) : (s.setHdr b i h).ctxs = s.ctxs := rfl
@[simp] theorem setHdr_installs (b i : Nat) (h : Hdr) : (s.setHdr b i h).installs = s.installs := rfl
@[simp] theorem setHdr_closedIdx (b i : Nat) (h : Hdr) : (s.setHdr b i h).closedIdx = s.closedIdx := rfl
@[simp] theorem setHdr_vault (b i : Nat) (h : Hdr) : (s.setHdr b i h).vault = s.vault := rfl
@[simp] theorem setHdr_lanes (b i : Nat) (h : Hdr) : (s.setHdr b i h).lanes = s.lanes := rfl
@[simp] theorem setHdr_streams (b i : Nat) (h : Hdr) : (s.setHdr b i h).streams = s.streams := rfl
@[simp] theorem setHdr_units (b i : Nat) (h : Hdr) : (s.setHdr b i h).units = s.units := rfl
@[simp] theorem setHdr_fwJob (b i : Nat) (h : Hdr) : (s.setHdr b i h).fwJob = s.fwJob := rfl
@[simp] theorem setHdr_fwWait (b i : Nat) (h : Hdr) : (s.setHdr b i h).fwWait = s.fwWait := rfl
@[simp] theorem setHdr_rng (b i : Nat) (h : Hdr) : (s.setHdr b i h).rng = s.rng := rfl
@[simp] theorem setHdr_slots (b i : Nat) (h : Hdr) : (s.setHdr b i h).slots = s.slots := rfl
@[simp] theorem setHdr_kst (b i : Nat) (h : Hdr) : (s.setHdr b i h).kst = s.kst := rfl
@[simp] theorem setHdr_credit (b i : Nat) (h : Hdr) : (s.setHdr b i h).credit = s.credit := rfl
@[simp] theorem setHdr_rounds (b i : Nat) (h : Hdr) : (s.setHdr b i h).rounds = s.rounds := rfl
@[simp] theorem setHdr_rtc (b i : Nat) (h : Hdr) : (s.setHdr b i h).rtc = s.rtc := rfl
@[simp] theorem setHdr_dbgErr (b i : Nat) (h : Hdr) : (s.setHdr b i h).dbgErr = s.dbgErr := rfl
@[simp] theorem setHdr_flashQ (b i : Nat) (h : Hdr) : (s.setHdr b i h).flashQ = s.flashQ := rfl
@[simp] theorem setHdr_flashOn (b i : Nat) (h : Hdr) : (s.setHdr b i h).flashOn = s.flashOn := rfl
@[simp] theorem setHdr_flcAddr (b i : Nat) (h : Hdr) : (s.setHdr b i h).flcAddr = s.flcAddr := rfl
@[simp] theorem setHdr_flcData (b i : Nat) (h : Hdr) : (s.setHdr b i h).flcData = s.flcData := rfl
@[simp] theorem setHdr_torn (b i : Nat) (h : Hdr) : (s.setHdr b i h).torn = s.torn := rfl
@[simp] theorem setHdr_weak (b i : Nat) (h : Hdr) : (s.setHdr b i h).weak = s.weak := rfl
@[simp] theorem setHdr_lostSec (b i : Nat) (h : Hdr) : (s.setHdr b i h).lostSec = s.lostSec := rfl
@[simp] theorem setHdr_flashUsed (b i : Nat) (h : Hdr) : (s.setHdr b i h).flashUsed = s.flashUsed := rfl
@[simp] theorem setHdr_skm (b i : Nat) (h : Hdr) : (s.setHdr b i h).skm = s.skm := rfl
@[simp] theorem setHdr_ris (b i : Nat) (h : Hdr) : (s.setHdr b i h).ris = s.ris := rfl
@[simp] theorem setHdr_rtcValid (b i : Nat) (h : Hdr) : (s.setHdr b i h).rtcValid = s.rtcValid := rfl
@[simp] theorem setHdr_clkFailed (b i : Nat) (h : Hdr) : (s.setHdr b i h).clkFailed = s.clkFailed := rfl
@[simp] theorem setHdr_flags (b i : Nat) (h : Hdr) : (s.setHdr b i h).flags = s.flags := rfl
@[simp] theorem setHdr_flk (b i : Nat) (h : Hdr) : (s.setHdr b i h).flk = s.flk := rfl
@[simp] theorem setHdr_tag (b i : Nat) (h : Hdr) : (s.setHdr b i h).tag = s.tag := rfl
@[simp] theorem setHdr_crd (b i : Nat) (h : Hdr) : (s.setHdr b i h).crd = s.crd := rfl
@[simp] theorem setHdr_clk (b i : Nat) (h : Hdr) : (s.setHdr b i h).clk = s.clk := rfl
@[simp] theorem setHdr_sys (b i : Nat) (h : Hdr) : (s.setHdr b i h).sys = s.sys := rfl
@[simp] theorem setHdr_dbg (b i : Nat) (h : Hdr) : (s.setHdr b i h).dbg = s.dbg := rfl
@[simp] theorem setHdr_mlk (b i : Nat) (h : Hdr) : (s.setHdr b i h).mlk = s.mlk := rfl
@[simp] theorem setHdr_sramBad (b i : Nat) (h : Hdr) : (s.setHdr b i h).sramBad = s.sramBad := rfl

/-! ### setByte -/

@[simp] theorem setByte_pending (a : Nat) (v : Byte) : (s.setByte a v).pending = s.pending := rfl
@[simp] theorem setByte_fresh (a : Nat) (v : Byte) : (s.setByte a v).fresh = s.fresh := rfl
@[simp] theorem setByte_variant (a : Nat) (v : Byte) : (s.setByte a v).variant = s.variant := rfl
@[simp] theorem setByte_mode (a : Nat) (v : Byte) : (s.setByte a v).mode = s.mode := rfl
@[simp] theorem setByte_life (a : Nat) (v : Byte) : (s.setByte a v).life = s.life := rfl
@[simp] theorem setByte_regs (a : Nat) (v : Byte) : (s.setByte a v).regs = s.regs := rfl
@[simp] theorem setByte_hdrs (a : Nat) (v : Byte) : (s.setByte a v).hdrs = s.hdrs := rfl
@[simp] theorem setByte_pairs (a : Nat) (v : Byte) : (s.setByte a v).pairs = s.pairs := rfl
@[simp] theorem setByte_inbox (a : Nat) (v : Byte) : (s.setByte a v).inbox = s.inbox := rfl
@[simp] theorem setByte_ports (a : Nat) (v : Byte) : (s.setByte a v).ports = s.ports := rfl
@[simp] theorem setByte_wins (a : Nat) (v : Byte) : (s.setByte a v).wins = s.wins := rfl
@[simp] theorem setByte_qps (a : Nat) (v : Byte) : (s.setByte a v).qps = s.qps := rfl
@[simp] theorem setByte_jobs (a : Nat) (v : Byte) : (s.setByte a v).jobs = s.jobs := rfl
@[simp] theorem setByte_nextJob (a : Nat) (v : Byte) : (s.setByte a v).nextJob = s.nextJob := rfl
@[simp] theorem setByte_nextFin (a : Nat) (v : Byte) : (s.setByte a v).nextFin = s.nextFin := rfl
@[simp] theorem setByte_staging (a : Nat) (v : Byte) : (s.setByte a v).staging = s.staging := rfl
@[simp] theorem setByte_leavePend (a : Nat) (v : Byte) : (s.setByte a v).leavePend = s.leavePend := rfl
@[simp] theorem setByte_leaveHeld (a : Nat) (v : Byte) : (s.setByte a v).leaveHeld = s.leaveHeld := rfl
@[simp] theorem setByte_vslots (a : Nat) (v : Byte) : (s.setByte a v).vslots = s.vslots := rfl
@[simp] theorem setByte_binds (a : Nat) (v : Byte) : (s.setByte a v).binds = s.binds := rfl
@[simp] theorem setByte_ctxs (a : Nat) (v : Byte) : (s.setByte a v).ctxs = s.ctxs := rfl
@[simp] theorem setByte_installs (a : Nat) (v : Byte) : (s.setByte a v).installs = s.installs := rfl
@[simp] theorem setByte_closedIdx (a : Nat) (v : Byte) : (s.setByte a v).closedIdx = s.closedIdx := rfl
@[simp] theorem setByte_vault (a : Nat) (v : Byte) : (s.setByte a v).vault = s.vault := rfl
@[simp] theorem setByte_lanes (a : Nat) (v : Byte) : (s.setByte a v).lanes = s.lanes := rfl
@[simp] theorem setByte_streams (a : Nat) (v : Byte) : (s.setByte a v).streams = s.streams := rfl
@[simp] theorem setByte_units (a : Nat) (v : Byte) : (s.setByte a v).units = s.units := rfl
@[simp] theorem setByte_fwJob (a : Nat) (v : Byte) : (s.setByte a v).fwJob = s.fwJob := rfl
@[simp] theorem setByte_fwWait (a : Nat) (v : Byte) : (s.setByte a v).fwWait = s.fwWait := rfl
@[simp] theorem setByte_rng (a : Nat) (v : Byte) : (s.setByte a v).rng = s.rng := rfl
@[simp] theorem setByte_slots (a : Nat) (v : Byte) : (s.setByte a v).slots = s.slots := rfl
@[simp] theorem setByte_kst (a : Nat) (v : Byte) : (s.setByte a v).kst = s.kst := rfl
@[simp] theorem setByte_credit (a : Nat) (v : Byte) : (s.setByte a v).credit = s.credit := rfl
@[simp] theorem setByte_rounds (a : Nat) (v : Byte) : (s.setByte a v).rounds = s.rounds := rfl
@[simp] theorem setByte_rtc (a : Nat) (v : Byte) : (s.setByte a v).rtc = s.rtc := rfl
@[simp] theorem setByte_dbgErr (a : Nat) (v : Byte) : (s.setByte a v).dbgErr = s.dbgErr := rfl
@[simp] theorem setByte_flashQ (a : Nat) (v : Byte) : (s.setByte a v).flashQ = s.flashQ := rfl
@[simp] theorem setByte_flashOn (a : Nat) (v : Byte) : (s.setByte a v).flashOn = s.flashOn := rfl
@[simp] theorem setByte_flcAddr (a : Nat) (v : Byte) : (s.setByte a v).flcAddr = s.flcAddr := rfl
@[simp] theorem setByte_flcData (a : Nat) (v : Byte) : (s.setByte a v).flcData = s.flcData := rfl
@[simp] theorem setByte_torn (a : Nat) (v : Byte) : (s.setByte a v).torn = s.torn := rfl
@[simp] theorem setByte_weak (a : Nat) (v : Byte) : (s.setByte a v).weak = s.weak := rfl
@[simp] theorem setByte_lostSec (a : Nat) (v : Byte) : (s.setByte a v).lostSec = s.lostSec := rfl
@[simp] theorem setByte_flashUsed (a : Nat) (v : Byte) : (s.setByte a v).flashUsed = s.flashUsed := rfl
@[simp] theorem setByte_skm (a : Nat) (v : Byte) : (s.setByte a v).skm = s.skm := rfl
@[simp] theorem setByte_ris (a : Nat) (v : Byte) : (s.setByte a v).ris = s.ris := rfl
@[simp] theorem setByte_rtcValid (a : Nat) (v : Byte) : (s.setByte a v).rtcValid = s.rtcValid := rfl
@[simp] theorem setByte_clkFailed (a : Nat) (v : Byte) : (s.setByte a v).clkFailed = s.clkFailed := rfl
@[simp] theorem setByte_flags (a : Nat) (v : Byte) : (s.setByte a v).flags = s.flags := rfl
@[simp] theorem setByte_flk (a : Nat) (v : Byte) : (s.setByte a v).flk = s.flk := rfl
@[simp] theorem setByte_tag (a : Nat) (v : Byte) : (s.setByte a v).tag = s.tag := rfl
@[simp] theorem setByte_crd (a : Nat) (v : Byte) : (s.setByte a v).crd = s.crd := rfl
@[simp] theorem setByte_clk (a : Nat) (v : Byte) : (s.setByte a v).clk = s.clk := rfl
@[simp] theorem setByte_sys (a : Nat) (v : Byte) : (s.setByte a v).sys = s.sys := rfl
@[simp] theorem setByte_dbg (a : Nat) (v : Byte) : (s.setByte a v).dbg = s.dbg := rfl
@[simp] theorem setByte_mlk (a : Nat) (v : Byte) : (s.setByte a v).mlk = s.mlk := rfl
@[simp] theorem setByte_sramBad (a : Nat) (v : Byte) : (s.setByte a v).sramBad = s.sramBad := rfl

/-! ### forget -/

@[simp] theorem forget_pending (lo hi : Nat) : (s.forget lo hi).pending = s.pending := rfl
@[simp] theorem forget_fresh (lo hi : Nat) : (s.forget lo hi).fresh = s.fresh := rfl
@[simp] theorem forget_variant (lo hi : Nat) : (s.forget lo hi).variant = s.variant := rfl
@[simp] theorem forget_mode (lo hi : Nat) : (s.forget lo hi).mode = s.mode := rfl
@[simp] theorem forget_life (lo hi : Nat) : (s.forget lo hi).life = s.life := rfl
@[simp] theorem forget_regs (lo hi : Nat) : (s.forget lo hi).regs = s.regs := rfl
@[simp] theorem forget_hdrs (lo hi : Nat) : (s.forget lo hi).hdrs = s.hdrs := rfl
@[simp] theorem forget_pairs (lo hi : Nat) : (s.forget lo hi).pairs = s.pairs := rfl
@[simp] theorem forget_inbox (lo hi : Nat) : (s.forget lo hi).inbox = s.inbox := rfl
@[simp] theorem forget_ports (lo hi : Nat) : (s.forget lo hi).ports = s.ports := rfl
@[simp] theorem forget_wins (lo hi : Nat) : (s.forget lo hi).wins = s.wins := rfl
@[simp] theorem forget_qps (lo hi : Nat) : (s.forget lo hi).qps = s.qps := rfl
@[simp] theorem forget_jobs (lo hi : Nat) : (s.forget lo hi).jobs = s.jobs := rfl
@[simp] theorem forget_nextJob (lo hi : Nat) : (s.forget lo hi).nextJob = s.nextJob := rfl
@[simp] theorem forget_nextFin (lo hi : Nat) : (s.forget lo hi).nextFin = s.nextFin := rfl
@[simp] theorem forget_staging (lo hi : Nat) : (s.forget lo hi).staging = s.staging := rfl
@[simp] theorem forget_leavePend (lo hi : Nat) : (s.forget lo hi).leavePend = s.leavePend := rfl
@[simp] theorem forget_leaveHeld (lo hi : Nat) : (s.forget lo hi).leaveHeld = s.leaveHeld := rfl
@[simp] theorem forget_vslots (lo hi : Nat) : (s.forget lo hi).vslots = s.vslots := rfl
@[simp] theorem forget_binds (lo hi : Nat) : (s.forget lo hi).binds = s.binds := rfl
@[simp] theorem forget_ctxs (lo hi : Nat) : (s.forget lo hi).ctxs = s.ctxs := rfl
@[simp] theorem forget_installs (lo hi : Nat) : (s.forget lo hi).installs = s.installs := rfl
@[simp] theorem forget_closedIdx (lo hi : Nat) : (s.forget lo hi).closedIdx = s.closedIdx := rfl
@[simp] theorem forget_vault (lo hi : Nat) : (s.forget lo hi).vault = s.vault := rfl
@[simp] theorem forget_lanes (lo hi : Nat) : (s.forget lo hi).lanes = s.lanes := rfl
@[simp] theorem forget_streams (lo hi : Nat) : (s.forget lo hi).streams = s.streams := rfl
@[simp] theorem forget_units (lo hi : Nat) : (s.forget lo hi).units = s.units := rfl
@[simp] theorem forget_fwJob (lo hi : Nat) : (s.forget lo hi).fwJob = s.fwJob := rfl
@[simp] theorem forget_fwWait (lo hi : Nat) : (s.forget lo hi).fwWait = s.fwWait := rfl
@[simp] theorem forget_rng (lo hi : Nat) : (s.forget lo hi).rng = s.rng := rfl
@[simp] theorem forget_slots (lo hi : Nat) : (s.forget lo hi).slots = s.slots := rfl
@[simp] theorem forget_kst (lo hi : Nat) : (s.forget lo hi).kst = s.kst := rfl
@[simp] theorem forget_credit (lo hi : Nat) : (s.forget lo hi).credit = s.credit := rfl
@[simp] theorem forget_rounds (lo hi : Nat) : (s.forget lo hi).rounds = s.rounds := rfl
@[simp] theorem forget_rtc (lo hi : Nat) : (s.forget lo hi).rtc = s.rtc := rfl
@[simp] theorem forget_dbgErr (lo hi : Nat) : (s.forget lo hi).dbgErr = s.dbgErr := rfl
@[simp] theorem forget_flashQ (lo hi : Nat) : (s.forget lo hi).flashQ = s.flashQ := rfl
@[simp] theorem forget_flashOn (lo hi : Nat) : (s.forget lo hi).flashOn = s.flashOn := rfl
@[simp] theorem forget_flcAddr (lo hi : Nat) : (s.forget lo hi).flcAddr = s.flcAddr := rfl
@[simp] theorem forget_flcData (lo hi : Nat) : (s.forget lo hi).flcData = s.flcData := rfl
@[simp] theorem forget_torn (lo hi : Nat) : (s.forget lo hi).torn = s.torn := rfl
@[simp] theorem forget_weak (lo hi : Nat) : (s.forget lo hi).weak = s.weak := rfl
@[simp] theorem forget_lostSec (lo hi : Nat) : (s.forget lo hi).lostSec = s.lostSec := rfl
@[simp] theorem forget_flashUsed (lo hi : Nat) : (s.forget lo hi).flashUsed = s.flashUsed := rfl
@[simp] theorem forget_skm (lo hi : Nat) : (s.forget lo hi).skm = s.skm := rfl
@[simp] theorem forget_ris (lo hi : Nat) : (s.forget lo hi).ris = s.ris := rfl
@[simp] theorem forget_rtcValid (lo hi : Nat) : (s.forget lo hi).rtcValid = s.rtcValid := rfl
@[simp] theorem forget_clkFailed (lo hi : Nat) : (s.forget lo hi).clkFailed = s.clkFailed := rfl
@[simp] theorem forget_flags (lo hi : Nat) : (s.forget lo hi).flags = s.flags := rfl
@[simp] theorem forget_flk (lo hi : Nat) : (s.forget lo hi).flk = s.flk := rfl
@[simp] theorem forget_tag (lo hi : Nat) : (s.forget lo hi).tag = s.tag := rfl
@[simp] theorem forget_crd (lo hi : Nat) : (s.forget lo hi).crd = s.crd := rfl
@[simp] theorem forget_clk (lo hi : Nat) : (s.forget lo hi).clk = s.clk := rfl
@[simp] theorem forget_sys (lo hi : Nat) : (s.forget lo hi).sys = s.sys := rfl
@[simp] theorem forget_dbg (lo hi : Nat) : (s.forget lo hi).dbg = s.dbg := rfl
@[simp] theorem forget_mlk (lo hi : Nat) : (s.forget lo hi).mlk = s.mlk := rfl
@[simp] theorem forget_sramBad (lo hi : Nat) : (s.forget lo hi).sramBad = s.sramBad := rfl

/-! ### setPair -/

@[simp] theorem setPair_pending (p : Nat) (k : KPair) : (s.setPair p k).pending = s.pending := rfl
@[simp] theorem setPair_fresh (p : Nat) (k : KPair) : (s.setPair p k).fresh = s.fresh := rfl
@[simp] theorem setPair_variant (p : Nat) (k : KPair) : (s.setPair p k).variant = s.variant := rfl
@[simp] theorem setPair_mode (p : Nat) (k : KPair) : (s.setPair p k).mode = s.mode := rfl
@[simp] theorem setPair_life (p : Nat) (k : KPair) : (s.setPair p k).life = s.life := rfl
@[simp] theorem setPair_regs (p : Nat) (k : KPair) : (s.setPair p k).regs = s.regs := rfl
@[simp] theorem setPair_mem (p : Nat) (k : KPair) : (s.setPair p k).mem = s.mem := rfl
@[simp] theorem setPair_hdrs (p : Nat) (k : KPair) : (s.setPair p k).hdrs = s.hdrs := rfl
@[simp] theorem setPair_inbox (p : Nat) (k : KPair) : (s.setPair p k).inbox = s.inbox := rfl
@[simp] theorem setPair_ports (p : Nat) (k : KPair) : (s.setPair p k).ports = s.ports := rfl
@[simp] theorem setPair_wins (p : Nat) (k : KPair) : (s.setPair p k).wins = s.wins := rfl
@[simp] theorem setPair_qps (p : Nat) (k : KPair) : (s.setPair p k).qps = s.qps := rfl
@[simp] theorem setPair_jobs (p : Nat) (k : KPair) : (s.setPair p k).jobs = s.jobs := rfl
@[simp] theorem setPair_nextJob (p : Nat) (k : KPair) : (s.setPair p k).nextJob = s.nextJob := rfl
@[simp] theorem setPair_nextFin (p : Nat) (k : KPair) : (s.setPair p k).nextFin = s.nextFin := rfl
@[simp] theorem setPair_staging (p : Nat) (k : KPair) : (s.setPair p k).staging = s.staging := rfl
@[simp] theorem setPair_leavePend (p : Nat) (k : KPair) : (s.setPair p k).leavePend = s.leavePend := rfl
@[simp] theorem setPair_leaveHeld (p : Nat) (k : KPair) : (s.setPair p k).leaveHeld = s.leaveHeld := rfl
@[simp] theorem setPair_vslots (p : Nat) (k : KPair) : (s.setPair p k).vslots = s.vslots := rfl
@[simp] theorem setPair_binds (p : Nat) (k : KPair) : (s.setPair p k).binds = s.binds := rfl
@[simp] theorem setPair_ctxs (p : Nat) (k : KPair) : (s.setPair p k).ctxs = s.ctxs := rfl
@[simp] theorem setPair_installs (p : Nat) (k : KPair) : (s.setPair p k).installs = s.installs := rfl
@[simp] theorem setPair_closedIdx (p : Nat) (k : KPair) : (s.setPair p k).closedIdx = s.closedIdx := rfl
@[simp] theorem setPair_vault (p : Nat) (k : KPair) : (s.setPair p k).vault = s.vault := rfl
@[simp] theorem setPair_lanes (p : Nat) (k : KPair) : (s.setPair p k).lanes = s.lanes := rfl
@[simp] theorem setPair_streams (p : Nat) (k : KPair) : (s.setPair p k).streams = s.streams := rfl
@[simp] theorem setPair_units (p : Nat) (k : KPair) : (s.setPair p k).units = s.units := rfl
@[simp] theorem setPair_fwJob (p : Nat) (k : KPair) : (s.setPair p k).fwJob = s.fwJob := rfl
@[simp] theorem setPair_fwWait (p : Nat) (k : KPair) : (s.setPair p k).fwWait = s.fwWait := rfl
@[simp] theorem setPair_rng (p : Nat) (k : KPair) : (s.setPair p k).rng = s.rng := rfl
@[simp] theorem setPair_slots (p : Nat) (k : KPair) : (s.setPair p k).slots = s.slots := rfl
@[simp] theorem setPair_kst (p : Nat) (k : KPair) : (s.setPair p k).kst = s.kst := rfl
@[simp] theorem setPair_credit (p : Nat) (k : KPair) : (s.setPair p k).credit = s.credit := rfl
@[simp] theorem setPair_rounds (p : Nat) (k : KPair) : (s.setPair p k).rounds = s.rounds := rfl
@[simp] theorem setPair_rtc (p : Nat) (k : KPair) : (s.setPair p k).rtc = s.rtc := rfl
@[simp] theorem setPair_dbgErr (p : Nat) (k : KPair) : (s.setPair p k).dbgErr = s.dbgErr := rfl
@[simp] theorem setPair_flashQ (p : Nat) (k : KPair) : (s.setPair p k).flashQ = s.flashQ := rfl
@[simp] theorem setPair_flashOn (p : Nat) (k : KPair) : (s.setPair p k).flashOn = s.flashOn := rfl
@[simp] theorem setPair_flcAddr (p : Nat) (k : KPair) : (s.setPair p k).flcAddr = s.flcAddr := rfl
@[simp] theorem setPair_flcData (p : Nat) (k : KPair) : (s.setPair p k).flcData = s.flcData := rfl
@[simp] theorem setPair_torn (p : Nat) (k : KPair) : (s.setPair p k).torn = s.torn := rfl
@[simp] theorem setPair_weak (p : Nat) (k : KPair) : (s.setPair p k).weak = s.weak := rfl
@[simp] theorem setPair_lostSec (p : Nat) (k : KPair) : (s.setPair p k).lostSec = s.lostSec := rfl
@[simp] theorem setPair_flashUsed (p : Nat) (k : KPair) : (s.setPair p k).flashUsed = s.flashUsed := rfl
@[simp] theorem setPair_skm (p : Nat) (k : KPair) : (s.setPair p k).skm = s.skm := rfl
@[simp] theorem setPair_ris (p : Nat) (k : KPair) : (s.setPair p k).ris = s.ris := rfl
@[simp] theorem setPair_rtcValid (p : Nat) (k : KPair) : (s.setPair p k).rtcValid = s.rtcValid := rfl
@[simp] theorem setPair_clkFailed (p : Nat) (k : KPair) : (s.setPair p k).clkFailed = s.clkFailed := rfl
@[simp] theorem setPair_flags (p : Nat) (k : KPair) : (s.setPair p k).flags = s.flags := rfl
@[simp] theorem setPair_flk (p : Nat) (k : KPair) : (s.setPair p k).flk = s.flk := rfl
@[simp] theorem setPair_tag (p : Nat) (k : KPair) : (s.setPair p k).tag = s.tag := rfl
@[simp] theorem setPair_crd (p : Nat) (k : KPair) : (s.setPair p k).crd = s.crd := rfl
@[simp] theorem setPair_clk (p : Nat) (k : KPair) : (s.setPair p k).clk = s.clk := rfl
@[simp] theorem setPair_sys (p : Nat) (k : KPair) : (s.setPair p k).sys = s.sys := rfl
@[simp] theorem setPair_dbg (p : Nat) (k : KPair) : (s.setPair p k).dbg = s.dbg := rfl
@[simp] theorem setPair_mlk (p : Nat) (k : KPair) : (s.setPair p k).mlk = s.mlk := rfl
@[simp] theorem setPair_sramBad (p : Nat) (k : KPair) : (s.setPair p k).sramBad = s.sramBad := rfl

/-! ### setPort -/

@[simp] theorem setPort_pending (p : Nat) (v : HPort) : (s.setPort p v).pending = s.pending := rfl
@[simp] theorem setPort_fresh (p : Nat) (v : HPort) : (s.setPort p v).fresh = s.fresh := rfl
@[simp] theorem setPort_variant (p : Nat) (v : HPort) : (s.setPort p v).variant = s.variant := rfl
@[simp] theorem setPort_mode (p : Nat) (v : HPort) : (s.setPort p v).mode = s.mode := rfl
@[simp] theorem setPort_life (p : Nat) (v : HPort) : (s.setPort p v).life = s.life := rfl
@[simp] theorem setPort_regs (p : Nat) (v : HPort) : (s.setPort p v).regs = s.regs := rfl
@[simp] theorem setPort_mem (p : Nat) (v : HPort) : (s.setPort p v).mem = s.mem := rfl
@[simp] theorem setPort_hdrs (p : Nat) (v : HPort) : (s.setPort p v).hdrs = s.hdrs := rfl
@[simp] theorem setPort_pairs (p : Nat) (v : HPort) : (s.setPort p v).pairs = s.pairs := rfl
@[simp] theorem setPort_inbox (p : Nat) (v : HPort) : (s.setPort p v).inbox = s.inbox := rfl
@[simp] theorem setPort_wins (p : Nat) (v : HPort) : (s.setPort p v).wins = s.wins := rfl
@[simp] theorem setPort_qps (p : Nat) (v : HPort) : (s.setPort p v).qps = s.qps := rfl
@[simp] theorem setPort_jobs (p : Nat) (v : HPort) : (s.setPort p v).jobs = s.jobs := rfl
@[simp] theorem setPort_nextJob (p : Nat) (v : HPort) : (s.setPort p v).nextJob = s.nextJob := rfl
@[simp] theorem setPort_nextFin (p : Nat) (v : HPort) : (s.setPort p v).nextFin = s.nextFin := rfl
@[simp] theorem setPort_staging (p : Nat) (v : HPort) : (s.setPort p v).staging = s.staging := rfl
@[simp] theorem setPort_leavePend (p : Nat) (v : HPort) : (s.setPort p v).leavePend = s.leavePend := rfl
@[simp] theorem setPort_leaveHeld (p : Nat) (v : HPort) : (s.setPort p v).leaveHeld = s.leaveHeld := rfl
@[simp] theorem setPort_vslots (p : Nat) (v : HPort) : (s.setPort p v).vslots = s.vslots := rfl
@[simp] theorem setPort_binds (p : Nat) (v : HPort) : (s.setPort p v).binds = s.binds := rfl
@[simp] theorem setPort_ctxs (p : Nat) (v : HPort) : (s.setPort p v).ctxs = s.ctxs := rfl
@[simp] theorem setPort_installs (p : Nat) (v : HPort) : (s.setPort p v).installs = s.installs := rfl
@[simp] theorem setPort_closedIdx (p : Nat) (v : HPort) : (s.setPort p v).closedIdx = s.closedIdx := rfl
@[simp] theorem setPort_vault (p : Nat) (v : HPort) : (s.setPort p v).vault = s.vault := rfl
@[simp] theorem setPort_lanes (p : Nat) (v : HPort) : (s.setPort p v).lanes = s.lanes := rfl
@[simp] theorem setPort_streams (p : Nat) (v : HPort) : (s.setPort p v).streams = s.streams := rfl
@[simp] theorem setPort_units (p : Nat) (v : HPort) : (s.setPort p v).units = s.units := rfl
@[simp] theorem setPort_fwJob (p : Nat) (v : HPort) : (s.setPort p v).fwJob = s.fwJob := rfl
@[simp] theorem setPort_fwWait (p : Nat) (v : HPort) : (s.setPort p v).fwWait = s.fwWait := rfl
@[simp] theorem setPort_rng (p : Nat) (v : HPort) : (s.setPort p v).rng = s.rng := rfl
@[simp] theorem setPort_slots (p : Nat) (v : HPort) : (s.setPort p v).slots = s.slots := rfl
@[simp] theorem setPort_kst (p : Nat) (v : HPort) : (s.setPort p v).kst = s.kst := rfl
@[simp] theorem setPort_credit (p : Nat) (v : HPort) : (s.setPort p v).credit = s.credit := rfl
@[simp] theorem setPort_rounds (p : Nat) (v : HPort) : (s.setPort p v).rounds = s.rounds := rfl
@[simp] theorem setPort_rtc (p : Nat) (v : HPort) : (s.setPort p v).rtc = s.rtc := rfl
@[simp] theorem setPort_dbgErr (p : Nat) (v : HPort) : (s.setPort p v).dbgErr = s.dbgErr := rfl
@[simp] theorem setPort_flashQ (p : Nat) (v : HPort) : (s.setPort p v).flashQ = s.flashQ := rfl
@[simp] theorem setPort_flashOn (p : Nat) (v : HPort) : (s.setPort p v).flashOn = s.flashOn := rfl
@[simp] theorem setPort_flcAddr (p : Nat) (v : HPort) : (s.setPort p v).flcAddr = s.flcAddr := rfl
@[simp] theorem setPort_flcData (p : Nat) (v : HPort) : (s.setPort p v).flcData = s.flcData := rfl
@[simp] theorem setPort_torn (p : Nat) (v : HPort) : (s.setPort p v).torn = s.torn := rfl
@[simp] theorem setPort_weak (p : Nat) (v : HPort) : (s.setPort p v).weak = s.weak := rfl
@[simp] theorem setPort_lostSec (p : Nat) (v : HPort) : (s.setPort p v).lostSec = s.lostSec := rfl
@[simp] theorem setPort_flashUsed (p : Nat) (v : HPort) : (s.setPort p v).flashUsed = s.flashUsed := rfl
@[simp] theorem setPort_skm (p : Nat) (v : HPort) : (s.setPort p v).skm = s.skm := rfl
@[simp] theorem setPort_ris (p : Nat) (v : HPort) : (s.setPort p v).ris = s.ris := rfl
@[simp] theorem setPort_rtcValid (p : Nat) (v : HPort) : (s.setPort p v).rtcValid = s.rtcValid := rfl
@[simp] theorem setPort_clkFailed (p : Nat) (v : HPort) : (s.setPort p v).clkFailed = s.clkFailed := rfl
@[simp] theorem setPort_flags (p : Nat) (v : HPort) : (s.setPort p v).flags = s.flags := rfl
@[simp] theorem setPort_flk (p : Nat) (v : HPort) : (s.setPort p v).flk = s.flk := rfl
@[simp] theorem setPort_tag (p : Nat) (v : HPort) : (s.setPort p v).tag = s.tag := rfl
@[simp] theorem setPort_crd (p : Nat) (v : HPort) : (s.setPort p v).crd = s.crd := rfl
@[simp] theorem setPort_clk (p : Nat) (v : HPort) : (s.setPort p v).clk = s.clk := rfl
@[simp] theorem setPort_sys (p : Nat) (v : HPort) : (s.setPort p v).sys = s.sys := rfl
@[simp] theorem setPort_dbg (p : Nat) (v : HPort) : (s.setPort p v).dbg = s.dbg := rfl
@[simp] theorem setPort_mlk (p : Nat) (v : HPort) : (s.setPort p v).mlk = s.mlk := rfl
@[simp] theorem setPort_sramBad (p : Nat) (v : HPort) : (s.setPort p v).sramBad = s.sramBad := rfl

/-! ### setWin -/

@[simp] theorem setWin_pending (d i : Nat) (v : Win) : (s.setWin d i v).pending = s.pending := rfl
@[simp] theorem setWin_fresh (d i : Nat) (v : Win) : (s.setWin d i v).fresh = s.fresh := rfl
@[simp] theorem setWin_variant (d i : Nat) (v : Win) : (s.setWin d i v).variant = s.variant := rfl
@[simp] theorem setWin_mode (d i : Nat) (v : Win) : (s.setWin d i v).mode = s.mode := rfl
@[simp] theorem setWin_life (d i : Nat) (v : Win) : (s.setWin d i v).life = s.life := rfl
@[simp] theorem setWin_regs (d i : Nat) (v : Win) : (s.setWin d i v).regs = s.regs := rfl
@[simp] theorem setWin_mem (d i : Nat) (v : Win) : (s.setWin d i v).mem = s.mem := rfl
@[simp] theorem setWin_hdrs (d i : Nat) (v : Win) : (s.setWin d i v).hdrs = s.hdrs := rfl
@[simp] theorem setWin_pairs (d i : Nat) (v : Win) : (s.setWin d i v).pairs = s.pairs := rfl
@[simp] theorem setWin_inbox (d i : Nat) (v : Win) : (s.setWin d i v).inbox = s.inbox := rfl
@[simp] theorem setWin_ports (d i : Nat) (v : Win) : (s.setWin d i v).ports = s.ports := rfl
@[simp] theorem setWin_qps (d i : Nat) (v : Win) : (s.setWin d i v).qps = s.qps := rfl
@[simp] theorem setWin_jobs (d i : Nat) (v : Win) : (s.setWin d i v).jobs = s.jobs := rfl
@[simp] theorem setWin_nextJob (d i : Nat) (v : Win) : (s.setWin d i v).nextJob = s.nextJob := rfl
@[simp] theorem setWin_nextFin (d i : Nat) (v : Win) : (s.setWin d i v).nextFin = s.nextFin := rfl
@[simp] theorem setWin_staging (d i : Nat) (v : Win) : (s.setWin d i v).staging = s.staging := rfl
@[simp] theorem setWin_leavePend (d i : Nat) (v : Win) : (s.setWin d i v).leavePend = s.leavePend := rfl
@[simp] theorem setWin_leaveHeld (d i : Nat) (v : Win) : (s.setWin d i v).leaveHeld = s.leaveHeld := rfl
@[simp] theorem setWin_vslots (d i : Nat) (v : Win) : (s.setWin d i v).vslots = s.vslots := rfl
@[simp] theorem setWin_binds (d i : Nat) (v : Win) : (s.setWin d i v).binds = s.binds := rfl
@[simp] theorem setWin_ctxs (d i : Nat) (v : Win) : (s.setWin d i v).ctxs = s.ctxs := rfl
@[simp] theorem setWin_installs (d i : Nat) (v : Win) : (s.setWin d i v).installs = s.installs := rfl
@[simp] theorem setWin_closedIdx (d i : Nat) (v : Win) : (s.setWin d i v).closedIdx = s.closedIdx := rfl
@[simp] theorem setWin_vault (d i : Nat) (v : Win) : (s.setWin d i v).vault = s.vault := rfl
@[simp] theorem setWin_lanes (d i : Nat) (v : Win) : (s.setWin d i v).lanes = s.lanes := rfl
@[simp] theorem setWin_streams (d i : Nat) (v : Win) : (s.setWin d i v).streams = s.streams := rfl
@[simp] theorem setWin_units (d i : Nat) (v : Win) : (s.setWin d i v).units = s.units := rfl
@[simp] theorem setWin_fwJob (d i : Nat) (v : Win) : (s.setWin d i v).fwJob = s.fwJob := rfl
@[simp] theorem setWin_fwWait (d i : Nat) (v : Win) : (s.setWin d i v).fwWait = s.fwWait := rfl
@[simp] theorem setWin_rng (d i : Nat) (v : Win) : (s.setWin d i v).rng = s.rng := rfl
@[simp] theorem setWin_slots (d i : Nat) (v : Win) : (s.setWin d i v).slots = s.slots := rfl
@[simp] theorem setWin_kst (d i : Nat) (v : Win) : (s.setWin d i v).kst = s.kst := rfl
@[simp] theorem setWin_credit (d i : Nat) (v : Win) : (s.setWin d i v).credit = s.credit := rfl
@[simp] theorem setWin_rounds (d i : Nat) (v : Win) : (s.setWin d i v).rounds = s.rounds := rfl
@[simp] theorem setWin_rtc (d i : Nat) (v : Win) : (s.setWin d i v).rtc = s.rtc := rfl
@[simp] theorem setWin_dbgErr (d i : Nat) (v : Win) : (s.setWin d i v).dbgErr = s.dbgErr := rfl
@[simp] theorem setWin_flashQ (d i : Nat) (v : Win) : (s.setWin d i v).flashQ = s.flashQ := rfl
@[simp] theorem setWin_flashOn (d i : Nat) (v : Win) : (s.setWin d i v).flashOn = s.flashOn := rfl
@[simp] theorem setWin_flcAddr (d i : Nat) (v : Win) : (s.setWin d i v).flcAddr = s.flcAddr := rfl
@[simp] theorem setWin_flcData (d i : Nat) (v : Win) : (s.setWin d i v).flcData = s.flcData := rfl
@[simp] theorem setWin_torn (d i : Nat) (v : Win) : (s.setWin d i v).torn = s.torn := rfl
@[simp] theorem setWin_weak (d i : Nat) (v : Win) : (s.setWin d i v).weak = s.weak := rfl
@[simp] theorem setWin_lostSec (d i : Nat) (v : Win) : (s.setWin d i v).lostSec = s.lostSec := rfl
@[simp] theorem setWin_flashUsed (d i : Nat) (v : Win) : (s.setWin d i v).flashUsed = s.flashUsed := rfl
@[simp] theorem setWin_skm (d i : Nat) (v : Win) : (s.setWin d i v).skm = s.skm := rfl
@[simp] theorem setWin_ris (d i : Nat) (v : Win) : (s.setWin d i v).ris = s.ris := rfl
@[simp] theorem setWin_rtcValid (d i : Nat) (v : Win) : (s.setWin d i v).rtcValid = s.rtcValid := rfl
@[simp] theorem setWin_clkFailed (d i : Nat) (v : Win) : (s.setWin d i v).clkFailed = s.clkFailed := rfl
@[simp] theorem setWin_flags (d i : Nat) (v : Win) : (s.setWin d i v).flags = s.flags := rfl
@[simp] theorem setWin_flk (d i : Nat) (v : Win) : (s.setWin d i v).flk = s.flk := rfl
@[simp] theorem setWin_tag (d i : Nat) (v : Win) : (s.setWin d i v).tag = s.tag := rfl
@[simp] theorem setWin_crd (d i : Nat) (v : Win) : (s.setWin d i v).crd = s.crd := rfl
@[simp] theorem setWin_clk (d i : Nat) (v : Win) : (s.setWin d i v).clk = s.clk := rfl
@[simp] theorem setWin_sys (d i : Nat) (v : Win) : (s.setWin d i v).sys = s.sys := rfl
@[simp] theorem setWin_dbg (d i : Nat) (v : Win) : (s.setWin d i v).dbg = s.dbg := rfl
@[simp] theorem setWin_mlk (d i : Nat) (v : Win) : (s.setWin d i v).mlk = s.mlk := rfl
@[simp] theorem setWin_sramBad (d i : Nat) (v : Win) : (s.setWin d i v).sramBad = s.sramBad := rfl

/-! ### setQp -/

@[simp] theorem setQp_pending (q : Nat) (v : QP) : (s.setQp q v).pending = s.pending := rfl
@[simp] theorem setQp_fresh (q : Nat) (v : QP) : (s.setQp q v).fresh = s.fresh := rfl
@[simp] theorem setQp_variant (q : Nat) (v : QP) : (s.setQp q v).variant = s.variant := rfl
@[simp] theorem setQp_mode (q : Nat) (v : QP) : (s.setQp q v).mode = s.mode := rfl
@[simp] theorem setQp_life (q : Nat) (v : QP) : (s.setQp q v).life = s.life := rfl
@[simp] theorem setQp_regs (q : Nat) (v : QP) : (s.setQp q v).regs = s.regs := rfl
@[simp] theorem setQp_mem (q : Nat) (v : QP) : (s.setQp q v).mem = s.mem := rfl
@[simp] theorem setQp_hdrs (q : Nat) (v : QP) : (s.setQp q v).hdrs = s.hdrs := rfl
@[simp] theorem setQp_pairs (q : Nat) (v : QP) : (s.setQp q v).pairs = s.pairs := rfl
@[simp] theorem setQp_inbox (q : Nat) (v : QP) : (s.setQp q v).inbox = s.inbox := rfl
@[simp] theorem setQp_ports (q : Nat) (v : QP) : (s.setQp q v).ports = s.ports := rfl
@[simp] theorem setQp_wins (q : Nat) (v : QP) : (s.setQp q v).wins = s.wins := rfl
@[simp] theorem setQp_jobs (q : Nat) (v : QP) : (s.setQp q v).jobs = s.jobs := rfl
@[simp] theorem setQp_nextJob (q : Nat) (v : QP) : (s.setQp q v).nextJob = s.nextJob := rfl
@[simp] theorem setQp_nextFin (q : Nat) (v : QP) : (s.setQp q v).nextFin = s.nextFin := rfl
@[simp] theorem setQp_staging (q : Nat) (v : QP) : (s.setQp q v).staging = s.staging := rfl
@[simp] theorem setQp_leavePend (q : Nat) (v : QP) : (s.setQp q v).leavePend = s.leavePend := rfl
@[simp] theorem setQp_leaveHeld (q : Nat) (v : QP) : (s.setQp q v).leaveHeld = s.leaveHeld := rfl
@[simp] theorem setQp_vslots (q : Nat) (v : QP) : (s.setQp q v).vslots = s.vslots := rfl
@[simp] theorem setQp_binds (q : Nat) (v : QP) : (s.setQp q v).binds = s.binds := rfl
@[simp] theorem setQp_ctxs (q : Nat) (v : QP) : (s.setQp q v).ctxs = s.ctxs := rfl
@[simp] theorem setQp_installs (q : Nat) (v : QP) : (s.setQp q v).installs = s.installs := rfl
@[simp] theorem setQp_closedIdx (q : Nat) (v : QP) : (s.setQp q v).closedIdx = s.closedIdx := rfl
@[simp] theorem setQp_vault (q : Nat) (v : QP) : (s.setQp q v).vault = s.vault := rfl
@[simp] theorem setQp_lanes (q : Nat) (v : QP) : (s.setQp q v).lanes = s.lanes := rfl
@[simp] theorem setQp_streams (q : Nat) (v : QP) : (s.setQp q v).streams = s.streams := rfl
@[simp] theorem setQp_units (q : Nat) (v : QP) : (s.setQp q v).units = s.units := rfl
@[simp] theorem setQp_fwJob (q : Nat) (v : QP) : (s.setQp q v).fwJob = s.fwJob := rfl
@[simp] theorem setQp_fwWait (q : Nat) (v : QP) : (s.setQp q v).fwWait = s.fwWait := rfl
@[simp] theorem setQp_rng (q : Nat) (v : QP) : (s.setQp q v).rng = s.rng := rfl
@[simp] theorem setQp_slots (q : Nat) (v : QP) : (s.setQp q v).slots = s.slots := rfl
@[simp] theorem setQp_kst (q : Nat) (v : QP) : (s.setQp q v).kst = s.kst := rfl
@[simp] theorem setQp_credit (q : Nat) (v : QP) : (s.setQp q v).credit = s.credit := rfl
@[simp] theorem setQp_rounds (q : Nat) (v : QP) : (s.setQp q v).rounds = s.rounds := rfl
@[simp] theorem setQp_rtc (q : Nat) (v : QP) : (s.setQp q v).rtc = s.rtc := rfl
@[simp] theorem setQp_dbgErr (q : Nat) (v : QP) : (s.setQp q v).dbgErr = s.dbgErr := rfl
@[simp] theorem setQp_flashQ (q : Nat) (v : QP) : (s.setQp q v).flashQ = s.flashQ := rfl
@[simp] theorem setQp_flashOn (q : Nat) (v : QP) : (s.setQp q v).flashOn = s.flashOn := rfl
@[simp] theorem setQp_flcAddr (q : Nat) (v : QP) : (s.setQp q v).flcAddr = s.flcAddr := rfl
@[simp] theorem setQp_flcData (q : Nat) (v : QP) : (s.setQp q v).flcData = s.flcData := rfl
@[simp] theorem setQp_torn (q : Nat) (v : QP) : (s.setQp q v).torn = s.torn := rfl
@[simp] theorem setQp_weak (q : Nat) (v : QP) : (s.setQp q v).weak = s.weak := rfl
@[simp] theorem setQp_lostSec (q : Nat) (v : QP) : (s.setQp q v).lostSec = s.lostSec := rfl
@[simp] theorem setQp_flashUsed (q : Nat) (v : QP) : (s.setQp q v).flashUsed = s.flashUsed := rfl
@[simp] theorem setQp_skm (q : Nat) (v : QP) : (s.setQp q v).skm = s.skm := rfl
@[simp] theorem setQp_ris (q : Nat) (v : QP) : (s.setQp q v).ris = s.ris := rfl
@[simp] theorem setQp_rtcValid (q : Nat) (v : QP) : (s.setQp q v).rtcValid = s.rtcValid := rfl
@[simp] theorem setQp_clkFailed (q : Nat) (v : QP) : (s.setQp q v).clkFailed = s.clkFailed := rfl
@[simp] theorem setQp_flags (q : Nat) (v : QP) : (s.setQp q v).flags = s.flags := rfl
@[simp] theorem setQp_flk (q : Nat) (v : QP) : (s.setQp q v).flk = s.flk := rfl
@[simp] theorem setQp_tag (q : Nat) (v : QP) : (s.setQp q v).tag = s.tag := rfl
@[simp] theorem setQp_crd (q : Nat) (v : QP) : (s.setQp q v).crd = s.crd := rfl
@[simp] theorem setQp_clk (q : Nat) (v : QP) : (s.setQp q v).clk = s.clk := rfl
@[simp] theorem setQp_sys (q : Nat) (v : QP) : (s.setQp q v).sys = s.sys := rfl
@[simp] theorem setQp_dbg (q : Nat) (v : QP) : (s.setQp q v).dbg = s.dbg := rfl
@[simp] theorem setQp_mlk (q : Nat) (v : QP) : (s.setQp q v).mlk = s.mlk := rfl
@[simp] theorem setQp_sramBad (q : Nat) (v : QP) : (s.setQp q v).sramBad = s.sramBad := rfl

/-! ### setLane -/

@[simp] theorem setLane_pending (n : Nat) (v : Lane) : (s.setLane n v).pending = s.pending := rfl
@[simp] theorem setLane_fresh (n : Nat) (v : Lane) : (s.setLane n v).fresh = s.fresh := rfl
@[simp] theorem setLane_variant (n : Nat) (v : Lane) : (s.setLane n v).variant = s.variant := rfl
@[simp] theorem setLane_mode (n : Nat) (v : Lane) : (s.setLane n v).mode = s.mode := rfl
@[simp] theorem setLane_life (n : Nat) (v : Lane) : (s.setLane n v).life = s.life := rfl
@[simp] theorem setLane_regs (n : Nat) (v : Lane) : (s.setLane n v).regs = s.regs := rfl
@[simp] theorem setLane_mem (n : Nat) (v : Lane) : (s.setLane n v).mem = s.mem := rfl
@[simp] theorem setLane_hdrs (n : Nat) (v : Lane) : (s.setLane n v).hdrs = s.hdrs := rfl
@[simp] theorem setLane_pairs (n : Nat) (v : Lane) : (s.setLane n v).pairs = s.pairs := rfl
@[simp] theorem setLane_inbox (n : Nat) (v : Lane) : (s.setLane n v).inbox = s.inbox := rfl
@[simp] theorem setLane_ports (n : Nat) (v : Lane) : (s.setLane n v).ports = s.ports := rfl
@[simp] theorem setLane_wins (n : Nat) (v : Lane) : (s.setLane n v).wins = s.wins := rfl
@[simp] theorem setLane_qps (n : Nat) (v : Lane) : (s.setLane n v).qps = s.qps := rfl
@[simp] theorem setLane_jobs (n : Nat) (v : Lane) : (s.setLane n v).jobs = s.jobs := rfl
@[simp] theorem setLane_nextJob (n : Nat) (v : Lane) : (s.setLane n v).nextJob = s.nextJob := rfl
@[simp] theorem setLane_nextFin (n : Nat) (v : Lane) : (s.setLane n v).nextFin = s.nextFin := rfl
@[simp] theorem setLane_staging (n : Nat) (v : Lane) : (s.setLane n v).staging = s.staging := rfl
@[simp] theorem setLane_leavePend (n : Nat) (v : Lane) : (s.setLane n v).leavePend = s.leavePend := rfl
@[simp] theorem setLane_leaveHeld (n : Nat) (v : Lane) : (s.setLane n v).leaveHeld = s.leaveHeld := rfl
@[simp] theorem setLane_vslots (n : Nat) (v : Lane) : (s.setLane n v).vslots = s.vslots := rfl
@[simp] theorem setLane_binds (n : Nat) (v : Lane) : (s.setLane n v).binds = s.binds := rfl
@[simp] theorem setLane_ctxs (n : Nat) (v : Lane) : (s.setLane n v).ctxs = s.ctxs := rfl
@[simp] theorem setLane_installs (n : Nat) (v : Lane) : (s.setLane n v).installs = s.installs := rfl
@[simp] theorem setLane_closedIdx (n : Nat) (v : Lane) : (s.setLane n v).closedIdx = s.closedIdx := rfl
@[simp] theorem setLane_vault (n : Nat) (v : Lane) : (s.setLane n v).vault = s.vault := rfl
@[simp] theorem setLane_streams (n : Nat) (v : Lane) : (s.setLane n v).streams = s.streams := rfl
@[simp] theorem setLane_units (n : Nat) (v : Lane) : (s.setLane n v).units = s.units := rfl
@[simp] theorem setLane_fwJob (n : Nat) (v : Lane) : (s.setLane n v).fwJob = s.fwJob := rfl
@[simp] theorem setLane_fwWait (n : Nat) (v : Lane) : (s.setLane n v).fwWait = s.fwWait := rfl
@[simp] theorem setLane_rng (n : Nat) (v : Lane) : (s.setLane n v).rng = s.rng := rfl
@[simp] theorem setLane_slots (n : Nat) (v : Lane) : (s.setLane n v).slots = s.slots := rfl
@[simp] theorem setLane_kst (n : Nat) (v : Lane) : (s.setLane n v).kst = s.kst := rfl
@[simp] theorem setLane_credit (n : Nat) (v : Lane) : (s.setLane n v).credit = s.credit := rfl
@[simp] theorem setLane_rounds (n : Nat) (v : Lane) : (s.setLane n v).rounds = s.rounds := rfl
@[simp] theorem setLane_rtc (n : Nat) (v : Lane) : (s.setLane n v).rtc = s.rtc := rfl
@[simp] theorem setLane_dbgErr (n : Nat) (v : Lane) : (s.setLane n v).dbgErr = s.dbgErr := rfl
@[simp] theorem setLane_flashQ (n : Nat) (v : Lane) : (s.setLane n v).flashQ = s.flashQ := rfl
@[simp] theorem setLane_flashOn (n : Nat) (v : Lane) : (s.setLane n v).flashOn = s.flashOn := rfl
@[simp] theorem setLane_flcAddr (n : Nat) (v : Lane) : (s.setLane n v).flcAddr = s.flcAddr := rfl
@[simp] theorem setLane_flcData (n : Nat) (v : Lane) : (s.setLane n v).flcData = s.flcData := rfl
@[simp] theorem setLane_torn (n : Nat) (v : Lane) : (s.setLane n v).torn = s.torn := rfl
@[simp] theorem setLane_weak (n : Nat) (v : Lane) : (s.setLane n v).weak = s.weak := rfl
@[simp] theorem setLane_lostSec (n : Nat) (v : Lane) : (s.setLane n v).lostSec = s.lostSec := rfl
@[simp] theorem setLane_flashUsed (n : Nat) (v : Lane) : (s.setLane n v).flashUsed = s.flashUsed := rfl
@[simp] theorem setLane_skm (n : Nat) (v : Lane) : (s.setLane n v).skm = s.skm := rfl
@[simp] theorem setLane_ris (n : Nat) (v : Lane) : (s.setLane n v).ris = s.ris := rfl
@[simp] theorem setLane_rtcValid (n : Nat) (v : Lane) : (s.setLane n v).rtcValid = s.rtcValid := rfl
@[simp] theorem setLane_clkFailed (n : Nat) (v : Lane) : (s.setLane n v).clkFailed = s.clkFailed := rfl
@[simp] theorem setLane_flags (n : Nat) (v : Lane) : (s.setLane n v).flags = s.flags := rfl
@[simp] theorem setLane_flk (n : Nat) (v : Lane) : (s.setLane n v).flk = s.flk := rfl
@[simp] theorem setLane_tag (n : Nat) (v : Lane) : (s.setLane n v).tag = s.tag := rfl
@[simp] theorem setLane_crd (n : Nat) (v : Lane) : (s.setLane n v).crd = s.crd := rfl
@[simp] theorem setLane_clk (n : Nat) (v : Lane) : (s.setLane n v).clk = s.clk := rfl
@[simp] theorem setLane_sys (n : Nat) (v : Lane) : (s.setLane n v).sys = s.sys := rfl
@[simp] theorem setLane_dbg (n : Nat) (v : Lane) : (s.setLane n v).dbg = s.dbg := rfl
@[simp] theorem setLane_mlk (n : Nat) (v : Lane) : (s.setLane n v).mlk = s.mlk := rfl
@[simp] theorem setLane_sramBad (n : Nat) (v : Lane) : (s.setLane n v).sramBad = s.sramBad := rfl

/-! ### setUnit -/

@[simp] theorem setUnit_pending (u : Nat) (v : CUnit) : (s.setUnit u v).pending = s.pending := rfl
@[simp] theorem setUnit_fresh (u : Nat) (v : CUnit) : (s.setUnit u v).fresh = s.fresh := rfl
@[simp] theorem setUnit_variant (u : Nat) (v : CUnit) : (s.setUnit u v).variant = s.variant := rfl
@[simp] theorem setUnit_mode (u : Nat) (v : CUnit) : (s.setUnit u v).mode = s.mode := rfl
@[simp] theorem setUnit_life (u : Nat) (v : CUnit) : (s.setUnit u v).life = s.life := rfl
@[simp] theorem setUnit_regs (u : Nat) (v : CUnit) : (s.setUnit u v).regs = s.regs := rfl
@[simp] theorem setUnit_mem (u : Nat) (v : CUnit) : (s.setUnit u v).mem = s.mem := rfl
@[simp] theorem setUnit_hdrs (u : Nat) (v : CUnit) : (s.setUnit u v).hdrs = s.hdrs := rfl
@[simp] theorem setUnit_pairs (u : Nat) (v : CUnit) : (s.setUnit u v).pairs = s.pairs := rfl
@[simp] theorem setUnit_inbox (u : Nat) (v : CUnit) : (s.setUnit u v).inbox = s.inbox := rfl
@[simp] theorem setUnit_ports (u : Nat) (v : CUnit) : (s.setUnit u v).ports = s.ports := rfl
@[simp] theorem setUnit_wins (u : Nat) (v : CUnit) : (s.setUnit u v).wins = s.wins := rfl
@[simp] theorem setUnit_qps (u : Nat) (v : CUnit) : (s.setUnit u v).qps = s.qps := rfl
@[simp] theorem setUnit_jobs (u : Nat) (v : CUnit) : (s.setUnit u v).jobs = s.jobs := rfl
@[simp] theorem setUnit_nextJob (u : Nat) (v : CUnit) : (s.setUnit u v).nextJob = s.nextJob := rfl
@[simp] theorem setUnit_nextFin (u : Nat) (v : CUnit) : (s.setUnit u v).nextFin = s.nextFin := rfl
@[simp] theorem setUnit_staging (u : Nat) (v : CUnit) : (s.setUnit u v).staging = s.staging := rfl
@[simp] theorem setUnit_leavePend (u : Nat) (v : CUnit) : (s.setUnit u v).leavePend = s.leavePend := rfl
@[simp] theorem setUnit_leaveHeld (u : Nat) (v : CUnit) : (s.setUnit u v).leaveHeld = s.leaveHeld := rfl
@[simp] theorem setUnit_vslots (u : Nat) (v : CUnit) : (s.setUnit u v).vslots = s.vslots := rfl
@[simp] theorem setUnit_binds (u : Nat) (v : CUnit) : (s.setUnit u v).binds = s.binds := rfl
@[simp] theorem setUnit_ctxs (u : Nat) (v : CUnit) : (s.setUnit u v).ctxs = s.ctxs := rfl
@[simp] theorem setUnit_installs (u : Nat) (v : CUnit) : (s.setUnit u v).installs = s.installs := rfl
@[simp] theorem setUnit_closedIdx (u : Nat) (v : CUnit) : (s.setUnit u v).closedIdx = s.closedIdx := rfl
@[simp] theorem setUnit_vault (u : Nat) (v : CUnit) : (s.setUnit u v).vault = s.vault := rfl
@[simp] theorem setUnit_lanes (u : Nat) (v : CUnit) : (s.setUnit u v).lanes = s.lanes := rfl
@[simp] theorem setUnit_streams (u : Nat) (v : CUnit) : (s.setUnit u v).streams = s.streams := rfl
@[simp] theorem setUnit_fwJob (u : Nat) (v : CUnit) : (s.setUnit u v).fwJob = s.fwJob := rfl
@[simp] theorem setUnit_fwWait (u : Nat) (v : CUnit) : (s.setUnit u v).fwWait = s.fwWait := rfl
@[simp] theorem setUnit_rng (u : Nat) (v : CUnit) : (s.setUnit u v).rng = s.rng := rfl
@[simp] theorem setUnit_slots (u : Nat) (v : CUnit) : (s.setUnit u v).slots = s.slots := rfl
@[simp] theorem setUnit_kst (u : Nat) (v : CUnit) : (s.setUnit u v).kst = s.kst := rfl
@[simp] theorem setUnit_credit (u : Nat) (v : CUnit) : (s.setUnit u v).credit = s.credit := rfl
@[simp] theorem setUnit_rounds (u : Nat) (v : CUnit) : (s.setUnit u v).rounds = s.rounds := rfl
@[simp] theorem setUnit_rtc (u : Nat) (v : CUnit) : (s.setUnit u v).rtc = s.rtc := rfl
@[simp] theorem setUnit_dbgErr (u : Nat) (v : CUnit) : (s.setUnit u v).dbgErr = s.dbgErr := rfl
@[simp] theorem setUnit_flashQ (u : Nat) (v : CUnit) : (s.setUnit u v).flashQ = s.flashQ := rfl
@[simp] theorem setUnit_flashOn (u : Nat) (v : CUnit) : (s.setUnit u v).flashOn = s.flashOn := rfl
@[simp] theorem setUnit_flcAddr (u : Nat) (v : CUnit) : (s.setUnit u v).flcAddr = s.flcAddr := rfl
@[simp] theorem setUnit_flcData (u : Nat) (v : CUnit) : (s.setUnit u v).flcData = s.flcData := rfl
@[simp] theorem setUnit_torn (u : Nat) (v : CUnit) : (s.setUnit u v).torn = s.torn := rfl
@[simp] theorem setUnit_weak (u : Nat) (v : CUnit) : (s.setUnit u v).weak = s.weak := rfl
@[simp] theorem setUnit_lostSec (u : Nat) (v : CUnit) : (s.setUnit u v).lostSec = s.lostSec := rfl
@[simp] theorem setUnit_flashUsed (u : Nat) (v : CUnit) : (s.setUnit u v).flashUsed = s.flashUsed := rfl
@[simp] theorem setUnit_skm (u : Nat) (v : CUnit) : (s.setUnit u v).skm = s.skm := rfl
@[simp] theorem setUnit_ris (u : Nat) (v : CUnit) : (s.setUnit u v).ris = s.ris := rfl
@[simp] theorem setUnit_rtcValid (u : Nat) (v : CUnit) : (s.setUnit u v).rtcValid = s.rtcValid := rfl
@[simp] theorem setUnit_clkFailed (u : Nat) (v : CUnit) : (s.setUnit u v).clkFailed = s.clkFailed := rfl
@[simp] theorem setUnit_flags (u : Nat) (v : CUnit) : (s.setUnit u v).flags = s.flags := rfl
@[simp] theorem setUnit_flk (u : Nat) (v : CUnit) : (s.setUnit u v).flk = s.flk := rfl
@[simp] theorem setUnit_tag (u : Nat) (v : CUnit) : (s.setUnit u v).tag = s.tag := rfl
@[simp] theorem setUnit_crd (u : Nat) (v : CUnit) : (s.setUnit u v).crd = s.crd := rfl
@[simp] theorem setUnit_clk (u : Nat) (v : CUnit) : (s.setUnit u v).clk = s.clk := rfl
@[simp] theorem setUnit_sys (u : Nat) (v : CUnit) : (s.setUnit u v).sys = s.sys := rfl
@[simp] theorem setUnit_dbg (u : Nat) (v : CUnit) : (s.setUnit u v).dbg = s.dbg := rfl
@[simp] theorem setUnit_mlk (u : Nat) (v : CUnit) : (s.setUnit u v).mlk = s.mlk := rfl
@[simp] theorem setUnit_sramBad (u : Nat) (v : CUnit) : (s.setUnit u v).sramBad = s.sramBad := rfl

/-! ### setStream -/

@[simp] theorem setStream_pending (n : Nat) (v : Stream) : (s.setStream n v).pending = s.pending := rfl
@[simp] theorem setStream_fresh (n : Nat) (v : Stream) : (s.setStream n v).fresh = s.fresh := rfl
@[simp] theorem setStream_variant (n : Nat) (v : Stream) : (s.setStream n v).variant = s.variant := rfl
@[simp] theorem setStream_mode (n : Nat) (v : Stream) : (s.setStream n v).mode = s.mode := rfl
@[simp] theorem setStream_life (n : Nat) (v : Stream) : (s.setStream n v).life = s.life := rfl
@[simp] theorem setStream_regs (n : Nat) (v : Stream) : (s.setStream n v).regs = s.regs := rfl
@[simp] theorem setStream_mem (n : Nat) (v : Stream) : (s.setStream n v).mem = s.mem := rfl
@[simp] theorem setStream_hdrs (n : Nat) (v : Stream) : (s.setStream n v).hdrs = s.hdrs := rfl
@[simp] theorem setStream_pairs (n : Nat) (v : Stream) : (s.setStream n v).pairs = s.pairs := rfl
@[simp] theorem setStream_inbox (n : Nat) (v : Stream) : (s.setStream n v).inbox = s.inbox := rfl
@[simp] theorem setStream_ports (n : Nat) (v : Stream) : (s.setStream n v).ports = s.ports := rfl
@[simp] theorem setStream_wins (n : Nat) (v : Stream) : (s.setStream n v).wins = s.wins := rfl
@[simp] theorem setStream_qps (n : Nat) (v : Stream) : (s.setStream n v).qps = s.qps := rfl
@[simp] theorem setStream_jobs (n : Nat) (v : Stream) : (s.setStream n v).jobs = s.jobs := rfl
@[simp] theorem setStream_nextJob (n : Nat) (v : Stream) : (s.setStream n v).nextJob = s.nextJob := rfl
@[simp] theorem setStream_nextFin (n : Nat) (v : Stream) : (s.setStream n v).nextFin = s.nextFin := rfl
@[simp] theorem setStream_staging (n : Nat) (v : Stream) : (s.setStream n v).staging = s.staging := rfl
@[simp] theorem setStream_leavePend (n : Nat) (v : Stream) : (s.setStream n v).leavePend = s.leavePend := rfl
@[simp] theorem setStream_leaveHeld (n : Nat) (v : Stream) : (s.setStream n v).leaveHeld = s.leaveHeld := rfl
@[simp] theorem setStream_vslots (n : Nat) (v : Stream) : (s.setStream n v).vslots = s.vslots := rfl
@[simp] theorem setStream_binds (n : Nat) (v : Stream) : (s.setStream n v).binds = s.binds := rfl
@[simp] theorem setStream_ctxs (n : Nat) (v : Stream) : (s.setStream n v).ctxs = s.ctxs := rfl
@[simp] theorem setStream_installs (n : Nat) (v : Stream) : (s.setStream n v).installs = s.installs := rfl
@[simp] theorem setStream_closedIdx (n : Nat) (v : Stream) : (s.setStream n v).closedIdx = s.closedIdx := rfl
@[simp] theorem setStream_vault (n : Nat) (v : Stream) : (s.setStream n v).vault = s.vault := rfl
@[simp] theorem setStream_lanes (n : Nat) (v : Stream) : (s.setStream n v).lanes = s.lanes := rfl
@[simp] theorem setStream_units (n : Nat) (v : Stream) : (s.setStream n v).units = s.units := rfl
@[simp] theorem setStream_fwJob (n : Nat) (v : Stream) : (s.setStream n v).fwJob = s.fwJob := rfl
@[simp] theorem setStream_fwWait (n : Nat) (v : Stream) : (s.setStream n v).fwWait = s.fwWait := rfl
@[simp] theorem setStream_rng (n : Nat) (v : Stream) : (s.setStream n v).rng = s.rng := rfl
@[simp] theorem setStream_slots (n : Nat) (v : Stream) : (s.setStream n v).slots = s.slots := rfl
@[simp] theorem setStream_kst (n : Nat) (v : Stream) : (s.setStream n v).kst = s.kst := rfl
@[simp] theorem setStream_credit (n : Nat) (v : Stream) : (s.setStream n v).credit = s.credit := rfl
@[simp] theorem setStream_rounds (n : Nat) (v : Stream) : (s.setStream n v).rounds = s.rounds := rfl
@[simp] theorem setStream_rtc (n : Nat) (v : Stream) : (s.setStream n v).rtc = s.rtc := rfl
@[simp] theorem setStream_dbgErr (n : Nat) (v : Stream) : (s.setStream n v).dbgErr = s.dbgErr := rfl
@[simp] theorem setStream_flashQ (n : Nat) (v : Stream) : (s.setStream n v).flashQ = s.flashQ := rfl
@[simp] theorem setStream_flashOn (n : Nat) (v : Stream) : (s.setStream n v).flashOn = s.flashOn := rfl
@[simp] theorem setStream_flcAddr (n : Nat) (v : Stream) : (s.setStream n v).flcAddr = s.flcAddr := rfl
@[simp] theorem setStream_flcData (n : Nat) (v : Stream) : (s.setStream n v).flcData = s.flcData := rfl
@[simp] theorem setStream_torn (n : Nat) (v : Stream) : (s.setStream n v).torn = s.torn := rfl
@[simp] theorem setStream_weak (n : Nat) (v : Stream) : (s.setStream n v).weak = s.weak := rfl
@[simp] theorem setStream_lostSec (n : Nat) (v : Stream) : (s.setStream n v).lostSec = s.lostSec := rfl
@[simp] theorem setStream_flashUsed (n : Nat) (v : Stream) : (s.setStream n v).flashUsed = s.flashUsed := rfl
@[simp] theorem setStream_skm (n : Nat) (v : Stream) : (s.setStream n v).skm = s.skm := rfl
@[simp] theorem setStream_ris (n : Nat) (v : Stream) : (s.setStream n v).ris = s.ris := rfl
@[simp] theorem setStream_rtcValid (n : Nat) (v : Stream) : (s.setStream n v).rtcValid = s.rtcValid := rfl
@[simp] theorem setStream_clkFailed (n : Nat) (v : Stream) : (s.setStream n v).clkFailed = s.clkFailed := rfl
@[simp] theorem setStream_flags (n : Nat) (v : Stream) : (s.setStream n v).flags = s.flags := rfl
@[simp] theorem setStream_flk (n : Nat) (v : Stream) : (s.setStream n v).flk = s.flk := rfl
@[simp] theorem setStream_tag (n : Nat) (v : Stream) : (s.setStream n v).tag = s.tag := rfl
@[simp] theorem setStream_crd (n : Nat) (v : Stream) : (s.setStream n v).crd = s.crd := rfl
@[simp] theorem setStream_clk (n : Nat) (v : Stream) : (s.setStream n v).clk = s.clk := rfl
@[simp] theorem setStream_sys (n : Nat) (v : Stream) : (s.setStream n v).sys = s.sys := rfl
@[simp] theorem setStream_dbg (n : Nat) (v : Stream) : (s.setStream n v).dbg = s.dbg := rfl
@[simp] theorem setStream_mlk (n : Nat) (v : Stream) : (s.setStream n v).mlk = s.mlk := rfl
@[simp] theorem setStream_sramBad (n : Nat) (v : Stream) : (s.setStream n v).sramBad = s.sramBad := rfl

/-! ### setSlot -/

@[simp] theorem setSlot_pending (n : Nat) (v : KSlot) : (s.setSlot n v).pending = s.pending := rfl
@[simp] theorem setSlot_fresh (n : Nat) (v : KSlot) : (s.setSlot n v).fresh = s.fresh := rfl
@[simp] theorem setSlot_variant (n : Nat) (v : KSlot) : (s.setSlot n v).variant = s.variant := rfl
@[simp] theorem setSlot_mode (n : Nat) (v : KSlot) : (s.setSlot n v).mode = s.mode := rfl
@[simp] theorem setSlot_life (n : Nat) (v : KSlot) : (s.setSlot n v).life = s.life := rfl
@[simp] theorem setSlot_regs (n : Nat) (v : KSlot) : (s.setSlot n v).regs = s.regs := rfl
@[simp] theorem setSlot_mem (n : Nat) (v : KSlot) : (s.setSlot n v).mem = s.mem := rfl
@[simp] theorem setSlot_hdrs (n : Nat) (v : KSlot) : (s.setSlot n v).hdrs = s.hdrs := rfl
@[simp] theorem setSlot_pairs (n : Nat) (v : KSlot) : (s.setSlot n v).pairs = s.pairs := rfl
@[simp] theorem setSlot_inbox (n : Nat) (v : KSlot) : (s.setSlot n v).inbox = s.inbox := rfl
@[simp] theorem setSlot_ports (n : Nat) (v : KSlot) : (s.setSlot n v).ports = s.ports := rfl
@[simp] theorem setSlot_wins (n : Nat) (v : KSlot) : (s.setSlot n v).wins = s.wins := rfl
@[simp] theorem setSlot_qps (n : Nat) (v : KSlot) : (s.setSlot n v).qps = s.qps := rfl
@[simp] theorem setSlot_jobs (n : Nat) (v : KSlot) : (s.setSlot n v).jobs = s.jobs := rfl
@[simp] theorem setSlot_nextJob (n : Nat) (v : KSlot) : (s.setSlot n v).nextJob = s.nextJob := rfl
@[simp] theorem setSlot_nextFin (n : Nat) (v : KSlot) : (s.setSlot n v).nextFin = s.nextFin := rfl
@[simp] theorem setSlot_staging (n : Nat) (v : KSlot) : (s.setSlot n v).staging = s.staging := rfl
@[simp] theorem setSlot_leavePend (n : Nat) (v : KSlot) : (s.setSlot n v).leavePend = s.leavePend := rfl
@[simp] theorem setSlot_leaveHeld (n : Nat) (v : KSlot) : (s.setSlot n v).leaveHeld = s.leaveHeld := rfl
@[simp] theorem setSlot_vslots (n : Nat) (v : KSlot) : (s.setSlot n v).vslots = s.vslots := rfl
@[simp] theorem setSlot_binds (n : Nat) (v : KSlot) : (s.setSlot n v).binds = s.binds := rfl
@[simp] theorem setSlot_ctxs (n : Nat) (v : KSlot) : (s.setSlot n v).ctxs = s.ctxs := rfl
@[simp] theorem setSlot_installs (n : Nat) (v : KSlot) : (s.setSlot n v).installs = s.installs := rfl
@[simp] theorem setSlot_closedIdx (n : Nat) (v : KSlot) : (s.setSlot n v).closedIdx = s.closedIdx := rfl
@[simp] theorem setSlot_vault (n : Nat) (v : KSlot) : (s.setSlot n v).vault = s.vault := rfl
@[simp] theorem setSlot_lanes (n : Nat) (v : KSlot) : (s.setSlot n v).lanes = s.lanes := rfl
@[simp] theorem setSlot_streams (n : Nat) (v : KSlot) : (s.setSlot n v).streams = s.streams := rfl
@[simp] theorem setSlot_units (n : Nat) (v : KSlot) : (s.setSlot n v).units = s.units := rfl
@[simp] theorem setSlot_fwJob (n : Nat) (v : KSlot) : (s.setSlot n v).fwJob = s.fwJob := rfl
@[simp] theorem setSlot_fwWait (n : Nat) (v : KSlot) : (s.setSlot n v).fwWait = s.fwWait := rfl
@[simp] theorem setSlot_rng (n : Nat) (v : KSlot) : (s.setSlot n v).rng = s.rng := rfl
@[simp] theorem setSlot_kst (n : Nat) (v : KSlot) : (s.setSlot n v).kst = s.kst := rfl
@[simp] theorem setSlot_credit (n : Nat) (v : KSlot) : (s.setSlot n v).credit = s.credit := rfl
@[simp] theorem setSlot_rounds (n : Nat) (v : KSlot) : (s.setSlot n v).rounds = s.rounds := rfl
@[simp] theorem setSlot_rtc (n : Nat) (v : KSlot) : (s.setSlot n v).rtc = s.rtc := rfl
@[simp] theorem setSlot_dbgErr (n : Nat) (v : KSlot) : (s.setSlot n v).dbgErr = s.dbgErr := rfl
@[simp] theorem setSlot_flashQ (n : Nat) (v : KSlot) : (s.setSlot n v).flashQ = s.flashQ := rfl
@[simp] theorem setSlot_flashOn (n : Nat) (v : KSlot) : (s.setSlot n v).flashOn = s.flashOn := rfl
@[simp] theorem setSlot_flcAddr (n : Nat) (v : KSlot) : (s.setSlot n v).flcAddr = s.flcAddr := rfl
@[simp] theorem setSlot_flcData (n : Nat) (v : KSlot) : (s.setSlot n v).flcData = s.flcData := rfl
@[simp] theorem setSlot_torn (n : Nat) (v : KSlot) : (s.setSlot n v).torn = s.torn := rfl
@[simp] theorem setSlot_weak (n : Nat) (v : KSlot) : (s.setSlot n v).weak = s.weak := rfl
@[simp] theorem setSlot_lostSec (n : Nat) (v : KSlot) : (s.setSlot n v).lostSec = s.lostSec := rfl
@[simp] theorem setSlot_flashUsed (n : Nat) (v : KSlot) : (s.setSlot n v).flashUsed = s.flashUsed := rfl
@[simp] theorem setSlot_skm (n : Nat) (v : KSlot) : (s.setSlot n v).skm = s.skm := rfl
@[simp] theorem setSlot_ris (n : Nat) (v : KSlot) : (s.setSlot n v).ris = s.ris := rfl
@[simp] theorem setSlot_rtcValid (n : Nat) (v : KSlot) : (s.setSlot n v).rtcValid = s.rtcValid := rfl
@[simp] theorem setSlot_clkFailed (n : Nat) (v : KSlot) : (s.setSlot n v).clkFailed = s.clkFailed := rfl
@[simp] theorem setSlot_flags (n : Nat) (v : KSlot) : (s.setSlot n v).flags = s.flags := rfl
@[simp] theorem setSlot_flk (n : Nat) (v : KSlot) : (s.setSlot n v).flk = s.flk := rfl
@[simp] theorem setSlot_tag (n : Nat) (v : KSlot) : (s.setSlot n v).tag = s.tag := rfl
@[simp] theorem setSlot_crd (n : Nat) (v : KSlot) : (s.setSlot n v).crd = s.crd := rfl
@[simp] theorem setSlot_clk (n : Nat) (v : KSlot) : (s.setSlot n v).clk = s.clk := rfl
@[simp] theorem setSlot_sys (n : Nat) (v : KSlot) : (s.setSlot n v).sys = s.sys := rfl
@[simp] theorem setSlot_dbg (n : Nat) (v : KSlot) : (s.setSlot n v).dbg = s.dbg := rfl
@[simp] theorem setSlot_mlk (n : Nat) (v : KSlot) : (s.setSlot n v).mlk = s.mlk := rfl
@[simp] theorem setSlot_sramBad (n : Nat) (v : KSlot) : (s.setSlot n v).sramBad = s.sramBad := rfl

/-! ### setBind -/

@[simp] theorem setBind_pending (d : Nat) (b : Bind) : (s.setBind d b).pending = s.pending := rfl
@[simp] theorem setBind_fresh (d : Nat) (b : Bind) : (s.setBind d b).fresh = s.fresh := rfl
@[simp] theorem setBind_variant (d : Nat) (b : Bind) : (s.setBind d b).variant = s.variant := rfl
@[simp] theorem setBind_mode (d : Nat) (b : Bind) : (s.setBind d b).mode = s.mode := rfl
@[simp] theorem setBind_life (d : Nat) (b : Bind) : (s.setBind d b).life = s.life := rfl
@[simp] theorem setBind_regs (d : Nat) (b : Bind) : (s.setBind d b).regs = s.regs := rfl
@[simp] theorem setBind_mem (d : Nat) (b : Bind) : (s.setBind d b).mem = s.mem := rfl
@[simp] theorem setBind_hdrs (d : Nat) (b : Bind) : (s.setBind d b).hdrs = s.hdrs := rfl
@[simp] theorem setBind_pairs (d : Nat) (b : Bind) : (s.setBind d b).pairs = s.pairs := rfl
@[simp] theorem setBind_inbox (d : Nat) (b : Bind) : (s.setBind d b).inbox = s.inbox := rfl
@[simp] theorem setBind_ports (d : Nat) (b : Bind) : (s.setBind d b).ports = s.ports := rfl
@[simp] theorem setBind_wins (d : Nat) (b : Bind) : (s.setBind d b).wins = s.wins := rfl
@[simp] theorem setBind_qps (d : Nat) (b : Bind) : (s.setBind d b).qps = s.qps := rfl
@[simp] theorem setBind_jobs (d : Nat) (b : Bind) : (s.setBind d b).jobs = s.jobs := rfl
@[simp] theorem setBind_nextJob (d : Nat) (b : Bind) : (s.setBind d b).nextJob = s.nextJob := rfl
@[simp] theorem setBind_nextFin (d : Nat) (b : Bind) : (s.setBind d b).nextFin = s.nextFin := rfl
@[simp] theorem setBind_staging (d : Nat) (b : Bind) : (s.setBind d b).staging = s.staging := rfl
@[simp] theorem setBind_leavePend (d : Nat) (b : Bind) : (s.setBind d b).leavePend = s.leavePend := rfl
@[simp] theorem setBind_leaveHeld (d : Nat) (b : Bind) : (s.setBind d b).leaveHeld = s.leaveHeld := rfl
@[simp] theorem setBind_vslots (d : Nat) (b : Bind) : (s.setBind d b).vslots = s.vslots := rfl
@[simp] theorem setBind_ctxs (d : Nat) (b : Bind) : (s.setBind d b).ctxs = s.ctxs := rfl
@[simp] theorem setBind_installs (d : Nat) (b : Bind) : (s.setBind d b).installs = s.installs := rfl
@[simp] theorem setBind_closedIdx (d : Nat) (b : Bind) : (s.setBind d b).closedIdx = s.closedIdx := rfl
@[simp] theorem setBind_vault (d : Nat) (b : Bind) : (s.setBind d b).vault = s.vault := rfl
@[simp] theorem setBind_lanes (d : Nat) (b : Bind) : (s.setBind d b).lanes = s.lanes := rfl
@[simp] theorem setBind_streams (d : Nat) (b : Bind) : (s.setBind d b).streams = s.streams := rfl
@[simp] theorem setBind_units (d : Nat) (b : Bind) : (s.setBind d b).units = s.units := rfl
@[simp] theorem setBind_fwJob (d : Nat) (b : Bind) : (s.setBind d b).fwJob = s.fwJob := rfl
@[simp] theorem setBind_fwWait (d : Nat) (b : Bind) : (s.setBind d b).fwWait = s.fwWait := rfl
@[simp] theorem setBind_rng (d : Nat) (b : Bind) : (s.setBind d b).rng = s.rng := rfl
@[simp] theorem setBind_slots (d : Nat) (b : Bind) : (s.setBind d b).slots = s.slots := rfl
@[simp] theorem setBind_kst (d : Nat) (b : Bind) : (s.setBind d b).kst = s.kst := rfl
@[simp] theorem setBind_credit (d : Nat) (b : Bind) : (s.setBind d b).credit = s.credit := rfl
@[simp] theorem setBind_rounds (d : Nat) (b : Bind) : (s.setBind d b).rounds = s.rounds := rfl
@[simp] theorem setBind_rtc (d : Nat) (b : Bind) : (s.setBind d b).rtc = s.rtc := rfl
@[simp] theorem setBind_dbgErr (d : Nat) (b : Bind) : (s.setBind d b).dbgErr = s.dbgErr := rfl
@[simp] theorem setBind_flashQ (d : Nat) (b : Bind) : (s.setBind d b).flashQ = s.flashQ := rfl
@[simp] theorem setBind_flashOn (d : Nat) (b : Bind) : (s.setBind d b).flashOn = s.flashOn := rfl
@[simp] theorem setBind_flcAddr (d : Nat) (b : Bind) : (s.setBind d b).flcAddr = s.flcAddr := rfl
@[simp] theorem setBind_flcData (d : Nat) (b : Bind) : (s.setBind d b).flcData = s.flcData := rfl
@[simp] theorem setBind_torn (d : Nat) (b : Bind) : (s.setBind d b).torn = s.torn := rfl
@[simp] theorem setBind_weak (d : Nat) (b : Bind) : (s.setBind d b).weak = s.weak := rfl
@[simp] theorem setBind_lostSec (d : Nat) (b : Bind) : (s.setBind d b).lostSec = s.lostSec := rfl
@[simp] theorem setBind_flashUsed (d : Nat) (b : Bind) : (s.setBind d b).flashUsed = s.flashUsed := rfl
@[simp] theorem setBind_skm (d : Nat) (b : Bind) : (s.setBind d b).skm = s.skm := rfl
@[simp] theorem setBind_ris (d : Nat) (b : Bind) : (s.setBind d b).ris = s.ris := rfl
@[simp] theorem setBind_rtcValid (d : Nat) (b : Bind) : (s.setBind d b).rtcValid = s.rtcValid := rfl
@[simp] theorem setBind_clkFailed (d : Nat) (b : Bind) : (s.setBind d b).clkFailed = s.clkFailed := rfl
@[simp] theorem setBind_flags (d : Nat) (b : Bind) : (s.setBind d b).flags = s.flags := rfl
@[simp] theorem setBind_flk (d : Nat) (b : Bind) : (s.setBind d b).flk = s.flk := rfl
@[simp] theorem setBind_tag (d : Nat) (b : Bind) : (s.setBind d b).tag = s.tag := rfl
@[simp] theorem setBind_crd (d : Nat) (b : Bind) : (s.setBind d b).crd = s.crd := rfl
@[simp] theorem setBind_clk (d : Nat) (b : Bind) : (s.setBind d b).clk = s.clk := rfl
@[simp] theorem setBind_sys (d : Nat) (b : Bind) : (s.setBind d b).sys = s.sys := rfl
@[simp] theorem setBind_dbg (d : Nat) (b : Bind) : (s.setBind d b).dbg = s.dbg := rfl
@[simp] theorem setBind_mlk (d : Nat) (b : Bind) : (s.setBind d b).mlk = s.mlk := rfl
@[simp] theorem setBind_sramBad (d : Nat) (b : Bind) : (s.setBind d b).sramBad = s.sramBad := rfl

/-! ### setVslot -/

@[simp] theorem setVslot_pending (n : Nat) (v : VSlot) : (s.setVslot n v).pending = s.pending := rfl
@[simp] theorem setVslot_fresh (n : Nat) (v : VSlot) : (s.setVslot n v).fresh = s.fresh := rfl
@[simp] theorem setVslot_variant (n : Nat) (v : VSlot) : (s.setVslot n v).variant = s.variant := rfl
@[simp] theorem setVslot_mode (n : Nat) (v : VSlot) : (s.setVslot n v).mode = s.mode := rfl
@[simp] theorem setVslot_life (n : Nat) (v : VSlot) : (s.setVslot n v).life = s.life := rfl
@[simp] theorem setVslot_regs (n : Nat) (v : VSlot) : (s.setVslot n v).regs = s.regs := rfl
@[simp] theorem setVslot_mem (n : Nat) (v : VSlot) : (s.setVslot n v).mem = s.mem := rfl
@[simp] theorem setVslot_hdrs (n : Nat) (v : VSlot) : (s.setVslot n v).hdrs = s.hdrs := rfl
@[simp] theorem setVslot_pairs (n : Nat) (v : VSlot) : (s.setVslot n v).pairs = s.pairs := rfl
@[simp] theorem setVslot_inbox (n : Nat) (v : VSlot) : (s.setVslot n v).inbox = s.inbox := rfl
@[simp] theorem setVslot_ports (n : Nat) (v : VSlot) : (s.setVslot n v).ports = s.ports := rfl
@[simp] theorem setVslot_wins (n : Nat) (v : VSlot) : (s.setVslot n v).wins = s.wins := rfl
@[simp] theorem setVslot_qps (n : Nat) (v : VSlot) : (s.setVslot n v).qps = s.qps := rfl
@[simp] theorem setVslot_jobs (n : Nat) (v : VSlot) : (s.setVslot n v).jobs = s.jobs := rfl
@[simp] theorem setVslot_nextJob (n : Nat) (v : VSlot) : (s.setVslot n v).nextJob = s.nextJob := rfl
@[simp] theorem setVslot_nextFin (n : Nat) (v : VSlot) : (s.setVslot n v).nextFin = s.nextFin := rfl
@[simp] theorem setVslot_staging (n : Nat) (v : VSlot) : (s.setVslot n v).staging = s.staging := rfl
@[simp] theorem setVslot_leavePend (n : Nat) (v : VSlot) : (s.setVslot n v).leavePend = s.leavePend := rfl
@[simp] theorem setVslot_leaveHeld (n : Nat) (v : VSlot) : (s.setVslot n v).leaveHeld = s.leaveHeld := rfl
@[simp] theorem setVslot_binds (n : Nat) (v : VSlot) : (s.setVslot n v).binds = s.binds := rfl
@[simp] theorem setVslot_ctxs (n : Nat) (v : VSlot) : (s.setVslot n v).ctxs = s.ctxs := rfl
@[simp] theorem setVslot_installs (n : Nat) (v : VSlot) : (s.setVslot n v).installs = s.installs := rfl
@[simp] theorem setVslot_closedIdx (n : Nat) (v : VSlot) : (s.setVslot n v).closedIdx = s.closedIdx := rfl
@[simp] theorem setVslot_vault (n : Nat) (v : VSlot) : (s.setVslot n v).vault = s.vault := rfl
@[simp] theorem setVslot_lanes (n : Nat) (v : VSlot) : (s.setVslot n v).lanes = s.lanes := rfl
@[simp] theorem setVslot_streams (n : Nat) (v : VSlot) : (s.setVslot n v).streams = s.streams := rfl
@[simp] theorem setVslot_units (n : Nat) (v : VSlot) : (s.setVslot n v).units = s.units := rfl
@[simp] theorem setVslot_fwJob (n : Nat) (v : VSlot) : (s.setVslot n v).fwJob = s.fwJob := rfl
@[simp] theorem setVslot_fwWait (n : Nat) (v : VSlot) : (s.setVslot n v).fwWait = s.fwWait := rfl
@[simp] theorem setVslot_rng (n : Nat) (v : VSlot) : (s.setVslot n v).rng = s.rng := rfl
@[simp] theorem setVslot_slots (n : Nat) (v : VSlot) : (s.setVslot n v).slots = s.slots := rfl
@[simp] theorem setVslot_kst (n : Nat) (v : VSlot) : (s.setVslot n v).kst = s.kst := rfl
@[simp] theorem setVslot_credit (n : Nat) (v : VSlot) : (s.setVslot n v).credit = s.credit := rfl
@[simp] theorem setVslot_rounds (n : Nat) (v : VSlot) : (s.setVslot n v).rounds = s.rounds := rfl
@[simp] theorem setVslot_rtc (n : Nat) (v : VSlot) : (s.setVslot n v).rtc = s.rtc := rfl
@[simp] theorem setVslot_dbgErr (n : Nat) (v : VSlot) : (s.setVslot n v).dbgErr = s.dbgErr := rfl
@[simp] theorem setVslot_flashQ (n : Nat) (v : VSlot) : (s.setVslot n v).flashQ = s.flashQ := rfl
@[simp] theorem setVslot_flashOn (n : Nat) (v : VSlot) : (s.setVslot n v).flashOn = s.flashOn := rfl
@[simp] theorem setVslot_flcAddr (n : Nat) (v : VSlot) : (s.setVslot n v).flcAddr = s.flcAddr := rfl
@[simp] theorem setVslot_flcData (n : Nat) (v : VSlot) : (s.setVslot n v).flcData = s.flcData := rfl
@[simp] theorem setVslot_torn (n : Nat) (v : VSlot) : (s.setVslot n v).torn = s.torn := rfl
@[simp] theorem setVslot_weak (n : Nat) (v : VSlot) : (s.setVslot n v).weak = s.weak := rfl
@[simp] theorem setVslot_lostSec (n : Nat) (v : VSlot) : (s.setVslot n v).lostSec = s.lostSec := rfl
@[simp] theorem setVslot_flashUsed (n : Nat) (v : VSlot) : (s.setVslot n v).flashUsed = s.flashUsed := rfl
@[simp] theorem setVslot_skm (n : Nat) (v : VSlot) : (s.setVslot n v).skm = s.skm := rfl
@[simp] theorem setVslot_ris (n : Nat) (v : VSlot) : (s.setVslot n v).ris = s.ris := rfl
@[simp] theorem setVslot_rtcValid (n : Nat) (v : VSlot) : (s.setVslot n v).rtcValid = s.rtcValid := rfl
@[simp] theorem setVslot_clkFailed (n : Nat) (v : VSlot) : (s.setVslot n v).clkFailed = s.clkFailed := rfl
@[simp] theorem setVslot_flags (n : Nat) (v : VSlot) : (s.setVslot n v).flags = s.flags := rfl
@[simp] theorem setVslot_flk (n : Nat) (v : VSlot) : (s.setVslot n v).flk = s.flk := rfl
@[simp] theorem setVslot_tag (n : Nat) (v : VSlot) : (s.setVslot n v).tag = s.tag := rfl
@[simp] theorem setVslot_crd (n : Nat) (v : VSlot) : (s.setVslot n v).crd = s.crd := rfl
@[simp] theorem setVslot_clk (n : Nat) (v : VSlot) : (s.setVslot n v).clk = s.clk := rfl
@[simp] theorem setVslot_sys (n : Nat) (v : VSlot) : (s.setVslot n v).sys = s.sys := rfl
@[simp] theorem setVslot_dbg (n : Nat) (v : VSlot) : (s.setVslot n v).dbg = s.dbg := rfl
@[simp] theorem setVslot_mlk (n : Nat) (v : VSlot) : (s.setVslot n v).mlk = s.mlk := rfl
@[simp] theorem setVslot_sramBad (n : Nat) (v : VSlot) : (s.setVslot n v).sramBad = s.sramBad := rfl

/-! ### setSrc -/

@[simp] theorem setSrc_pending (n : Nat) (v : Src) : (s.setSrc n v).pending = s.pending := rfl
@[simp] theorem setSrc_fresh (n : Nat) (v : Src) : (s.setSrc n v).fresh = s.fresh := rfl
@[simp] theorem setSrc_variant (n : Nat) (v : Src) : (s.setSrc n v).variant = s.variant := rfl
@[simp] theorem setSrc_mode (n : Nat) (v : Src) : (s.setSrc n v).mode = s.mode := rfl
@[simp] theorem setSrc_life (n : Nat) (v : Src) : (s.setSrc n v).life = s.life := rfl
@[simp] theorem setSrc_regs (n : Nat) (v : Src) : (s.setSrc n v).regs = s.regs := rfl
@[simp] theorem setSrc_mem (n : Nat) (v : Src) : (s.setSrc n v).mem = s.mem := rfl
@[simp] theorem setSrc_hdrs (n : Nat) (v : Src) : (s.setSrc n v).hdrs = s.hdrs := rfl
@[simp] theorem setSrc_pairs (n : Nat) (v : Src) : (s.setSrc n v).pairs = s.pairs := rfl
@[simp] theorem setSrc_inbox (n : Nat) (v : Src) : (s.setSrc n v).inbox = s.inbox := rfl
@[simp] theorem setSrc_ports (n : Nat) (v : Src) : (s.setSrc n v).ports = s.ports := rfl
@[simp] theorem setSrc_wins (n : Nat) (v : Src) : (s.setSrc n v).wins = s.wins := rfl
@[simp] theorem setSrc_qps (n : Nat) (v : Src) : (s.setSrc n v).qps = s.qps := rfl
@[simp] theorem setSrc_jobs (n : Nat) (v : Src) : (s.setSrc n v).jobs = s.jobs := rfl
@[simp] theorem setSrc_nextJob (n : Nat) (v : Src) : (s.setSrc n v).nextJob = s.nextJob := rfl
@[simp] theorem setSrc_nextFin (n : Nat) (v : Src) : (s.setSrc n v).nextFin = s.nextFin := rfl
@[simp] theorem setSrc_staging (n : Nat) (v : Src) : (s.setSrc n v).staging = s.staging := rfl
@[simp] theorem setSrc_leavePend (n : Nat) (v : Src) : (s.setSrc n v).leavePend = s.leavePend := rfl
@[simp] theorem setSrc_leaveHeld (n : Nat) (v : Src) : (s.setSrc n v).leaveHeld = s.leaveHeld := rfl
@[simp] theorem setSrc_vslots (n : Nat) (v : Src) : (s.setSrc n v).vslots = s.vslots := rfl
@[simp] theorem setSrc_binds (n : Nat) (v : Src) : (s.setSrc n v).binds = s.binds := rfl
@[simp] theorem setSrc_ctxs (n : Nat) (v : Src) : (s.setSrc n v).ctxs = s.ctxs := rfl
@[simp] theorem setSrc_installs (n : Nat) (v : Src) : (s.setSrc n v).installs = s.installs := rfl
@[simp] theorem setSrc_closedIdx (n : Nat) (v : Src) : (s.setSrc n v).closedIdx = s.closedIdx := rfl
@[simp] theorem setSrc_vault (n : Nat) (v : Src) : (s.setSrc n v).vault = s.vault := rfl
@[simp] theorem setSrc_lanes (n : Nat) (v : Src) : (s.setSrc n v).lanes = s.lanes := rfl
@[simp] theorem setSrc_streams (n : Nat) (v : Src) : (s.setSrc n v).streams = s.streams := rfl
@[simp] theorem setSrc_units (n : Nat) (v : Src) : (s.setSrc n v).units = s.units := rfl
@[simp] theorem setSrc_fwJob (n : Nat) (v : Src) : (s.setSrc n v).fwJob = s.fwJob := rfl
@[simp] theorem setSrc_fwWait (n : Nat) (v : Src) : (s.setSrc n v).fwWait = s.fwWait := rfl
@[simp] theorem setSrc_slots (n : Nat) (v : Src) : (s.setSrc n v).slots = s.slots := rfl
@[simp] theorem setSrc_kst (n : Nat) (v : Src) : (s.setSrc n v).kst = s.kst := rfl
@[simp] theorem setSrc_credit (n : Nat) (v : Src) : (s.setSrc n v).credit = s.credit := rfl
@[simp] theorem setSrc_rounds (n : Nat) (v : Src) : (s.setSrc n v).rounds = s.rounds := rfl
@[simp] theorem setSrc_rtc (n : Nat) (v : Src) : (s.setSrc n v).rtc = s.rtc := rfl
@[simp] theorem setSrc_dbgErr (n : Nat) (v : Src) : (s.setSrc n v).dbgErr = s.dbgErr := rfl
@[simp] theorem setSrc_flashQ (n : Nat) (v : Src) : (s.setSrc n v).flashQ = s.flashQ := rfl
@[simp] theorem setSrc_flashOn (n : Nat) (v : Src) : (s.setSrc n v).flashOn = s.flashOn := rfl
@[simp] theorem setSrc_flcAddr (n : Nat) (v : Src) : (s.setSrc n v).flcAddr = s.flcAddr := rfl
@[simp] theorem setSrc_flcData (n : Nat) (v : Src) : (s.setSrc n v).flcData = s.flcData := rfl
@[simp] theorem setSrc_torn (n : Nat) (v : Src) : (s.setSrc n v).torn = s.torn := rfl
@[simp] theorem setSrc_weak (n : Nat) (v : Src) : (s.setSrc n v).weak = s.weak := rfl
@[simp] theorem setSrc_lostSec (n : Nat) (v : Src) : (s.setSrc n v).lostSec = s.lostSec := rfl
@[simp] theorem setSrc_flashUsed (n : Nat) (v : Src) : (s.setSrc n v).flashUsed = s.flashUsed := rfl
@[simp] theorem setSrc_skm (n : Nat) (v : Src) : (s.setSrc n v).skm = s.skm := rfl
@[simp] theorem setSrc_ris (n : Nat) (v : Src) : (s.setSrc n v).ris = s.ris := rfl
@[simp] theorem setSrc_rtcValid (n : Nat) (v : Src) : (s.setSrc n v).rtcValid = s.rtcValid := rfl
@[simp] theorem setSrc_clkFailed (n : Nat) (v : Src) : (s.setSrc n v).clkFailed = s.clkFailed := rfl
@[simp] theorem setSrc_flags (n : Nat) (v : Src) : (s.setSrc n v).flags = s.flags := rfl
@[simp] theorem setSrc_flk (n : Nat) (v : Src) : (s.setSrc n v).flk = s.flk := rfl
@[simp] theorem setSrc_tag (n : Nat) (v : Src) : (s.setSrc n v).tag = s.tag := rfl
@[simp] theorem setSrc_crd (n : Nat) (v : Src) : (s.setSrc n v).crd = s.crd := rfl
@[simp] theorem setSrc_clk (n : Nat) (v : Src) : (s.setSrc n v).clk = s.clk := rfl
@[simp] theorem setSrc_sys (n : Nat) (v : Src) : (s.setSrc n v).sys = s.sys := rfl
@[simp] theorem setSrc_dbg (n : Nat) (v : Src) : (s.setSrc n v).dbg = s.dbg := rfl
@[simp] theorem setSrc_mlk (n : Nat) (v : Src) : (s.setSrc n v).mlk = s.mlk := rfl
@[simp] theorem setSrc_sramBad (n : Nat) (v : Src) : (s.setSrc n v).sramBad = s.sramBad := rfl

/-! ### setCslot -/

@[simp] theorem setCslot_pending (i : Nat) (c : CSlot) : (s.setCslot i c).pending = s.pending := rfl
@[simp] theorem setCslot_fresh (i : Nat) (c : CSlot) : (s.setCslot i c).fresh = s.fresh := rfl
@[simp] theorem setCslot_variant (i : Nat) (c : CSlot) : (s.setCslot i c).variant = s.variant := rfl
@[simp] theorem setCslot_mode (i : Nat) (c : CSlot) : (s.setCslot i c).mode = s.mode := rfl
@[simp] theorem setCslot_life (i : Nat) (c : CSlot) : (s.setCslot i c).life = s.life := rfl
@[simp] theorem setCslot_regs (i : Nat) (c : CSlot) : (s.setCslot i c).regs = s.regs := rfl
@[simp] theorem setCslot_mem (i : Nat) (c : CSlot) : (s.setCslot i c).mem = s.mem := rfl
@[simp] theorem setCslot_hdrs (i : Nat) (c : CSlot) : (s.setCslot i c).hdrs = s.hdrs := rfl
@[simp] theorem setCslot_pairs (i : Nat) (c : CSlot) : (s.setCslot i c).pairs = s.pairs := rfl
@[simp] theorem setCslot_inbox (i : Nat) (c : CSlot) : (s.setCslot i c).inbox = s.inbox := rfl
@[simp] theorem setCslot_ports (i : Nat) (c : CSlot) : (s.setCslot i c).ports = s.ports := rfl
@[simp] theorem setCslot_wins (i : Nat) (c : CSlot) : (s.setCslot i c).wins = s.wins := rfl
@[simp] theorem setCslot_qps (i : Nat) (c : CSlot) : (s.setCslot i c).qps = s.qps := rfl
@[simp] theorem setCslot_jobs (i : Nat) (c : CSlot) : (s.setCslot i c).jobs = s.jobs := rfl
@[simp] theorem setCslot_nextJob (i : Nat) (c : CSlot) : (s.setCslot i c).nextJob = s.nextJob := rfl
@[simp] theorem setCslot_nextFin (i : Nat) (c : CSlot) : (s.setCslot i c).nextFin = s.nextFin := rfl
@[simp] theorem setCslot_staging (i : Nat) (c : CSlot) : (s.setCslot i c).staging = s.staging := rfl
@[simp] theorem setCslot_leavePend (i : Nat) (c : CSlot) : (s.setCslot i c).leavePend = s.leavePend := rfl
@[simp] theorem setCslot_leaveHeld (i : Nat) (c : CSlot) : (s.setCslot i c).leaveHeld = s.leaveHeld := rfl
@[simp] theorem setCslot_vslots (i : Nat) (c : CSlot) : (s.setCslot i c).vslots = s.vslots := rfl
@[simp] theorem setCslot_binds (i : Nat) (c : CSlot) : (s.setCslot i c).binds = s.binds := rfl
@[simp] theorem setCslot_ctxs (i : Nat) (c : CSlot) : (s.setCslot i c).ctxs = s.ctxs := rfl
@[simp] theorem setCslot_installs (i : Nat) (c : CSlot) : (s.setCslot i c).installs = s.installs := rfl
@[simp] theorem setCslot_closedIdx (i : Nat) (c : CSlot) : (s.setCslot i c).closedIdx = s.closedIdx := rfl
@[simp] theorem setCslot_vault (i : Nat) (c : CSlot) : (s.setCslot i c).vault = s.vault := rfl
@[simp] theorem setCslot_lanes (i : Nat) (c : CSlot) : (s.setCslot i c).lanes = s.lanes := rfl
@[simp] theorem setCslot_streams (i : Nat) (c : CSlot) : (s.setCslot i c).streams = s.streams := rfl
@[simp] theorem setCslot_units (i : Nat) (c : CSlot) : (s.setCslot i c).units = s.units := rfl
@[simp] theorem setCslot_fwJob (i : Nat) (c : CSlot) : (s.setCslot i c).fwJob = s.fwJob := rfl
@[simp] theorem setCslot_fwWait (i : Nat) (c : CSlot) : (s.setCslot i c).fwWait = s.fwWait := rfl
@[simp] theorem setCslot_rng (i : Nat) (c : CSlot) : (s.setCslot i c).rng = s.rng := rfl
@[simp] theorem setCslot_slots (i : Nat) (c : CSlot) : (s.setCslot i c).slots = s.slots := rfl
@[simp] theorem setCslot_kst (i : Nat) (c : CSlot) : (s.setCslot i c).kst = s.kst := rfl
@[simp] theorem setCslot_credit (i : Nat) (c : CSlot) : (s.setCslot i c).credit = s.credit := rfl
@[simp] theorem setCslot_rounds (i : Nat) (c : CSlot) : (s.setCslot i c).rounds = s.rounds := rfl
@[simp] theorem setCslot_rtc (i : Nat) (c : CSlot) : (s.setCslot i c).rtc = s.rtc := rfl
@[simp] theorem setCslot_dbgErr (i : Nat) (c : CSlot) : (s.setCslot i c).dbgErr = s.dbgErr := rfl
@[simp] theorem setCslot_flashQ (i : Nat) (c : CSlot) : (s.setCslot i c).flashQ = s.flashQ := rfl
@[simp] theorem setCslot_flashOn (i : Nat) (c : CSlot) : (s.setCslot i c).flashOn = s.flashOn := rfl
@[simp] theorem setCslot_flcAddr (i : Nat) (c : CSlot) : (s.setCslot i c).flcAddr = s.flcAddr := rfl
@[simp] theorem setCslot_flcData (i : Nat) (c : CSlot) : (s.setCslot i c).flcData = s.flcData := rfl
@[simp] theorem setCslot_torn (i : Nat) (c : CSlot) : (s.setCslot i c).torn = s.torn := rfl
@[simp] theorem setCslot_weak (i : Nat) (c : CSlot) : (s.setCslot i c).weak = s.weak := rfl
@[simp] theorem setCslot_lostSec (i : Nat) (c : CSlot) : (s.setCslot i c).lostSec = s.lostSec := rfl
@[simp] theorem setCslot_flashUsed (i : Nat) (c : CSlot) : (s.setCslot i c).flashUsed = s.flashUsed := rfl
@[simp] theorem setCslot_skm (i : Nat) (c : CSlot) : (s.setCslot i c).skm = s.skm := rfl
@[simp] theorem setCslot_ris (i : Nat) (c : CSlot) : (s.setCslot i c).ris = s.ris := rfl
@[simp] theorem setCslot_rtcValid (i : Nat) (c : CSlot) : (s.setCslot i c).rtcValid = s.rtcValid := rfl
@[simp] theorem setCslot_clkFailed (i : Nat) (c : CSlot) : (s.setCslot i c).clkFailed = s.clkFailed := rfl
@[simp] theorem setCslot_flags (i : Nat) (c : CSlot) : (s.setCslot i c).flags = s.flags := rfl
@[simp] theorem setCslot_flk (i : Nat) (c : CSlot) : (s.setCslot i c).flk = s.flk := rfl
@[simp] theorem setCslot_tag (i : Nat) (c : CSlot) : (s.setCslot i c).tag = s.tag := rfl
@[simp] theorem setCslot_clk (i : Nat) (c : CSlot) : (s.setCslot i c).clk = s.clk := rfl
@[simp] theorem setCslot_sys (i : Nat) (c : CSlot) : (s.setCslot i c).sys = s.sys := rfl
@[simp] theorem setCslot_dbg (i : Nat) (c : CSlot) : (s.setCslot i c).dbg = s.dbg := rfl
@[simp] theorem setCslot_mlk (i : Nat) (c : CSlot) : (s.setCslot i c).mlk = s.mlk := rfl
@[simp] theorem setCslot_sramBad (i : Nat) (c : CSlot) : (s.setCslot i c).sramBad = s.sramBad := rfl

/-! ### setPdom -/

@[simp] theorem setPdom_pending (k : Nat) (d : PDom) : (s.setPdom k d).pending = s.pending := rfl
@[simp] theorem setPdom_fresh (k : Nat) (d : PDom) : (s.setPdom k d).fresh = s.fresh := rfl
@[simp] theorem setPdom_variant (k : Nat) (d : PDom) : (s.setPdom k d).variant = s.variant := rfl
@[simp] theorem setPdom_mode (k : Nat) (d : PDom) : (s.setPdom k d).mode = s.mode := rfl
@[simp] theorem setPdom_life (k : Nat) (d : PDom) : (s.setPdom k d).life = s.life := rfl
@[simp] theorem setPdom_regs (k : Nat) (d : PDom) : (s.setPdom k d).regs = s.regs := rfl
@[simp] theorem setPdom_mem (k : Nat) (d : PDom) : (s.setPdom k d).mem = s.mem := rfl
@[simp] theorem setPdom_hdrs (k : Nat) (d : PDom) : (s.setPdom k d).hdrs = s.hdrs := rfl
@[simp] theorem setPdom_pairs (k : Nat) (d : PDom) : (s.setPdom k d).pairs = s.pairs := rfl
@[simp] theorem setPdom_inbox (k : Nat) (d : PDom) : (s.setPdom k d).inbox = s.inbox := rfl
@[simp] theorem setPdom_ports (k : Nat) (d : PDom) : (s.setPdom k d).ports = s.ports := rfl
@[simp] theorem setPdom_wins (k : Nat) (d : PDom) : (s.setPdom k d).wins = s.wins := rfl
@[simp] theorem setPdom_qps (k : Nat) (d : PDom) : (s.setPdom k d).qps = s.qps := rfl
@[simp] theorem setPdom_jobs (k : Nat) (d : PDom) : (s.setPdom k d).jobs = s.jobs := rfl
@[simp] theorem setPdom_nextJob (k : Nat) (d : PDom) : (s.setPdom k d).nextJob = s.nextJob := rfl
@[simp] theorem setPdom_nextFin (k : Nat) (d : PDom) : (s.setPdom k d).nextFin = s.nextFin := rfl
@[simp] theorem setPdom_staging (k : Nat) (d : PDom) : (s.setPdom k d).staging = s.staging := rfl
@[simp] theorem setPdom_leavePend (k : Nat) (d : PDom) : (s.setPdom k d).leavePend = s.leavePend := rfl
@[simp] theorem setPdom_leaveHeld (k : Nat) (d : PDom) : (s.setPdom k d).leaveHeld = s.leaveHeld := rfl
@[simp] theorem setPdom_vslots (k : Nat) (d : PDom) : (s.setPdom k d).vslots = s.vslots := rfl
@[simp] theorem setPdom_binds (k : Nat) (d : PDom) : (s.setPdom k d).binds = s.binds := rfl
@[simp] theorem setPdom_ctxs (k : Nat) (d : PDom) : (s.setPdom k d).ctxs = s.ctxs := rfl
@[simp] theorem setPdom_installs (k : Nat) (d : PDom) : (s.setPdom k d).installs = s.installs := rfl
@[simp] theorem setPdom_closedIdx (k : Nat) (d : PDom) : (s.setPdom k d).closedIdx = s.closedIdx := rfl
@[simp] theorem setPdom_vault (k : Nat) (d : PDom) : (s.setPdom k d).vault = s.vault := rfl
@[simp] theorem setPdom_lanes (k : Nat) (d : PDom) : (s.setPdom k d).lanes = s.lanes := rfl
@[simp] theorem setPdom_streams (k : Nat) (d : PDom) : (s.setPdom k d).streams = s.streams := rfl
@[simp] theorem setPdom_units (k : Nat) (d : PDom) : (s.setPdom k d).units = s.units := rfl
@[simp] theorem setPdom_fwJob (k : Nat) (d : PDom) : (s.setPdom k d).fwJob = s.fwJob := rfl
@[simp] theorem setPdom_fwWait (k : Nat) (d : PDom) : (s.setPdom k d).fwWait = s.fwWait := rfl
@[simp] theorem setPdom_rng (k : Nat) (d : PDom) : (s.setPdom k d).rng = s.rng := rfl
@[simp] theorem setPdom_slots (k : Nat) (d : PDom) : (s.setPdom k d).slots = s.slots := rfl
@[simp] theorem setPdom_kst (k : Nat) (d : PDom) : (s.setPdom k d).kst = s.kst := rfl
@[simp] theorem setPdom_credit (k : Nat) (d : PDom) : (s.setPdom k d).credit = s.credit := rfl
@[simp] theorem setPdom_rounds (k : Nat) (d : PDom) : (s.setPdom k d).rounds = s.rounds := rfl
@[simp] theorem setPdom_rtc (k : Nat) (d : PDom) : (s.setPdom k d).rtc = s.rtc := rfl
@[simp] theorem setPdom_dbgErr (k : Nat) (d : PDom) : (s.setPdom k d).dbgErr = s.dbgErr := rfl
@[simp] theorem setPdom_flashQ (k : Nat) (d : PDom) : (s.setPdom k d).flashQ = s.flashQ := rfl
@[simp] theorem setPdom_flashOn (k : Nat) (d : PDom) : (s.setPdom k d).flashOn = s.flashOn := rfl
@[simp] theorem setPdom_flcAddr (k : Nat) (d : PDom) : (s.setPdom k d).flcAddr = s.flcAddr := rfl
@[simp] theorem setPdom_flcData (k : Nat) (d : PDom) : (s.setPdom k d).flcData = s.flcData := rfl
@[simp] theorem setPdom_torn (k : Nat) (d : PDom) : (s.setPdom k d).torn = s.torn := rfl
@[simp] theorem setPdom_weak (k : Nat) (d : PDom) : (s.setPdom k d).weak = s.weak := rfl
@[simp] theorem setPdom_lostSec (k : Nat) (d : PDom) : (s.setPdom k d).lostSec = s.lostSec := rfl
@[simp] theorem setPdom_flashUsed (k : Nat) (d : PDom) : (s.setPdom k d).flashUsed = s.flashUsed := rfl
@[simp] theorem setPdom_skm (k : Nat) (d : PDom) : (s.setPdom k d).skm = s.skm := rfl
@[simp] theorem setPdom_ris (k : Nat) (d : PDom) : (s.setPdom k d).ris = s.ris := rfl
@[simp] theorem setPdom_rtcValid (k : Nat) (d : PDom) : (s.setPdom k d).rtcValid = s.rtcValid := rfl
@[simp] theorem setPdom_clkFailed (k : Nat) (d : PDom) : (s.setPdom k d).clkFailed = s.clkFailed := rfl
@[simp] theorem setPdom_flags (k : Nat) (d : PDom) : (s.setPdom k d).flags = s.flags := rfl
@[simp] theorem setPdom_flk (k : Nat) (d : PDom) : (s.setPdom k d).flk = s.flk := rfl
@[simp] theorem setPdom_tag (k : Nat) (d : PDom) : (s.setPdom k d).tag = s.tag := rfl
@[simp] theorem setPdom_crd (k : Nat) (d : PDom) : (s.setPdom k d).crd = s.crd := rfl
@[simp] theorem setPdom_sys (k : Nat) (d : PDom) : (s.setPdom k d).sys = s.sys := rfl
@[simp] theorem setPdom_dbg (k : Nat) (d : PDom) : (s.setPdom k d).dbg = s.dbg := rfl
@[simp] theorem setPdom_mlk (k : Nat) (d : PDom) : (s.setPdom k d).mlk = s.mlk := rfl
@[simp] theorem setPdom_sramBad (k : Nat) (d : PDom) : (s.setPdom k d).sramBad = s.sramBad := rfl

end Sys2Proof.Machine.State
end

