-- ==== Sys2Proof/Laws/Ops.lean ====
section
/-! SUPPORT. The shared operations: reads after writes of memory, registers, headers, pairs and the numbered collections;
what raising an event and sending a fault message do; the canonical form of memory. -/

namespace Sys2Proof.Machine.State

variable (s : State)

/-! ### Reads after writes -/

@[simp] theorem reg_setReg (a : Nat) (v : Word) : (s.setReg a v).reg a = v := by simp [reg, setReg]

theorem reg_setReg_ne {a b : Nat} (v : Word) (h : b ≠ a) : (s.setReg a v).reg b = s.reg b := by
  simp [reg, setReg, Tbl.get_set_ne _ _ v h]

@[simp] theorem setReg_setReg (a : Nat) (u v : Word) : (s.setReg a u).setReg a v = s.setReg a v := by simp [setReg]

@[simp] theorem hdr_setHdr (b i : Nat) (h : Hdr) : (s.setHdr b i h).hdr b i = h := by simp [hdr, setHdr]

theorem hdr_setHdr_ne {b i c j : Nat} (h : Hdr) (n : c * 32 + j ≠ b * 32 + i) :
    (s.setHdr b i h).hdr c j = s.hdr c j := by
  simp [hdr, setHdr, Tbl.get_set_ne _ _ h n]

@[simp] theorem byte_setByte (a : Nat) (v : Byte) : (s.setByte a v).byte a = v := by simp [byte, setByte]

theorem byte_setByte_ne {a b : Nat} (v : Byte) (h : b ≠ a) : (s.setByte a v).byte b = s.byte b := by
  simp [byte, setByte, Tbl.get_set_ne _ _ v h]

@[simp] theorem byte_forget (lo hi a : Nat) :
    (s.forget lo hi).byte a = if lo ≤ a ∧ a < hi then memDefault a else s.byte a := by
  simp [byte, forget, Tbl.get_clear]

@[simp] theorem pair_setPair (p : Nat) (k : KPair) : (s.setPair p k).pair p = k := by simp [pair, setPair]

theorem pair_setPair_ne {p q : Nat} (k : KPair) (h : q ≠ p) : (s.setPair p k).pair q = s.pair q := by
  simp [pair, setPair, Tbl.get_set_ne _ _ k h]

@[simp] theorem setPair_setPair (p : Nat) (j k : KPair) : (s.setPair p j).setPair p k = s.setPair p k := by
  simp [setPair]

@[simp] theorem port_setPort (p : Nat) (v : HPort) : (s.setPort p v).port p = v := by simp [port, setPort]

theorem port_setPort_ne {p q : Nat} (v : HPort) (h : q ≠ p) : (s.setPort p v).port q = s.port q := by
  simp [port, setPort, Tbl.get_set_ne _ _ v h]

@[simp] theorem qp_setQp (q : Nat) (v : QP) : (s.setQp q v).qp q = v := by simp [qp, setQp]

theorem qp_setQp_ne {q r : Nat} (v : QP) (h : r ≠ q) : (s.setQp q v).qp r = s.qp r := by
  simp [qp, setQp, Tbl.get_set_ne _ _ v h]

@[simp] theorem lane_setLane (n : Nat) (v : Lane) : (s.setLane n v).lane n = v := by simp [lane, setLane]

@[simp] theorem unit_setUnit (n : Nat) (v : CUnit) : (s.setUnit n v).unit n = v := by simp [unit, setUnit]

@[simp] theorem slot_setSlot (n : Nat) (v : KSlot) : (s.setSlot n v).slot n = v := by simp [slot, setSlot]

/-! ### Pairs -/

/-- `modPair` is a `setPair`. -/
@[simp] theorem modPair_eq (p : Nat) (f : KPair → KPair) : s.modPair p f = s.setPair p (f (s.pair p)) := rfl

@[simp] theorem modPort_eq (p : Nat) (f : HPort → HPort) : s.modPort p f = s.setPort p (f (s.port p)) := rfl

@[simp] theorem modQp_eq (q : Nat) (f : QP → QP) : s.modQp q f = s.setQp q (f (s.qp q)) := rfl

@[simp] theorem modLane_eq (n : Nat) (f : Lane → Lane) : s.modLane n f = s.setLane n (f (s.lane n)) := rfl

@[simp] theorem modUnit_eq (n : Nat) (f : CUnit → CUnit) : s.modUnit n f = s.setUnit n (f (s.unit n)) := rfl

/-! ### Events and messages -/

/-- An event is a write of one header. -/
theorem event_eq (b i n : Nat) : s.event b i n = s.setHdr b i { s.hdr b i with evt := putBit (s.hdr b i).evt n true } := rfl

/-- A message joins the end of the inbox. -/
@[simp] theorem send_inbox (m : Msg) (db di : Nat) : (s.send m db di).inbox = s.inbox ++ [m] := rfl

@[simp] theorem send_regs (m : Msg) (db di : Nat) : (s.send m db di).regs = s.regs := rfl
@[simp] theorem send_pairs (m : Msg) (db di : Nat) : (s.send m db di).pairs = s.pairs := rfl
@[simp] theorem send_mem (m : Msg) (db di : Nat) : (s.send m db di).mem = s.mem := rfl
@[simp] theorem send_jobs (m : Msg) (db di : Nat) : (s.send m db di).jobs = s.jobs := rfl
@[simp] theorem send_qps (m : Msg) (db di : Nat) : (s.send m db di).qps = s.qps := rfl
@[simp] theorem send_slots (m : Msg) (db di : Nat) : (s.send m db di).slots = s.slots := rfl
@[simp] theorem send_mode (m : Msg) (db di : Nat) : (s.send m db di).mode = s.mode := rfl

/-! ### Memory -/

/-- Writing a byte keeps the canonical form. -/
theorem memWf_setByte (a : Nat) (v : Byte) (h : memWf s.mem = true) : memWf (s.setByte a v).mem = true :=
  Tbl.wf_set memDefault s.mem a v h

/-- Writing bytes keeps the canonical form. -/
theorem memWf_setBytes (a : Nat) (l : List Byte) (h : memWf s.mem = true) : memWf (s.setBytes a l).mem = true := by
  induction l generalizing s a with
  | nil => exact h
  | cons b t ih => exact ih (s.setByte a b) (a + 1) (memWf_setByte s a b h)

/-- Dropping a range of bytes keeps the canonical form. -/
theorem memWf_forget (lo hi : Nat) (h : memWf s.mem = true) : memWf (s.forget lo hi).mem = true := by
  have := Tbl.wf_clear memDefault (fun a => decide (lo ≤ a) && decide (a < hi)) s.mem h
  simpa [forget, memWf] using this

/-- Bytes outside a write keep their values. -/
theorem byte_setBytes_out (a : Nat) (l : List Byte) (b : Nat) (h : b < a ∨ a + l.length ≤ b) :
    (s.setBytes a l).byte b = s.byte b := by
  induction l generalizing s a with
  | nil => rfl
  | cons v t ih =>
    have hb : b ≠ a := by simp at h; omega
    rw [setBytes, ih (s.setByte a v) (a + 1) (by simp at h; omega), byte_setByte_ne s v hb]

/-- Bytes inside a write are the bytes written. -/
theorem byte_setBytes_in (a : Nat) (l : List Byte) (i : Nat) (h : i < l.length) :
    (s.setBytes a l).byte (a + i) = l[i] := by
  induction l generalizing s a i with
  | nil => simp at h
  | cons v t ih =>
    cases i with
    | zero =>
      have := byte_setBytes_out (s.setByte a v) (a + 1) t a (by omega)
      simpa [setBytes] using this
    | succ i =>
      have := ih (s.setByte a v) (a + 1) i (by simpa using h)
      rw [setBytes, show a + (i + 1) = a + 1 + i by omega, this]
      simp

end Sys2Proof.Machine.State
end

