-- ==== Sys2Proof/Machine/HostView.lean ====
section
/-! DEFINITION. What a host reads of its port: the doorbell windows (R48), the host status window (R50-R53) and the identity
of the function (R46). A host's read has no row of its own: it changes nothing (log entry 57). -/

namespace Sys2Proof.Machine

namespace State

/-- The last value written to a doorbell of queue pair `q`, at window offset `off` (R48). -/
def doorView (s : State) (q off : Nat) : Word :=
  if off = 0 then (s.qp q).lastTail else if off = 8 then (s.qp q).lastHint else 0

/-- HS_DOMAIN. The admin QP counts among the QPs owned. -/
def hsDomain (s : State) (p : Nat) : Word :=
  let k := s.port p
  fields [(16, (s.qps.filter (fun e => e.2.st != .absent && e.2.dom == p)).length), (8, k.speed), (7, b2n k.x1),
    (6, b2n k.resetting), (5, b2n k.drbg), (4, b2n (s.bind p).bound), (3, b2n k.adminEn), (0, p)]

/-- HS_FLT_REC at `off` from its first: record `i` is the one HEAD had passed over last with that index (R52). -/
def hsRec (s : State) (p off : Nat) : Word :=
  let k := s.port p
  match k.view[(k.viewHead + 31 - off / 8) % 32]? with
  | some r => if off % 8 = 0 then r.lo else r.hi
  | none => 0

/-- The word at BAR2 offset `off` of port `p`; an offset that holds no register reads 0. -/
def hsView (s : State) (p off : Nat) : Word :=
  let k := s.port p
  let lo := fun (x : Nat) => w32 x
  let hi := fun (x : Nat) => w32 (x / 2 ^ 32)
  if off = 0x00 then fields [(16, 0x8440), (8, s.variant.code)]
  else if off = 0x04 then 0x100
  else if off = 0x08 then
    fields [(12, s.sys.reason), (8, b2n (s.dbg.st != 0)), (4, s.lifeCode), (0, s.modeCode)]
  else if off = 0x0C then s.hsDomain p
  else if off = 0x10 then k.gen
  else if off = 0x14 then s.sys.beat
  else if 0x40 ≤ off ∧ off < 0x70 then w32 (s.caps.getD ((off - 0x40) / 4) 0)
  else if 0x80 ≤ off ∧ off < 0xB0 then w32 (s.lims.getD ((off - 0x80) / 4) 0)
  else if off = 0xC0 then w32 (s.qpCnt p + 1)
  else if off = 0xC4 then w32 k.share
  else if off = 0xC8 then w32 (s.enrolQuota p)
  else if off = 0xCC then w32 (s.quota p)
  else if off = 0x100 then k.viewCnt
  else if off = 0x104 then fields [(8, min 255 s.openCount), (0, s.fltLow)]
  else if off = 0x108 then fields [(16, (k.view.head?.map (·.seq)).getD 0), (0, k.viewHead)]
  else if off = 0x200 then lo k.asq
  else if off = 0x204 then hi k.asq
  else if off = 0x208 then lo k.acq
  else if off = 0x20C then hi k.acq
  else if off = 0x210 then lo k.bwin
  else if off = 0x214 then hi k.bwin
  else if off = 0x218 then w32 k.bwinLen
  else if off = 0x220 then fields [(31, b2n k.adminEn), (8, k.cqN), (0, k.sqN)]
  else if off = 0x224 then fields [(4, k.cfgErr), (1, b2n k.cfgError), (0, b2n k.adminEn)]
  else if 0x1000 ≤ off ∧ off < 0x1100 then s.hsRec p (off - 0x1000)
  else 0

/-- Words of configuration space that state the identity (R46): Vendor and Device ID, Revision ID (R501) and Class code. -/
def cfgView (off : Nat) : Option Word :=
  if off = 0x00 then some 0x84401E8F else if off = 0x08 then some 0x10800001 else none

end State
end Sys2Proof.Machine
end

