-- ==== Sys2Proof/WellFormed.lean ====
section
/-! DEFINITION. Which commands can come from outside the block: the limits on operands that their types do not state. No
meaning depends on them; a command outside them is one that no host, reader, card or firmware can send. -/

namespace Sys2Proof

/-- A block code and an instance of it (00 R8, 01 R34). -/
def wfInst (blk inst : Nat) : Bool :=
  if blk = 4 then decide (inst < 4) else if blk = 7 then decide (inst < 9) else if blk = 8 then decide (inst < 3)
  else decide (blk ≤ 0x11) && inst == 0

/-- A unit of pools 0 to 3: lanes, Crucible units, pairs, noise sources (16 R425). -/
def wfUnit (x : Nat × Nat) : Bool :=
  (x.1 == 0 && decide (x.2 < 9)) || (x.1 == 1 && decide (x.2 < 3)) || (x.1 == 2 && decide (x.2 < 3)) ||
    (x.1 == 3 && decide (x.2 < 10))

/-- A queue pair number (03 R77). -/
def wfQp (q : Nat) : Bool := decide (q < 16384)

/-- A submission entry of 64 bytes (03 R81). -/
def wfEnt (e : List Byte) : Bool := e.length == 64

/-- A reader's command (13 R350): at most 255 bytes of data. -/
def wfApdu (d : List Byte) : Bool := decide (d.length ≤ 255)

/-- A frame of the management link (02 R69): LEN is one byte. -/
def wfFrame (d : List Byte) : Bool := decide (d.length ≤ 255)

/-- A clock source as R444 codes it (17): 1 XTAL, 2 to 5 the PLLs, 16 to 19 the ports' reference clocks. -/
def wfClock (n : Nat) : Bool := (decide (1 ≤ n) && decide (n ≤ 5)) || (decide (16 ≤ n) && decide (n ≤ 19))

/-- Well-formedness of a command. -/
def Instr.wf : Instr → Bool
  | .registerWrite _ a _ => a % 4 == 0 && decide (0x20000000 ≤ a) && decide (a < 0x21200000)
  | .softReset _ b i _ => wfInst b i
  | .softResetComplete b i => wfInst b i
  | .blockDisable _ b i _ => wfInst b i
  | .eventClear _ b i _ _ => wfInst b i
  | .firmwareFence _ b i _ => wfInst b i
  | .blockLock _ b i => wfInst b i
  | .sqTail _ q _ => wfQp q
  | .cqHint _ q _ => wfQp q
  | .inlinePush _ q e0 e1 => wfQp q && wfEnt e0 && (e1.map wfEnt).getD true
  | .entryReadCompletion q l _ => wfQp q && decide (l.length ≤ 16) && l.all wfEnt
  | .ownReread q e => wfQp q && wfEnt e
  | .completionWrite q => wfQp q
  | .cqReadAhead q => wfQp q
  | .cqReadAheadCompletion q o => wfQp q && (o.map (fun l => decide (l.length ≤ 64))).getD true
  | .destroyTmoExpiry q => wfQp q
  | .selectCascade _ d => d.length == 5
  | .anticollision _ n v => decide (v < 2 ^ n.val)
  | .select _ _ d _ => wfApdu d
  | .getIdentity _ _ d _ => wfApdu d
  | .getStatus _ _ d _ => wfApdu d
  | .readTamper _ _ d _ => wfApdu d
  | .readBinary _ _ d _ => wfApdu d
  | .updateBinary _ _ d _ => wfApdu d
  | .putTicket _ _ d _ => wfApdu d
  | .password _ _ d _ => wfApdu d
  | .auth1 _ _ d _ => wfApdu d
  | .auth2 _ _ d _ => wfApdu d
  | .readFaults _ _ d _ => wfApdu d
  | .unsupportedIns _ _ _ d _ => wfApdu d
  | .assign _ d _ => wfFrame d
  | .release _ d _ => wfFrame d
  | .identity _ d _ => wfFrame d
  | .health _ d _ => wfFrame d
  | .capacity _ d _ => wfFrame d
  | .faultRead _ d _ => wfFrame d
  | .mlinkBadFrame _ _ d _ => wfFrame d
  | .unsupportedRequest _ bar _ _ => decide (bar.val < 6)
  | .adminEnable _ off _ => off % 4 == 0
  | .sdDebounceDone _ cid _ _ _ _ _ h0 h1 => cid.length == 16 && h0.length == 512 && h1.length == 512
  | .coldStart _ bad rows => bad.all wfUnit && rows.all (fun x => decide (x.2 < 65536))
  | .warmStart bad _ => bad.all wfUnit
  | .clockLoss l => l.all wfClock
  | _ => true

end Sys2Proof
end

