-- ==== Sys2Proof/Tests/Slice0.lean ====
section
/-! SUPPORT. Checks of the model on small states: for each statement that has hypotheses, states that meet them, clause by
clause; ill-formed commands, which the check refuses; and single steps whose results the spec gives. -/

namespace Sys2Proof.Tests

open Sys2Proof.Machine

-- One theorem at a time, within the memory the check allows.
set_option Elab.async false

/-! ### Small states -/

/-- After reset. -/
def s0 : State := State.reset
/-- The supervisor pair's requests. -/
abbrev sup : Rq := .pair 0
/-- A running supervisor. -/
def k0 : KPair := { role := 1, run := .running }
/-- Pair 0 as `k`. -/
def kp (k : KPair) : State := s0.setPair 0 k
/-- Pair 0 with two registers. -/
def g2 (a b : Word) : KPair := { k0 with g := [(1, a), (2, b)] }
/-- Pair 0 as `k`, with the Scope message of block 2 pending and enabled. -/
def irq (k : KPair) : State := { kp k with hdrs := [(64, { evt := 1, evtEn := 1 })] }
/-- Pair 0 with its descriptor table in SRAM, where vector `v` has descriptor `dsc`. -/
def vec (v : Nat) (k : KPair) : State :=
  { irq { k with edtb := 0x10000000 } with
    mem := [(0x10000001 + 16 * v, 2), (0x10000005 + 16 * v, 0x10), (0x1000000B + 16 * v, 1), (0x1000000F + 16 * v, 0x80)] }
/-- Handler 0x200, stack 0x1000, window 0 to 0x100, level 0, interrupts off. -/
def dsc : Desc := ⟨0x200, 0x1000, 0, 0x100, 0, false, false, false, false, 0⟩
/-- A return stack of one frame whose second word is `w`. -/
def frm (w : Word) : List (Nat × RWord) := [(0, ⟨0x44, true⟩), (1, ⟨w, true⟩), (2, ⟨7, true⟩), (3, ⟨0, true⟩)]
/-- Bank 1 of the Gate holds an enabled region below its base. -/
def badBank (s : State) : State := { s with regs := [(0x20F02040, 0x1000), (0x20F02048, 1)] }
/-- Registers set to values. -/
def rg (l : List (Nat × Word)) (s : State) : State := l.foldl (fun s x => s.setReg x.1 x.2) s
/-- In mode `m`. -/
def mo (m : Mode) : State := { s0 with mode := m }
/-- The state a command leaves. -/
def nx : Host.Outcome State Fault Refusal → State
  | .next t => t
  | _ => s0
/-- 64 bytes, zero but where given. -/
def ent (f : List (Nat × Nat)) : List Byte :=
  (List.range 64).map (fun i => BitVec.ofNat 8 (((f.find? (fun x => x.1 == i)).map (·.2)).getD 0))
/-- Job 7 of queue pair 4, domain 0, with one entry. -/
def jb (f : List (Nat × Nat)) (st : JStage) : Job :=
  { id := 7, qp := 4, dom := 0, tag := 3, op := leAt (ent f) 1 1, ordr := false, cmpl := true, ents := [ent f], stage := st }
/-- With one job. -/
def wj (s : State) (j : Job) : State := { s with jobs := [j] }
/-- Queue pair 4 of domain 0: rings of 16 entries, two entries posted. -/
def act : QP :=
  { st := .active, dom := 0, sqN := 4, cqN := 4, sqBase := 0x100000, cqBase := 0x101000, t := 2, infl := 8 }
/-- Service, port 0 up, one window, and queue pair 4 as `k`. -/
def qq (k : QP) : State :=
  { s0 with
    mode := .service, ports := [(0, { linkUp := true, adminEn := true, drbg := true, gen := 3 })]
    wins := [(0, ⟨0x100000, 16, true, true, true, true, true, 0⟩)], qps := [(0, { act with t := 0 }), (4, k)] }

/-! ### The step, reset and pairs -/

theorem test_reset_idles : step s0 = .next s0 := rfl

theorem test_reset_meets_the_invariant : memWf s0.mem = true := by decide

theorem witness_NoCommandStops : s0.pending = [] := rfl

theorem witness_EveryStepKeepsMemoryCanonical :
    s0.Inv ∧ step s0 = .next s0 ∧ (vec 1 k0).Inv ∧ step (vec 1 k0) = .next (vec 1 k0) :=
  ⟨by unfold State.Inv; decide, rfl, by unfold State.Inv; decide, rfl⟩

/-- Every statement of an issued instruction. -/
theorem witness_issues : s0.issues 0 .al ∧ (kp (g2 0xFFFFFFFF 1)).issues 0 .nz ∧
    (kp { g2 1 2 with cs := 0x40000000 }).issues 0 .ze := by decide

theorem witness_KennuOverflowChecked :
    (kp { g2 0x7FFFFFFF 1 with cs := 0x100 }).issues 0 .al ∧ (0x7FFFFFFF : Word).saddOverflow 1 ∧ csPrc 0x100 ∧
    (kp (g2 0x80000000 1)).issues 0 .al ∧ (0x80000000 : Word).ssubOverflow 1 ∧ csPrc 0 = false ∧
    (3 : Word).saddOverflow 4 = false := by decide

theorem witness_KennuProductsInIssueOrder : (kp { g2 3 5 with mulQ := [7, 8] }).issues 0 .al ∧
    ((kp { g2 3 5 with mulQ := [7, 8] }).pair 0).mulQ = 7 :: [8] := by decide

theorem witness_KennuDivisionLands : (kp { g2 7 2 with divQ := some (1, 2) }).issues 0 .al ∧ (2 : Word) ≠ 0 ∧
    ¬((7 : Word) = 0x80000000 ∧ (2 : Word) = 0xFFFFFFFF) ∧ ((kp { g2 7 2 with divQ := some (1, 2) }).pair 0).divQ = some (1, 2) := by
  decide

theorem witness_KennuControlFlow :
    s0.issues 0 .al ∧ (s0.pair 0).rsp + 4 ≤ (s0.pair 0).rsl ∧ (s0.pair 0).rsp < (s0.pair 0).rsb + 4 ∧
    (s0.firstIrq 0 = none ∧ (s0.pair 0).stepOne = false) ∧
    ((kp { k0 with rsp := 0x1000 }).issues 0 .al ∧ ((kp { k0 with rsp := 0x1000 }).pair 0).rsl < 0x1000 + 4) ∧
    (let s := kp { k0 with rsp := 4, rstack := [(0, ⟨0x44, false⟩)] }
     s.issues 0 .al ∧ (s.pair 0).rsb + 4 ≤ (s.pair 0).rsp ∧ (rsWord (s.pair 0) 0).frame = false) ∧
    (let s := kp { k0 with rsp := 4, rstack := [(0, ⟨0x44, true⟩)] }
     s.issues 0 .al ∧ (s.pair 0).rsb + 4 ≤ (s.pair 0).rsp ∧ (rsWord (s.pair 0) 0).frame) ∧
    (let s := irq { k0 with imask := 4, cs := 0x80 }
     s.issues 0 .al ∧ (s.firstIrq 0).isSome) ∧
    (let s := irq { k0 with imask := 4, cs := 0x80, run := .waiting }
     (s.pair 0).run = .waiting ∧ (s.firstIrq 0).isSome) := by decide

theorem witness_KennuBankSwap :
    (s0.issues 0 .al ∧ csPl (s0.pair 0).cs = 0 ∧ s0.gateDefect (!csBank (s0.pair 0).cs) = none) ∧
    ((badBank (kp k0)).issues 0 .al ∧ csPl ((badBank (kp k0)).pair 0).cs = 0 ∧
      ((badBank (kp k0)).gateDefect (!csBank ((badBank (kp k0)).pair 0).cs)).isSome) := by decide

/-- A load, an aligned store and a push in system SRAM, at its first and its last word. -/
theorem witness_KennuLoadsAndStores :
    let s := kp { k0 with g := [(1, 0x10000010), (2, 0xA1B2C3D4), (15, 0x10000018)] }
    let e := kp { k0 with g := [(1, 0x107FFFFC), (15, 0x10000004)] }
    s.issues 0 .al ∧ area 0x10000010 = .sram ∧ s.refusal 0 0x10000010 4 .load = none ∧
    s.refusal 0 0x10000010 8 .load = none ∧ s.refusal 0 0x10000010 8 .store = none ∧
    area 0x10000018 = .sram ∧ s.refusal 0 0x10000018 4 .load = none ∧
    area 0x10000014 = .sram ∧ s.refusal 0 0x10000014 4 .store = none ∧
    e.issues 0 .al ∧ area 0x107FFFFC = .sram ∧ e.refusal 0 0x107FFFFC 4 .load = none ∧ e.refusal 0 0x107FFFFC 4 .store = none ∧
    area 0x10000000 = .sram ∧ e.refusal 0 0x10000000 4 .store = none := by decide

theorem witness_KennuBitRam : s0.issues 0 .al ∧ bitAddr (s0.pair 0) ⟨true, none, 0x7FFF⟩ < 0x8000 ∧
    bitAddr (s0.pair 0) ⟨false, none, 0⟩ < 0x8000 := by decide

theorem witness_KennuSpecialRegisters :
    s0.issues 0 .al ∧ csPl (s0.pair 0).cs = 0 ∧ mfsLevel 0 = some 2 ∧ mfsLevel 12 = some 2 ∧ mtsLevel 0 = some 2 ∧
    mfsLevel 24 = none ∧ mtsLevel 24 = none ∧ mtsLevel 12 = none ∧
    (s0.pair 0).rsp + 16 ≤ (s0.pair 0).rsl ∧
    (kp { k0 with rsp := 0xFF4 }).issues 0 .al ∧ ((kp { k0 with rsp := 0xFF4 }).pair 0).rsl < 0xFF4 + 16 := by decide

theorem witness_KennuVectorEntry :
    ((vec 129 k0).issues 0 .al ∧ (vec 129 k0).vector 0 129 dsc ∧ csPl ((vec 129 k0).pair 0).cs ≤ dsc.tpl) ∧
    ((vec 1 k0).issues 0 .al ∧ (vec 1 k0).vector 0 1 dsc) ∧
    (let s := vec 18 { k0 with imask := 4, cs := 0x80 }
     (s.pair 0).run = .running ∧ csAep (s.pair 0).cs = false ∧ csIe (s.pair 0).cs ∧ s.firstIrq 0 = some 2 ∧
      s.vector 0 18 dsc) ∧
    (let s := vec 4 { k0 with pc := 0x30000000 }
     (s.pair 0).run = .running ∧ csAep (s.pair 0).cs = false ∧ s.refusal 0 0x30000000 4 .fetch = some .viol ∧
      s.vector 0 4 dsc) := by
  unfold State.vector; decide

theorem witness_KennuPrivilegeException :
    let s := { vec 133 { k0 with cs := 0x20, rsp := 16, rstack := frm 0 } with hdrs := [] }
    s.issues 0 .al ∧ csPl (s.pair 0).cs = 2 ∧ mfsLevel 20 = some 0 ∧ mtsLevel 8 = some 0 ∧ s.desc 0 133 = .ok dsc ∧
    dsc.tpl < csPl (s.pair 0).cs ∧ (s.pair 0).rsb + 16 ≤ (s.pair 0).rsp ∧ (rsWord (s.pair 0) 4).frame ∧
    bits (rsWord (s.pair 0) 4).val 5 4 < csPl (s.pair 0).cs := by decide

theorem witness_KennuReturnFromException :
    (let s := kp { k0 with rsp := 16, rstack := frm 0x10 }
     s.issues 0 .al ∧ (s.pair 0).rsb + 16 ≤ (s.pair 0).rsp ∧ csPl (s.pair 0).cs ≤ bits 0x10 5 4 ∧
      bit 0x10 6 = csBank (s.pair 0).cs) ∧
    (let s := kp { k0 with rsp := 16, rstack := frm 0x40 }
     s.issues 0 .al ∧ bit 0x40 6 ≠ csBank (s.pair 0).cs ∧ s.gateDefect (bit 0x40 6) = none ∧
      ((badBank s).gateDefect (bit 0x40 6)).isSome) ∧
    (s0.pair 0).rsp < (s0.pair 0).rsb + 16 ∧
    (rsWord ((kp { k0 with rsp := 16 }).pair 0) 0).frame = false := by decide

theorem witness_KennuConditionAndIssue :
    kennuOf (.kNop 0 .ze) = some (0, .ze) ∧ (s0.pair 0).run = .running ∧ csAep (s0.pair 0).cs = false ∧
    condHolds .ze (s0.pair 0).fl = false ∧ kennuOf (.kNop 1 .al) = some (1, .al) ∧ (s0.pair 1).run ≠ .running := by decide

/-- R284: 0xFFFFFFFF + 1 is 0 with carry and no overflow. -/
theorem test_add_carry : let k := (nx (exec (.kAdd 0 .al true 3 1 2) (kp (g2 0xFFFFFFFF 1)))).pair 0
    k.r 3 = 0 ∧ k.fl = ⟨false, true, true, false⟩ := by decide

/-- R284: 0 - 1 borrows. -/
theorem test_sub_borrow : let k := (nx (exec (.kSub 0 .al true 3 1 2) (kp (g2 0 1)))).pair 0
    k.r 3 = 0xFFFFFFFF ∧ k.fl = ⟨true, false, true, false⟩ := by decide

/-- R284: a shift by 0 leaves C. -/
theorem test_shift_by_zero : ((nx (exec (.kShl 0 .al true 3 1 2) (kp { g2 5 0 with cs := 0x20000000 }))).pair 0).fl.c = true := by
  decide

/-- R285: bytes are little-endian. -/
theorem test_store_order : let t := nx (exec (.kStw 0 .al 2 1 0) (kp (g2 0x10000010 0xA1B2C3D4)))
    t.byte 0x10000010 = 0xD4 ∧ t.byte 0x10000013 = 0xA1 := by decide

/-- R293: a divisor of 0 leaves the quotient all ones and the remainder the dividend, and the exception pends. -/
theorem test_div_by_zero : let k := (nx (exec (.kDiv 0 .al 1 2) (kp (g2 7 0)))).pair 0
    k.divQ = some (0xFFFFFFFF, 7) ∧ csAep k.cs = true := by decide

/-! ### Faults, registers, ports -/

/-- A message of kind `k` from the Skimmer. -/
def msg (k : Nat) : Msg := ⟨Blk.SKM, 0, k, 0, 5, 0⟩
/-- A record of one. -/
def rcd (k : Nat) : SRec := ⟨msg k, 4, 0, 0⟩
/-- A flash operation in hand. -/
def fop (w : Purpose) (bank : Nat) : FOp := { rq := ⟨bank, 4, 1, 3, Blk.SKM, 4, w⟩, granted := true }
/-- The Skimmer with a ring. -/
def sk (k : Skm) (l : List Msg) : State := { s0 with skm := k, inbox := l }

theorem witness_FaultMessagesRecordedInOrder :
    (let s := sk s0.skm [msg 1, msg 2]
     s.inbox = msg 1 :: [msg 2] ∧ (s.hdr Blk.SKM 0).srstBusy = false ∧ (s.hdr Blk.SKM 0).en ∧ s.skm.earlyOn = false ∧
      s.skm.lostDue = false ∧ s.coalesces (msg 1) 3 = false ∧ s.skm.ring.length < 512) ∧
    (let s := sk { s0.skm with ring := [rcd 1] } [msg 1]
     s.inbox = msg 1 :: [] ∧ s.skm.ring = rcd 1 :: [] ∧ s.coalesces (msg 1) 3) ∧
    (let s := sk { s0.skm with earlyOn := true } [msg 1]
     s.inbox = msg 1 :: [] ∧ s.skm.earlyOn ∧ s.skm.early.length < 32) := by decide

theorem witness_SkimmerPassReacts :
    (let s := sk { s0.skm with react := [msg 1] } []
     ∀ m ∈ s.skm.react, s.reaction m = 0) ∧
    (let s := rg [(R.SKM_KCFG + 4, 2)] { sk { s0.skm with react := [msg 1, msg 2] } [] with life := .shipped }
     (∃ m ∈ s.skm.react, s.reaction m = 2) ∧ (∀ m ∈ s.skm.react, s.reaction m ≤ 2) ∧ s.mode ≠ .lockdown ∧
      s.clk.waiting = false) := by decide

theorem witness_AuditLogPages :
    (sk { s0.skm with page := [rcd 1] } []).skm.page ≠ [] ∧
    (let s := { sk { s0.skm with pages := [⟨false, [rcd 1]⟩] } [] with flashOn := [fop .audit 1, fop .auditErase 1] }
     s.inHand .audit ∧ s.skm.pages = ⟨false, [rcd 1]⟩ :: [] ∧ s.inHand .auditErase) := by decide

theorem witness_FaultClearAndFaultn :
    (let s := sk { s0.skm with opens := [(3, { kind := 1, cnt := 2 }), (127, { kind := 9, inst := 1, cnt := 1 })] } []
     let t := { s with pairs := [(1, { role := 2, run := .doubleFault })] }
     s.writable sup Blk.SKM 0 R.SKM_CLR ∧ bits (0x46430003 : Word) 31 16 = 0x4643 ∧ bit (0x46430003 : Word) 8 = false ∧
      (s.openF (bits (0x46430003 : Word) 6 0)).cnt ≠ 0 ∧ s.liveCause (s.openF (bits (0x46430003 : Word) 6 0)) = false ∧
      (t.openF (bits (0x4643007F : Word) 6 0)).cnt ≠ 0 ∧ t.liveCause (t.openF (bits (0x4643007F : Word) 6 0))) ∧
    s0.writable sup Blk.SKM 0 R.SKM_PIN := by decide

/-- An entry of the repair map. -/
def ment : MapEnt := ⟨1, 0, 2, 8, 3, 1, 0, false⟩

theorem witness_FencesSparesAndFieldMap :
    (s0.writable sup Blk.SYM 8 (0x20700028 + 8 * 0x10000) ∧ bit (1 : Word) 0 ∧ (s0.lane 8).st ≠ .fenced) ∧
    (let s := { s0 with ris := { s0.ris with due := [(0, 1)] } }
     let t := { s with lanes := (List.range 9).map (fun n => (n, ({ st := .fenced } : Lane))) }
     s.clk.waiting = false ∧ s.ris.subs = [] ∧ s.ris.due = [(0, 1)] ∧ s.spares 0 ≠ [] ∧ t.spares 0 = []) ∧
    (let s := { s0 with flashOn := [fop .fieldMap 1], ris := { s0.ris with ents := [ment], half1 := 1, half2 := 1025 } }
     let t := { s with flashOn := [fop .fieldMap 0] }
     s.inHand .fieldMap ∧ s.flashOn.any (fun o => o.rq.what == .fieldMap && o.rq.bank == 1) ∧
      s.ris.ents[s.ris.copy1]? = some ment ∧ s.ris.half1 % 1024 ≠ 0 ∧
      t.inHand .fieldMap ∧ t.flashOn.any (fun o => o.rq.what == .fieldMap && o.rq.bank == 1) = false ∧
      t.ris.ents[t.ris.copy2]? = some ment ∧ t.ris.half2 % 1024 ≠ 0) := by decide

theorem witness_PairsFailAndAreReplaced :
    ((s0.pair 0).run = .running ∧ (s0.pair 0).role ≠ 0 ∧ (s0.pair 0).fenced = false ∧ s0.ris.subs = []) ∧
    (let s := { s0 with
        pairs := [(0, { role := 1, run := .mismatch, fenced := true }), (1, { role := 2 })]
        ris := { s0.ris with due := [(2, 0)] } }
     (2, 0) ∈ s.ris.due ∧ s.clk.waiting = false ∧ (s.pair 0).role ≠ 0 ∧ (s.pair 0).fenced ∧ (s.pair 2).role = 0 ∧
      (s.pair 2).fenced = false ∧ (∀ x : Pair, x ≠ 0 → x ≠ 2 → (s.pair x).role ≠ 0)) ∧
    (let s := { s0 with pairs := [(0, k0), (1, { role := 2, run := .doubleFault })] }
     s.writable sup Blk.GAT 0 R.GAT_PAIR_CTL ∧ (s.pair 1).run = .doubleFault ∧ (s.pair 1).fenced = false) := by decide

theorem witness_RegisterWriteSetsWritableFields :
    (0x21100044 % 4 = 0 ∧ area 0x21100044 = .reg Blk.MLK 0 0 0x44 ∧ 0x21100044 = blkBase Blk.MLK 0 + 0 * 0x1000 + 0x44 ∧
      s0.writable sup Blk.MLK 0 0x21100044 ∧ (regRow 0x21100044).isSome) ∧
    (area 0x20700080 = .reg Blk.SYM 0 0 0x80 ∧ s0.writable sup Blk.SYM 0 0x20700080 ∧ regRow 0x20700080 = none) ∧
    (let s := s0.setHdr Blk.SYM 0 { srstBusy := true }
     s.live sup ∧ s.barred sup 0x20700100 true = none ∧ (s.hdr Blk.SYM 0).srstBusy) ∧
    (area 0x21200000 = .none ∧ area 0x30000000 = .none ∧ s0.dbgErr = false) := by decide

theorem witness_HeaderCommandsHaveTheirEffect :
    (0 < blkInsts Blk.GAT ∧ s0.writable sup Blk.GAT 0 (blkBase Blk.GAT 0 + 0x0C)) ∧
    (0 < blkInsts Blk.MLK ∧ s0.writable sup Blk.MLK 0 (blkBase Blk.MLK 0 + 0x14)) ∧
    (8 < blkInsts Blk.SYM ∧ s0.writable sup Blk.SYM 8 (blkBase Blk.SYM 8 + 0x34) ∧ Blk.SYM ≠ Blk.FLC) ∧
    (let s := s0.setHdr Blk.HPT 3 { srstBusy := true }
     (s.hdr Blk.HPT 3).srstBusy ∧ Blk.HPT ≠ Blk.CTX ∧ (s.hdr Blk.HPT 3).held = []) := by decide

/-- Port 0 as `k`, in mode `m`. -/
def lp (m : Mode) (k : HPort) : State := { s0 with mode := m, ports := [(0, k)] }

theorem witness_PortCausesResetTheDomain :
    (let s := qq act
     s.portLive 0 ∧ (s.port 0).resetting = false ∧ s.portRuns 0 ∧ (s.port 0).perst = false ∧
      s.unclaimed 0 2 0x40 = false ∧ s.unclaimed 0 2 0x2000 ∧ s.unclaimed 0 5 0) ∧
    (lp .hold { linkUp := true, d3 := true }).portLive 0 ∧ ((lp .hold { linkUp := true, d3 := true }).port 0).d3 ∧
    (lp .service { linkUp := true, resetting := true }).portLive 0 := by decide

theorem witness_PortBootstrapAndLink :
    (let b : HPort := { linkUp := true, bwin := 0x100000, bwinLen := 16, asq := 0x100000, acq := 0x102000 }
     let s := lp .service b
     s.portLive 0 ∧ (s.port 0).d3 = false ∧ (s.port 0).adminEn = false ∧ bit (0x80000404 : Word) 31 ∧
      State.bootErr { b with sqN := bits (0x80000404 : Word) 4 0, cqN := bits (0x80000404 : Word) 12 8 } = 0 ∧
      State.bootErr { b with sqN := bits (0x80000403 : Word) 4 0, cqN := bits (0x80000403 : Word) 12 8 } ≠ 0) ∧
    (s0.writable sup Blk.HPT 0 R.HPT_CFG ∧ s0.portEn 0 ∧ bit (0 : Word) 0 = false ∧ (s0.port 0).resetting = false) ∧
    ((lp .service { perst := true }).port 0).perst ∧ (lp .service { perst := true }).portRuns 0 ∧
    ((lp .service { training := true }).port 0).training ∧ ((lp .hold { resetting := true }).port 0).resetting ∧
    (lp .hold { linkUp := true }).portLive 0 ∧ (mo .service).clk.waiting = false := by decide

/-- The management link with address `a`, in Service, with a record. -/
def ml (a : Option Nat) : State :=
  rg [(R.MLK_CFG, 3)] { mo .service with skm := { s0.skm with ring := [rcd 1] }, mlk := { addr := a, chin := true } }

theorem witness_ManagementCommandsAnswer :
    ((ml none).fieldPower = false ∧ (ml none).dbg.pins = false ∧ (ml none).mlk.addr = none ∧ (ml none).mlk.chin) ∧
    ((ml (some 254)).mlk.addr = some 254 ∧ (ml (some 254)).mode ≠ .start ∧ (ml (some 254)).mode ≠ .lockdown ∧
      bit ((ml (some 254)).reg R.MLK_CFG) 1 ∧ bit ((ml (some 254)).reg R.MLK_CFG) 0 ∧
      (ml (some 254)).skm.ring[0]? = some (rcd 1)) := by decide

theorem witness_ManagementFramesAndReads :
    ((ml (some 5)).mlkNamed 5 ∧ (0 : Byte) ≠ crc8 [5, 0x10, 0]) ∧
    (let m : Mlk := { addr := some 5, resp := some [1] }
     m.resp = some [1] ∧ m.ready = false ∧ { m with ready := true }.ready) ∧ (ml (some 5)).mlk.resp = none := by decide +kernel

/-- The CRC-8 of R69 over the ASCII digits 1 to 9, as published for its polynomial. -/
theorem test_crc8 : crc8 [0x31, 0x32, 0x33, 0x34, 0x35, 0x36, 0x37, 0x38, 0x39] = 0xF4 := by decide +kernel

/-- R68: a unit with an address and MCHIN high drives MCHOUT high. -/
theorem test_mchout : (nx (exec (.mchinChange true) (ml (some 5)))).chout = true ∧
    (nx (exec (.mchinChange true) (ml none))).chout = false := by decide +kernel

/-! ### Rings and jobs -/

theorem witness_DoorbellsMoveTheRings :
    (let s := qq { act with outst := 2, free := 10, w := 3 }
     s.portLive 0 ∧ s.bar0Up 0 ∧ s.doorOf 0 4 ∧ (s.qp 4).st ≠ .destroying ∧ (s.qp 4).w < 2 ^ (s.qp 4).cqN ∧
      ((3 : Word).toNat < 16 ∧ (3 + 16 - (s.qp 4).h) % 16 ≥ ((s.qp 4).t + 16 - (s.qp 4).h) % 16) ∧
      ¬((1 + 16 - (s.qp 4).h) % 16 ≥ ((s.qp 4).t + 16 - (s.qp 4).h) % 16) ∧
      (2 + 16 - (3 + 10) % 16) % 16 ≤ (3 + 16 - (3 + 10) % 16) % 16 ∧ (s.qp 4).outst ≠ 0 ∧ s.qjobs 4 = [] ∧
      (s.qp 4).ringMsg = none ∧ (s.qp 4).closing = false ∧ ((s.qp 4).t + 16 - (s.qp 4).h) % 16 + 2 ≤ 15 ∧
      s.inlineHeld 0 + 2 ≤ 1024) ∧
    ((qq act).qp 4).outst = 0 ∧
    (let s := qq { act with inl := (List.range 1024).map (fun i => (i, ⟨[], true⟩)) }
     1024 ≤ s.inlineHeld 0 ∧ s.granuleOk 0 (0x100000 + 2 * 64) true) ∧
    16 - 1 < (4 + 16 - 5) % 16 + 1 + b2n false := by
  refine ⟨by decide, by decide, ⟨by decide +kernel, by decide +kernel⟩, by decide⟩

theorem witness_EntriesAreFetchedAndTaken :
    (let s := qq act
     s.mode = .service ∧ s.sys.holdPend = false ∧ s.portLive 0 ∧ (s.port 0).resetting = false ∧ (s.port 0).d3 = false ∧
      (s.hdr Blk.TUN 0).en ∧ (s.hdr Blk.HPT 0).en ∧ s.fetchPick 0 = some (0, 4) ∧ (s.qp 4).inl = [] ∧
      0 < State.ringRun (s.qp 4) (s.qp 4).h (min 16 (s.room 4)) ∧
      (∀ i, i < State.ringRun (s.qp 4) (s.qp 4).h (min 16 (s.room 4)) → s.granuleOk 0 (0x100000 + (0 + i) * 64) false)) ∧
    (let s := qq { act with fetch := some ⟨0, 1, false⟩ }
     (s.qp 4).st = .active ∧ s.granuleOk 0 0x100000 true ∧ (s.qp 4).chain = [] ∧ (s.qp 4).pend = none ∧
      (s.qp 4).fetch = some ⟨(s.qp 4).h, 1, false⟩ ∧ leAt (ent [(0, 0xC0)]) 0 1 / 128 = 1 ∧
      leAt (ent [(0, 0xC0)]) 0 1 / 64 % 2 = 1 ∧ leAt (ent [(0, 0xC0)]) 0 1 / 32 % 2 = 0 ∧ (s.qp 4).free = 0 ∧
      (s.qp 4).ringMsg = none) ∧
    (let s := qq { act with reread := some [⟨ent [], false⟩] }
     (s.qp 4).reread = some [⟨ent [], false⟩] ∧ leAt (ent []) 0 1 / 128 ≠ 1 ∧ (s.qp 4).free = 0 ∧ (s.qp 4).faultRing = 0 ∧
      (s.qp 4).ringMsg = none ∧ s.job s.nextJob = none) := by decide

/-- A finished job, and one that finishes. -/
def fin : Job := { jb [] .done with fin := 1 }

theorem witness_CompletionsAndReadAhead :
    (let s := wj (qq { act with free := 3 }) fin
     (s.qp 4).st = .active ∧ (s.qp 4).ringMsg = none ∧ (s.qp 4).faultRing = 0 ∧ s.qjobs 4 = [fin] ∧ fin.isDone ∧
      fin.ordr = false ∧ fin.cmpl ∧ (s.qp 4).free ≠ 0 ∧ s.granuleOk 0 0x101000 true) ∧
    (let s := wj (qq { act with judge := true }) fin
     (s.qp 4).free = 0 ∧ (s.qp 4).waiting = false ∧ (s.qp 4).ra = none ∧ (s.qp 4).free < 16 ∧ (s.qp 4).judge ∧
      s.winRefusal 0 (0x101000 + 0 * 16) (16 * 16) false = none) ∧
    (let s := qq { act with free := 2, ra := some (2, 4) }
     (s.qp 4).ra = some (2, 4) ∧ 2 = ((s.qp 4).w + (s.qp 4).free) % 16 ∧ (s.qp 4).w < 16 ∧
      2 + ((([false, false, true] : List Bool).take 4).takeWhile (fun o => !o)).length ≤ 16) := by decide

theorem witness_FinishedJobsHoldTheirOutcome :
    let s := wj (qq act) (jb [] .running)
    s.job (jb [] .running).id = some (jb [] .running) ∧ (s.qp 4).free = 0 ∧ (s.qp 4).ringMsg = none ∧
      (s.qp 4).faultRing = 0 := by decide

/-- A job of opcode `op` with 64 bytes of input and output. -/
def io (op : Nat) (st : JStage) : Job := jb [(1, op), (10, 0x10), (18, 0x10), (24, 64), (28, 64)] st

theorem witness_JobsAreReadDispatchedAndCharged :
    (let s := wj (qq act) (io 0x10 .input)
     s.job 7 = some (io 0x10 .input) ∧ State.reading (io 0x10 .input) ∧ State.reading (io 0x10 .ready) ∧
      (io 0x10 .ready).stage ≠ .input ∧ (io 0x10 .input).input.length ≤ 0 ∧ 0 < (io 0x10 .input).inTotal) ∧
    (let s := { wj (qq act) (io 0x11 .ready) with lanes := [(8, { st := .idle, seed := some 3 })] }
     s.mode = .service ∧ s.idleLane = some 8 ∧ s.installReady = none ∧ (s.pickJob 0).map (·.1) = some (io 0x11 .ready) ∧
      (s.pickJob 0).any (fun x => (x.2.blocksLeft x.1).isNone && x.2.job x.1.id == some x.1) ∧
      State.xtsPast (io 0x11 .ready) = false) ∧
    (let s := { wj (qq act) (io 0x21 .ready) with units := [(0, { st := .idle, up := true })] }
     s.freeUnitNo = some 0 ∧ s.fwJob = none ∧ (s.pickJob 1).map (·.1) = some (io 0x21 .ready) ∧ pkRandom 0x21 = false ∧
      60 ≤ s.budget - s.variant.standing) ∧
    (wj (qq act) (jb [(1, 0x70)] .ready)).job 7 = some (jb [(1, 0x70)] .ready) ∧ (jb [(1, 0x70)] .ready).op = 0x70 := by decide

/-- An admin command of opcode `op`, on queue pair 0. -/
def adm (f : List (Nat × Nat)) : Job := { jb f .ready with qp := 0 }
/-- With it alone. -/
def aq (f : List (Nat × Nat)) : State := wj (qq act) (adm f)

theorem witness_QueuePairsAreMadeDestroyedAndQueried :
    ((aq [(1, 0x80), (32, 5)]).turn 7 0x80 (adm [(1, 0x80), (32, 5)]) ∧ (adm [(1, 0x80), (32, 5)]).u 32 2 = 5) ∧
    (let s := { aq [(1, 0x81), (32, 4)] with streams := [(1, { bound := true, qp := 4 }), (2, { bound := true, qp := 9 })] }
     s.turn 7 0x81 (adm [(1, 0x81), (32, 4)]) ∧ (adm [(1, 0x81), (32, 4)]).u 34 1 % 2 = 0 ∧ s.qjobs 4 = [] ∧
      (s.qp 4).chain = [] ∧ (s.qp 4).ringMsg = none ∧ (s.qp 4).st ≠ .absent ∧ s.destroyer 4 = none ∧
      (s.port (s.qp 4).dom).parkQ = []) ∧
    (let j := { adm [(1, 0x81), (32, 4)] with stage := .wait (.destroy 4) }
     let s := wj (qq { act with st := .destroying }) j
     s.destroyer 4 = some j ∧ j.qp ≠ 4) ∧
    (aq [(1, 0x82), (32, 4)]).turn 7 0x82 (adm [(1, 0x82), (32, 4)]) ∧
    (aq [(1, 0x86)]).turn 7 0x86 (adm [(1, 0x86)]) := by unfold State.turn; decide

theorem witness_AdminCommandsSetTheDomain :
    (aq [(1, 0x83), (32, 9)]).turn 7 0x83 (adm [(1, 0x83), (32, 9)]) ∧
    (aq [(1, 0x85), (32, 15), (33, 0x80)]).turn 7 0x85 (adm [(1, 0x85), (32, 15), (33, 0x80)]) ∧
    (let j := adm [(1, 0x84), (40, 9), (44, 3)]
     let s := { aq [(1, 0x84), (40, 9), (44, 3)] with binds := [(0, { recEpoch := some 3 })] }
     s.turn 7 0x84 j ∧ j.u 50 1 % 2 = 0 ∧ s.vault.rangeBusy = false ∧ (s.bind j.dom).recEpoch = some 3 ∧ j.u 44 4 = 3 ∧
      (adm [(44, 2)]).u 44 4 < 3) ∧
    (let j := adm [(1, 0x87), (18, 1), (28, 16)]
     let s := { aq [(1, 0x87), (18, 1), (28, 16)] with ports := [(0, { view := [⟨1, 2, 3⟩, ⟨4, 5, 6⟩] })] }
     s.turn 7 0x87 j ∧ s.faultRecs j = ⟨1, 2, 3⟩ :: []) ∧
    (let s := { aq [(1, 0x88)] with ports := [(0, {})], rng := { s0.rng with st := .run, buf := [1, 2, 3, 4] } }
     let t := { s with rng := { s.rng with st := .failed } }
     s.turn 7 0x88 (adm [(1, 0x88)]) ∧ s.rng.waitQ = [] ∧ s.rng.st = .run ∧ s.minSrc ≤ s.servingSrcs ∧ s.rng.buf = 1 :: 2 :: 3 :: [4] ∧
      (s.port 0).drbg = false ∧ t.turn 7 0x88 (adm [(1, 0x88)]) ∧ t.rng.st = .failed) := by unfold State.turn; decide

/-! ### Lanes, contexts, the vault -/

/-- A running job on lane 2. -/
def lj (f : List (Nat × Nat)) (inp : List Byte) (ks : KSlot) : Job := { jb f .running with unit := 2, input := inp, ks := ks }
/-- The context of index 5. -/
def cx : Ctx := ⟨0, 5, 2, 1, 0, [1], List.replicate 16 7, [], 0⟩
/-- Lane 2 busy with job `j`; context 5 present. -/
def lw (j : Job) : State :=
  { wj (qq act) j with
    lanes := [(2, { st := .busy, seed := some 1, work := .job 7 })], ctxs := [cx]
    vslots := [(5, { status := 1, epoch := 1, rx := 100, rxD := 100 })], binds := [(0, { bound := true, records := 100 })] }
/-- A frame of 4 bytes to open, of counter `ctr`. -/
def fr (ctr : Nat) : List Byte := frameHeader 2 5 1 1 0 ctr 4 ++ List.replicate 12 9
/-- One whose tag is good. -/
def frGood (ctr : Nat) : List Byte :=
  let h := frameHeader 2 5 1 1 0 ctr 4
  let o := frameX 2 cx.fkey (frameNonce 2 5 1 1 ctr) [1, 2, 3, 4]
  h ++ o ++ frameTag 2 cx.fkey (frameNonce 2 5 1 1 ctr) h [1, 2, 3, 4] o
/-- An OPEN_FRAME and a SEAL_FRAME of 28 and of 4 bytes. -/
def oj (ctr : Nat) : Job := lj [(1, 1), (4, 5), (9, 1), (17, 1), (24, 28), (28, 64)] (fr ctr) {}
def ej : Job := lj [(1, 2), (4, 5), (9, 1), (17, 1), (24, 4), (28, 64)] [1, 2, 3, 4] {}

/-- The tag of `frGood 164` is good, that of `fr 164` is not. -/
theorem witness_FrameTags :
    let ok := fun (f : List Byte) =>
      let n := frameNonce 2 5 1 1 164
      let pt := frameX 2 cx.fkey n (slice f 16 4)
      frameTag 2 cx.fkey n (f.take 16) pt (slice f 16 4) == slice f 20 (suiteTag 2)
    ok (frGood 164) = true ∧ ok (fr 164) = false := by
  decide +kernel

/-- The other hypotheses, which ask nothing of the bytes from the tag on. -/
theorem witness_FieldFramesAreSealedAndOpened :
    ((lw ej).ctx 0 ej.devIdx = some cx ∧ (lw ej).laneJob 7 0x02 = some (ej, 2) ∧
      (lw ej).fits 2 (frameBlocks cx.suite ej.inTotal)) ∧
    (let j := oj 164
     let s := lw j
     let f := j.input
     s.ctx 0 j.devIdx = some cx ∧ s.laneJob 7 0x01 = some (j, 2) ∧ s.fits 2 (frameBlocks 2 (j.inTotal - 16 - suiteTag 2)) ∧
      leAt f 0 1 = 1 ∧ leAt f 7 1 = 0 ∧ fromBe (slice f 2 3) = 5 ∧ leAt f 1 1 = 2 ∧ leAt f 5 1 = 1 ∧ 128 ≤ leAt f 6 1 ∧
      fromBe (slice f 14 2) = 4 ∧ j.inTotal = 16 + 4 + suiteTag 2 ∧ 4 ≤ j.outTotal ∧ j.u 32 1 % 2 = 0 ∧
      (s.vslot (s.slotOf 0 5)).doubt = false ∧ fromBe (slice f 8 6) = 164 ∧ (s.vslot (s.slotOf 0 5)).rx < 164 ∧
      164 < (s.vslot (s.slotOf 0 5)).rxD + (s.vslot (s.slotOf 0 5)).rxI / 2 ∧ s.vault.closed = false ∧ s.commitBusy j cx = false) ∧
    fromBe (slice (oj 36).input 8 6) + 63 < ((lw (oj 36)).vslot ((lw (oj 36)).slotOf 0 5)).rx := by
  unfold State.fits; decide

/-- A symmetric job of opcode `op`, mode `m` and `n` input bytes, under an AES-128 key. -/
def sj (op m n : Nat) : Job :=
  { lj [(1, op), (4, 3), (9, 1), (17, 1), (24, n), (28, 64), (32, m), (34, 16), (35, 12), (38, 12)]
      ((List.range n).map (BitVec.ofNat 8)) { st := .loaded, typ := 1, nbits := 128, mat := List.replicate 16 3 } with seg := 1 }
/-- What every clause asks of one. -/
def symOk (op m : Nat) (j : Job) : Prop :=
  (lw j).fits 2 (symBlocks j) ∧ j.inTotal ≤ j.input.length ∧ oneShot j ∧ (lw j).laneJob 7 op = some (j, 2) ∧ j.mode = m

/-- With a tag expected and a tag found equal or not: both are values of the standard's cipher. -/
theorem witness_SymmetricJobsTransformTheirPayload :
    symOk 0x10 1 (sj 0x10 1 32) ∧ symOk 0x10 2 (sj 0x10 2 32) ∧ symOk 0x10 3 (sj 0x10 3 16) ∧ symOk 0x11 1 (sj 0x11 1 32) ∧ symOk 0x11 2 (sj 0x11 2 32) ∧ symOk 0x12 8 (sj 0x12 8 32) ∧
      symOk 0x13 8 (sj 0x13 8 48) ∧ symOk 0x14 9 (sj 0x14 9 32) ∧ symOk 0x15 9 (sj 0x15 9 48) := by
  unfold symOk oneShot State.fits; and_intros <;> decide

/-- The two clauses that rest on an unwrap that succeeds need a blob that the standard's cipher decrypts: a value no proof
knows. Every other hypothesis is met here. -/
theorem witness_StreamsAndSlotsAreSavedAndMade :
    (let j := lj [(1, 0x18), (32, 4), (34, 1)] [] {}
     (lw j).laneJob 7 0x18 = some (j, 2) ∧ (lw j).fits 2 72 ∧ j.u 34 1 / 2 % 2 = 0 ∧ j.u 34 1 % 2 = 1) ∧
    (let j := lj [(1, 0x19), (4, 3), (32, 4), (34, 1)] ([1, 0, 0, 1, 4, 0, 3, 0] ++ zeros 88) {}
     (lw j).laneJob 7 0x19 = some (j, 2) ∧ leAt j.input 0 1 = 1 ∧ leAt j.input 3 1 % 2 = 1 ∧ leAt j.input 4 2 = j.qp ∧
      leAt j.input 6 2 = j.keySlot ∧ leAt (zeros 96) 0 1 ≠ 1) ∧
    (let j := lj [(1, 0x40), (4, 3)] [] { st := .loaded, typ := 1, nbits := 128, mat := List.replicate 16 3 }
     (lw j).laneJob 7 0x40 = some (j, 2) ∧ (lw j).fits 2 (6 * ((blobOf j.ks).length / 8 + 1)) ∧ j.u 34 1 % 4 = 0) ∧
    (let j := lj [(1, 0x41), (4, 5)] [1, 2, 3] {}
     (lw j).laneJob 7 0x41 = some (j, 2) ∧ (lw j).unitWork 7 0x41 = none ∧ (lw j).fits 2 (6 * (j.inTotal / 8)) ∧
      kwpUnwrap j.ks.mat j.input = none) ∧
    (let j := lj [(1, 0x42), (32, 5), (34, 0x30)] (ascii "ESN-x") {}
     (lw j).laneJob 7 0x42 = some (j, 2) ∧ (lw j).fits 2 (4 * ((j.inTotal + 8 + 15) / 16 + 1)) ∧
      j.input.take 4 = ascii "ESN-" ∧ (ascii "ESM-x").take 4 ≠ ascii "ESN-" ∧ j.u 34 1 = 0x30 ∧
      bit (w32 (j.u 36 4)) 17 = false) := by
  unfold State.fits; decide

/-- Lanes 2 to 6 with lane 2 as given; the RNG running. -/
def ln (st : LaneSt) (sd : Option Nat) : State :=
  { s0 with
    lanes := [(2, { st := st, seed := sd }), (3, { st := .idle }), (4, { st := .idle }), (5, { st := .idle })]
    leaveHeld := [⟨7, 2, 35, .lane 2, false⟩], rng := { s0.rng with st := .run, internal := true } }

theorem witness_LanesWakeSeedAndRest :
    (let s := ln .waking (some 1)
     (s.lane 2).st = .waking ∧ (s.lane 2).seed.isSome ∧ s.leaveHeld.any (fun x => x.what == .lane 2) ∧
      (s.lane 2).work = .none) ∧
    (let s := ln .idle (some 1)
     (s.lane 2).st = .idle ∧ s.fld R.SYM_CFG 15 0 ≠ 0 ∧ s.activeLanes > s.fld R.SYM_CFG 19 16) ∧
    ((ln .paused none).rngReady ∧ ((ln .paused none).lane 2).st = .paused ∧ ((ln .unseeded none).lane 2).st = .unseeded) := by
  decide

/-- An install of index 5, and a state with it. -/
def ins : Install := ⟨0, 5, false, none, none, none⟩
def si (i : Install) (st : Nat) : State :=
  { qq act with installs := [i], vslots := [(5, { status := st, epoch := 1, rx := 100, rxD := 100 })],
                binds := [(0, { bound := true, records := 100 })] }

/-- But for the record, whose unwrap is a value of the standard's cipher. -/
theorem witness_ContextsAreInstalledAndEnrolled :
    ((si ins 1).installs.find? (fun x => !x.vault) = some ins ∧ ((si ins 1).vslot ((si ins 1).slotOf 0 5)).status = 1 ∧
      ((si ins 2).vslot ((si ins 2).slotOf 0 5)).status = 2) ∧
    ((si ins 1).install 0 5 = some ins ∧ ins.record = none) ∧
    (let x : Install := ⟨0, 5, true, some (zeros 128), some 2, none⟩
     let s := { si x 1 with lanes := [(2, { st := .busy, seed := some 1, work := .install 0 5 })],
                            slots := [(0, { st := .loaded })] }
     (s.lane 2).work = .install 0 5 ∧ (s.lane 2).st = .busy ∧ s.install 0 5 = some x ∧ s.fits 2 99 ∧ s.tableKey 0 ∧
      (s.vslot (s.slotOf 0 5)).status ≠ 2 ∧ s.ctxs.length < s.variant.contexts ∧ s.parkedOn 0 5 = [] ∧
      (s.port 0).parkQ = []) ∧
    (let x : Install := ⟨0, 5, true, none, none, some cx⟩
     (si x 1).install 0 5 = some x ∧ x.ready = some cx) ∧
    (let j := lj [(1, 0x50), (4, 5)] [] {}
     (lw j).laneJob 7 0x50 = some (j, 2) ∧ j.u 32 1 = 0 ∧ (lw j).fits 2 97 ∧ (lw j).vault.stalled = false ∧
      ((lw j).vslot ((lw j).slotOf 0 j.devIdx)).epoch < 255) ∧
    (let j := jb [(1, 0x51), (4, 5)] .ready
     let s := { wj (si ins 1) j with installs := [], closedIdx := [(0, 5, 7)] }
     s.job 7 = some j ∧ s.enrolTurn j ∧ s.vault.stalled = false) ∧
    (let j := jb [(1, 0x52)] .ready
     let s := { wj (si ins 1) j with ctxs := [cx] }
     s.job 7 = some j ∧ j.keyField = 0 ∧ j.u 32 1 % 2 = 0 ∧
      s.ctxs.any (fun c => c.dom == j.dom && s.pinned c.dom c.idx) = false) := by
  unfold State.fits; decide

/-- In Hold with the vault as `v`. -/
def va (v : Vault) : State := { mo .hold with vault := v, vslots := [(5, { status := 1, epoch := 1 })] }

theorem witness_VaultPagesBecomeDurable :
    (let s := va { logWs := [⟨true, 5, 9⟩] }
     s.mode ≠ .lockdown ∧ s.vault.logWs ≠ [] ∧ s.vault.closed = false) ∧
    (let s := va { pages := [.log 12 [⟨true, 5, 9⟩]], prog := true }
     s.vault.pages = .log 12 [⟨true, 5, 9⟩] :: [] ∧ s.vault.prog ∧ s.jobs.any (fun j => j.stage == .wait .ckpt) = false) ∧
    (va { pages := [.mark 2 none none none], prog := true }).vault.pages = .mark 2 none none none :: [] ∧
    (va { pages := [.log 12 [⟨false, 5, 9⟩]], refused := true }).hasLeave .vaultPage = false ∧
    4 ≤ (va {}).budget - (va {}).variant.standing ∧
    (va { seq := 0xBFEC, gAt := [(0, 5)] }).vaultFree < 64 ∧ (va {}).mode ≠ .lockdown := by decide

theorem witness_VaultIsClosedOpenedAndSet :
    ((va {}).writable sup Blk.CTX 0 R.CTX_CTRL ∧ (va {}).mode = .hold ∧ (va {}).vault.closing = false ∧
      (mo .service).writable sup Blk.CTX 0 R.CTX_CTRL ∧ (mo .service).mode ≠ .hold ∧
      (va { closed := true }).vault.pages.contains (.mark 1 none none none) = false) ∧
    ((va {}).writable sup Blk.CTX 0 (R.CTX_DOM_VB + 3 * 0x10) ∧ ((va {}).bind 3).bound = false ∧
      (rg [(R.CTX_DOM_VC + 3 * 0x10, 0)] (va {})).fld (R.CTX_DOM_VC + 3 * 0x10) 18 0 = 0) ∧
    ((va {}).writable sup Blk.CTX 0 R.CTX_CFG ∧ 8 ≤ bits (0x0801 : Word) 12 8 ∧ bits (0x10FF : Word) 12 8 ≤ 16 ∧
      bits (0x0801 : Word) 7 0 ≠ 0 ∧ bits (0x0701 : Word) 12 8 < 8 ∧ bits (0x0800 : Word) 7 0 = 0) := by decide

/-! ### Units, random numbers, the key store, ceremonies, flash -/

/-- A busy unit 0 with a job of opcode `op`: KEY_BITS 2048 and ALG as given. -/
def cj (op alg : Nat) (inp : List Byte) : Job :=
  { jb [(1, op), (32, alg), (37, 8)] .running with input := inp }
def cu (op alg : Nat) (inp : List Byte) : State :=
  { wj s0 (cj op alg inp) with units := [(0, { st := .busy, job := some 7 })] }

theorem witness_CrucibleUnitsComputeResults :
    (cu 0x20 5 []).unitWork 7 0x20 = some (cj 0x20 5 [], 0) ∧ (cj 0x20 5 []).alg = 5 ∧
    (cu 0x20 1 []).unitWork 7 0x20 = some (cj 0x20 1 [], 0) ∧ (cj 0x20 1 []).alg ≠ 5 ∧
    (cu 0x21 5 []).unitWork 7 0x21 = some (cj 0x21 5 [], 0) ∧ (cu 0x21 2 []).unitWork 7 0x21 = some (cj 0x21 2 [], 0) ∧
    (cu 0x22 4 []).unitWork 7 0x22 = some (cj 0x22 4 [], 0) ∧ (cj 0x22 4 []).alg = 4 ∧
    (cu 0x23 1 []).unitWork 7 0x23 = some (cj 0x23 1 [], 0) ∧
    (cu 0x24 8 []).unitWork 7 0x24 = some (cj 0x24 8 [], 0) ∧ fromBe ([] : List Byte) = 0 ∧
    (cu 0x25 8 []).unitWork 7 0x25 = some (cj 0x25 8 [], 0) ∧ fromBe ([] : List Byte) % 2 = 0 := by decide

/-- Unit 0 as `k` with jobs. -/
def un (k : CUnit) (l : List Job) : State := { s0 with jobs := l, units := [(0, k)] }
/-- The port's registers: level 1 may read the SRAM that CRU_FW_IN names. -/
def port : State :=
  rg [(0x20F01040, 0x10000000), (0x20F01044, 0x10000FC0), (0x20F01048, 0x81), (R.CRU_FW_IN, 0x10000010),
    (R.CRU_FW_INLEN, 100)] s0

theorem witness_CrucibleUnitsTakeWipeAndTest :
    (((un { st := .busy, out := some (pkDone [] []) } []).unit 0).st = .busy ∧
      ((un { st := .busy, out := some (pkDone [] []) } []).unit 0).out.isSome) ∧
    (let s := un { st := .wipe, job := some 7, out := some (pkDone [1] []) } [io 0x20 .running]
     (s.unit 0).st = .wipe ∧ (s.unit 0).fw = false ∧ (s.unit 0).job = some 7 ∧ s.job 7 = some (io 0x20 .running) ∧
      (s.unit 0).out = some (pkDone [1] []) ∧ (io 0x20 .running).fill = none) ∧
    ((un { st := .wipe, job := some 7, out := some pkReject } []).unit 0).out = some pkReject ∧
    (io 0x20 (.wait .rng)).kind = 1 ∧
    (s0.writable sup Blk.CRU 2 (cruReg R.CRU_UCTRL 2) ∧ bit (1 : Word) 0 ∧ (s0.unit 0).st = .idle ∧
      s0.writable sup Blk.CRU 0 (cruReg R.CRU_UCTRL 0)) ∧
    (let s := un { st := .test } []
     (s.unit 0).st = .test ∧ (s.unit 0).job = none ∧ (s.unit 0).fw = false) ∧
    (s0.writable sup Blk.CRU 0 R.CRU_FW_CMD ∧ s0.portBusy = false ∧ bit (0 : Word) 31 = false ∧
      (rg [(R.CRU_FW_STAT, 0x80000000)] s0).portBusy) ∧
    (let s := port.setReg R.CRU_FW_CMD (0x80000521 &&& 0xFFFF)
     let e := s.portEntry
     let p : Job := { id := port.nextJob, qp := 0, dom := 4, tag := 0, op := leAt e 1 1, ordr := false, cmpl := true
                      ents := [e], stage := .ready }
     let t := { (s.setReg R.CRU_FW_STAT 0x80000000) with nextJob := port.nextJob + 1, fwJob := some p }
     port.portBusy = false ∧ bit (0x80000521 : Word) 31 ∧ port.mode ≠ .lockdown ∧ port.fwJob = none ∧
      State.portBad p = none ∧ p.op = 0x21 ∧ t.engineRefused false (p.u 8 8) p.inLen 7 = none ∧
      (List.range 3).any (fun n => (t.unit n).serving)) := by
  and_intros <;> decide

/-- The RNG with a job, words and an instance. -/
def rn (j : Job) (buf : List Nat) (inst : Bool) (st : RngSt) : State :=
  { s0 with jobs := [j], ports := [(0, { drbg := inst })], rng := { s0.rng with buf := buf, st := st } }

theorem witness_RandomNumbersSourcesAndSeeds :
    (let j := io 0x30 .ready
     let s := rn j [] true .run
     s.job 7 = some j ∧ s.rng.waitQ = [] ∧ s.rng.st = .run ∧ (s.port 0).drbg ∧ j.u 32 1 % 2 = 0 ∧
      Tbl.get (fun _ => 0) s.rng.reqs 0 + 1 ≤ 2 ^ s.fld R.RNG_CFG 20 16 ∧ ((rn j [] false .run).port 0).drbg = false) ∧
    (let j := io 0x31 .ready
     (rn j [3, 4, 5] true .run).job 7 = some j ∧ 2 ≤ (rn j [3, 4, 5] true .run).rng.buf.length ∧
      (rn j [3, 4, 5] true .run).minSrc ≤ (rn j [3, 4, 5] true .run).servingSrcs ∧
      (rn j [3] true .run).rng.buf.length < 2) ∧
    (let j := io 0x30 (.wait .rng)
     (wj s0 j).job 7 = some j ∧ (wj s0 j).rngWaiters.any (fun x => x.id == 7)) ∧
    (let s := rn (io 0x70 .ready) [3, 4, 5] true .startup
     s.rng.st ≠ .off ∧ s.rng.st ≠ .failed ∧ s.minSrc ≤ s.servingSrcs ∧ 0 < s.servingSrcs ∧ s.rng.due = false ∧ s.rng.waitQ = [] ∧
      3 ≤ s.rng.buf.length) ∧
    ({ s0 with rng := { s0.rng with srcs := [(9, { st := .test })] } }.src 9).st = .test ∧
    (s0.src 0).st = .serving ∧ s0.rng.st = .run ∧
    s0.writable sup Blk.RNG 0 R.RNG_CTRL ∧
    (s0.live sup ∧ s0.barred sup R.RNG_FWRND_LO false = none ∧ (s0.hdr Blk.RNG 0).srstBusy = false ∧ s0.rngReady ∧
      { s0 with rng := { s0.rng with internal := false } }.rngReady = false) ∧
    (s0.writable sup Blk.RNG 0 R.RNG_CAPT ∧ bit (0x80000000 : Word) 31 ∧ s0.life = .foundry ∧
      bit (s0.reg R.RNG_CAPT) 31 = false ∧ bits (0x80000000 : Word) 19 16 = 0 ∧ (s0.src 0).st ≠ .fenced) ∧
    { s0 with life := .shipped }.writable sup Blk.RNG 0 R.RNG_CAPT := by
  and_intros <;> decide

/-- Slot 9 as `k`. -/
def sl (k : KSlot) : State := { s0 with slots := [(9, k)] }
/-- An image record of slot 9. -/
def irc (b : ImgBody) (w : ImgWait) : ImgRec := ⟨9, 0, 0, [], b, w⟩

theorem witness_SlotsFirmwareCommandsAndImage :
    ((rg [(R.KST_FW_STAT, 0x80000000)] s0).writable sup Blk.KST 0 R.KST_FW_CMD ∧
      bit ((rg [(R.KST_FW_STAT, 0x80000000)] s0).reg R.KST_FW_STAT) 31) ∧
    (s0.writable sup Blk.KST 0 R.KST_FW_CMD ∧ bit (s0.reg R.KST_FW_STAT) 31 = false ∧ policyOk 1 0 (s0.reg R.KST_FW_ARG) ∧
      policyOk 0x30 256 (s0.reg R.KST_FW_ARG) ∧ (s0.slot 9).st = .empty ∧ s0.rngReady ∧
      bit (s0.reg R.KST_FW_ARG) 17 = false) ∧
    (((sl { st := .loaded, typ := 1 }).slot 9).st = .loaded ∧ bit ((sl { st := .loaded, typ := 1 }).slot 9).policy 17 = false ∧
      bit ((sl { st := .loaded, policy := 0x20000 }).slot 9).policy 17 ∧ ((sl { st := .reserved }).slot 9).st = .reserved) ∧
    (let r := irc (.slot 4 { typ := 1 }) (.fw 9 {})
     let s := { sl { st := .reserved } with kst := { s0.kst with queue := [r], prog := true, kseal := some [1], imgOk := true } }
     s.kst.queue = r :: [] ∧ s.kst.prog ∧ r.key = [] ∧ s.kst.kseal = some [1] ∧ r.who = .fw 9 {} ∧
      (s.slot r.slot).st = .reserved) ∧
    (let r := irc .erase (.job 7 9 {})
     let s := { wj s0 (io 0x42 (.wait .image)) with kst := { s0.kst with queue := [r] } }
     s.kst.queue = r :: [] ∧ r.who = .job 7 9 {} ∧ s.job 7 = some (io 0x42 (.wait .image))) := by
  and_intros <;> decide

/-- A record that no job waits for. -/
theorem witness_image_record_of_firmware : ∀ i n u, (irc .erase (.fw 9 {})).who ≠ .job i n u := fun _ _ _ h => by cases h

/-- With ceremony `c` and custodian slot 0 active. -/
def cer (c : Cer) : State := { s0 with kst := { s0.kst with cer := c }, crd := { slots := [(0, { st := 4 })] } }

/-- But for a share, whose unwrap is a value of the standard's cipher. -/
theorem witness_CeremoniesAndQuench :
    (let s := { mo .service with life := .shipped }
     s.writable sup Blk.KST 0 R.KST_CER_CMD ∧ s.cerRuns = false ∧ s.life = .shipped ∧ s.mode = .service) ∧
    (s0.writable sup Blk.KST 0 R.KST_CER_CMD ∧ s0.life ≠ .shipped) ∧
    (let s := { mo .lockdown with life := .commissioned, crd := { present := true, st := 4, hdrs := [(0, ⟨5, [1], [2], 2, 3⟩)] }
                                  kst := { s0.kst with kcust := some [1] } }
     s.writable sup Blk.KST 0 R.KST_CER_CMD ∧ s.cerRuns = false ∧ s.cardSet = some ⟨5, [1], [2], 2, 3⟩ ∧
      s.kst.kcust = some [1]) ∧
    { mo .service with life := .vendor }.cerRuns = false ∧
    ((cer { st := 2, kind := 3 }).writable sup Blk.KST 0 R.KST_CER_CMD ∧ (cer { st := 2, kind := 3 }).cerRuns) ∧
    (((cer { st := 1, n := 3 }).cslot 0).st = 4 ∧ 0 * 2 + 2 ≠ 2 ^ 3 ∧ 3 * 2 + 2 = 2 ^ 3) ∧
    ((cer { st := 2 }).judgeShare []).1 ≠ 0 ∧
    s0.writable sup Blk.KST 0 R.KST_QCTL ∧ s0.clk.waiting = false := by
  and_intros <;> decide

/-- A port operation of kind `op` on bank 0, sector 3, in hand; erased memory. -/
def fo (op : Nat) : FOp := { rq := ⟨0, 4, op, 3, Blk.FLC, 4, .flash⟩, granted := true }
def on (o : FOp) : State := { s0 with flashOn := [o], flcAddr := 0x08003000, flcData := List.replicate 256 0xAA }

/-- Command `op` at address `a` passes every check. -/
def fwStarts (a : Word) (op : Nat) : Bool :=
  ((rg [(R.FLC_ADDR, a)] s0).fwReq op).any (fun r => ((rg [(R.FLC_ADDR, a)] s0).fwBlock r).isNone)

theorem witness_FlashOperations :
    ((rg [(R.FLC_STATUS, 0x80000000)] s0).flcBusy ∧ s0.flcBusy = false ∧ (mo .lockdown).flcBusy = false ∧
      s0.writable sup Blk.FLC 0 R.FLC_CMD ∧ (rg [(R.FLC_ADDR, 0x10000000)] s0).fwReq 1 = none ∧
      fwStarts 0x08003000 1 ∧
      fwStarts 0x08003000 2 ∧
      fwStarts 0x08003000 3 ∧
      fwStarts 0x0C800000 4 ∧ s0.flashQ = [] ∧ s0.flashOn = []) ∧
    ((on (fo 1)).opOf 0 = some (fo 1) ∧ (on (fo 2)).opOf 0 = some (fo 2) ∧ (on (fo 4)).opOf 0 = some (fo 4) ∧
      (on (fo 2)).weak.contains (0, 3) = false) ∧
    ((on { fo 2 with susp := 1 }).writable sup Blk.FLC 0 R.FLC_CMD ∧ (on { fo 2 with ask := true }).opOf 0 = some { fo 2 with ask := true } ∧
      (on { fo 2 with susp := 2 }).urgent 0 = false) ∧
    (let s := { s0 with torn := [⟨3, 2047, true, true⟩] }
     s.hasLeave (.heal 3 2047) = false ∧ (s.hdr Blk.FLC 0).en ∧ 12 ≤ s.budget - s.variant.standing) ∧
    (0 < s0.spareLeft 3 ∧ s0.isTorn 3 2047 = false ∧ s0.lostSec.contains (3, 2047) = false ∧ s0.clk.waiting = false) := by
  and_intros <;> decide +kernel

/-! ### The tag, cards, Flask -/

/-- With the tag as `t`. -/
def tg (t : Tag) : State := { s0 with tag := t }

theorem witness_TagProtocolStates :
    (s0.tag.field = false ∧ s0.fieldPower = false ∧ (mo .backup).mode = .backup) ∧
    (let s := tg { field := true, proto := 4, l4 := true, pps := true }
     s.tag.field ∧ s.tag.commit = none ∧ s.tag.hostQ = [] ∧ s.tag.credOp = none ∧ s.clk.waiting = false ∧ s.tagL4 ∧
      s.tag.pps) ∧
    (tg { proto := 1 }).tag.proto = 1 ∧ (tg { proto := 2 }).clk.waiting = false ∧
    (((tg { proto := 3, level := 1 }).tag.level == 1) = true ∧ ((tg { proto := 3 }).tag.level == 1) = false) ∧
    (tg { proto := 4 }).tag.l4 = false := by
  and_intros <;> decide

/-- The bits a reader sends match the tag's own, and do not match. -/
theorem witness_anticollision (b : Bool) : (let w := fromLe ((tg {}).cascade b)
    w % 2 ^ 39 = w % 2 ^ 39 ∧ w % 2 ^ 0 = 0 % 2 ^ 0 ∧ w % 2 ^ 1 ≠ (w + 1) % 2 ^ 1) := by
  dsimp only; omega

/-- With no byte of the tag bank written, its bytes read erased. -/
theorem blank_bytes {s : State} (hm : s.mem = []) (n : Nat) :
    ∀ a, 0x0C000000 ≤ a → a + n ≤ 0x0C008000 → s.bytes a n = List.replicate n 0xFF := by
  induction n with
  | zero => intros; rfl
  | succ n ih =>
    intro a h1 h2
    rw [State.bytes, ih _ (by omega) (by omega), List.replicate_succ]
    congr 1
    simp only [State.byte, hm]
    show memDefault a = _
    unfold memDefault
    rw [if_pos (by omega)]

theorem blank_record {s : State} (hm : s.mem = []) {r : Nat} (hr : r < 16) : s.record r = List.replicate 1024 0xFF := by
  unfold State.record State.curAddr
  apply blank_bytes hm <;> split <;> omega

/-- A write that changes no byte changes no record. -/
theorem witness_nothing_to_write : s0.writeRecs 0x37F8 (List.replicate 8 0xFF) = [] := by
  unfold State.writeRecs
  rw [List.filter_eq_nil_iff]
  intro x hx
  obtain ⟨r, hr, rfl⟩ := List.mem_map.1 hx
  rw [List.mem_range] at hr
  simp only [blank_record (show s0.mem = [] from rfl) hr, overlay, List.length_replicate]
  split
  · simp
  · simp only [List.length_replicate, List.drop_replicate, List.take_replicate, List.replicate_append_replicate, bne_iff_ne, ne_eq, Decidable.not_not]
    exact congrArg (List.replicate · _) (by omega)

/-- A write that changes a byte of a record changes that record. -/
theorem write_changes (s : State) (o : Nat) (d : List Byte) (r : Nat) (hr : r < 16)
    (h : max o (r * 1024) < min (o + d.length) (r * 1024 + 1024))
    (hd : (overlay (s.record r) ((d.drop (max o (r * 1024) - o)).take
      (min (o + d.length) (r * 1024 + 1024) - max o (r * 1024))) (max o (r * 1024) - r * 1024))
       ≠ s.record r) : s.writeRecs o d ≠ [] := by
  intro e
  unfold State.writeRecs at e
  rw [List.filter_eq_nil_iff] at e
  have := e _ (List.mem_map.2 ⟨r, List.mem_range.2 hr, rfl⟩)
  dsimp only at this
  rw [if_neg (by omega)] at this
  exact this (by simpa using hd)
/-- The tag's bytes unwritten: eight bytes at the end of record 13, and a ticket of one byte. -/
theorem witness_something_to_write :
    s0.writeRecs 0x37F8 (List.replicate 8 1) ≠ [] ∧ s0.writeRecs 14336 (leBytes 2 1 ++ [1]) ≠ [] :=
  ⟨by apply write_changes _ _ _ 13 <;> decide +kernel, by apply write_changes _ _ _ 14 <;> decide +kernel⟩

/-- A selected application `ap`, access `a`, the credential record and life COMMISSIONED. -/
def ta (a ap : Nat) : Tag := { field := true, proto := 4, l4 := true, access := a, app := ap }
def st (a ap : Nat) (g : Tag → Tag) : State :=
  { s0 with
    tag := g (ta a ap), life := .commissioned, skm := { s0.skm with ring := [rcd 1] }
    mem := [(0x0C003C00, 1), (0x0C003C01, 0x0B), (0x0C003C02, 0), (0x0C003C03, 5), (0x0C003C04, 1)] ++
      (List.range 16).map (fun i => (0x0C003C0C + i, 7)) ++
      [(0x0C003C1C, 0), (0x0C003C1D, 4), (0x0C003C1E, 0), (0x0C003C1F, 0), (0x0C003C20, 0), (0x0C003C21, 0), (0x0C003C22, 0),
       (0x0C003C23, 0)] }
/-- The first status word that bars a command. -/
def bar (s : State) (cla ins p : Nat) (d : List Byte) (le : Fin 256) : Nat := s.apduBar ⟨cla, ins, p, d, le⟩

theorem witness_TagApplicationCommands :
    (let s := st 1 2 id
     s.tagL4 ∧ s.tag.commit = none ∧ s.clk.waiting = false ∧ s.tag.field ∧ s.tag.chain = none ∧ s.tag.access ≠ 3 ∧
      s.fieldPower = false ∧ bar s 0x00 0xA4 0x0400 aidRecovery 0 = 0 ∧ bar s 0x00 0xA4 0x0400 aidService 0 = 0x6A82 ∧
      bar s 0x80 0x10 0 [] 16 = 0 ∧ bar s 0x80 0x12 0 [] 8 = 0 ∧ bar s 0x80 0x12 0 [] 12 ≠ 0 ∧ bar s 0x80 0x14 0 [] 12 = 0 ∧
      bar s 0x00 0xB0 0 [] 0 = 0 ∧ bar s 0x80 0x20 0 (List.replicate 8 1) 0 = 0 ∧ bar s 0x80 0xA0 0 [] 16 = 0 ∧
      s.kTag = some (List.replicate 16 7) ∧ s.cred 28 8 = 1024 ∧ s.tag.ctr = none ∧ tagIns 0x99 = false) ∧
    (let s := { st 1 2 id with flk := { s0.flk with mpos := 5 } }
     bar s 0x80 0x14 1 [] 16 = 0) ∧
    { st 1 2 id with mode := .field }.fieldPower ∧
    (let s := st 2 2 id
     s.tag.access ≠ 3 ∧ bar s 0x00 0xD6 0x37F8 (List.replicate 8 1) 0 = 0 ∧ bar s 0x90 0xE0 0 [1] 0 = 0 ∧
      bar s 0x80 0xE0 0 [1] 0 = 0 ∧ bar s 0x80 0x16 0 [] 10 = 0 ∧ s.skm.ring[0]? = some (rcd 1)) ∧
    (let s := st 2 2 (fun t => { t with rndB := some [1], ctr := some 9 })
     bar s 0x80 0xA2 0 (zeros 32) 16 = 0 ∧ s.tag.rndB = some [1] ∧ 9 + 512 < s.cred 28 8) ∧
    (st 3 2 id).tag.access = 3 := by
  and_intros <;> decide +kernel

/-- A commit. -/
def com (w : Bool) (l : List (Nat × List Byte)) : TCommit := ⟨.update, l, w⟩
/-- The new content of a record. -/
def page : List Byte := List.replicate 1024 5

theorem witness_commit_page : (let s := tg { commit := some (com false [(15, page)]) }
    s.tag.commit = some ⟨.update, [((15 : Fin 16).val, page)], false⟩ ∧ page.length = 1024 ∧ s.tag.toIdle = false) :=
  ⟨rfl, List.length_replicate, rfl⟩

theorem witness_TagCommitsHostJobsAndCredentials :
    (let s := st 2 2 (fun t => { t with commit := some (com true []) })
     s.tag.field ∧ s.tag.commit = some (com true []) ∧ (com true []).waits ∧ s.clk.waiting = false ∧ s.tag.held = none ∧
      s.tag.hostQ = [] ∧ s.tag.credOp = none ∧ s.tag.access ≠ 3) ∧
    (let s := { st 1 2 id with
        tag := { page := some 15 }, mem := (List.range 16).map (fun i => (0x0C008000 + 64 * i, 0)) ++ [(0x0C008400, 0)] }
     s.tag.commit = none ∧ s.markLeft.length ≤ 4 ∧
      (List.range 16).all (fun i => s.markBlank ((1 - s.markSector) * 16 + i)) = false ∧
      (s.fieldPower && !s.tag.cfld) = false) ∧
    (let j := { io 0x61 .ready with input := [5] }
     (wj s0 j).job 7 = some j ∧ (wj s0 j).tag.commit = none ∧ (wj s0 j).writeRecs (j.u 32 4) j.input ≠ []) ∧
    (let j := { io 0x60 (.wait .tag) with aux := 1 }
     let s := { wj s0 j with tag := { hostQ := [7] } }
     s.job 7 = some j ∧ s.tag.hostQ.contains 7) ∧
    (let s := { st 1 2 (fun _ => {}) with slots := [(9, { st := .loaded, typ := 1, policy := 0x40000, mat := List.replicate 16 3 })] }
     s.writable sup Blk.TAG 0 R.TAG_CRED_CMD ∧ bit (s.reg R.TAG_CRED_STAT) 31 = false ∧ s.tag.commit = none ∧ s.tag.held = none ∧
      s.tag.hostQ = [] ∧ s.credBlank = false ∧
      (beBytes 4 s.tag.pw0.toNat ++ beBytes 4 s.tag.pw1.toNat).all
        (fun b => decide (b.toNat % 16 ≤ 9) && decide (b.toNat / 16 ≤ 9)) ∧
      (beBytes 4 0xA).any (fun b => decide (9 < b.toNat % 16) || decide (9 < b.toNat / 16)) ∧
      bits (0x00005009 : Word) 15 12 ≠ 0 ∧ bits (0x00005009 : Word) 11 0 = 9 ∧ s.life = .commissioned ∧
      (s.slot 9).st = .loaded ∧ (s.slot 9).typ = 1 ∧ s.slotOwner 9 = 4 ∧ bit (s.slot 9).policy 18 ∧
      bit ((rg [(R.TAG_CRED_STAT, 0x80000000)] s).reg R.TAG_CRED_STAT) 31) := by
  and_intros <;> decide +kernel

/-- With the cards as `c`. -/
def cd (c : Crd) : State := { s0 with crd := c }
/-- A journal record and a generation in progress. -/
def jr (t q : Nat) : JRec := { typ := t, seq := q, card := [1], gen := 3, first := 9 }
def gr (g : GStage) : GenRun := { gen := 3, area := 0, snap := [], todo := [(5, [1])], stage := g }
/-- Custodian slot 1 as `c`, with a ceremony in state `n`. -/
def cc (c : CSlot) (n : Nat) : State :=
  { s0 with crd := { slots := [(1, c)] }, kst := { s0.kst with cer := { st := n, kind := 3 } } }
/-- A custody card seated, the customer key held, one PERSIST slot changed. -/
def gu (m : Mode) : State :=
  { cd { st := 4, present := true, hdrs := [(1, ⟨5, [1], [2], 2, 3⟩)], log := [jr 4 9] } with
    mode := m, life := .commissioned, kst := { s0.kst with kcust := some [1] }
    slots := [(300, { st := .loaded, typ := 1, policy := 0x20000, dirty := true })] }

theorem witness_CardsJournalAndCustodianSlots :
    (s0.crd.st = 0 ∧ s0.fieldPower = false ∧ s0.dbg.pins = false) ∧
    ((cd { st := 1 }).crd.st = 1 ∧ 15 ≤ (cd { st := 1 }).budget - (cd { st := 1 }).variant.standing) ∧
    (let s := rg [(R.CRD_SD_CFG, 1)] (cd { st := 4, present := true })
     s.crd.st = 4 ∧ s.crd.run = none ∧ s.crd.op ≠ 2 ∧ s.crd.resolving = false ∧ s.fld R.CRD_SD_CFG 15 0 ≠ 0) ∧
    ((gu .service).writable sup Blk.CRD 0 R.CRD_CUST_CMD ∧ bit ((gu .service).reg R.CRD_CUST_STAT) 31 = false ∧
      (gu .service).genBar = none ∧ (gu .service).crd.tooSmall = false ∧ s0.writable sup Blk.CRD 0 R.CRD_CUST_CMD ∧
      s0.genBar.isSome ∧ s0.mode ≠ .service) ∧
    (let s := cd { jq := [jr 2 0], jprog := true, jseq := 4, jpage := 2050 }
     s.crd.jq = jr 2 0 :: [] ∧ s.crd.jprog ∧ (jr 2 0).seq = 0 ∧ (jr 2 0).typ = 2 ∧ s.crd.run = none) ∧
    (let s := cd { jq := [jr 6 0], op := 3 }
     s.crd.jq = jr 6 0 :: [] ∧ s.crd.op = 3 ∧ (jr 6 0).typ = 6) ∧
    (let s := cd { st := 4, op := 1, run := some (gr .writing) }
     s.crd.run = some (gr .writing) ∧ (gr .writing).stage = .writing ∧ s.crd.st = 4 ∧ s.crd.op = 1) ∧
    (let s := { cd { st := 4, resolving := true, log := [jr 1 4] } with kst := { s0.kst with kcust := some [1] } }
     s.crd.resolving ∧ s.crd.st = 4 ∧ s.mode ≠ .lockdown ∧ s.kst.kcust.isSome ∧ jPending s.crd.log = [jr 1 4] ∧
      jOpenGen s.crd.log = none ∧ s.crd.jq = []) ∧
    ((s0.cslot 0).st ≤ 1 ∧ s0.clk.waiting = false ∧ s0.cerCards = false) ∧
    (let s := cc { st := 3, klass := 1 } 0
     (s.cslot 1).st = 3 ∧ (s.cslot 1).klass = 1 ∧ (s.cslot 1).nopps = false ∧ taOk 0x11 ∧ s.cerCards = false) ∧
    (let s := rg [(R.CRD_CC_CFG, 4)] (cc { st := 3, klass := 2 } 0)
     (s.cslot 1).klass = 2 ∧ bit (s.reg R.CRD_CC_CFG) 2) ∧
    (let s := cc { st := 2, again := true } 2
     (s.cslot 1).st = 2 ∧ (s.cslot 1).again ∧ s.cerCards ∧ 25 ≤ s.budget - s.variant.standing) := by
  and_intros <;> decide +kernel

/-- Response `n` for source `i`, loops enabled, life SHIPPED. -/
def fk (i n : Nat) (m : Mode) : State :=
  rg [(R.FLK_RESP, BitVec.ofNat 32 (n * 4 ^ i)), (R.FLK_CFG, 0x000F0010)] { mo m with life := .shipped }

theorem witness_FlaskAlarmsRtcAndMirror :
    ((fk 0 1 .service).flkEnabled 0 ∧ (fk 0 1 .service).flk.live / 2 ^ 0 % 2 = 0 ∧ (fk 0 1 .service).flkTaken 0 ≤ 1 ∧
      Tbl.get (fun _ => 0) (fk 0 1 .service).flk.sent 0 = 0 ∧ (fk 0 1 .service).fieldPower = false) ∧
    ((fk 11 2 .service).flkEnabled 11 ∧ (fk 11 2 .service).flkTaken 11 = 2 ∧ (fk 11 2 .service).mode ≠ .lockdown ∧
      (fk 11 2 .service).clk.waiting = false) ∧
    ((fk 3 3 .service).flkEnabled 3 ∧ (fk 3 3 .service).flkTaken 3 = 3) ∧
    ((fk 0 1 .backup).fieldPower ∧ (fk 0 1 .backup).flkEnabled 0) ∧
    (let s := mo .service
     s.writable sup Blk.FLK 0 R.FLK_CLR ∧ s.isSup sup ∧ bits (0x434C0003 : Word) 31 16 = 0x434C ∧
      bits (0x434C0003 : Word) 4 0 = 3 ∧ s.flkCount 3 = bits (0x434C0003 : Word) 15 8 ∧
      s.flkCount 3 ≠ bits (0x434C0103 : Word) 15 8 ∧ s.flk.mq.length < 16 ∧ s0.mode ≠ .service ∧
      13 < bits (0x434C001F : Word) 4 0 ∧ s.writable sup Blk.FLK 0 R.FLK_RTC_SET_HI ∧ s.writable sup Blk.FLK 0 R.FLK_RTC_MEAS) ∧
    { s0 with flk := { s0.flk with meas := true } }.flk.meas ∧
    (let s := { s0 with flk := { s0.flk with mq := [⟨1, 2, 3, 4⟩], mpos := 3 } }
     s.flk.mq = ⟨1, 2, 3, 4⟩ :: [] ∧ s.fieldPower = false ∧ s.tag.commit = none ∧ s.flk.mpos % 64 ≠ 0) := by
  and_intros <;> decide +kernel

/-- A time to set that is not below any reading, the highest; and one below a reading that is not 0. -/
theorem witness_rtc_set (x : Nat) : (let now := (s0.rtc + x) % 2 ^ 48
    now ≤ 0xFFFF * 2 ^ 32 + 0xFFFFFFFF ∧ (now ≠ 0 → 0 < now)) := by
  dsimp only; omega

/-! ### Starts, clocks, debug -/

theorem witness_StartsModesAndPower :
    ((mo .backup).fieldPower ∧ s0.fieldPower = false ∧ s0.tag.commit = none ∧ s0.flashOn = []) ∧
    (s0.writable sup Blk.SYS 0 R.SYS_RST ∧ s0.mode ≠ .lockdown ∧ s0.coldPending = false ∧ s0.jobs = [] ∧ s0.fwJob = none ∧
      s0.fwWait = none ∧ (mo .lockdown).mode = .lockdown ∧ (mo .lockdown).writable sup Blk.SYS 0 R.SYS_RST) ∧
    (let s := { s0 with sys := { start := some ⟨false, 1, 0⟩ } }
     s.sys.start = some ⟨false, 1, 0⟩ ∧ s.clk.waiting = false ∧ s.mode ≠ .lockdown ∧
      ∀ u < 3, (2, u) ∈ ([(2, 0), (2, 1), (2, 2)] : List (Nat × Nat))) ∧
    { s0 with sys := { start := some ⟨true, 5, 0⟩ } }.sys.start = some ⟨true, 5, 0⟩ ∧
    (s0.writable sup Blk.SYS 0 R.SYS_MREQ ∧ s0.writable (.pair 1) Blk.SYS 0 R.SYS_MREQ = false ∧ s0.isSup sup ∧
      s0.sys.holdPend = false ∧ s0.mode = .start ∧ s0.sys.start = none ∧ bit (s0.reg R.SYS_SMS) 15 ∧ s0.life = .foundry) ∧
    (let s := { mo .service with pairs := [(0, k0), (1, { role := 2, run := .running })] }
     s.isSup sup ∧ s.writable sup Blk.SYS 0 R.SYS_MREQ ∧ s.writable (.pair 1) Blk.SYS 0 R.SYS_MREQ ∧ s.isSup (.pair 1) = false) ∧
    (let s := { mo .service with sys := { holdPend := true } }
     s.sys.holdPend ∧ s.mode = .service ∧ s.holdReady) ∧
    (s0.writable sup Blk.SYS 0 R.SYS_PAIR ∧ (s0.pair 1).role = 2 ∧ (s0.pair 1).run = .held ∧ (s0.pair 1).fenced = false ∧
      (s0.pair 0).role ≠ 2) := by
  and_intros <;> decide +kernel

/-- With the clocks as `c`. -/
def ck (c : Clk) : State := { s0 with clk := c }
/-- A leave request of Crucible unit 0. -/
def lv : Leave := ⟨8, 0, 60, .cru 0, false⟩

theorem witness_ClocksFailAndReturnAndLeaveIsGranted :
    ((ck { judged := false }).fieldPower = false ∧ (ck { judged := false }).clk.judged = false ∧
      (rg [(R.CLK_XCNT, 0xFF)] (ck { judged := false, judgeAt := 0xFFFFFF })).xReached) ∧
    (let s := ck { judged := true, refX := false, doms := [(0, { div := 1 }), (1, { div := 0xFF }), (2, { div := 1 }), (3, { div := 1 })] }
     s.clk.judged ∧ s.clk.refX = false ∧ s.ris.evalDone ∧ s.clk.waiting = false ∧ s.ramping = false) ∧
    (((ck { doms := [(0, { div := 9, aim := 1 })] }).pdom 0).aim = 1 ∧ 2 < ((ck { doms := [(0, { div := 9, aim := 1 })] }).pdom 0).div) ∧
    (((ck { doms := [(3, { div := 2, aim := 1 })] }).pdom 3).aim = 1 ∧ ((ck { doms := [(3, { div := 2, aim := 1 })] }).pdom 3).div = 2) ∧
    (2 ≤ ((ck { doms := [(0, { div := 1, aim := 2 })] }).pdom 0).aim ∧ ((ck { doms := [(0, { div := 1, aim := 2 })] }).pdom 0).div < dZero 0) ∧
    (s0.canFail 1 ∧ s0.clk.waiting = false) ∧
    (let s := { ck { waiting := true, judged := true } with clkFailed := 0x100 }
     s.clk.waiting ∧ s.othersBack ∧ s.coldPending = false ∧ s.clkFailed / 256 ≠ 0) ∧
    (let s := { s0 with leavePend := [lv], units := [(0, { st := .leave })] }
     (s.hdr Blk.CLK 0).en ∧ s.leavePend = lv :: [] ∧ s.variant.standing + s.leaveGranted + lv.tok ≤ s.budget ∧
      lv.what = .cru 0 ∧ (s.unit 0).st = .leave ∧ s.flashOn = [] ∧ s.leavePend[0]? = some lv ∧ lv.waited = false ∧
      { s with leaveHeld := [{ lv with tok := 900 }] }.budget < s.variant.standing + 900 + lv.tok) ∧
    (s0.writable sup Blk.CLK 0 R.PWR_BUDGET ∧ s0.variant.standing ≤ bits (950 : Word) 9 0 ∧ bits (950 : Word) 9 0 ≤ 950 ∧
      s0.vault.refused = false ∧ (∀ x ∈ s0.leavePend, x.tok ≤ bits (950 : Word) 9 0 - s0.variant.standing) ∧
      950 < bits (951 : Word) 9 0 ∧ bits (0 : Word) 9 0 < s0.variant.standing) := by
  and_intros <;> decide +kernel

/-- With the debug unit as `d`. -/
def db (d : Dbg) : State := { s0 with dbg := d }

/-- A ticket whose scope holds only bit 0. -/
def sco : State := { db { st := 1, scope := 1 } with life := .shipped, pairs := [(0, k0), (1, { role := 2, run := .running })] }
/-- Serial, customer key and authority programmed. -/
def otp : State := { mo .service with mem := [(0x0C800000, 1), (0x0C800080, 1), (0x0C800100, 1)] }

theorem witness_DebugAccessTicketsPairsAndScan :
    (let s := db { st := 2, ir := 8 }
     s.fieldPower = false ∧ s.dbg.ir = 8 ∧ s.dbgErr = false ∧ area 0x10000000 = .sram ∧ s.waits 0x10000000 = false ∧
      s.unreadable 0x10000000 = none ∧ s.debugReach 0x10000000 false = none ∧ s.debugReach 0x107FFFFC true = none ∧
      ({ db { st := 0, ir := 8 } with life := .shipped }.debugReach 0x10000000 false).isSome) ∧
    (s0.writable .debug Blk.DBG 0 R.DBG_TKT_CMD ∧ s0.dbg.verify = none ∧ s0.fwJob = none ∧
      s0.ticketFails (s0.ticketBuf 3) 3 0 = some 7) ∧
    (let s := db { st := 0, verify := some (zeros 16 ++ [1] ++ zeros 100), verdict := some true }
     s.dbg.verify = some (zeros 16 ++ [1] ++ zeros 100) ∧ s.dbg.verdict = some true ∧
      (s.reg R.DBG_TCTR).toNat < leAt (zeros 16 ++ [1] ++ zeros 100) 16 4) ∧
    ((db { st := 1 }).dbg.st = 1 ∧ (db { st := 1 }).writable .debug Blk.DBG 0 R.DBG_TKT_CMD) ∧
    (s0.writable sup Blk.DBG 0 R.DBG_TCTR ∧ s0.isSup sup ∧ (s0.reg R.DBG_TCTR).toNat ≤ (0 : Word).toNat ∧
      (0 : Word).toNat < ((rg [(R.DBG_TCTR, 1)] s0).reg R.DBG_TCTR).toNat) ∧
    (s0.writable .debug Blk.DBG 0 R.DBG_PAIRCTL ∧ s0.pairInScope 0 ∧ s0.pairRuns 0 ∧
      sco.writable .debug Blk.DBG 0 R.DBG_PAIRCTL ∧ sco.pairInScope 1 ∧ sco.pairInScope 0 = false) ∧
    (let s := rg [(R.DBG_CREG_SEL, 0x103)] { db { st := 2, ir := 8 } with pairs := [(1, { role := 2, run := .debugHalt })] }
     s.fld R.DBG_CREG_SEL 9 8 = 1 ∧ s.fld R.DBG_CREG_SEL 5 0 = 3 ∧ (s.pair 1).run = .debugHalt ∧
      s.writable .debug Blk.DBG 0 R.DBG_CREG_DATA ∧ s.barred .debug R.DBG_CREG_DATA false = none ∧
      (s.hdr Blk.DBG 0).srstBusy = false) ∧
    (s0.writable .debug Blk.DBG 0 R.DBG_INJ_CMD ∧ s0.dbg.injOn = false ∧ s0.mode ≠ .service ∧
      (mo .service).dbg.st = 2 ∧ otp.injReady 2 3 ∧ otp.injReady 2 8 ∧ (otp.injReady 2 9 = false) ∧ (mo .service).otpTorn 0x1000 = false ∧
      (mo .service).otpBlank 0x140 8) ∧
    (s0.life = .foundry ∧ { mo .service with life := .shipped }.life ≠ .foundry ∧ (db { pins := true }).dbg.pins ∧
      (db { ir := 2 }).dbg.ir = 2) := by
  and_intros <;> decide +kernel

/-! ### Ill-formed commands are refused, and the highest operands are not -/

/-- 256 bytes, one more than a length byte names. -/
def long : List Byte := List.replicate 256 0

theorem test_wf_register_address :
    (Instr.registerWrite sup 0x20000002 0).wf = false ∧ (Instr.registerWrite sup 0x1FFFFFFC 0).wf = false ∧
    (Instr.registerWrite sup 0x21200000 0).wf = false ∧ (Instr.registerWrite sup 0x211FFFFC 0).wf = true := by
  and_intros <;> decide

theorem test_wf_instance :
    (Instr.softReset sup 8 3 true).wf = false ∧ (Instr.softResetComplete 4 4).wf = false ∧
    (Instr.blockDisable sup 7 9 true).wf = false ∧ (Instr.eventClear sup 0x12 0 0 0).wf = false ∧
    (Instr.firmwareFence sup 1 1 0).wf = false ∧ (Instr.blockLock sup 8 3).wf = false ∧
    (Instr.blockLock sup 8 2).wf = true ∧ (Instr.softReset sup 0x11 0 true).wf = true := by
  and_intros <;> decide

theorem test_wf_queue_pair :
    (Instr.sqTail 0 16384 0).wf = false ∧ (Instr.cqHint 0 16384 0).wf = false ∧
    (Instr.completionWrite 16384).wf = false ∧ (Instr.cqReadAhead 16384).wf = false ∧
    (Instr.destroyTmoExpiry 16384).wf = false ∧ (Instr.ownReread 16384 (ent [])).wf = false ∧
    (Instr.cqReadAheadCompletion 16384 none).wf = false ∧ (Instr.entryReadCompletion 16384 [] none).wf = false ∧
    (Instr.inlinePush 0 16384 (ent []) none).wf = false ∧ (Instr.sqTail 3 16383 0).wf = true := by
  and_intros <;> decide

theorem test_wf_entries :
    (Instr.inlinePush 0 4 [] none).wf = false ∧ (Instr.inlinePush 0 4 (ent []) (some [0])).wf = false ∧
    (Instr.ownReread 4 [0]).wf = false ∧ (Instr.entryReadCompletion 4 [[0]] none).wf = false ∧
    (Instr.entryReadCompletion 4 (List.replicate 17 (ent [])) none).wf = false ∧
    (Instr.cqReadAheadCompletion 4 (some (List.replicate 65 true))).wf = false ∧
    (Instr.cqReadAheadCompletion 4 (some (List.replicate 64 true))).wf = true ∧
    (Instr.inlinePush 0 4 (ent []) (some (ent []))).wf = true := by
  and_intros <;> decide +kernel

theorem test_wf_tag :
    (Instr.selectCascade false [1, 2, 3, 4]).wf = false ∧ (Instr.anticollision false 3 8).wf = false ∧
    (Instr.anticollision false 3 7).wf = true ∧ (Instr.select 0 0 long 0).wf = false ∧
    (Instr.getIdentity 0 0 long 0).wf = false ∧ (Instr.getStatus 0 0 long 0).wf = false ∧
    (Instr.readTamper 0 0 long 0).wf = false ∧ (Instr.readBinary 0 0 long 0).wf = false ∧
    (Instr.updateBinary 0 0 long 0).wf = false ∧ (Instr.putTicket 0 0 long 0).wf = false ∧
    (Instr.password 0 0 long 0).wf = false ∧ (Instr.auth1 0 0 long 0).wf = false ∧ (Instr.auth2 0 0 long 0).wf = false ∧
    (Instr.readFaults 0 0 long 0).wf = false ∧ (Instr.unsupportedIns 0 0 0 long 0).wf = false := by
  and_intros <;> decide +kernel

theorem test_wf_management_link :
    (Instr.assign 0 long 0).wf = false ∧ (Instr.release 0 long 0).wf = false ∧ (Instr.identity 0 long 0).wf = false ∧
    (Instr.health 0 long 0).wf = false ∧ (Instr.capacity 0 long 0).wf = false ∧ (Instr.faultRead 0 long 0).wf = false ∧
    (Instr.mlinkBadFrame 0 0 long 0).wf = false := by
  and_intros <;> decide +kernel

theorem test_wf_others :
    (Instr.unsupportedRequest 0 6 0 true).wf = false ∧ (Instr.adminEnable 0 2 0).wf = false ∧
    (Instr.sdDebounceDone 0 [] 0 0 false false false [] []).wf = false ∧
    (Instr.coldStart true [(2, 3)] []).wf = false ∧ (Instr.coldStart true [] [(0, 65536)]).wf = false ∧
    (Instr.warmStart [(4, 0)] []).wf = false ∧ (Instr.warmStart [(2, 2)] []).wf = true ∧
    (Instr.clockLoss [6]).wf = false ∧ (Instr.clockLoss [1, 5, 16, 19]).wf = true := by
  and_intros <;> decide

/-! ### The queue -/

/-- The first command of the queue runs, with the rest behind it; the table gives no row bits, so no word spells one. -/
theorem test_step_takes_the_front : nx (step { s0 with pending := [.faultnPulseExpiry, .skimmerPass] }) =
    { nx (exec .faultnPulseExpiry s0) with pending := [.skimmerPass] } := rfl

theorem test_no_word_spells_a_command (w : Nat) :
    Sys2Proof.decodeTableWord 32 w = none ∧ s0.withFetchWord 32 w = s0 := ⟨rfl, rfl⟩

/-! ### Worked examples of the spec -/

/-- The two words of a message, as SKM_DATA shows them. -/
def words (m : Msg) : Word × Word := (m.hi, m.lo)

/-- 16, The last spare lane: LANE_SELFTEST, ECC_UNCORRECTED, SPARE_IN and REPAIR_EXHAUSTED. -/
theorem test_example_messages :
    words ⟨Blk.SYM, 6, Kind.LANE_SELFTEST, 2, 0, 4⟩ = (0x39998000, 0) ∧
    words ⟨Blk.SYM, 3, Kind.ECC_UNCORRECTED, 2, 0x1A40, 2⟩ = (0x38D18000, 0x1A40) ∧
    (s0.risMsg Kind.SPARE_IN 0 6 0).inbox.map words = [(0x18290000, 0x00060000)] ∧
    (s0.risMsg Kind.REPAIR_EXHAUSTED 0 3 7).inbox.map words = [(0x18288000, 0x00030007)] := by
  and_intros <;> decide +kernel

/-- 05, Power lost at the mill: the bytes of two checkpoint words, and the counters of the slot after the Start. -/
theorem test_example_checkpoints :
    ckBytes ⟨true, 0xF203, 0x123000⟩ = [0x30, 0x12, 0, 0, 0, 0x30, 0x20, 0x4F] ∧
    ckBytes ⟨false, 0xF203, 0x89000⟩ = [0x90, 0x08, 0, 0, 0, 0x30, 0x20, 0x8F] ∧
    (let x := State.vslotStart { status := 1, tx := 0x123518, rx := 0x894B0, txD := 0x123000, txI := 0x1000, rxD := 0x89000, rxI := 0x1000 } false
     x.tx = 0x124000 ∧ x.rx = 0x89FFF ∧ x.doubt ∧ x.fHi = 0x8A000 ∧ x.lLo = 0x88800) := by
  decide +kernel

/-- 06, One sealed command frame: header, nonce and J0. -/
theorem test_example_sealed_frame :
    frameHeader 1 0x2A51 2 0 5 0x4C2E 32 = [1, 1, 0, 0x2A, 0x51, 2, 5, 0, 0, 0, 0, 0, 0x4C, 0x2E, 0, 0x20] ∧
    frameNonce 1 0x2A51 0 2 0x4C2E = [0, 0, 0x2A, 0x51, 0, 2, 0, 0, 0, 0, 0x4C, 0x2E] ∧
    gcmJ0 (frameNonce 1 0x2A51 0 2 0x4C2E) = [0, 0, 0x2A, 0x51, 0, 2, 0, 0, 0, 0, 0x4C, 0x2E, 0, 0, 0, 1] := by
  and_intros <;> decide +kernel

/-- 13, A reader updates 32 bytes: the first bytes of the marker. -/
theorem test_example_marker : (markBytes 0x1F4 2).take 8 = [0x54, 0x4D, 0xF4, 1, 0, 0, 2, 0] := by decide +kernel

/-- 15, Two loops cut: LOOP2 answers LOCKDOWN, LOOP3 ALERT, in Backup mode with K_bb and a valid RTC. -/
def dark : State :=
  let s := { mo .backup with life := .commissioned, flags := 0, rtcValid := true, flk := { s0.flk with cnt := [], kbb := some (zeros 32) } }
  let s := s.setFld R.FLK_RESP 9 8 2
  (s.setReg R.FLK_CFG 0x000F0080).flkAlarms 0x3A2C1000 [4, 5]

/-- The flags, FLK_PEND, the answer to READ TAMPER 0, and what the next Start sends and mirrors. -/
theorem test_example_two_loops :
    dark.flags = 0x30 ∧ dark.flk.pend = 0x30 ∧ dark.flk.pendLock ∧ dark.flk.kbb.isSome ∧
    dark.tamperSummary 0x3A2C2000 = [0x30, 0, 0x30, 0, 0, 0x20, 0x2C, 0x3A, 0, 0, 0x0F, 0] ∧
    (let s := { dark with mode := .start }.flkDeferred
     s.inbox.map (·.addr) = [0x2C100000C4, 0x2C100000A5] ∧
       s.flk.mq = [⟨0x3A2C1000, 4, 0x56, 1⟩, ⟨0x3A2C1000, 5, 0x55, 1⟩]) := by
  decide +kernel

/-- 02, Building and mending a chain: the frames' CRC bytes; one with another CRC is not taken. -/
theorem test_example_chain_frames :
    (let s := { mo .service with mlk := { chin := true, ready := true } }
     (nx (exec (.assign 0 [1] 0x79) s)).mlk.addr = some 1 ∧ (nx (exec (.assign 0 [2] 0x70) s)).mlk.addr = some 2 ∧
       (nx (exec (.assign 0 [2] 0x71) s)).mlk.addr = none ∧ (nx (exec (.identity 0xFF [] 0x7C) s)).mlk.resp.isSome) := by
  and_intros <;> decide +kernel

/-- 03, A broken chain: five entries in slots 10 to 14. -/
def broken : State :=
  nx (exec (.entryReadCompletion 4 [ent [(0, 0xC0), (1, 0x10), (3, 0x0A)], ent [(0, 0x80), (3, 0x0A)],
    ent [(0, 0xF0), (1, 0x70), (2, 1), (3, 0x0A)], ent [(0, 0xB0), (3, 0x0A)], ent [(0, 0xF0), (1, 0x70), (2, 2), (3, 0x0A)]] none)
    (qq { act with h := 10, t := 15, fetch := some ⟨10, 5, false⟩, free := 8 }))

/-- The OWN write-backs and the first completion: CHAIN_ERROR, tag 0x0A00, SQ head 15, entry 2, cause 2; the third job, with
cause 3, waits behind the NOP. -/
theorem test_example_broken_chain :
    broken.staging.map (·.data) = [[0x40], [0], [0x70], [0x30], [0x70],
      [0x80, 9, 0, 0x0A, 1, 0, 0x0F, 0, 2, 0, 2, 0x20, 0, 0, 0, 0]] ∧
    broken.jobs.map (fun j => (j.tag, j.status, j.result)) = [(0x0A01, 0, 0), (0x0A00, 9, 0x20000003), (0x0A02, 0, 0)] := by
  decide +kernel

/-- 11, Entering a task for the first time: PUSH of the frame built in the shadow registers. -/
def pushed : State :=
  nx (exec (.sfctlPush 0 .al false) (kp { k0 with
    rsl := 0x400, rsp := 0x100, sf0 := 0x08006000, sf1 := 0xE0, sf2 := 0x10400000, sf3 := 0x20140800, esr := 0x10000 }))

theorem test_example_first_entry :
    (pushed.pair 0).rsp = 0x110 ∧ ((pushed.pair 0).rstack.map (·.2.val) = [0x08006000, 0xE0, 0x10400000, 0x20140800]) ∧
    (let k := (nx (exec (.kRetx 0 .al) pushed)).pair 0
     k.pc = 0x08006000 ∧ k.cs = 0xE0 ∧ k.rsb = 0x800 ∧ k.rsl = 0xA00 ∧ k.rsp = 0x800 ∧ Tbl.get (fun _ => 0) k.g 15 = 0x10400000) := by
  decide +kernel

/-- 11, A stack fault and a double fault: CALL on a full window; vector 2's descriptor stands at EDTB + 0x20. -/
def faulted : State :=
  nx (exec (.kCall 0 .al 16) { kp { k0 with
    cs := 0xE0, pc := 0x08006124, rsb := 0x800, rsl := 0xA00, rsp := 0xA00, g := [(15, 0x103FFF00)], edtb := 0x10000000 } with
    mem := [(0x10000021, 2), (0x10000025, 0xF0), (0x10000026, 0x7F), (0x10000027, 0x10), (0x10000029, 0x0E),
      (0x1000002B, 0x10), (0x1000002F, 0x80)] })

theorem test_example_stack_fault :
    (let k := faulted.pair 0
     k.sf0 = 0x08006124 ∧ k.sf1 = 0x000200E0 ∧ k.sf2 = 0x103FFF00 ∧ k.sf3 = 0x20140A00 ∧ k.esr = 0x00010102 ∧ k.cs = 0x40 ∧
       k.rsb = 0xE00 ∧ k.rsl = 0x1000 ∧ k.rsp = 0xE00 ∧ Tbl.get (fun _ => 0) k.g 15 = 0x107FF000) ∧
    ((nx (exec (.kTrap 0 .al 2) faulted)).pair 0).run = .doubleFault ∧
    (nx (exec (.kTrap 0 .al 2) faulted)).inbox.map (·.kind) = [Kind.CORE_DOUBLE_FAULT] := by
  exact ⟨by decide +kernel, by decide +kernel, by decide +kernel⟩

/-- 18, Opening debug on a commissioned unit: the form of the ticket, LEN 181. -/
theorem test_example_ticket_form :
    let t : List Byte := [0x53, 0x4C, 0x47, 0x54, 1, 1, 1, 1, 0x17, 5, 0x30, 0x8A, 0x44, 0x1C, 0, 0, 7, 0, 0, 0, 0, 0, 2, 0x3C, 0, 0,
      0x3C, 0, 0x15, 0, 0, 0, 0x10, 0, 0, 0, 4] ++ zeros 144
    ticketForm t 181 = true ∧ ticketForm t 180 = false := by
  and_intros <;> decide +kernel

/-! ### The standards' own vectors (log entry 34) -/

/-- FIPS 197, appendix C.3: AES-256. -/
theorem test_aes256_vector :
    aesEnc ((List.range 32).map (BitVec.ofNat 8)) ((List.range 16).map (fun i => BitVec.ofNat 8 (0x11 * i)))
      = [0x8e, 0xa2, 0xb7, 0xca, 0x51, 0x67, 0x45, 0xbf, 0xea, 0xfc, 0x49, 0x90, 0x4b, 0x49, 0x60, 0x89] := by decide +kernel

/-- FIPS 197, appendix C.1: AES-128, and the inverse cipher. -/
theorem test_aes128_vector :
    let k := (List.range 16).map (BitVec.ofNat 8)
    let p := (List.range 16).map (fun i => BitVec.ofNat 8 (0x11 * i))
    aesEnc k p = [0x69, 0xc4, 0xe0, 0xd8, 0x6a, 0x7b, 0x04, 0x30, 0xd8, 0xcd, 0xb7, 0x80, 0x70, 0xb4, 0xc5, 0x5a]
      ∧ aesDec k (aesEnc k p) = p := by decide +kernel

/-- FIPS 180-4: SHA-256 and SHA-512 of "abc". -/
theorem test_sha_vectors :
    sha256 [0x61, 0x62, 0x63] = [0xba, 0x78, 0x16, 0xbf, 0x8f, 0x01, 0xcf, 0xea, 0x41, 0x41, 0x40, 0xde, 0x5d, 0xae, 0x22, 0x23, 0xb0, 0x03,
      0x61, 0xa3, 0x96, 0x17, 0x7a, 0x9c, 0xb4, 0x10, 0xff, 0x61, 0xf2, 0x00, 0x15, 0xad]
    ∧ sha512 [0x61, 0x62, 0x63] = [0xdd, 0xaf, 0x35, 0xa1, 0x93, 0x61, 0x7a, 0xba, 0xcc, 0x41, 0x73, 0x49, 0xae, 0x20, 0x41, 0x31, 0x12, 0xe6,
      0xfa, 0x4e, 0x89, 0xa9, 0x7e, 0xa2, 0x0a, 0x9e, 0xee, 0xe6, 0x4b, 0x55, 0xd3, 0x9a, 0x21, 0x92, 0x99,
      0x2a, 0x27, 0x4f, 0xc1, 0xa8, 0x36, 0xba, 0x3c, 0x23, 0xa3, 0xfe, 0xeb, 0xbd, 0x45, 0x4d, 0x44, 0x23,
      0x64, 0x3c, 0xe8, 0x0e, 0x2a, 0x9a, 0xc9, 0x4f, 0xa5, 0x4c, 0xa4, 0x9f] := by
  decide +kernel

end Sys2Proof.Tests
end

section
/-! SUPPORT. The doorbell windows: what an accepted SQ_TAIL does (R79), and what it does beyond moving T when the entry it
posts makes a closing completion due (R99) whose CQ slot no window covers any more (R107). -/

namespace Sys2Proof.Machine.State

variable (s : State)

/-! ### SQ_TAIL -/

@[simp] theorem setQp_setQp (q : Nat) (u v : QP) : (s.setQp q u).setQp q v = s.setQp q v := by simp [setQp]

/-- R54: a request for a queue pair whose doorbell window answers is carried out. -/
theorem door_of_answers {p q : Nat} (o : Nat) (k : State → State) (hl : s.portLive p) (hb : s.bar0Up p)
    (hd : s.doorOf p q) : s.door p q o k = k s := by simp [door, hl, hb, hd]

/-- R79: an accepted SQ_TAIL records its value, moves T to it and reports what the queue pair then owes. -/
theorem sqTail_of_accepted (p q : Nat) (v : Word) (hst : (s.qp q).st ≠ .destroying) (hv : v.toNat < 2 ^ (s.qp q).sqN)
    (hp : (v.toNat + 2 ^ (s.qp q).sqN - (s.qp q).h) % 2 ^ (s.qp q).sqN ≥
      ((s.qp q).t + 2 ^ (s.qp q).sqN - (s.qp q).h) % 2 ^ (s.qp q).sqN) :
    s.sqTail p q v = (s.setQp q { s.qp q with lastTail := v, t := v.toNat }).reportAll q := by
  simp [sqTail, hst, hv, hp]

/-! ### A completion owed for a slot no window covers -/

@[simp] theorem send_qp (m : Msg) (db di q : Nat) : (s.send m db di).qp q = s.qp q := rfl

@[simp] theorem ringFault_regs (q slot status ring : Nat) :
    (s.ringFault q slot status ring).regs = (s.count R.TUN_ERR 31 16).regs := rfl

@[simp] theorem ringFault_faultRing (q slot status ring : Nat) :
    ((s.ringFault q slot status ring).qp q).faultRing = ring :=
  congrArg QP.faultRing (qp_setQp s q _)

/-- R107: a completion whose slot no window covers is not written; the queue pair faults, recorded as HOST_WINDOW. -/
theorem writeCompl_of_uncovered (q : Nat) (c : Compl)
    (hg : s.granuleOk (s.qp q).dom ((s.qp q).cqBase + (s.qp q).w * 16) true = false) :
    s.writeCompl q c = (s.ringFault q (s.qp q).w St.WINDOW_FAULT 1).faultBy Blk.TUN 0 Kind.HOST_WINDOW
      ((s.qp q).cqBase + (s.qp q).w * 16) (s.qp q).dom Blk.TUN 0 := by
  simp [writeCompl, putCompl, hg]

/-- R107: reporting on a queue pair faulted on its CQ writes no register. -/
theorem report_regs_of_faulted (q fuel : Nat) (hf : (s.qp q).faultRing = 1) : (s.report q fuel).regs = s.regs := by
  cases fuel with
  | zero => rfl
  | succ n =>
    by_cases hskip : (s.qp q).st = .absent ∨ (s.qp q).ringMsg.isSome
    · simp [report, hskip]
    · simp [report, hskip, hf]

/-- R107: a completion that is owed, with a CQ slot free but covered by no window, is counted as a ring fault. -/
theorem reportAll_regs_of_uncovered (q : Nat) (c : Compl) (hst : (s.qp q).st ≠ .absent) (hm : (s.qp q).ringMsg = none)
    (hf : (s.qp q).faultRing ≠ 1) (hc : s.nextDue q = some c) (hfree : (s.qp q).free ≠ 0)
    (hg : s.granuleOk (s.qp q).dom ((s.qp q).cqBase + (s.qp q).w * 16) true = false) :
    (s.reportAll q).regs = (s.count R.TUN_ERR 31 16).regs := by
  have hall : s.reportAll q = (s.writeCompl q c).report q (2 * (s.qjobs q).length + 1) := by
    simp [reportAll, reportRing, report, hst, hm, hf, hc, hfree]
  rw [hall, writeCompl_of_uncovered s q c hg, report_regs_of_faulted _ _ _ (by simp [faultBy])]
  simp [faultBy]

end Sys2Proof.Machine.State

/-! ### A queue pair whose CQ has lost its window -/

namespace Sys2Proof.Machine

/-- Queue pair 4 of domain 0, its rings of 16 entries empty but for one job taken and finished. -/
def heatQp : QP :=
  { st := .active, sqN := 4, cqN := 4, sqBase := 0x100000, cqBase := 0x101000, t := 1, h := 1, free := 8, infl := 8 }

/-- The finished job of `heatQp`: OK, without CMPL, so still to be covered (R96). -/
def heatJob : Job :=
  { id := 0, qp := 4, dom := 0, tag := 3, op := 0x70, ordr := false, cmpl := false, ents := [], stage := .done, fin := 1 }

/-- Service with port 0 up, domain 0 at its limit of one in-flight job (R125), and one window over the SQ alone: a
SET_WINDOW took the CQ out of it. -/
def lostCq : State :=
  { State.reset.setReg R.TUN_DOM_INFL 0x10000 with
    mode := .service, ports := [(0, { linkUp := true })], wins := [(0, { base := 0x100000, len := 1, lr := true, lw := true })]
    qps := [(4, heatQp)], jobs := [heatJob] }

/-- `lostCq` with one more entry posted. -/
def lostCqPosted : State := lostCq.setQp 4 { heatQp with lastTail := 2, t := 2 }

/-- The write of 2 to SQ_TAIL is accepted. -/
theorem exec_sqTail_lostCq : exec (.sqTail 0 4 2) lostCq = .next (lostCqPosted.reportAll 4) := by
  have hd := lostCq.door_of_answers (p := 0) (q := 4) 0 (fun s => s.sqTail 0 4 2) (by decide) (by decide) (by decide)
  have ht := lostCq.sqTail_of_accepted 0 4 2 (by decide) (by decide) (by decide)
  exact congrArg _ (hd.trans ht)

/-- The posted entry waits at the limit of the domain, so a closing completion is due (R99), and it meets R107. -/
theorem lostCqPosted_reportAll_regs : (lostCqPosted.reportAll 4).regs = (lostCqPosted.count R.TUN_ERR 31 16).regs :=
  lostCqPosted.reportAll_regs_of_uncovered 4 ⟨false, true, heatJob, [0]⟩ (by decide) (by decide) (by decide) (by decide)
    (by decide) (by decide)

end Sys2Proof.Machine

open Sys2Proof Sys2Proof.Machine

/-- Refutes O33: the clause on an accepted SQ_TAIL that no register changes. The write accepted in `lostCq` moves T as R79
has it, and the closing completion it makes due ends in a ring fault, which TUN_ERR counts. -/
theorem not_doorbellsMoveTheRings : ¬ Obligations.DoorbellsMoveTheRings := by
  unfold Obligations.DoorbellsMoveTheRings
  intro h
  obtain ⟨hTail, -⟩ := h lostCq 0 4 2 [] [] (by decide) (by decide) (by decide) (by decide) (by decide)
  obtain ⟨t, ht, -, -, -, -, hregs⟩ := hTail (by decide)
  obtain rfl : lostCqPosted.reportAll 4 = t := Host.Outcome.next.inj (exec_sqTail_lostCq.symm.trans ht)
  have hcount : (lostCqPosted.count R.TUN_ERR 31 16).reg R.TUN_ERR = lostCq.reg R.TUN_ERR :=
    congrArg (Tbl.get regReset · R.TUN_ERR) (lostCqPosted_reportAll_regs.symm.trans hregs)
  exact absurd hcount (by decide)
end

section
/-! SUPPORT. What a lane command does once its lane can run the work under its seed (R171, R172), and how a job fills a
volatile slot (R203, R251). -/

namespace Sys2Proof.Machine.State

variable (s : State)

/-! ### Work done on a lane -/

@[simp] theorem worked_mem (j : Job) (n b c : Nat) : (s.worked j n b c).mem = s.mem := rfl
@[simp] theorem worked_jobs (j : Job) (n b c : Nat) : (s.worked j n b c).jobs = s.jobs := rfl
@[simp] theorem slot_worked (j : Job) (n b c m : Nat) : (s.worked j n b c).slot m = s.slot m := rfl
@[simp] theorem stream_worked (j : Job) (n b c m : Nat) : (s.worked j n b c).stream m = s.stream m := rfl
@[simp] theorem stateKey_worked (j : Job) (n b c d : Nat) : (s.worked j n b c).stateKey d = s.stateKey d := rfl
@[simp] theorem arenaUsed_worked (j : Job) (n b c : Nat) : (s.worked j n b c).arenaUsed = s.arenaUsed := rfl

/-- R171: a work that fits the lane's seed is done whole and charged, and the job goes on. -/
theorem onLane_of_fits {n b : Nat} (j : Job) (c : Nat) (k : State → State) (h : s.fits n b) :
    s.onLane j n b c k = k (s.worked j n b c) := by
  have hrun : b - (s.lane n).done ≤ 65536 - (s.lane n).since := h
  simp [onLane, laneRun, hrun, worked]

/-! ### Output and slots -/

/-- No output posts nothing. -/
theorem scatter_nil (d : Nat) (l : List (Nat × Nat × Nat)) : s.scatter d l [] = s := by
  induction l with
  | nil => rfl
  | cons x l ih => simpa [scatter, post] using ih

@[simp] theorem postOutput_nil (j : Job) : s.postOutput j [] = s := s.scatter_nil j.dom j.outs

/-- R203, R251: a volatile slot with arena blocks enough is LOADED at once and the job succeeds. -/
theorem fillSlot_of_volatile (j : Job) (n : Nat) (k : KSlot) (result detail : Nat)
    (hroom : arenaNeed k.typ k.nbits ≤ 1536 - s.arenaUsed) (hv : bit k.policy 17 = false) :
    s.fillSlot j n k [] result detail =
      (s.setSlot n { k with st := .loaded }).succeed j (w32 result) (w32 detail) := by
  have hfits : ¬ arenaNeed k.typ k.nbits > 1536 - s.arenaUsed := Nat.not_lt.2 hroom
  simp only [fillSlot, hfits, hv, Bool.false_eq_true, if_false, postOutput_nil]

/-! ### The lane commands of streams and slots -/

section
variable {s} {id n : Nat} {j : Job}

theorem exec_streamSave_of_fits (hj : s.laneJob id 0x18 = some (j, n)) (hf : s.fits n 72) :
    exec (.streamSave id) s = .next ((s.worked j n 72 7200).streamSave j) := by
  simp only [exec, execStreamSave, hj, onLane_of_fits _ _ _ _ hf]

theorem exec_streamRestore_of_fits (hj : s.laneJob id 0x19 = some (j, n)) (hf : s.fits n 72) :
    exec (.streamRestore id) s = .next ((s.worked j n 72 7200).streamRestore j) := by
  simp only [exec, execStreamRestore, hj, onLane_of_fits _ _ _ _ hf]

theorem exec_wrap_of_fits (hj : s.laneJob id 0x40 = some (j, n)) (hf : s.fits n (6 * ((blobOf j.ks).length / 8 + 1))) :
    exec (.wrap id) s = .next ((s.worked j n (6 * ((blobOf j.ks).length / 8 + 1))
      (1200 + 96 * (6 * ((blobOf j.ks).length / 8 + 1)))).wrapJob j) := by
  simp only [exec, execWrap, hj, onLane_of_fits _ _ _ _ hf]

/-- R258: an UNWRAP that no Crucible unit checks is done on its lane. -/
theorem exec_unwrap_of_fits (hj : s.laneJob id 0x41 = some (j, n)) (hu : s.unitWork id 0x41 = none)
    (hf : s.fits n (6 * (j.inTotal / 8))) :
    exec (.unwrap id) s =
      .next ((s.worked j n (6 * (j.inTotal / 8)) (1200 + 96 * (6 * (j.inTotal / 8)))).unwrapJob j) := by
  simp only [exec, execUnwrap, hu, unwrapLane, hj, onLane_of_fits _ _ _ _ hf]

theorem exec_derive_of_fits (hj : s.laneJob id 0x42 = some (j, n))
    (hf : s.fits n (4 * ((j.inTotal + 8 + 15) / 16 + 1))) :
    exec (.derive id) s = .next ((s.worked j n (4 * ((j.inTotal + 8 + 15) / 16 + 1))
      (1200 + 96 * (4 * ((j.inTotal + 8 + 15) / 16 + 1)))).deriveJob j) := by
  simp only [exec, execDerive, hj, onLane_of_fits _ _ _ _ hf]

end

/-! ### What each job does, by its flags and its blob -/

/-- R190: without FREE the slot's state is delivered, wrapped unless CLEAR. -/
theorem streamSave_of_kept (j : Job) (hfree : j.u 34 1 / 2 % 2 = 0) :
    s.streamSave j = s.deliver j (if j.u 34 1 % 2 = 1 then streamBytes (s.stream (j.u 32 2)) true
      else kwWrap (s.stateKey j.dom) (streamBytes (s.stream (j.u 32 2)) false)) 0 := by
  by_cases hc : j.u 34 1 % 2 = 1 <;> simp [streamSave, hfree, hc]

/-- R191: a clear state of this queue pair and key is bound to the slot. -/
theorem streamRestore_of_clear (j : Job) (hc : j.u 34 1 % 2 = 1) (hform : leAt j.input 0 1 = 1)
    (hclear : leAt j.input 3 1 % 2 = 1) (hqp : leAt j.input 4 2 = j.qp) (hkey : leAt j.input 6 2 = j.keySlot) :
    s.streamRestore j = (s.setStream (j.u 32 2) (streamOf j.dom j.input)).succeed j 0 0 := by
  simp [streamRestore, hc, hform, hclear, hqp, hkey, b2n]

/-- R191: a clear state of another format fails the job. -/
theorem streamRestore_of_other_format (j : Job) (hc : j.u 34 1 % 2 = 1) (hform : leAt j.input 0 1 ≠ 1) :
    s.streamRestore j = s.failJob j St.AUTH_FAIL 6 0 0x015F (leAt j.input 0 1) := by
  simp [streamRestore, hc, hform]

/-- R257: with neither ERASE nor DISCARD the blob is delivered under KWP and the slot keeps its key. -/
theorem wrapJob_of_kept (j : Job) (hfl : j.u 34 1 % 4 = 0) :
    s.wrapJob j = s.deliver j (kwpWrap j.kek (blobOf { j.ks with inv := (s.slot j.keySlot).inv })) 0 := by
  have herase : j.u 34 1 % 2 = 0 := by omega
  have hdiscard : j.u 34 1 / 2 % 2 = 0 := by omega
  simp [wrapJob, herase, hdiscard]

/-- R258: a blob that fails its integrity check. -/
theorem unwrapJob_of_bad (j : Job) (hu : kwpUnwrap j.ks.mat j.input = none) :
    s.unwrapJob j = s.failJob j St.AUTH_FAIL 6 0 0 0 := by
  simp [unwrapJob, hu]

/-- R258: the key of a good blob, unless an RSA key, fills the slot. -/
theorem unwrapJob_of_key (j : Job) {p : List Byte} {k : KSlot} (hu : kwpUnwrap j.ks.mat j.input = some p)
    (hk : blobKey j p = .inl k) (hrsa : k.typ ≠ 0x20) :
    s.unwrapJob j = s.fillSlot j j.keySlot k [] 0 j.keySlot := by
  simp [unwrapJob, hu, hk, hrsa]

/-- R241: the labels of the device's own keys are refused. -/
theorem deriveJob_of_reserved (j : Job) (h : j.input.take 4 = ascii "ESN-") :
    s.deriveJob j = s.failJob j St.KEY_DENIED 6 0 0x0185 0 := by
  simp [deriveJob, h]

/-- R259: a SECRET of 256 bits fills its volatile slot with the KDF's output. -/
theorem deriveJob_of_secret (j : Job) (h : j.input.take 4 ≠ ascii "ESN-") (ht : j.u 34 1 = 0x30)
    (hv : bit (w32 (j.u 36 4)) 17 = false) :
    s.deriveJob j = (s.setSlot (j.u 32 2) { st := .loaded, typ := 0x30, nbits := 256, policy := w32 (j.u 36 4)
                                            mat := kdfRaw (prfKey j.ks) j.input 32 }).succeed j 0 (w32 (j.u 32 2)) := by
  simp only [deriveJob, h, ht, if_false, if_true]
  exact s.fillSlot_of_volatile j _ _ 0 _ (Nat.zero_le _) hv

end Sys2Proof.Machine.State

open Sys2Proof Sys2Proof.Machine

/-- Settles O42: each command runs its job on the lane, and the job's flags, input and blob choose what it does. -/
theorem streamsAndSlotsAreSavedAndMade : Obligations.StreamsAndSlotsAreSavedAndMade := by
  unfold Obligations.StreamsAndSlotsAreSavedAndMade
  intro s id n j
  refine ⟨fun hj hf hfree => ?_, fun hj hf hc => ?_, fun hj hf hfl => ?_, fun hj hu hf hbad => ?_,
    fun hj hu hf p k hgood hk hrsa hv hroom => ?_, fun hj hf => ?_⟩
  · rw [State.exec_streamSave_of_fits hj hf, State.streamSave_of_kept _ j hfree]
    exact ⟨fun hc => by simp [hc], fun hc => by simp [hc]⟩
  · rw [State.exec_streamRestore_of_fits hj hf]
    exact ⟨fun hform hclear hqp hkey => congrArg _ (State.streamRestore_of_clear _ j hc hform hclear hqp hkey),
      fun hform => congrArg _ (State.streamRestore_of_other_format _ j hc hform)⟩
  · rw [State.exec_wrap_of_fits hj hf, State.wrapJob_of_kept _ j hfl, State.slot_worked]
  · rw [State.exec_unwrap_of_fits hj hu hf, State.unwrapJob_of_bad _ j hbad]
  · have hfill := State.fillSlot_of_volatile (s.worked j n (6 * (j.inTotal / 8)) (1200 + 96 * (6 * (j.inTotal / 8)))) j
      j.keySlot k 0 j.keySlot hroom hv
    rw [State.exec_unwrap_of_fits hj hu hf, State.unwrapJob_of_key _ j hgood hk hrsa, hfill]
    exact ⟨_, rfl, State.slot_setSlot .., rfl, rfl⟩
  · rw [State.exec_derive_of_fits hj hf]
    exact ⟨fun hres => congrArg _ (State.deriveJob_of_reserved _ j hres),
      fun hres ht hv => congrArg _ (State.deriveJob_of_secret _ j hres ht hv)⟩
end

section
/-! SUPPORT. The key store's firmware command register (09 KST_FW_CMD): a GO that reaches its rule runs its OP on its SLOT,
and what each OP does to a slot it may change (R244, R246-R248, R251). -/

namespace Sys2Proof.Machine

/-! ### The command word -/

section
variable {op typ n : Nat}

theorem toNat_kstCmd (ho : op < 128) (ht : typ < 256) (hn : n < 65536) :
    (kstCmd op typ n).toNat = 0x80000000 + op * 0x1000000 + typ * 0x10000 + n := by
  simp only [kstCmd, w32, BitVec.toNat_ofNat]
  omega

theorem go_kstCmd (ho : op < 128) (ht : typ < 256) (hn : n < 65536) : bit (kstCmd op typ n) 31 = true := by
  rw [bit, ← BitVec.testBit_toNat, toNat_kstCmd ho ht hn, Nat.testBit_eq_decide_div_mod_eq, decide_eq_true_eq]
  omega

theorem op_kstCmd (ho : op < 16) (ht : typ < 256) (hn : n < 65536) : bits (kstCmd op typ n) 27 24 = op := by
  rw [bits, toNat_kstCmd (by omega) ht hn, Nat.shiftRight_eq_div_pow]
  omega

theorem typ_kstCmd (ho : op < 16) (ht : typ < 256) (hn : n < 65536) : bits (kstCmd op typ n) 23 16 = typ := by
  rw [bits, toNat_kstCmd (by omega) ht hn, Nat.shiftRight_eq_div_pow]
  omega

theorem slot_kstCmd (ho : op < 16) (ht : typ < 256) (hn : n < 4096) : bits (kstCmd op typ n) 11 0 = n := by
  rw [bits, toNat_kstCmd (by omega) ht (by omega), Nat.shiftRight_eq_div_pow]
  omega

end

/-- R246: SHARE is below PERSIST. -/
theorem persist_putField_share (w : Word) (v : Nat) : bit (putField w 3 0 v) 17 = bit w 17 := by
  simp [bit, putField, w32]

/-- R248: a policy ANDed with another. -/
theorem persist_and (v w : Word) : bit (v &&& w) 17 = (bit v 17 && bit w 17) := BitVec.getLsbD_and

namespace State

variable (s : State)

/-! ### The write of the register -/

/-- A write that reaches the register's own rule is that rule's, whose `none` is a refusal (R20). -/
theorem asWrite_of_writable {rq : Rq} {b i a : Nat} (v : Word) (eff : State → Option State)
    (h : s.writable rq b i a = true) : s.asWrite rq b i a v eff = (eff s).getD (s.refuse rq a b i) := by
  simp only [writable, Bool.and_eq_true, Option.isNone_iff_eq_none, Bool.not_eq_true', Bool.or_eq_true] at h
  obtain ⟨⟨⟨⟨hlive, hbar⟩, hsrst⟩, hshut⟩, hstart⟩ := h
  have hen : (startReg a && !(s.hdr b i).en) = false := by
    cases hstart with
    | inl h => rw [h]; rfl
    | inr h => rw [h]; exact Bool.and_false _
  simp only [asWrite, hlive, hbar, hsrst, hshut, hen]
  cases eff s <;> rfl

/-- The registers as a GO leaves them: the command stored, BUSY set, DONE and CAUSE clear. -/
def kstGo (w : Word) : State := (s.setReg R.KST_FW_CMD (w &&& 0x0FFF0FFF)).setReg R.KST_FW_STAT 0x80000000

theorem reg_kstGo_ne {a : Nat} (w : Word) (hc : a ≠ R.KST_FW_CMD) (hs : a ≠ R.KST_FW_STAT) :
    (s.kstGo w).reg a = s.reg a := by
  rw [kstGo, reg_setReg_ne _ _ hs, reg_setReg_ne _ _ hc]

@[simp] theorem arg_kstGo (w : Word) : (s.kstGo w).reg R.KST_FW_ARG = s.reg R.KST_FW_ARG :=
  s.reg_kstGo_ne w (by decide) (by decide)

@[simp] theorem slot_kstGo (w : Word) (n : Nat) : (s.kstGo w).slot n = s.slot n := rfl
@[simp] theorem rngReady_kstGo (w : Word) : (s.kstGo w).rngReady = s.rngReady := rfl
@[simp] theorem fresh_kstGo (w : Word) : (s.kstGo w).fresh = s.fresh := rfl

/-- R243: a slot's owner is read from KST_DOM_SL alone. -/
@[simp] theorem slotOwner_kstGo (w : Word) (n : Nat) : (s.kstGo w).slotOwner n = s.slotOwner n := by
  have hfld : ∀ d ∈ List.range 4, ∀ hi lo,
      (s.kstGo w).fld (R.KST_DOM_SL + d * 4) hi lo = s.fld (R.KST_DOM_SL + d * 4) hi lo := by
    intro d hd hi lo
    rw [List.mem_range] at hd
    have hreg : (s.kstGo w).reg (R.KST_DOM_SL + d * 4) = s.reg (R.KST_DOM_SL + d * 4) :=
      s.reg_kstGo_ne w (by simp only [R.KST_FW_CMD, R.KST_DOM_SL]; omega) (by simp only [R.KST_FW_STAT, R.KST_DOM_SL]; omega)
    rw [fld, hreg, fld]
  simp only [slotOwner, ← List.head?_filter]
  exact congrArg (fun l => (List.head? l).getD 4) (List.filter_congr fun d hd => by simp only [hfld d hd])

/-- R244: a GO while the register is not BUSY runs its OP on its SLOT. -/
theorem kstFwWrite_of_idle {op typ n : Nat} (ho : op < 16) (ht : typ < 256) (hn : n < 4096)
    (hb : bit (s.reg R.KST_FW_STAT) 31 = false) :
    s.kstFwWrite (kstCmd op typ n) = some (
      let t := s.kstGo (kstCmd op typ n)
      if op = 1 then t.kstGenerate n typ else if op = 2 then t.kstSetShare n else if op = 3 then t.kstNarrow n
      else if op = 4 then t.kstErase n else t.kstFwEnd 0) := by
  have hgo := go_kstCmd (op := op) (by omega) ht (show n < 65536 by omega)
  simp only [kstFwWrite, hgo, hb, op_kstCmd ho ht (show n < 65536 by omega), typ_kstCmd ho ht (show n < 65536 by omega),
    slot_kstCmd ho ht hn]
  rfl

/-- R244: a GO while BUSY is refused. -/
theorem kstFwWrite_of_busy {op typ n : Nat} (ho : op < 16) (ht : typ < 256) (hn : n < 4096)
    (hb : bit (s.reg R.KST_FW_STAT) 31 = true) : s.kstFwWrite (kstCmd op typ n) = none := by
  simp [kstFwWrite, hb, go_kstCmd (op := op) (by omega) ht (show n < 65536 by omega)]

/-! ### The four commands -/

section
variable {s} {rq : Rq} (n : Fin 4096) (typ : Fin 256)

theorem exec_generate_of_busy (hw : s.writable rq Blk.KST 0 R.KST_FW_CMD = true)
    (hb : bit (s.reg R.KST_FW_STAT) 31 = true) :
    exec (.generate rq n typ) s = .next (s.refuse rq R.KST_FW_CMD Blk.KST 0) := by
  simp only [exec, execGenerate, asWrite_of_writable _ _ _ hw,
    kstFwWrite_of_busy s (by decide : 1 < 16) typ.isLt n.isLt hb, Option.getD_none]

variable (hw : s.writable rq Blk.KST 0 R.KST_FW_CMD = true) (hb : bit (s.reg R.KST_FW_STAT) 31 = false)
include hw hb

theorem exec_generate_of_idle :
    exec (.generate rq n typ) s = .next ((s.kstGo (kstCmd 1 typ n)).kstGenerate n typ) := by
  simp [exec, execGenerate, asWrite_of_writable _ _ _ hw,
    kstFwWrite_of_idle s (by decide : 1 < 16) typ.isLt n.isLt hb]

theorem exec_kstSetShare_of_idle :
    exec (.kstSetShare rq n) s = .next ((s.kstGo (kstCmd 2 0 n)).kstSetShare n) := by
  simp [exec, execKstSetShare, asWrite_of_writable _ _ _ hw,
    kstFwWrite_of_idle s (by decide : 2 < 16) (by decide : 0 < 256) n.isLt hb]

theorem exec_narrow_of_idle :
    exec (.narrow rq n) s = .next ((s.kstGo (kstCmd 3 0 n)).kstNarrow n) := by
  simp [exec, execNarrow, asWrite_of_writable _ _ _ hw,
    kstFwWrite_of_idle s (by decide : 3 < 16) (by decide : 0 < 256) n.isLt hb]

theorem exec_kstErase_of_idle :
    exec (.kstErase rq n) s = .next ((s.kstGo (kstCmd 4 0 n)).kstErase n) := by
  simp [exec, execKstErase, asWrite_of_writable _ _ _ hw,
    kstFwWrite_of_idle s (by decide : 4 < 16) (by decide : 0 < 256) n.isLt hb]

end

/-! ### What each command does to its slot -/

/-- R244: GENERATE of a full slot. -/
theorem kstGenerate_of_full {n typ : Nat} (ht : typ ∈ [1, 2, 3, 4, 0x30])
    (hp : policyOk typ (if typ = 0x30 then 256 else 0) (s.reg R.KST_FW_ARG) = true) (hst : (s.slot n).st ≠ .empty) :
    s.kstGenerate n typ = s.kstFwEnd 0x0164 := by
  have htyp : (typ == 1 || typ == 2 || typ == 3 || typ == 4 || typ == 0x30) = true := by simpa [or_assoc] using ht
  simp only [kstGenerate, htyp, hp, hst, Bool.not_true, Bool.or_self, Bool.false_eq_true, if_false, ne_eq,
    not_false_eq_true, if_true]

/-- R244: GENERATE fills an EMPTY slot with random material, a volatile one at once. -/
theorem kstGenerate_of_empty {n typ : Nat} (ht : typ ∈ [1, 2, 3, 4, 0x30])
    (hp : policyOk typ (if typ = 0x30 then 256 else 0) (s.reg R.KST_FW_ARG) = true) (hst : (s.slot n).st = .empty)
    (hrng : s.rngReady = true) (hv : bit (s.reg R.KST_FW_ARG) 17 = false) :
    let len := if typ = 1 then 16 else if typ = 4 then 64 else 32
    s.kstGenerate n typ = (({ s with fresh := s.fresh + 1 }).setSlot n
      { st := .loaded, typ := typ, nbits := if typ = 0x30 then 256 else 0, policy := s.reg R.KST_FW_ARG
        mat := (Config.rnd s.fresh len ++ zeros len).take len }).kstFwEnd 0 := by
  have htyp : (typ == 1 || typ == 2 || typ == 3 || typ == 4 || typ == 0x30) = true := by simpa [or_assoc] using ht
  simp only [kstGenerate, htyp, hp, hst, hrng, hv, drawBytes, Bool.not_true, Bool.or_self, Bool.false_eq_true, if_false,
    ne_eq, not_true_eq_false]

section
variable {n : Nat} (hst : (s.slot n).st = .loaded)
include hst

/-- R57: SET_SHARE of a volatile slot. -/
theorem kstSetShare_of_volatile (hv : bit (s.slot n).policy 17 = false) :
    s.kstSetShare n = (s.setSlot n { s.slot n with
      policy := putField (s.slot n).policy 3 0 (bits (s.reg R.KST_FW_ARG) 3 0) }).kstFwEnd 0 := by
  simp [kstSetShare, markDirty, kstFwChange, persist_putField_share, fld, hst, hv]

/-- R57, R251: SET_SHARE of a PERSIST slot. -/
theorem kstSetShare_of_persist (hv : bit (s.slot n).policy 17 = true) :
    let new : KSlot := { s.slot n with
      policy := putField (s.slot n).policy 3 0 (bits (s.reg R.KST_FW_ARG) 3 0), dirty := true }
    s.kstSetShare n = (s.setSlot n new).imgAppend n (.slot (s.slotOwner n) new) (.fw n (s.slot n)) := by
  simp [kstSetShare, markDirty, kstFwChange, persist_putField_share, fld, hst, hv]

/-- R248: NARROW of a volatile slot, which it cannot make PERSIST. -/
theorem kstNarrow_of_volatile (hv : bit (s.slot n).policy 17 = false) :
    s.kstNarrow n = (s.setSlot n { s.slot n with
      policy := (s.slot n).policy &&& s.reg R.KST_FW_ARG }).kstFwEnd 0 := by
  simp [kstNarrow, kstFwChange, persist_and, hst, hv]

/-- R244: ERASE of a volatile slot. -/
theorem kstErase_of_volatile (hv : bit (s.slot n).policy 17 = false) :
    s.kstErase n = (s.setSlot n {}).kstFwEnd 0 := by
  simp [kstErase, kstFwChange, hst, hv, show bit 0#32 17 = false from rfl]

/-- R244, R251: ERASE of a PERSIST slot. -/
theorem kstErase_of_persist (hv : bit (s.slot n).policy 17 = true) :
    s.kstErase n = (s.setSlot n { dirty := true }).imgAppend n .erase (.fw n (s.slot n)) := by
  simp [kstErase, kstFwChange, hst, hv]

end

/-- R244: a slot RESERVED for a job is not erased. -/
theorem kstErase_of_reserved {n : Nat} (hst : (s.slot n).st = .reserved) : s.kstErase n = s.kstFwEnd 0x0164 := by
  simp only [kstErase, hst, if_true]

end State
end Sys2Proof.Machine
end

section
/-! SUPPORT. The image log (R249-R253): what asking and returning flash leave leaves alone of the key store, what a durable
record does (R250, R251) and what a stalled one does (R253). -/

namespace Sys2Proof.Machine

/-! ### Event bits -/

theorem bit_putBit_self (w : Word) {n : Nat} (hn : n < 32) : bit (putBit w n true) n = true := by
  simp [bit, putBit, hn]

theorem bit_putBit_of_bit (w : Word) {m : Nat} (n : Nat) (h : bit w m = true) : bit (putBit w n true) m = true := by
  simp only [bit] at h ⊢
  simp [putBit, h]

/-- What the leave arbiter and the flash banks leave alone: the key store's data, memory, the jobs, the header of KST and
KST_FW_STAT; messages only join the inbox. -/
structure KstKept (s t : State) : Prop where
  kst : t.kst = s.kst
  slots : t.slots = s.slots
  mem : t.mem = s.mem
  jobs : t.jobs = s.jobs
  hdr : t.hdr Blk.KST 0 = s.hdr Blk.KST 0
  fwStat : t.reg R.KST_FW_STAT = s.reg R.KST_FW_STAT
  inbox : s.inbox ⊆ t.inbox

namespace KstKept

variable {s t u : State}

theorem refl (s : State) : KstKept s s := ⟨rfl, rfl, rfl, rfl, rfl, rfl, List.Subset.refl _⟩

theorem trans (h : KstKept s t) (g : KstKept t u) : KstKept s u :=
  ⟨g.kst.trans h.kst, g.slots.trans h.slots, g.mem.trans h.mem, g.jobs.trans h.jobs, g.hdr.trans h.hdr,
    g.fwStat.trans h.fwStat, List.Subset.trans h.inbox g.inbox⟩

theorem slot (h : KstKept s t) (n : Nat) : t.slot n = s.slot n := by rw [State.slot, h.slots, State.slot]

theorem job (h : KstKept s t) (id : Nat) : t.job id = s.job id := by rw [State.job, h.jobs, State.job]

end KstKept

namespace State

variable (s : State)

/-! ### Flash leave leaves the key store alone -/

/-- The arbiter's queues, the banks and the vault are no part of the key store. -/
theorem banks_kept (p h : List Leave) (q : List FReq) (o : List FOp) (v : Vault) :
    KstKept s { s with leavePend := p, leaveHeld := h, flashQ := q, flashOn := o, vault := v } :=
  ⟨rfl, rfl, rfl, rfl, rfl, rfl, List.Subset.refl _⟩

theorem setReg_kept {a : Nat} (v : Word) (h : R.KST_FW_STAT ≠ a) : KstKept s (s.setReg a v) :=
  ⟨rfl, rfl, rfl, rfl, rfl, s.reg_setReg_ne v h, List.Subset.refl _⟩

theorem event_kept {b i : Nat} (n : Nat) (h : Blk.KST * 32 + 0 ≠ b * 32 + i) : KstKept s (s.event b i n) :=
  ⟨rfl, rfl, rfl, rfl, s.hdr_setHdr_ne _ h, rfl, List.Subset.refl _⟩

theorem fault_kept {b i : Nat} (kind addr : Nat) (h : Blk.KST * 32 + 0 ≠ b * 32 + i) :
    KstKept s (s.fault b i kind addr) :=
  ⟨rfl, rfl, rfl, rfl, s.hdr_setHdr_ne _ h, rfl, List.subset_append_left _ _⟩

theorem leaveImpossible_kept (b i tok : Nat) : KstKept s (s.leaveImpossible b i tok) :=
  ((s.setReg_kept _ (by decide)).trans (event_kept _ _ (by decide))).trans (fault_kept _ _ _ (by decide))

theorem flcEnd_kept (c : Nat) : KstKept s (s.flcEnd c) :=
  (s.setReg_kept _ (by decide)).trans (event_kept _ _ (by decide))

theorem clientRefused_kept (p : Purpose) : KstKept s (s.clientRefused p) := by
  unfold clientRefused
  split
  · exact s.banks_kept ..
  · exact .refl s

theorem flashTake_kept (r : FReq) : KstKept s (s.flashTake r) := by
  unfold flashTake
  refine KstKept.trans ?_ (banks_kept ..)
  split
  · exact s.setReg_kept _ (by simp only [R.KST_FW_STAT, R.FLC_SUSPCNT]; omega)
  · exact .refl s

theorem flashResume_kept (p : Purpose) : KstKept s (s.flashResume p) := by
  unfold flashResume
  split
  · exact .refl s
  · exact s.banks_kept ..

/-- A bank that takes its next operation, passing over those it ends at once. -/
theorem flashNext_kept (b fuel : Nat) : KstKept s (s.flashNext b fuel) := by
  induction fuel generalizing s with
  | zero => exact .refl s
  | succ fuel ih =>
    have hq (r : FReq) : KstKept s { s with flashQ := s.flashQ.erase r } := s.banks_kept ..
    unfold flashNext
    split
    · exact .refl s
    split
    · split
      · exact s.flashResume_kept _
      · exact .refl s
    next r _ =>
      split
      · exact s.flashResume_kept _
      refine (hq r).trans ?_
      generalize ({ s with flashQ := s.flashQ.erase r } : State) = s
      dsimp only
      split
      · exact s.flashTake_kept r
      next c _ =>
        refine KstKept.trans ?_ (ih _)
        have hl : KstKept s (if c = 5 then s.leaveImpossible r.blk 0 r.tok else s) := by
          split
          · exact s.leaveImpossible_kept ..
          · exact .refl s
        split
        · exact hl.trans (flcEnd_kept ..)
        · exact hl.trans (clientRefused_kept ..)

theorem askFlash_kept (r : FReq) : KstKept s (s.askFlash r).1 := by
  unfold askFlash
  split
  · exact s.leaveImpossible_kept ..
  · exact (s.banks_kept ..).trans (flashNext_kept ..)

theorem releaseLeave_kept (p : Purpose) : KstKept s (s.releaseLeave p) := by
  unfold releaseLeave
  dsimp only
  split
  · exact (s.banks_kept ..).trans (flashNext_kept ..)
  · exact s.banks_kept ..

theorem imgKick_kept : KstKept s s.imgKick := by
  unfold imgKick
  split
  · exact .refl s
  · exact s.askFlash_kept _

/-! ### Records queued -/

/-- `s` with the image records `q` waiting. -/
def withImgQueue (q : List ImgRec) : State := { s with kst := { s.kst with queue := q } }

theorem withImgQueue_kept {s t : State} (h : KstKept s t) (q : List ImgRec) :
    KstKept (s.withImgQueue q) (t.withImgQueue q) :=
  ⟨by simp only [State.withImgQueue, h.kst], h.slots, h.mem, h.jobs, h.hdr, h.fwStat, h.inbox⟩

theorem imgAppend_kept (n : Nat) (body : ImgBody) (who : ImgWait) :
    ∃ q, KstKept (s.withImgQueue q) (s.imgAppend n body who) := ⟨_, imgKick_kept _⟩

theorem imgFresh_kept (r : ImgRec) : ∃ q, KstKept (s.withImgQueue q) (s.imgFresh r) := by
  unfold imgFresh
  split <;> exact s.imgAppend_kept ..

theorem foldl_imgFresh_kept (l : List ImgRec) : ∃ q, KstKept (s.withImgQueue q) (l.foldl imgFresh s) := by
  induction l generalizing s with
  | nil => exact ⟨s.kst.queue, .refl s⟩
  | cons r l ih =>
    obtain ⟨p, hp⟩ := s.imgFresh_kept r
    obtain ⟨q, hq⟩ := ih (s.imgFresh r)
    exact ⟨q, (withImgQueue_kept hp q).trans hq⟩

/-- R250: a round of compaction queues records and asks leave, and changes nothing else of the key store. -/
theorem imgCompact_kept : ∃ q, KstKept (s.withImgQueue q) s.imgCompact := by
  unfold imgCompact
  split
  · exact ⟨s.kst.queue, .refl s⟩
  split
  · exact ⟨s.kst.queue, s.askFlash_kept _⟩
  · exact s.foldl_imgFresh_kept _

/-! ### A record becomes durable -/

theorem setBytes_kst (a : Nat) (l : List Byte) : (s.setBytes a l).kst = s.kst := by
  induction l generalizing s a with
  | nil => rfl
  | cons b l ih => exact ih (s.setByte a b) (a + 1)

theorem setBytes_slots (a : Nat) (l : List Byte) : (s.setBytes a l).slots = s.slots := by
  induction l generalizing s a with
  | nil => rfl
  | cons b l ih => exact ih (s.setByte a b) (a + 1)

/-- What a write leaves in memory depends on memory alone. -/
theorem setBytes_mem_congr {t : State} (a : Nat) (l : List Byte) (h : t.mem = s.mem) :
    (t.setBytes a l).mem = (s.setBytes a l).mem := by
  induction l generalizing s t a with
  | nil => exact h
  | cons b l ih => exact ih (s.setByte a b) (a + 1) (congrArg (Tbl.set memDefault · a b) h)

/-- R250: record `r` as it becomes durable: under the next SEQ, at its page, wrapped under `key`. -/
def imgPlaced (r : ImgRec) (key : List Byte) : ImgRec :=
  { r with seq := s.kst.seq + 1
           page := if s.kst.page % 16384 + r.pages > 16384 then roundUp s.kst.page 16384 else s.kst.page
           key := key }

/-- R250: the key store once `d`, the first record waiting, is durable. -/
def kstPlaced (k : Kst) (d : ImgRec) : Kst :=
  { k with seq := d.seq, page := d.page + d.pages, prog := false, queue := k.queue.drop 1, log := k.log ++ [d] }

/-- R250: a durable record stands in flash at its page and at the end of the log. -/
theorem imgDurable_of_sealed {r : ImgRec} {key : List Byte} (hr : r.key = []) (hk : s.kst.kseal = some key) :
    let d := s.imgPlaced r key
    (s.imgDurable r).kst = kstPlaced s.kst d ∧
      (s.imgDurable r).mem = (s.setBytes (0x09800000 + d.page % 16384 * 256) d.bytes).mem ∧
      (s.imgDurable r).slots = s.slots := by
  have hkey : (if r.key.isEmpty then s.kst.kseal else some r.key) = some key := by simp [hr, hk]
  unfold imgDurable
  split
  next h => exact absurd (hkey.symm.trans h) (by simp)
  next k h =>
    obtain rfl : key = k := Option.some.inj (hkey.symm.trans h)
    refine ⟨?_, rfl, setBytes_slots ..⟩
    simp only [setBytes_kst]
    rfl

/-! ### What a durable record changes, and who waited for it -/

/-- R252: the jobs that waited for a reservation go on; the key store is left alone. -/
theorem readied_keeps (l : List Job) :
    let t := l.foldl (fun s j => s.modJob j.id (fun j => { j with stage := .ready })) s
    t.kst = s.kst ∧ t.mem = s.mem := by
  induction l generalizing s with
  | nil => exact ⟨rfl, rfl⟩
  | cons j l ih => exact ih _

theorem imgSettle_keeps (r : ImgRec) : (s.imgSettle r).kst = s.kst ∧ (s.imgSettle r).mem = s.mem := by
  unfold imgSettle
  dsimp only
  split
  · split <;> exact ⟨rfl, rfl⟩
  · exact readied_keeps _ _
  · exact ⟨rfl, rfl⟩

/-- R251: the slot a SLOT record fills is LOADED. -/
theorem imgSettle_of_slot {r : ImgRec} {o : Nat} {x : KSlot} (hb : r.body = .slot o x)
    (hst : (s.slot r.slot).st = .reserved) : ((s.imgSettle r).slot r.slot).st = .loaded := by
  simp [imgSettle, hb, hst]

/-- R251: where no job waits, a durable record leaves memory and the key store alone when it is answered. -/
theorem imgAnswer_keeps {w : ImgWait} (hw : ∀ i n u, w ≠ .job i n u) :
    (s.imgAnswer w).kst = s.kst ∧ (s.imgAnswer w).mem = s.mem ∧ (s.imgAnswer w).slots = s.slots := by
  cases w with
  | none => exact ⟨rfl, rfl, rfl⟩
  | fw n u => exact ⟨rfl, rfl, rfl⟩
  | job i n u => exact absurd rfl (hw i n u)

theorem fwStat_kstFwEnd (c : Nat) : (s.kstFwEnd c).reg R.KST_FW_STAT = w32 (0x40000000 + c) := s.reg_setReg _ _

/-- R250: after a record the next one asks leave and a round of compaction runs. -/
theorem imgKick_imgCompact_kept : ∃ q, KstKept (s.withImgQueue q) s.imgKick.imgCompact := by
  obtain ⟨q, hq⟩ := s.imgKick.imgCompact_kept
  exact ⟨q, (withImgQueue_kept s.imgKick_kept q).trans hq⟩

/-- IMAGE_RECORD_DURABLE while a record is being programmed. -/
theorem exec_imageRecordDurable_of_prog {r : ImgRec} {l : List ImgRec} {key : List Byte} (hq : s.kst.queue = r :: l)
    (hp : s.kst.prog = true) (hk : s.kst.kseal = some key) :
    exec .imageRecordDurable s =
      .next ((((s.releaseLeave .image).imgDurable r).imgSettle r).imgAnswer r.who).imgKick.imgCompact := by
  simp [exec, execImageRecordDurable, hq, hp, hk]

/-- R250, R251: a durable record of no job stands in flash and in the log, and its change has taken effect. -/
theorem imageRecordDurable_outcome {r : ImgRec} {l : List ImgRec} {key : List Byte} (hq : s.kst.queue = r :: l)
    (hp : s.kst.prog = true) (hr : r.key = []) (hk : s.kst.kseal = some key) (hw : ∀ i n u, r.who ≠ .job i n u) :
    let d := s.imgPlaced r key
    ∃ t, exec .imageRecordDurable s = .next t ∧ (∃ q, t.kst = { kstPlaced s.kst d with queue := q }) ∧
      t.mem = (s.setBytes (0x09800000 + d.page % 16384 * 256) d.bytes).mem ∧
      (∀ o x, r.body = .slot o x → (s.slot r.slot).st = .reserved → (t.slot r.slot).st = .loaded) ∧
      (∀ m u, r.who = .fw m u → t.reg R.KST_FW_STAT = 0x40000000) := by
  intro d
  have hrel := s.releaseLeave_kept .image
  obtain ⟨hdkst, hdmem, hdslots⟩ := imgDurable_of_sealed (s.releaseLeave .image) hr (hrel.kst ▸ hk)
  have hplace : (s.releaseLeave .image).imgPlaced r key = d := by simp only [imgPlaced, hrel.kst, d]
  rw [hplace, hrel.kst] at hdkst
  rw [hplace, setBytes_mem_congr s _ _ hrel.mem] at hdmem
  rw [hrel.slots] at hdslots
  have hex := s.exec_imageRecordDurable_of_prog hq hp hk
  generalize (s.releaseLeave .image).imgDurable r = a at *
  obtain ⟨hskst, hsmem⟩ := a.imgSettle_keeps r
  obtain ⟨hakst, hamem, haslots⟩ := (a.imgSettle r).imgAnswer_keeps hw
  obtain ⟨q, hkept⟩ := ((a.imgSettle r).imgAnswer r.who).imgKick_imgCompact_kept
  refine ⟨_, hex, ⟨q, ?_⟩, ?_, ?_, ?_⟩
  · rw [hkept.kst, withImgQueue, hakst, hskst, hdkst]
  · exact hkept.mem.trans (hamem.trans (hsmem.trans hdmem))
  · intro o x hb hst
    have hslot : a.slot r.slot = s.slot r.slot := by rw [slot, hdslots, slot]
    have hload := a.imgSettle_of_slot hb (hslot ▸ hst)
    rw [hkept.slot, withImgQueue, slot, haslots]
    exact hload
  · intro m u hfw
    refine hkept.fwStat.trans ?_
    rw [hfw]
    exact (a.imgSettle r).fwStat_kstFwEnd 0

/-! ### A record that stalls -/

/-- R253: the first record is given up, its leave returned, and KEY_IMAGE recorded. -/
def imgStallNoted : State :=
  (({ s with kst := { s.kst with queue := s.kst.queue.drop 1, prog := false } }.releaseLeave .image).event
    Blk.KST 0 5).faultFree Blk.KST 0 Kind.KEY_IMAGE

theorem imgStallNoted_kst : s.imgStallNoted.kst = { s.kst with queue := s.kst.queue.drop 1, prog := false } :=
  (releaseLeave_kept _ .image).kst

theorem imgStallNoted_mem : s.imgStallNoted.mem = s.mem := (releaseLeave_kept _ .image).mem

theorem imgStallNoted_job (id : Nat) : s.imgStallNoted.job id = s.job id := (releaseLeave_kept _ .image).job id

theorem imgStallNoted_inbox : ∃ m ∈ s.imgStallNoted.inbox, m.kind = Kind.KEY_IMAGE :=
  ⟨_, List.mem_append_right _ (List.mem_singleton.2 rfl), rfl⟩

/-- An event bit that is set stays set when another event of the block is raised (R18). -/
theorem evt_event_of_bit {b i m : Nat} (n : Nat) (h : bit (s.hdr b i).evt m = true) :
    bit ((s.event b i n).hdr b i).evt m = true := by
  rw [event_eq, hdr_setHdr]
  exact bit_putBit_of_bit _ n h

theorem evt_event_self (b i : Nat) {n : Nat} (hn : n < 32) : bit ((s.event b i n).hdr b i).evt n = true := by
  rw [event_eq, hdr_setHdr]
  exact bit_putBit_self _ hn

theorem evt_fault_of_bit {b i m : Nat} (kind addr : Nat) (h : bit (s.hdr b i).evt m = true) :
    bit ((s.fault b i kind addr).hdr b i).evt m = true := by
  rw [show (s.fault b i kind addr).hdr b i = _ from s.hdr_setHdr b i _]
  exact bit_putBit_of_bit _ 0 h

theorem imgStallNoted_evt : bit (s.imgStallNoted.hdr Blk.KST 0).evt 5 = true :=
  evt_fault_of_bit _ _ _ (evt_event_self _ _ _ (by decide))

/-- R253: a change of firmware's is undone and its command ends with cause 0x018E. -/
theorem imgStalled_of_fw {r : ImgRec} {n : Nat} {undo : KSlot} (hw : r.who = .fw n undo) :
    s.imgStalled r = ((s.imgStallNoted.setSlot n undo).kstFwEnd 0x018E).imgKick := by
  simp only [imgStalled, hw]
  rfl

/-- R253: a job's change is undone and the job, if it still waits, fails. -/
theorem imgStalled_of_job {r : ImgRec} {id n : Nat} {undo : KSlot} {j : Job} (hw : r.who = .job id n undo)
    (hj : s.job id = some j) (hst : j.stage = .wait .image) :
    s.imgStalled r = ((s.imgStallNoted.setSlot n undo).failJob { j with fill := none } St.ENGINE_UNAVAILABLE 6 0
      0x018E 0).imgKick := by
  have hj' : (s.imgStallNoted.setSlot n undo).job id = some j := (s.imgStallNoted_job id).trans hj
  unfold imgStallNoted at hj' ⊢
  simp only [imgStalled, hw, hj', hst, if_true]

theorem exec_imageStall_of_queue {r : ImgRec} {l : List ImgRec} (hq : s.kst.queue = r :: l) :
    exec .imageStall s = .next (s.imgStalled r) := by
  simp only [exec, execImageStall, hq]

/-- R253: what a stalled record of firmware leaves. -/
theorem imgStalled_fw_outcome {r : ImgRec} {n : Nat} {undo : KSlot} (hw : r.who = .fw n undo) :
    ∃ m, (s.imgStalled r).kst.queue = s.kst.queue.drop 1 ∧ (s.imgStalled r).slot n = undo ∧
      (s.imgStalled r).reg R.KST_FW_STAT = 0x4000018E ∧ m ∈ (s.imgStalled r).inbox ∧ m.kind = Kind.KEY_IMAGE ∧
      bit ((s.imgStalled r).hdr Blk.KST 0).evt 5 = true ∧ (s.imgStalled r).mem = s.mem := by
  rw [s.imgStalled_of_fw hw]
  have hkick := imgKick_kept ((s.imgStallNoted.setSlot n undo).kstFwEnd 0x018E)
  obtain ⟨m, hm, hkind⟩ := s.imgStallNoted_inbox
  refine ⟨m, ?_, ?_, ?_, hkick.inbox hm, hkind, ?_, ?_⟩
  · rw [hkick.kst]
    exact congrArg Kst.queue s.imgStallNoted_kst
  · rw [hkick.slot]
    exact slot_setSlot ..
  · rw [hkick.fwStat]
    exact fwStat_kstFwEnd ..
  · rw [hkick.hdr]
    exact evt_event_of_bit _ 6 s.imgStallNoted_evt
  · rw [hkick.mem]
    exact s.imgStallNoted_mem

end State
end Sys2Proof.Machine

open Sys2Proof Sys2Proof.Machine

/-- Settles O50: a GO that reaches its rule runs its OP, whose effect the slot's state and its PERSIST bit choose; a record
becomes durable or stalls, and flash leave touches none of what the statement speaks of. -/
theorem slotsFirmwareCommandsAndImage : Obligations.SlotsFirmwareCommandsAndImage := by
  unfold Obligations.SlotsFirmwareCommandsAndImage
  intro s rq n typ r l ks undo k arg len nb go made shared page done
  refine ⟨State.exec_generate_of_busy n typ, fun hw hb => ⟨fun ht hp => ⟨fun hst hrng hv => ?_, fun hst => ?_⟩,
    fun hst hv => ⟨?_, ?_, ?_⟩, fun hst hv => ⟨?_, ?_⟩, fun hst => ?_⟩, fun hq hp hr hk hwho => ?_, fun hq hwho => ?_,
    fun id j hq hwho hj hst => ?_⟩
  · rw [State.exec_generate_of_idle n typ hw hb]
    have h := State.kstGenerate_of_empty (s.kstGo (kstCmd 1 typ n)) ht (by rwa [State.arg_kstGo]) hst hrng
      (by rwa [State.arg_kstGo])
    rw [State.arg_kstGo] at h
    exact congrArg _ h
  · rw [State.exec_generate_of_idle n typ hw hb]
    exact congrArg _ (State.kstGenerate_of_full _ ht (by rwa [State.arg_kstGo]) hst)
  · have h := State.kstSetShare_of_volatile (s.kstGo (kstCmd 2 0 n)) hst hv
    rw [State.arg_kstGo] at h
    rw [State.exec_kstSetShare_of_idle n hw hb]
    exact congrArg _ h
  · have h := State.kstNarrow_of_volatile (s.kstGo (kstCmd 3 0 n)) hst hv
    rw [State.arg_kstGo] at h
    rw [State.exec_narrow_of_idle n hw hb]
    exact congrArg _ h
  · rw [State.exec_kstErase_of_idle n hw hb]
    exact congrArg _ (State.kstErase_of_volatile _ hst hv)
  · have h := State.kstSetShare_of_persist (s.kstGo (kstCmd 2 0 n)) hst hv
    rw [State.arg_kstGo, State.slotOwner_kstGo] at h
    rw [State.exec_kstSetShare_of_idle n hw hb]
    exact congrArg _ h
  · rw [State.exec_kstErase_of_idle n hw hb]
    exact congrArg _ (State.kstErase_of_persist _ hst hv)
  · rw [State.exec_kstErase_of_idle n hw hb]
    exact congrArg _ (State.kstErase_of_reserved _ hst)
  · obtain ⟨t, ht, ⟨q, hkst⟩, hmem, hslot, hstat⟩ := s.imageRecordDurable_outcome hq hp hr hk hwho
    exact ⟨t, ht, by rw [hkst]; rfl, by rw [hkst]; rfl, by rw [hkst]; rfl, by rw [hkst]; rfl, hmem, hslot, hstat⟩
  · obtain ⟨m, hqueue, hrest⟩ := s.imgStalled_fw_outcome hwho
    exact ⟨_, m, s.exec_imageStall_of_queue hq, by rw [hqueue, hq]; rfl, hrest⟩
  · refine ⟨s.imgStallNoted.setSlot n undo, ?_, State.slot_setSlot .., (s.imgStallNoted_job id).trans hj,
      s.imgStallNoted_inbox, s.imgStallNoted_mem⟩
    rw [s.exec_imageStall_of_queue hq, s.imgStalled_of_job hwho hj hst]
end

section
/-! SUPPORT. What an instruction of an issuing pair comes to (R282, R293): its own effect, its retirement and its
precise exceptions; and the control flow: calls, returns and waits. -/

namespace Sys2Proof.Machine.KPair

/-- R469: only a debug step changes what a pair does after its instruction. -/
theorem run_done {k : KPair} (hstep : k.stepOne = false) (pc : Word) : (k.done pc).run = k.run := by
  simp [done, hstep]

/-- Pair `k` with the address of the next instruction pushed as a CALL word (R279). -/
def called (k : KPair) : KPair :=
  { k with rstack := Tbl.set (fun _ => {}) k.rstack (k.rsp / 4) ⟨k.pc + 4, false⟩, rsp := k.rsp + 4 }

end Sys2Proof.Machine.KPair

namespace Sys2Proof.Machine.State

variable (s : State) {p : Pair} {c : Cond}

/-! ### One instruction -/

theorem issues_iff : s.issues p c ↔
    (s.pair p).run = .running ∧ csAep (s.pair p).cs = false ∧ condHolds c (s.pair p).fl = true := by
  simp [issues, and_assoc]

/-- R282: an instruction of an issuing pair is its own effect, whether or not a pending arithmetic exception would come
first. -/
theorem instr_of_issues (h : s.issues p c) (first : Bool) (body : State → State) :
    s.instr p c first body = body s := by
  obtain ⟨hrun, haep, hcond⟩ := s.issues_iff.mp h
  simp [instr, hrun, haep, hcond]

/-- R303: with no arithmetic exception pending, an instruction's exception is taken at the instruction. -/
theorem except_of_issues (h : s.issues p c) (v cause : Nat) : s.except p v cause = s.enter p v (s.pair p).pc cause := by
  obtain ⟨-, haep, -⟩ := s.issues_iff.mp h
  simp [except, haep]

theorem retire_eq (p : Nat) (pc : Word) : s.retire p pc = s.setPair p ((s.pair p).done pc) := rfl

@[simp] theorem retire_setPair (p : Nat) (k : KPair) (pc : Word) :
    (s.setPair p k).retire p pc = s.setPair p (k.done pc) := by
  simp [retire_eq]

theorem finish_eq (p : Pair) (f : KPair → KPair) : s.finish p f = s.next p (f (s.pair p)) :=
  s.retire_setPair p (f (s.pair p)) _

/-! ### Calls and returns -/

/-- R279: a call with room below RSL pushes and branches. -/
theorem callOp_of_room (h : s.issues p c) (hroom : (s.pair p).rsp + 4 ≤ (s.pair p).rsl) (target : KPair → Word) :
    callOp p c target s = s.setPair p ((s.pair p).called.done (target (s.pair p))) := by
  simp [callOp, s.instr_of_issues h, Nat.not_lt.mpr hroom, KPair.called]

/-- R280: a call that would pass RSL only takes the stack fault, cause 1. -/
theorem callOp_of_full (h : s.issues p c) (hfull : (s.pair p).rsl < (s.pair p).rsp + 4) (target : KPair → Word) :
    callOp p c target s = s.enter p 2 (s.pair p).pc 1 := by
  simp [callOp, s.instr_of_issues h, hfull, s.except_of_issues h]

/-- R279: a return with a CALL word on top pops it and branches to it. -/
theorem exec_kRet_of_call (h : s.issues p c) (hroom : (s.pair p).rsb + 4 ≤ (s.pair p).rsp)
    (hcall : (rsWord (s.pair p) ((s.pair p).rsp - 4)).frame = false) :
    exec (.kRet p c) s = .next (s.setPair p ({ s.pair p with rsp := (s.pair p).rsp - 4 }.done
      (rsWord (s.pair p) ((s.pair p).rsp - 4)).val)) := by
  simp [exec, execKRet, s.instr_of_issues h, Nat.not_lt.mpr hroom, hcall]

/-- R280: a return that would pass RSB only takes the stack fault, cause 2. -/
theorem exec_kRet_of_empty (h : s.issues p c) (hempty : (s.pair p).rsp < (s.pair p).rsb + 4) :
    exec (.kRet p c) s = .next (s.enter p 2 (s.pair p).pc 2) := by
  simp [exec, execKRet, s.instr_of_issues h, hempty, s.except_of_issues h]

/-- R280: a return with a FRAME word on top only takes the stack fault, cause 3. -/
theorem exec_kRet_of_frame (h : s.issues p c) (hroom : (s.pair p).rsb + 4 ≤ (s.pair p).rsp)
    (hframe : (rsWord (s.pair p) ((s.pair p).rsp - 4)).frame = true) :
    exec (.kRet p c) s = .next (s.enter p 2 (s.pair p).pc 3) := by
  simp [exec, execKRet, s.instr_of_issues h, Nat.not_lt.mpr hroom, hframe, s.except_of_issues h]

/-! ### Waits -/

/-- R284: WFE with no interrupt pending, and no debug step to end, leaves the pair waiting behind it. -/
theorem exec_kWfe_of_quiet (h : s.issues p c) (hquiet : s.firstIrq p = none) (hstep : (s.pair p).stepOne = false) :
    exec (.kWfe p c) s = .next (s.setPair p { (s.pair p).done ((s.pair p).pc + 4) with run := .waiting }) := by
  obtain ⟨hrun, -, -⟩ := s.issues_iff.mp h
  simp [exec, execKWfe, s.instr_of_issues h, s.finish_eq, next, hquiet, KPair.run_done hstep, hrun]

/-- R284: WFE with an interrupt pending is a NOP. -/
theorem exec_kWfe_of_pending (h : s.issues p c) (hirq : (s.firstIrq p).isSome) :
    exec (.kWfe p c) s = .next (s.next p (s.pair p)) := by
  simp [exec, execKWfe, s.instr_of_issues h, s.finish_eq, hirq]

/-- R307: a waiting pair runs again when an interrupt pends. -/
theorem exec_wfeWake_of_pending (hwait : (s.pair p).run = .waiting) (hirq : (s.firstIrq p).isSome) :
    exec (.wfeWake p) s = .next (s.setPair p { s.pair p with run := .running }) := by
  simp [exec, execWfeWake, hwait, hirq]

end Sys2Proof.Machine.State

open Sys2Proof Sys2Proof.Machine

/-- Settles O11: each instruction of an issuing pair is its own effect; a call and a return split on the room their
window has and on the word popped, a wait on whether an interrupt pends. -/
theorem kennuControlFlow : Obligations.KennuControlFlow := by
  unfold Obligations.KennuControlFlow
  intro s p c ra off k target pushed
  refine ⟨fun h => ⟨?bra, ?br, ?nop, ?barrier, ?esync,
    fun hroom => ⟨congrArg _ (s.callOp_of_room h hroom _), congrArg _ (s.callOp_of_room h hroom _)⟩,
    s.exec_kRet_of_call h,
    fun hfull => ⟨congrArg _ (s.callOp_of_full h hfull _), congrArg _ (s.callOp_of_full h hfull _)⟩,
    s.exec_kRet_of_empty h, s.exec_kRet_of_frame h, s.exec_kWfe_of_quiet h, s.exec_kWfe_of_pending h⟩,
    s.exec_wfeWake_of_pending⟩
  case bra => exact congrArg _ ((s.instr_of_issues h ..).trans (s.retire_eq p _))
  case br => exact congrArg _ ((s.instr_of_issues h ..).trans (s.retire_eq p _))
  case nop => exact congrArg _ ((s.instr_of_issues h ..).trans (s.finish_eq p id))
  case barrier => exact congrArg _ ((s.instr_of_issues h ..).trans (s.finish_eq p id))
  case esync => exact congrArg _ ((s.instr_of_issues h ..).trans (s.finish_eq p _))
end

section
/-! SUPPORT. Privilege and RETX: an instruction above the level its register, trap or bank swap allows (R297), a swap of
the Gate's bank made and refused (R317, R318), and what RETX does at each of its checks and after them (R305). -/

namespace Sys2Proof.Machine.KPair

/-- Word `i` of the frame that RETX finds on top of the return stack (R302, R305). -/
def topWord (k : KPair) (i : Nat) : RWord := rsWord k (k.rsp - 16 + 4 * i)

/-- One of the four words on top of the return stack is a CALL word (R305, check 2). -/
def topCalled (k : KPair) : Bool :=
  !(k.topWord 0).frame || !(k.topWord 1).frame || !(k.topWord 2).frame || !(k.topWord 3).frame

theorem topCalled_eq (k : KPair) : k.topCalled =
    !((k.topWord 0).frame && (k.topWord 1).frame && (k.topWord 2).frame && (k.topWord 3).frame) := by
  simp [topCalled]

/-- The pair that RETX leaves once its checks have passed and its bank is the frame's (R305). -/
def returned (k : KPair) : KPair :=
  (retxRestore k (k.topWord 0).val (k.topWord 1).val (k.topWord 2).val (k.topWord 3).val).done (k.topWord 0).val

end Sys2Proof.Machine.KPair

namespace Sys2Proof.Machine.State

variable (s : State) {p : Pair} {c : Cond}

/-! ### Instructions above their level -/

section
variable {l : Nat}

/-- R297: an MFS above the level its register allows. -/
theorem exec_kMfs_of_level (h : s.issues p c) (rd : GReg) {sr : Fin 32} (hl : mfsLevel sr.val = some l)
    (habove : l < csPl (s.pair p).cs) : exec (.kMfs p c rd sr) s = .next (s.enter p 3 (s.pair p).pc 0) := by
  simp [exec, execKMfs, s.instr_of_issues h, hl, habove, s.except_of_issues h]

/-- R297: an MTS above the level its register allows, whatever the value. -/
theorem mtsOp_of_level (h : s.issues p c) {sr : Nat} (hl : mtsLevel sr = some l) (habove : l < csPl (s.pair p).cs)
    (v : KPair → Word) : mtsOp p c sr v s = s.enter p 3 (s.pair p).pc 0 := by
  simp [mtsOp, s.instr_of_issues h, hl, habove, s.except_of_issues h]

end

/-- R297: SWPB belongs to level 0. -/
theorem exec_kSwpb_of_level (h : s.issues p c) (hpl : csPl (s.pair p).cs ≠ 0) :
    exec (.kSwpb p c) s = .next (s.enter p 3 (s.pair p).pc 0) := by
  simp [exec, execKSwpb, s.instr_of_issues h, hpl, s.except_of_issues h]

/-- R297, R304: a TRAP above the level its descriptor allows. -/
theorem exec_kTrap_of_level (h : s.issues p c) {n : Fin 128} {d : Desc} (hd : s.desc p (128 + n.val) = .ok d)
    (habove : d.tpl < csPl (s.pair p).cs) : exec (.kTrap p c n) s = .next (s.enter p 3 (s.pair p).pc 0) := by
  simp [exec, execKTrap, s.instr_of_issues h, hd, habove, s.except_of_issues h]

/-! ### The Gate's banks -/

/-- R317: a swap to a well-formed bank is made and counted. -/
theorem gateSwap_of_wellFormed (p : Nat) {b : Bool} (hb : s.gateDefect b = none) :
    s.gateSwap p b =
      ((s.count R.GAT_SWAPS 15 0).setPair p { s.pair p with cs := putBit (s.pair p).cs 6 b }, true) := by
  simp only [gateSwap, hb, modPair_eq]
  rfl

/-- R317, R318: a swap to a bank with a defect is refused; it leaves the pairs and memory as they are and sends
MPU_OVERLAP. -/
theorem gateSwap_of_defect (p : Nat) {b : Bool} (hb : (s.gateDefect b).isSome) :
    ∃ (u : State) (m : Msg), s.gateSwap p b = (u, false) ∧ u.pairs = s.pairs ∧ u.mem = s.mem ∧
      u.inbox = s.inbox ++ [m] ∧ m.blk = Blk.GAT ∧ m.kind = Kind.MPU_OVERLAP := by
  obtain ⟨⟨i, j⟩, hij⟩ := Option.isSome_iff_exists.mp hb
  simp only [gateSwap, hij]
  exact ⟨_, _, rfl, rfl, rfl, rfl, rfl, rfl⟩

/-- An exception raised after a change that leaves the pairs as they were is still that of the issuing instruction. -/
theorem except_of_issues_of_pairs {u : State} (h : s.issues p c) (hu : u.pairs = s.pairs) (v cause : Nat) :
    u.except p v cause = u.enter p v (s.pair p).pc cause := by
  have hpair : u.pair p = s.pair p := by simp [pair, hu]
  rw [u.except_of_issues (c := c) (by simpa [issues, hpair] using h), hpair]

/-! ### RETX -/

/-- The state RETX of an issuing pair leaves: that of the first of its checks that fails, or the frame restored, after a
swap where the frame's bank is not the pair's (R305). -/
def retx (s : State) (p : Pair) : State :=
  let k := s.pair p
  let w1 := (k.topWord 1).val
  if k.rsp < k.rsb + 16 then s.enter p 2 k.pc 5
  else if k.topCalled then s.enter p 2 k.pc 4
  else if bits w1 5 4 < csPl k.cs then s.enter p 3 k.pc 0
  else if bit w1 6 = csBank k.cs then s.setPair p k.returned
  else if s.gateDefect (bit w1 6) = none then
    (s.count R.GAT_SWAPS 15 0).setPair p { k with cs := putBit k.cs 6 (bit w1 6) }.returned
  else (s.gateSwap p (bit w1 6)).1.enter p 6 k.pc 0

/-- R305: RETX of an issuing pair. The checks are the model's own; past them a swap is made or refused as the bank's
defect says. -/
theorem exec_kRetx_of_issues (h : s.issues p c) : exec (.kRetx p c) s = .next (s.retx p) := by
  simp only [exec, execKRetx, s.instr_of_issues h, s.except_of_issues h]
  refine congrArg _ (ite_congr rfl (fun _ => rfl) fun _ => ite_congr rfl (fun _ => rfl) fun _ =>
    ite_congr rfl (fun _ => rfl) fun _ => ite_congr rfl (fun _ => ?same) fun _ => ?other)
  case same => exact s.retire_setPair p _ _
  case other =>
    by_cases hb : s.gateDefect (bit ((s.pair p).topWord 1).val 6) = none
    · have hswap := s.gateSwap_of_wellFormed p hb
      rw [if_pos hb, ← KPair.topWord, hswap]
      simp only [if_true, modPair_eq, retire_setPair, pair_setPair, setPair_setPair]
      rfl
    · obtain ⟨u, -, hswap, hpairs, -⟩ := s.gateSwap_of_defect p (Option.isSome_iff_ne_none.mpr hb)
      rw [if_neg hb, ← KPair.topWord, hswap]
      exact s.except_of_issues_of_pairs h hpairs 6 0

/-- R305, check 1: the frame would reach below RSB. -/
theorem retx_of_empty (hempty : (s.pair p).rsp < (s.pair p).rsb + 16) : s.retx p = s.enter p 2 (s.pair p).pc 5 :=
  if_pos hempty

section
variable (hroom : (s.pair p).rsb + 16 ≤ (s.pair p).rsp)
include hroom

/-- R305, check 2: a CALL word among the four. -/
theorem retx_of_call (hcall : (s.pair p).topCalled = true) : s.retx p = s.enter p 2 (s.pair p).pc 4 := by
  simp only [retx, Nat.not_lt.mpr hroom, hcall, if_true, if_false]

section
variable (hframed : (s.pair p).topCalled = false)
include hframed

/-- R297; R305, check 3: the frame holds a level below the pair's. -/
theorem retx_of_level (hbelow : bits ((s.pair p).topWord 1).val 5 4 < csPl (s.pair p).cs) :
    s.retx p = s.enter p 3 (s.pair p).pc 0 := by
  simp only [retx, Nat.not_lt.mpr hroom, hframed, hbelow, if_true, if_false, Bool.false_eq_true]

variable (hlevel : csPl (s.pair p).cs ≤ bits ((s.pair p).topWord 1).val 5 4)
include hlevel

/-- R305: with the frame's bank the pair's own, RETX restores the frame. -/
theorem retx_of_bank (hbank : bit ((s.pair p).topWord 1).val 6 = csBank (s.pair p).cs) :
    s.retx p = s.setPair p (s.pair p).returned := by
  simp only [retx, Nat.not_lt.mpr hroom, hframed, Nat.not_lt.mpr hlevel, hbank, if_true, if_false, Bool.false_eq_true]

variable (hbank : bit ((s.pair p).topWord 1).val 6 ≠ csBank (s.pair p).cs)
include hbank

/-- R305, R318: with another bank in the frame that may be swapped to, RETX swaps and restores the frame. -/
theorem retx_of_swap (hb : s.gateDefect (bit ((s.pair p).topWord 1).val 6) = none) :
    s.retx p = (s.count R.GAT_SWAPS 15 0).setPair p
      { s.pair p with cs := putBit (s.pair p).cs 6 (bit ((s.pair p).topWord 1).val 6) }.returned := by
  simp only [retx, Nat.not_lt.mpr hroom, hframed, Nat.not_lt.mpr hlevel, hbank, hb, if_true, if_false,
    Bool.false_eq_true]

/-- R305, check 4: with another bank in the frame and its swap refused (R318), RETX takes the SWAP exception. -/
theorem retx_of_refused (hb : (s.gateDefect (bit ((s.pair p).topWord 1).val 6)).isSome) :
    ∃ (u : State) (m : Msg), s.retx p = u.enter p 6 (s.pair p).pc 0 ∧ u.pairs = s.pairs ∧ u.mem = s.mem ∧
      u.inbox = s.inbox ++ [m] ∧ m.kind = Kind.MPU_OVERLAP := by
  obtain ⟨u, m, hswap, hpairs, hmem, hinbox, -, hkind⟩ := s.gateSwap_of_defect p hb
  refine ⟨u, m, ?_, hpairs, hmem, hinbox, hkind⟩
  simp only [retx, Nat.not_lt.mpr hroom, hframed, Nat.not_lt.mpr hlevel, hbank, Option.isSome_iff_ne_none.mp hb, hswap,
    if_false, Bool.false_eq_true]

end
end

end Sys2Proof.Machine.State

open Sys2Proof Sys2Proof.Machine

/-- Settles O18: each case is one check that fails at the instruction; SFCTL is an MTS. -/
theorem kennuPrivilegeException : Obligations.KennuPrivilegeException := by
  unfold Obligations.KennuPrivilegeException
  intro s p c rd sr n disc l d h k w
  refine ⟨s.exec_kMfs_of_level h rd, fun hl habove => congrArg _ (s.mtsOp_of_level h hl habove _), fun hpl => ?level0,
    s.exec_kTrap_of_level h, fun hroom h0 h1 h2 h3 hbelow => ?retx⟩
  case level0 =>
    have habove : 0 < csPl k.cs := Nat.pos_of_ne_zero hpl
    exact ⟨congrArg _ (s.mtsOp_of_level h rfl habove _), congrArg _ (s.mtsOp_of_level h rfl habove _),
      s.exec_kSwpb_of_level h hpl⟩
  case retx =>
    have hframed : (!((w 0).frame && (w 1).frame && (w 2).frame && (w 3).frame)) = false := by simp [h0, h1, h2, h3]
    rw [s.exec_kRetx_of_issues h, s.retx_of_level hroom (k.topCalled_eq.trans hframed) hbelow]

/-- Settles O19: RETX by the first of its checks that fails; past them it restores the frame, after a swap where the
frame's bank is not the pair's. -/
theorem kennuReturnFromException : Obligations.KennuReturnFromException := by
  unfold Obligations.KennuReturnFromException
  intro s p c h k w frames w1 w3 cs
  have hcalled {b : Bool} (hb : frames = b) : k.topCalled = !b := k.topCalled_eq.trans (congrArg _ hb)
  rw [s.exec_kRetx_of_issues h]
  refine ⟨fun hroom hf hlevel hbank => congrArg _ (s.retx_of_bank hroom (hcalled hf) hlevel hbank),
    fun hroom hf hlevel hbank => ⟨fun hb => congrArg _ (s.retx_of_swap hroom (hcalled hf) hlevel hbank hb),
      fun hb => ?refused⟩,
    fun hempty => congrArg _ (s.retx_of_empty hempty),
    fun hroom hf => congrArg _ (s.retx_of_call hroom (hcalled hf)),
    fun hroom hf hbelow => congrArg _ (s.retx_of_level hroom (hcalled hf) hbelow)⟩
  case refused =>
    obtain ⟨u, m, hretx, hpairs, hmem, hinbox, hkind⟩ := s.retx_of_refused hroom (hcalled hf) hlevel hbank hb
    exact ⟨u, congrArg _ hretx, hpairs, hmem, m, hinbox, hkind⟩
end

section
/-! SUPPORT. What leaves memory alone: one lemma for each operation of the model that writes no byte, in the order of the
model's files. An operation that may answer nothing has its lemma about the state it answers. -/

namespace Sys2Proof.Machine

/-! ### Cases and folds -/

@[simp] theorem mem_ite (c : Prop) [Decidable c] (s t : State) :
    (if c then s else t).mem = if c then s.mem else t.mem := apply_ite ..

/-- A fold of steps that each leave memory alone. -/
@[simp] theorem mem_foldl {α : Type} (f : State → α → State) (h : ∀ s a, (f s a).mem = s.mem) (l : List α) (s : State) :
    (l.foldl f s).mem = s.mem := by
  induction l generalizing s with
  | nil => rfl
  | cons a l ih => simp [ih, h]

/-- An effect that may be refused, the state itself standing in for the refusal. -/
theorem mem_getD {o : Option State} {s u : State} (h : ∀ t, o = some t → t.mem = u.mem) (hs : s.mem = u.mem) :
    (o.getD s).mem = u.mem := by
  cases o with
  | none => exact hs
  | some t => exact h t rfl

/-- What holds of the answer of either branch holds of the answer of the case. -/
theorem of_ite_eq {α : Type} {c : Prop} [Decidable c] {x y z : α} {P : Prop} (hx : x = z → P) (hy : y = z → P)
    (h : (if c then x else y) = z) : P := by
  split at h
  · exact hx h
  · exact hy h

/-! ### Events and messages -/

@[simp] theorem State.setFld_mem (s : State) (a hi lo v : Nat) : (s.setFld a hi lo v).mem = s.mem := by simp [setFld]
@[simp] theorem State.count_mem (s : State) (a hi lo : Nat) : (s.count a hi lo).mem = s.mem := by simp [count]
@[simp] theorem State.countWrap_mem (s : State) (a hi lo : Nat) : (s.countWrap a hi lo).mem = s.mem := by
  simp [countWrap]
@[simp] theorem State.event_mem (s : State) (b i n : Nat) : (s.event b i n).mem = s.mem := by simp [event]
@[simp] theorem State.setFence_mem (s : State) (b i n : Nat) : (s.setFence b i n).mem = s.mem := by simp [setFence]
@[simp] theorem State.fault_mem (s : State) (b i kind addr : Nat) : (s.fault b i kind addr).mem = s.mem := by
  simp [fault]
@[simp] theorem State.faultBy_mem (s : State) (b i kind addr dom db di : Nat) :
    (s.faultBy b i kind addr dom db di).mem = s.mem := by
  simp [faultBy]
@[simp] theorem State.withFree_mem (s : State) (k : Nat → State → State) (hk : ∀ x u, (k x u).mem = u.mem) :
    (s.withFree k).mem = s.mem := by
  simp [withFree, hk]

/-! ### Pairs -/

@[simp] theorem State.modPair_mem (s : State) (p : Nat) (f : KPair → KPair) : (s.modPair p f).mem = s.mem := by
  simp [modPair]

/-! ### Exceptions of a pair (R301-R311, R317) -/

@[simp] theorem State.gateSwap_mem (s : State) (p : Nat) (b : Bool) : (s.gateSwap p b).1.mem = s.mem := by
  unfold gateSwap
  split <;> simp
@[simp] theorem State.haltEvents_mem (s : State) (p : Nat) : (s.haltEvents p).mem = s.mem := by simp [haltEvents]
@[simp] theorem State.doubleFault_mem (s : State) (p : Nat) (a : Word) : (s.doubleFault p a).mem = s.mem := by
  simp [doubleFault]
@[simp] theorem State.enterAt_mem (s : State) (p v : Nat) (d : Desc) (w : Nat × Nat × Nat) :
    (s.enterAt p v d w).mem = s.mem := by
  simp [enterAt]
@[simp] theorem State.enterStack_mem (s : State) (p : Nat) (a : Word) (cause : Nat) (f : Word × Word × Word × Word) :
    (s.enterStack p a cause f).mem = s.mem := by
  unfold enterStack
  split <;> simp
@[simp] theorem State.enter_mem (s : State) (p v : Nat) (a : Word) (cause : Nat) :
    (s.enter p v a cause).mem = s.mem := by
  unfold enter
  dsimp only
  (repeat' split) <;> simp
@[simp] theorem State.except_mem (s : State) (p v cause : Nat) : (s.except p v cause).mem = s.mem := by simp [except]
@[simp] theorem State.busResp_mem (s : State) (p a : Nat) (m : State → State) (hm : ∀ u, (m u).mem = u.mem) :
    (s.busResp p a m).mem = s.mem := by
  simp [busResp, hm]
@[simp] theorem State.busFault_mem (s : State) (p a db di : Nat) : (s.busFault p a db di).mem = s.mem := by
  simp [busFault]
@[simp] theorem State.gateFault_mem (s : State) (p a : Nat) : (s.gateFault p a).mem = s.mem := by simp [gateFault]

/-! ### Lanes and units, and what an ending job lets go of -/

@[simp] theorem State.modLane_mem (s : State) (n : Nat) (f : Lane → Lane) : (s.modLane n f).mem = s.mem := by
  simp [modLane]
@[simp] theorem State.modUnit_mem (s : State) (u : Nat) (f : CUnit → CUnit) : (s.modUnit u f).mem = s.mem := by
  simp [modUnit]
@[simp] theorem State.laneEnd_mem (s : State) (n : Nat) (fail : Option Bool) : (s.laneEnd n fail).mem = s.mem := by
  unfold laneEnd
  split <;> simp
@[simp] theorem State.dropRecord_mem (s : State) (id n : Nat) : (s.dropRecord id n).mem = s.mem := by simp [dropRecord]
@[simp] theorem State.letGo_mem (s : State) (j : Job) (ok auth : Bool) : (s.letGo j ok auth).mem = s.mem := by
  unfold letGo
  dsimp only
  (repeat' split) <;> simp

/-! ### Posted writes, completions and the end of a job -/

@[simp] theorem State.modPort_mem (s : State) (p : Nat) (f : HPort → HPort) : (s.modPort p f).mem = s.mem := by
  simp [modPort]
@[simp] theorem State.modQp_mem (s : State) (q : Nat) (f : QP → QP) : (s.modQp q f).mem = s.mem := by simp [modQp]
@[simp] theorem State.modJob_mem (s : State) (id : Nat) (f : Job → Job) : (s.modJob id f).mem = s.mem := by
  simp [modJob]
@[simp] theorem State.post_mem (s : State) (d a : Nat) (data : List Byte) (output : Bool) :
    (s.post d a data output).mem = s.mem := by
  simp [post]
@[simp] theorem State.scatter_mem (s : State) (d : Nat) (l : List (Nat × Nat × Nat)) (data : List Byte) :
    (s.scatter d l data).mem = s.mem := by
  induction l generalizing s data with
  | nil => rfl
  | cons x l ih => simp [scatter, ih]
@[simp] theorem State.postOutput_mem (s : State) (j : Job) (data : List Byte) : (s.postOutput j data).mem = s.mem := by
  simp [postOutput]
@[simp] theorem State.ringFault_mem (s : State) (q slot status ring : Nat) :
    (s.ringFault q slot status ring).mem = s.mem := by
  simp [ringFault]
@[simp] theorem State.putCompl_mem (s : State) (q n : Nat) (e : List Byte) : (s.putCompl q n e).1.mem = s.mem := by
  unfold putCompl
  dsimp only
  (repeat' split) <;> simp
@[simp] theorem State.writeCompl_mem (s : State) (q : Nat) (c : Compl) : (s.writeCompl q c).mem = s.mem := by
  simp [writeCompl]
@[simp] theorem State.complWaits_mem (s : State) (q : Nat) : (s.complWaits q).mem = s.mem := by simp [complWaits]
@[simp] theorem State.reportRing_mem (s : State) (q : Nat) : (s.reportRing q).mem = s.mem := by
  unfold reportRing
  dsimp only
  (repeat' split) <;> simp
@[simp] theorem State.report_mem (s : State) (q fuel : Nat) : (s.report q fuel).mem = s.mem := by
  induction fuel generalizing s with
  | zero => rfl
  | succ fuel ih =>
    unfold report
    dsimp only
    (repeat' split) <;> simp [ih]
@[simp] theorem State.reportAll_mem (s : State) (q : Nat) : (s.reportAll q).mem = s.mem := by simp [reportAll]
@[simp] theorem State.markDone_mem (s : State) (id status : Nat) (result detail : Word) :
    (s.markDone id status result detail).mem = s.mem := by
  simp [markDone]
@[simp] theorem State.zeroOutput_mem (s : State) (j : Job) : (s.zeroOutput j).mem = s.mem := by simp [zeroOutput]
@[simp] theorem State.countStatus_mem (s : State) (j : Job) (status : Nat) : (s.countStatus j status).mem = s.mem := by
  simp [countStatus]
@[simp] theorem State.succeed_mem (s : State) (j : Job) (result detail : Word) :
    (s.succeed j result detail).mem = s.mem := by
  simp [succeed]
@[simp] theorem State.failQuiet_mem (s : State) (j : Job) (status stage entry cause detail : Nat) :
    (s.failQuiet j status stage entry cause detail).mem = s.mem := by
  simp [failQuiet]
@[simp] theorem State.failJob_mem (s : State) (j : Job) (status stage entry cause detail : Nat) :
    (s.failJob j status stage entry cause detail).mem = s.mem := by
  simp [failJob]
@[simp] theorem State.deliver_mem (s : State) (j : Job) (data : List Byte) (detail : Word) :
    (s.deliver j data detail).mem = s.mem := by
  simp [deliver]

/-! ### Leave and flash requests -/

@[simp] theorem State.leaveImpossible_mem (s : State) (b i tok : Nat) : (s.leaveImpossible b i tok).mem = s.mem := by
  simp [leaveImpossible]
@[simp] theorem State.askLeave_mem (s : State) (b i tok : Nat) (what : Purpose) :
    (s.askLeave b i tok what).1.mem = s.mem := by
  unfold askLeave
  split <;> simp
@[simp] theorem State.flcEnd_mem (s : State) (result : Nat) : (s.flcEnd result).mem = s.mem := by simp [flcEnd]
@[simp] theorem State.clientRefused_mem (s : State) (what : Purpose) : (s.clientRefused what).mem = s.mem := by
  simp [clientRefused]
@[simp] theorem State.flashTake_mem (s : State) (r : FReq) : (s.flashTake r).mem = s.mem := by simp [flashTake]
@[simp] theorem State.flashResume_mem (s : State) (what : Purpose) : (s.flashResume what).mem = s.mem := by
  unfold flashResume
  split <;> simp
@[simp] theorem State.flashNext_mem (s : State) (b fuel : Nat) : (s.flashNext b fuel).mem = s.mem := by
  induction fuel generalizing s with
  | zero => rfl
  | succ fuel ih =>
    unfold flashNext
    dsimp only
    (repeat' split) <;> simp [ih]
@[simp] theorem State.askFlash_mem (s : State) (r : FReq) : (s.askFlash r).1.mem = s.mem := by
  unfold askFlash
  split <;> simp
@[simp] theorem State.releaseLeave_mem (s : State) (what : Purpose) : (s.releaseLeave what).mem = s.mem := by
  unfold releaseLeave
  dsimp only
  (repeat' split) <;> simp
@[simp] theorem State.grantHead_mem (s : State) (l : Leave) : (s.grantHead l).mem = s.mem := by simp [grantHead]

/-! ### The Riser and the backup RTC -/

@[simp] theorem State.rtcNow_mem (s : State) (k : Nat → State → State) (hk : ∀ x u, (k x u).mem = u.mem) :
    (s.rtcNow k).mem = s.mem := by
  simp [rtcNow, hk]
@[simp] theorem State.mapKick_mem (s : State) : (s.mapKick).mem = s.mem := by simp [mapKick]
@[simp] theorem State.mapAdd_mem (s : State) (typ pool unit spare kind : Nat) :
    (s.mapAdd typ pool unit spare kind).mem = s.mem := by
  simp [mapAdd]
@[simp] theorem State.noteFence_mem (s : State) (pool unit : Nat) (serving : Bool) (kind : Option Nat) :
    (s.noteFence pool unit serving kind).mem = s.mem := by
  unfold noteFence
  dsimp only
  (repeat' split) <;> simp

/-! ### The counter vault -/

@[simp] theorem State.touchCtx_mem (s : State) (d i : Nat) : (s.touchCtx d i).mem = s.mem := by simp [touchCtx]
@[simp] theorem State.evict_mem (s : State) (p : Ctx → Bool) : (s.evict p).mem = s.mem := by simp [evict]
@[simp] theorem State.vaultKick_mem (s : State) : (s.vaultKick).mem = s.mem := by simp [vaultKick]
@[simp] theorem State.queuePage_mem (s : State) (p : VPage) : (s.queuePage p).mem = s.mem := by simp [queuePage]
@[simp] theorem State.flushLog_mem (s : State) : (s.flushLog).mem = s.mem := by simp [flushLog]
@[simp] theorem State.appendCk_mem (s : State) (w : CkWord) : (s.appendCk w).mem = s.mem := by simp [appendCk]
@[simp] theorem State.reserve_mem (s : State) (tx : Bool) (n v : Nat) : (s.reserve tx n v).1.mem = s.mem := by
  unfold reserve
  dsimp only
  (repeat' split) <;> simp
@[simp] theorem State.queueGroup_mem (s : State) (n : Nat) (exact : Bool) : (s.queueGroup n exact).mem = s.mem := by
  simp [queueGroup]
@[simp] theorem State.ckDurable_mem (s : State) (ckl q : Nat) (w : CkWord) : (s.ckDurable ckl q w).mem = s.mem := by
  simp [ckDurable]
@[simp] theorem State.groupDurable_mem (s : State) (exact : Bool) (ckl q n : Nat) (c : VSlot) :
    (s.groupDurable exact ckl q n c).mem = s.mem := by
  simp [groupDurable]

/-! ### Key slots and the image log -/

@[simp] theorem State.imgKick_mem (s : State) : (s.imgKick).mem = s.mem := by simp [imgKick]
@[simp] theorem State.imgAppend_mem (s : State) (slot : Nat) (body : ImgBody) (who : ImgWait) :
    (s.imgAppend slot body who).mem = s.mem := by
  simp [imgAppend]
@[simp] theorem State.fillSlot_mem (s : State) (j : Job) (n : Nat) (k : KSlot) (data : List Byte) (result detail : Nat)
    :
    (s.fillSlot j n k data result detail).mem = s.mem := by
  unfold fillSlot
  dsimp only
  (repeat' split) <;> simp
@[simp] theorem State.emptySlot_mem (s : State) (j : Job) (n : Nat) (data : List Byte) (result : Nat) :
    (s.emptySlot j n data result).mem = s.mem := by
  unfold emptySlot
  dsimp only
  (repeat' split) <;> simp
@[simp] theorem State.takeInv_mem (s : State) (n : Nat) : (s.takeInv n).1.mem = s.mem := by
  unfold takeInv
  dsimp only
  (repeat' split) <;> simp

/-! ### How a register write is carried out -/

@[simp] theorem State.dbgRefuse_mem (s : State) (a kind : Nat) : (s.dbgRefuse a kind).mem = s.mem := by simp [dbgRefuse]
@[simp] theorem State.refuse_mem (s : State) (rq : Rq) (a db di : Nat) : (s.refuse rq a db di).mem = s.mem := by
  unfold refuse
  split <;> simp
@[simp] theorem State.holdAcc_mem (s : State) (b i : Nat) (x : HeldAcc) : (s.holdAcc b i x).mem = s.mem := by
  simp [holdAcc]
theorem State.barred_mem (s : State) (rq : Rq) (a : Nat) (wr : Bool) {t : State} (ht : s.barred rq a wr = some t) :
    t.mem = s.mem := by
  cases rq with
  | pair p =>
    unfold barred at ht
    dsimp only at ht
    split at ht
    · contradiction
    · obtain rfl := Option.some.inj ht
      exact gateFault_mem ..
  | debug =>
    obtain ⟨k, -, rfl⟩ := Option.map_eq_some_iff.mp ht
    exact dbgRefuse_mem ..
@[simp] theorem State.asWrite_mem (s : State) (rq : Rq) (b i a : Nat) (v : Word) (eff : State → Option State) (heff : ∀
    u t, eff u = some t → t.mem = u.mem) :
    (s.asWrite rq b i a v eff).mem = s.mem := by
  grind [asWrite, barred_mem, refuse_mem, holdAcc_mem]
@[simp] theorem State.asRead_mem (s : State) (rq : Rq) (b i a : Nat) (eff : State → State) (heff : ∀ u, (eff u).mem =
    u.mem) :
    (s.asRead rq b i a eff).mem = s.mem := by
  grind [asRead, barred_mem, holdAcc_mem]

/-! ### Lane states -/

@[simp] theorem State.failAll_mem (s : State) (l : List Job) (status stage cause detail : Nat) :
    (s.failAll l status stage cause detail).mem = s.mem := by
  simp [failAll]
@[simp] theorem State.failInstall_mem (s : State) (d i status stage cause detail : Nat) :
    (s.failInstall d i status stage cause detail).mem = s.mem := by
  simp [failInstall]
@[simp] theorem State.noLanes_mem (s : State) : (s.noLanes).mem = s.mem := by simp [noLanes]
@[simp] theorem State.countPause_mem (s : State) (n : Nat) : (s.countPause n).mem = s.mem := by simp [countPause]
@[simp] theorem State.loadSeed_mem (s : State) (n : Nat) : (s.loadSeed n).mem = s.mem := by simp [loadSeed]
@[simp] theorem State.laneRun_mem (s : State) (n total : Nat) : (s.laneRun n total).1.mem = s.mem := by
  unfold laneRun
  dsimp only
  (repeat' split) <;> simp
@[simp] theorem State.laneDormant_mem (s : State) (n : Nat) : (s.laneDormant n).mem = s.mem := by simp [laneDormant]
@[simp] theorem State.laneStop_mem (s : State) (n cause : Nat) : (s.laneStop n cause).mem = s.mem := by
  grind [laneStop, failJob_mem]
@[simp] theorem State.fenceLane_mem (s : State) (n : Nat) : (s.fenceLane n).mem = s.mem := by simp [fenceLane]
@[simp] theorem State.laneKatFail_mem (s : State) (n : Nat) : (s.laneKatFail n).mem = s.mem := by simp [laneKatFail]

/-! ### Key resolution and the miss park -/

@[simp] theorem State.reserveAhead_mem (s : State) (j : Job) : (s.reserveAhead j).mem = s.mem := by
  grind [reserveAhead, failJob_mem, reserve_mem, modJob_mem]
@[simp] theorem State.makeReady_mem (s : State) (j : Job) : (s.makeReady j).mem = s.mem := by simp [makeReady]
@[simp] theorem State.passKey_mem (s : State) (j : Job) (k : KeyRef) (fill : Option Nat) :
    (s.passKey j k fill).mem = s.mem := by
  unfold passKey
  dsimp only
  (repeat' split) <;> simp
@[simp] theorem State.parkJob_mem (s : State) (j : Job) (i : Nat) : (s.parkJob j i).mem = s.mem := by simp [parkJob]
@[simp] theorem State.countLookup_mem (s : State) (j : Job) (r : Res) : (s.countLookup j r).mem = s.mem := by
  unfold countLookup
  split <;> simp
@[simp] theorem State.resolve_mem (s : State) (j : Job) : (s.resolve j).mem = s.mem := by
  unfold resolve
  dsimp only
  (repeat' split) <;> simp
@[simp] theorem State.unpark_mem (s : State) (d fuel : Nat) : (s.unpark d fuel).mem = s.mem := by
  induction fuel generalizing s with
  | zero => rfl
  | succ fuel ih =>
    unfold unpark
    split
    · rfl
    split
    · rw [ih]
      split
      · split <;> simp
      · rfl
    · rfl
@[simp] theorem State.unparkAll_mem (s : State) (d : Nat) : (s.unparkAll d).mem = s.mem := by simp [unparkAll]

/-! ### Jobs on a lane -/

@[simp] theorem State.chargeLane_mem (s : State) (d tenths : Nat) : (s.chargeLane d tenths).mem = s.mem := by
  simp [chargeLane]
@[simp] theorem State.onLane_mem (s : State) (j : Job) (n blocks tenths : Nat) (k : State → State) (hk : ∀ u, (k u).mem
    = u.mem) :
    (s.onLane j n blocks tenths k).mem = s.mem := by
  simp [onLane, hk]
@[simp] theorem State.commitWait_mem (s : State) (j : Job) (out : List Byte) : (s.commitWait j out).mem = s.mem := by
  unfold commitWait
  split <;> simp
@[simp] theorem State.openCommit_mem (s : State) (j : Job) (c : Ctx) (v : Nat) (out : List Byte) :
    (s.openCommit j c v out).mem = s.mem := by
  grind [openCommit, setVslot_mem, failJob_mem, commitWait_mem, reserve_mem, deliver_mem, count_mem, event_mem]
@[simp] theorem State.recommit_mem (s : State) (j : Job) : (s.recommit j).mem = s.mem := by
  unfold recommit
  split <;> simp
@[simp] theorem State.openFrame_mem (s : State) (j : Job) (c : Ctx) : (s.openFrame j c).mem = s.mem := by
  simp [openFrame]
@[simp] theorem State.sealFrame_mem (s : State) (j : Job) (c : Ctx) : (s.sealFrame j c).mem = s.mem := by
  simp [sealFrame]
@[simp] theorem State.putStream_mem (s : State) (j : Job) (st : Stream) : (s.putStream j st).mem = s.mem := by
  unfold putStream
  split <;> simp
@[simp] theorem State.finishOut_mem (s : State) (j : Job) (data : List Byte) : (s.finishOut j data).mem = s.mem := by
  simp [finishOut]
@[simp] theorem State.postSegments_mem (s : State) (j : Job) (key : List Byte) (n : Nat) :
    (s.postSegments j key n).mem = s.mem := by
  simp [postSegments]
@[simp] theorem State.symJob_mem (s : State) (j : Job) : (s.symJob j).mem = s.mem := by
  unfold symJob
  dsimp only
  (repeat' split) <;> simp
@[simp] theorem State.symCmd_mem (s : State) (id op : Nat) : (s.symCmd id op).mem = s.mem := by
  unfold symCmd
  split <;> simp
@[simp] theorem State.streamSave_mem (s : State) (j : Job) : (s.streamSave j).mem = s.mem := by simp [streamSave]
@[simp] theorem State.streamRestore_mem (s : State) (j : Job) : (s.streamRestore j).mem = s.mem := by
  unfold streamRestore
  dsimp only
  (repeat' split) <;> simp
@[simp] theorem State.wrapJob_mem (s : State) (j : Job) : (s.wrapJob j).mem = s.mem := by simp [wrapJob]
@[simp] theorem State.unwrapJob_mem (s : State) (j : Job) : (s.unwrapJob j).mem = s.mem := by
  unfold unwrapJob
  dsimp only
  (repeat' split) <;> simp
@[simp] theorem State.deriveJob_mem (s : State) (j : Job) : (s.deriveJob j).mem = s.mem := by simp [deriveJob]
@[simp] theorem State.unwrapLane_mem (s : State) (job : Nat) : (s.unwrapLane job).mem = s.mem := by
  unfold unwrapLane
  split <;> simp

/-! ### Installs, enrolment and vault events -/

@[simp] theorem State.modInstall_mem (s : State) (d i : Nat) (f : Install → Install) :
    (s.modInstall d i f).mem = s.mem := by
  simp [modInstall]
@[simp] theorem State.endInstall_mem (s : State) (d i status stage cause detail : Nat) :
    (s.endInstall d i status stage cause detail).mem = s.mem := by
  simp [endInstall]
@[simp] theorem State.endWaiters_mem (s : State) (p : Job → Bool) (stage cause : Nat) :
    (s.endWaiters p stage cause).mem = s.mem := by
  simp [endWaiters]
@[simp] theorem State.wakeLane_mem (s : State) : (s.wakeLane).mem = s.mem := by
  unfold wakeLane
  dsimp only
  (repeat' split) <;> simp
@[simp] theorem State.unparkHit_mem (s : State) (c : Ctx) (j : Job) : (s.unparkHit c j).mem = s.mem := by
  simp [unparkHit]
@[simp] theorem State.placeCtx_mem (s : State) (c : Ctx) : (s.placeCtx c).mem = s.mem := by
  unfold placeCtx
  dsimp only
  (repeat' split) <;> simp
@[simp] theorem State.judgeInstall_mem (s : State) (d i : Nat) (rec : List Byte) :
    (s.judgeInstall d i rec).mem = s.mem := by
  unfold judgeInstall
  dsimp only
  (repeat' split) <;> simp
@[simp] theorem State.evictIdx_mem (s : State) (d i : Nat) : (s.evictIdx d i).mem = s.mem := by simp [evictIdx]
@[simp] theorem State.groupWrite_mem (s : State) (j : Job) (n : Nat) (x : VSlot) (out : List Byte) (result detail : Nat)
    :
    (s.groupWrite j n x out result detail).mem = s.mem := by
  unfold groupWrite
  dsimp only
  (repeat' split) <;> simp
@[simp] theorem State.enrolNew_mem (s : State) (j : Job) : (s.enrolNew j).mem = s.mem := by simp [enrolNew]
@[simp] theorem State.enrolRewrap_mem (s : State) (j : Job) : (s.enrolRewrap j).mem = s.mem := by
  unfold enrolRewrap
  dsimp only
  (repeat' split) <;> simp
@[simp] theorem State.flushDo_mem (s : State) (j : Job) (l : List Ctx) : (s.flushDo j l).mem = s.mem := by
  simp [flushDo]
@[simp] theorem State.bindNow_mem (s : State) (j : Job) : (s.bindNow j).mem = s.mem := by simp [bindNow]
@[simp] theorem State.pageJob_mem (s : State) (id : Nat) (l : List (Nat × VSlot)) : (s.pageJob id l).mem = s.mem := by
  unfold pageJob
  dsimp only
  (repeat' split) <;> simp
@[simp] theorem State.ckptRetry_mem (s : State) : (s.ckptRetry).mem = s.mem := by
  refine mem_foldl _ (fun s j => ?_) _ s
  dsimp only
  (repeat' split) <;> simp
@[simp] theorem State.compact_mem (s : State) : (s.compact).mem = s.mem := by simp [compact]
@[simp] theorem State.closeVault_mem (s : State) : (s.closeVault).mem = s.mem := by simp [closeVault]
theorem State.ctxCtrlWrite_mem (s : State) (v : Word) {t : State} (ht : s.ctxCtrlWrite v = some t) : t.mem = s.mem := by
  grind [ctxCtrlWrite, queuePage_mem, closeVault_mem]
theorem State.ctxCfgWrite_mem (s : State) (v : Word) {t : State} (ht : s.ctxCfgWrite v = some t) : t.mem = s.mem := by
  grind [ctxCfgWrite, setReg_mem, flushLog_mem]
theorem State.rangeWrite_mem (s : State) (d : Nat) (cnt : Bool) (v : Word) {t : State} (ht : s.rangeWrite d cnt v = some
    t) :
    t.mem = s.mem := by
  grind [rangeWrite, setReg_mem, queuePage_mem]

/-! ### The Crucible -/

@[simp] theorem State.unitResult_mem (s : State) (u : Nat) (o : COut) (check bad : Bool) :
    (s.unitResult u o check bad).mem = s.mem := by
  simp [unitResult]
@[simp] theorem State.drawUnit_mem (s : State) (k : List Byte → State → State) (hk : ∀ x u, (k x u).mem = u.mem) :
    (s.drawUnit k).mem = s.mem := by
  simp [drawUnit, hk]
@[simp] theorem State.ticketRefuse_mem (s : State) (result : Nat) : (s.ticketRefuse result).mem = s.mem := by
  simp [ticketRefuse]
@[simp] theorem State.fwNext_mem (s : State) (id : Nat) : (s.fwNext id).mem = s.mem := by grind [fwNext]
@[simp] theorem State.ticketChecked_mem (s : State) (j : Job) (status : Nat) :
    (s.ticketChecked j status).mem = s.mem := by
  unfold ticketChecked
  split <;> simp
@[simp] theorem State.fwEnd_mem (s : State) (j : Job) (status cause result : Nat) :
    (s.fwEnd j status cause result).mem = s.mem := by
  unfold fwEnd
  dsimp only
  (repeat' split) <;> simp
@[simp] theorem State.fwFail_mem (s : State) (j : Job) (status stage cause : Nat) :
    (s.fwFail j status stage cause).mem = s.mem := by
  simp [fwFail]
@[simp] theorem State.fwRefused_mem (s : State) (j : Job) (a elem : Nat) : (s.fwRefused j a elem).mem = s.mem := by
  simp [fwRefused]
@[simp] theorem State.cruFail_mem (s : State) (fw : Bool) (j : Job) (status stage cause detail : Nat) :
    (s.cruFail fw j status stage cause detail).mem = s.mem := by
  simp [cruFail]
@[simp] theorem State.noUnits_mem (s : State) : (s.noUnits).mem = s.mem := by
  unfold noUnits
  dsimp only
  (repeat' split) <;> simp
@[simp] theorem State.reserveUnit_mem (s : State) (u : Nat) (fw : Bool) (j : Job) :
    (s.reserveUnit u fw j).mem = s.mem := by
  unfold reserveUnit
  dsimp only
  (repeat' split) <;> simp
@[simp] theorem State.freeUnit_mem (s : State) (u : Nat) (st : UnitSt) : (s.freeUnit u st).mem = s.mem := by
  simp [freeUnit]
@[simp] theorem State.cruAbort_mem (s : State) (u status cause detail : Nat) :
    (s.cruAbort u status cause detail).mem = s.mem := by
  unfold cruAbort
  split <;> simp
@[simp] theorem State.fenceUnit_mem (s : State) (u : Nat) : (s.fenceUnit u).mem = s.mem := by
  unfold fenceUnit
  dsimp only
  (repeat' split) <;> simp
@[simp] theorem State.unitKatFail_mem (s : State) (u cls : Nat) : (s.unitKatFail u cls).mem = s.mem := by
  simp [unitKatFail]
theorem State.uctrlWrite_mem (s : State) (u : Nat) (v : Word) {t : State} (ht : s.uctrlWrite u v = some t) :
    t.mem = s.mem := by
  grind [uctrlWrite, modUnit_mem]
@[simp] theorem State.portGo_mem (s : State) (bank : Bool) : (s.portGo bank).mem = s.mem := by
  unfold portGo
  dsimp only
  (repeat' split) <;> simp
theorem State.fwCmdWrite_mem (s : State) (rq : Rq) (v : Word) {t : State} (ht : s.fwCmdWrite rq v = some t) :
    t.mem = s.mem := by
  grind [fwCmdWrite, setReg_mem, portGo_mem]

/-! ### Random numbers -/

theorem State.takeWords_mem (s : State) (n inst : Nat) {t : State} (ht : s.takeWords n inst = some t) :
    t.mem = s.mem := by
  grind [takeWords]
theorem State.hostWords_mem (s : State) (n d : Nat) {t : State} (ht : s.hostWords n d = some t) : t.mem = s.mem := by
  grind [hostWords, takeWords_mem]
@[simp] theorem State.uninstantiate_mem (s : State) (d : Nat) : (s.uninstantiate d).mem = s.mem := by
  simp [uninstantiate]
@[simp] theorem State.drawBytes_mem (s : State) (n : Nat) (k : List Byte → State → State) (hk : ∀ x u, (k x u).mem =
    u.mem) :
    (s.drawBytes n k).mem = s.mem := by
  simp [drawBytes, hk]
@[simp] theorem State.generate_mem (s : State) (j : Job) : (s.generate j).mem = s.mem := by simp [generate]
@[simp] theorem State.seeded_mem (s : State) (d : Nat) : (s.seeded d).mem = s.mem := by simp [seeded]
theorem State.rngTry_mem (s : State) (j : Job) {t : State} (ht : s.rngTry j = some t) : t.mem = s.mem := by
  have hwords {n : Nat} {k : State → State} (u : State) (hk : ∀ v, (k v).mem = v.mem)
      (h : (u.hostWords n j.dom).map k = some t) : t.mem = u.mem := by
    obtain ⟨v, hv, rfl⟩ := Option.map_eq_some_iff.mp h
    rw [hk, hostWords_mem _ _ _ hv]
  unfold rngTry at ht
  dsimp only at ht
  split at ht
  · rw [← Option.some.inj ht, failJob_mem]
  split at ht
  · rw [hwords _ (by simp) ht]
    split <;> simp
  split at ht
  · rw [← Option.some.inj ht, failJob_mem]
  split at ht
  · exact hwords _ (by simp) ht
  split at ht
  · exact hwords _ (by simp) ht
  · rw [← Option.some.inj ht, generate_mem]
@[simp] theorem State.rngWait_mem (s : State) (j : Job) : (s.rngWait j).mem = s.mem := by simp [rngWait]
@[simp] theorem State.waitEnds_mem (s : State) : (s.waitEnds).mem = s.mem := by simp [waitEnds]
@[simp] theorem State.rngServe_mem (s : State) (fuel : Nat) : (s.rngServe fuel).mem = s.mem := by
  induction fuel generalizing s with
  | zero => rfl
  | succ fuel ih =>
    unfold rngServe
    split
    · rfl
    next id q _ =>
      dsimp only
      (repeat' split) <;> simp [ih]
      next ht => exact rngTry_mem _ _ ht
@[simp] theorem State.rngDrain_mem (s : State) : (s.rngDrain).mem = s.mem := by simp [rngDrain]
@[simp] theorem State.rngJob_mem (s : State) (j : Job) : (s.rngJob j).mem = s.mem := by
  grind [rngJob, rngWait_mem, rngTry_mem]
@[simp] theorem State.cruMaterial_mem (s : State) : (s.cruMaterial).mem = s.mem := by
  unfold cruMaterial
  dsimp only
  (repeat' split) <;> simp
@[simp] theorem State.dropMaterial_mem (s : State) (u : Nat) : (s.dropMaterial u).mem = s.mem := by
  unfold dropMaterial
  split <;> simp
@[simp] theorem State.laneSeedLost_mem (s : State) (n : Nat) : (s.laneSeedLost n).mem = s.mem := by
  unfold laneSeedLost
  split <;> simp
@[simp] theorem State.rngFailed_mem (s : State) : (s.rngFailed).mem = s.mem := by simp [rngFailed]
@[simp] theorem State.srcFail_mem (s : State) (n test : Nat) : (s.srcFail n test).mem = s.mem := by simp [srcFail]
@[simp] theorem State.rngCut_mem (s : State) (n first : Nat) : (s.rngCut n first).mem = s.mem := by simp [rngCut]
@[simp] theorem State.rngStart_mem (s : State) : (s.rngStart).mem = s.mem := by simp [rngStart]
@[simp] theorem State.rngSoftReset_mem (s : State) : (s.rngSoftReset).mem = s.mem := by simp [rngSoftReset]
@[simp] theorem State.reseedInternal_mem (s : State) : (s.reseedInternal).mem = s.mem := by
  grind [reseedInternal, takeWords_mem]
@[simp] theorem State.fwrndRead_mem (s : State) : (s.fwrndRead).mem = s.mem := by simp [fwrndRead]
@[simp] theorem State.capAdvance_mem (s : State) : (s.capAdvance).mem = s.mem := by simp [capAdvance]
theorem State.captWrite_mem (s : State) (v : Word) {t : State} (ht : s.captWrite v = some t) : t.mem = s.mem := by
  grind [captWrite, setReg_mem, setSrc_mem, capAdvance_mem]

/-! ### Key-store commands and image records -/

@[simp] theorem State.faultFree_mem (s : State) (b i kind : Nat) : (s.faultFree b i kind).mem = s.mem := by
  simp [faultFree]
@[simp] theorem State.kstFwEnd_mem (s : State) (cause : Nat) : (s.kstFwEnd cause).mem = s.mem := by simp [kstFwEnd]
@[simp] theorem State.kstFwChange_mem (s : State) (n : Nat) (old new : KSlot) (body : ImgBody) :
    (s.kstFwChange n old new body).mem = s.mem := by
  simp [kstFwChange]
@[simp] theorem State.kstGenerate_mem (s : State) (n typ : Nat) : (s.kstGenerate n typ).mem = s.mem := by
  simp [kstGenerate]
@[simp] theorem State.kstSetShare_mem (s : State) (n : Nat) : (s.kstSetShare n).mem = s.mem := by simp [kstSetShare]
@[simp] theorem State.kstNarrow_mem (s : State) (n : Nat) : (s.kstNarrow n).mem = s.mem := by simp [kstNarrow]
@[simp] theorem State.kstErase_mem (s : State) (n : Nat) : (s.kstErase n).mem = s.mem := by simp [kstErase]
theorem State.kstFwWrite_mem (s : State) (v : Word) {t : State} (ht : s.kstFwWrite v = some t) : t.mem = s.mem := by
  grind [kstFwWrite, setReg_mem, kstFwEnd_mem, kstGenerate_mem, kstNarrow_mem, kstErase_mem, kstSetShare_mem]
@[simp] theorem State.imgFresh_mem (s : State) (r : ImgRec) : (s.imgFresh r).mem = s.mem := by
  unfold imgFresh
  split <;> simp
@[simp] theorem State.imgCompact_mem (s : State) : (s.imgCompact).mem = s.mem := by
  unfold imgCompact
  (repeat' split) <;> simp
@[simp] theorem State.imgSettle_mem (s : State) (r : ImgRec) : (s.imgSettle r).mem = s.mem := by
  unfold imgSettle
  split <;> simp
@[simp] theorem State.imgStalled_mem (s : State) (r : ImgRec) : (s.imgStalled r).mem = s.mem := by
  unfold imgStalled
  dsimp only
  (repeat' split) <;> simp

/-! ### Admission -/

@[simp] theorem State.windowStage_mem (s : State) (j : Job) : (s.windowStage j).mem = s.mem := by
  unfold windowStage
  dsimp only
  (repeat' split) <;> simp
@[simp] theorem State.passAdmission_mem (s : State) (j : Job) : (s.passAdmission j).mem = s.mem := by
  unfold passAdmission
  split <;> simp

/-! ### Rings and dispatch -/

@[simp] theorem State.hostRefuse_mem (s : State) (p bar off : Nat) (ca : Bool) :
    (s.hostRefuse p bar off ca).mem = s.mem := by
  simp [hostRefuse]
@[simp] theorem State.door_mem (s : State) (p q o : Nat) (k : State → State) (hk : ∀ u, (k u).mem = u.mem) :
    (s.door p q o k).mem = s.mem := by
  simp [door, hk]
@[simp] theorem State.discard_mem (s : State) (p q o : Nat) : (s.discard p q o).mem = s.mem := by
  unfold discard
  dsimp only
  (repeat' split) <;> simp
@[simp] theorem State.sqTail_mem (s : State) (p q : Nat) (v : Word) : (s.sqTail p q v).mem = s.mem := by simp [sqTail]
@[simp] theorem State.cqHint_mem (s : State) (p q : Nat) (v : Word) : (s.cqHint p q v).mem = s.mem := by simp [cqHint]
@[simp] theorem State.pushOne_mem (s : State) (p q : Nat) (e : List Byte) : (s.pushOne p q e).mem = s.mem := by
  simp [pushOne]
@[simp] theorem State.push_mem (s : State) (p q : Nat) (es : List (List Byte)) (o : Nat) :
    (s.push p q es o).mem = s.mem := by
  simp [push]
@[simp] theorem State.newJob_mem (s : State) (q : Nat) (es : List (List Byte)) (ordr : Bool) :
    (s.newJob q es ordr).2.mem = s.mem := by
  simp [newJob]
@[simp] theorem State.badChain_mem (s : State) (q : Nat) (es : List (List Byte)) (ordr : Bool) (status cause entry :
    Nat) :
    (s.badChain q es ordr status cause entry).mem = s.mem := by
  simp [badChain]
@[simp] theorem State.takeJob_mem (s : State) (q : Nat) (es : List (List Byte)) : (s.takeJob q es).mem = s.mem := by
  simp [takeJob]
@[simp] theorem State.chainStep_mem (s : State) (q : Nat) (e : List Byte) (own : Bool) :
    (s.chainStep q e own).mem = s.mem := by
  simp [chainStep]
@[simp] theorem State.sqFault_mem (s : State) (q status cause slot a : Nat) :
    (s.sqFault q status cause slot a).mem = s.mem := by
  simp [sqFault]
@[simp] theorem State.takeOne_mem (s : State) (q : Nat) (e : List Byte) : (s.takeOne q e).mem = s.mem := by
  simp [takeOne]
@[simp] theorem State.takeEnt_mem (s : State) (q : Nat) (e : List Byte) (own : Bool) :
    (s.takeEnt q e own).mem = s.mem := by
  simp [takeEnt]
@[simp] theorem State.settleFetch_mem (s : State) (q : Nat) : (s.settleFetch q).mem = s.mem := by
  unfold settleFetch
  split <;> simp
@[simp] theorem State.takeRun_mem (s : State) (q : Nat) (l : List Ent) : (s.takeRun q l).1.mem = s.mem := by
  induction l generalizing s with
  | nil => rfl
  | cons e l ih =>
    unfold takeRun
    dsimp only
    (repeat' split) <;> simp [ih]
@[simp] theorem State.takeAll_mem (s : State) (q : Nat) (l : List Ent) : (s.takeAll q l).mem = s.mem := by
  simp [takeAll]
@[simp] theorem State.takeInline_mem (s : State) (q fuel : Nat) : (s.takeInline q fuel).mem = s.mem := by
  induction fuel generalizing s with
  | zero => rfl
  | succ fuel ih =>
    unfold takeInline
    dsimp only
    (repeat' split) <;> simp [ih]
@[simp] theorem State.issueFetch_mem (s : State) (q : Nat) : (s.issueFetch q).mem = s.mem := by simp [issueFetch]
@[simp] theorem State.fetchTurn_mem (s : State) (p : Nat) : (s.fetchTurn p).mem = s.mem := by
  unfold fetchTurn
  dsimp only
  (repeat' split) <;> simp
@[simp] theorem State.entriesIn_mem (s : State) (q : Nat) (ents : List (List Byte)) (fail : Option Nat) :
    (s.entriesIn q ents fail).mem = s.mem := by
  unfold entriesIn
  split <;> simp
@[simp] theorem State.inputIn_mem (s : State) (j : Job) (d : List Byte) : (s.inputIn j d).mem = s.mem := by
  simp [inputIn]
@[simp] theorem State.inputFail_mem (s : State) (j : Job) (off k : Nat) : (s.inputFail j off k).mem = s.mem := by
  simp [inputFail]
theorem State.pickJob_mem (s : State) (kind : Nat) {t : Job × State} (ht : s.pickJob kind = some t) :
    t.2.mem = s.mem := by
  simp only [pickJob] at ht
  grind []
@[simp] theorem State.takeValues_mem (s : State) (j : Job) : (s.takeValues j).1.mem = s.mem := by
  grind [takeValues, setVslot_mem, failJob_mem, reserve_mem, modJob_mem, takeInv_mem, count_mem, event_mem]
@[simp] theorem State.toLane_mem (s : State) (j : Job) (n : Nat) : (s.toLane j n).mem = s.mem := by
  grind [toLane, failJob_mem, modLane_mem, modJob_mem, takeValues_mem]
@[simp] theorem State.laneDispatch_mem (s : State) : (s.laneDispatch).mem = s.mem := by
  unfold laneDispatch
  (repeat' split) <;> simp [*]
  next h => exact pickJob_mem _ _ h
@[simp] theorem State.nextSegment_mem (s : State) (n : Nat) : (s.nextSegment n).mem = s.mem := by
  unfold nextSegment
  dsimp only
  (repeat' split) <;> simp
@[simp] theorem State.cruDispatch_mem (s : State) : (s.cruDispatch).mem = s.mem := by
  unfold cruDispatch
  dsimp only
  (repeat' split) <;> simp
  all_goals exact pickJob_mem _ _ ‹_›
@[simp] theorem State.creditStep_mem (s : State) : (s.creditStep).mem = s.mem := by
  unfold creditStep
  dsimp only
  rw [mem_foldl _ fun _ _ => by rfl, mem_foldl _ fun _ _ => by rfl]
@[simp] theorem State.cqFault_mem (s : State) (q slot status : Nat) : (s.cqFault q slot status).mem = s.mem := by
  simp [cqFault]
@[simp] theorem State.readAheadGo_mem (s : State) (q : Nat) : (s.readAheadGo q).mem = s.mem := by
  unfold readAheadGo
  dsimp only
  (repeat' split) <;> simp
@[simp] theorem State.readAheadDone_mem (s : State) (q : Nat) (owns : List Bool) :
    (s.readAheadDone q owns).mem = s.mem := by
  unfold readAheadDone
  dsimp only
  (repeat' split) <;> simp

/-! ### Admin commands -/

@[simp] theorem State.adminRun_mem (s : State) (id op : Nat) (k : State → Job → State) (hk : ∀ u x, (k u x).mem = u.mem)
    :
    (s.adminRun id op k).mem = s.mem := by
  unfold adminRun
  dsimp only
  (repeat' split) <;> simp [hk]
@[simp] theorem State.createQp_mem (s : State) (j : Job) : (s.createQp j).mem = s.mem := by simp [createQp]
@[simp] theorem State.endJob_mem (s : State) (j : Job) (status cause stage : Nat) :
    (s.endJob j status cause stage).mem = s.mem := by
  grind [endJob, failQuiet_mem, cruAbort_mem, freeUnit_mem]
@[simp] theorem State.endAll_mem (s : State) (q : Nat) : (s.endAll q).mem = s.mem := by simp [endAll]
@[simp] theorem State.endChain_mem (s : State) (q : Nat) : (s.endChain q).mem = s.mem := by simp [endChain]
@[simp] theorem State.destroyStart_mem (s : State) (j : Job) (q : Nat) : (s.destroyStart j q).mem = s.mem := by
  simp [destroyStart]
@[simp] theorem State.destroyEnd_mem (s : State) (j : Job) (q : Nat) : (s.destroyEnd j q).mem = s.mem := by
  simp [destroyEnd]
@[simp] theorem State.destroyStep_mem (s : State) (j : Job) (q : Nat) : (s.destroyStep j q).mem = s.mem := by
  simp [destroyStep]
@[simp] theorem State.destroyOn_mem (s : State) (q : Nat) : (s.destroyOn q).mem = s.mem := by
  unfold destroyOn
  split <;> simp
@[simp] theorem State.unbind_mem (s : State) (j : Job) : (s.unbind j).mem = s.mem := by simp [unbind]
@[simp] theorem State.bindTable_mem (s : State) (j : Job) : (s.bindTable j).mem = s.mem := by
  unfold bindTable
  dsimp only
  (repeat' split) <;> simp
@[simp] theorem State.setWindow_mem (s : State) (j : Job) : (s.setWindow j).mem = s.mem := by simp [setWindow]
@[simp] theorem State.setShare_mem (s : State) (j : Job) : (s.setShare j).mem = s.mem := by simp [setShare]
@[simp] theorem State.getFaults_mem (s : State) (j : Job) : (s.getFaults j).mem = s.mem := by
  unfold getFaults
  dsimp only
  (repeat' split) <;> simp

/-! ### One instruction -/

@[simp] theorem State.retire_mem (s : State) (p : Nat) (pc' : Word) : (s.retire p pc').mem = s.mem := by simp [retire]
@[simp] theorem State.finish_mem (s : State) (p : Nat) (f : KPair → KPair) : (s.finish p f).mem = s.mem := by
  simp [finish]
@[simp] theorem State.instr_mem (s : State) (p : Nat) (c : Cond) (first : Bool) (body : State → State) (hbody : ∀ u,
    (body u).mem = u.mem) :
    (s.instr p c first body).mem = s.mem := by
  simp [instr, hbody]
@[simp] theorem State.arith_mem (s : State) (p cause : Nat) (f : KPair → KPair) : (s.arith p cause f).mem = s.mem := by
  simp [arith]
@[simp] theorem State.startPair_mem (s : State) (p role : Nat) (takeover : Bool) :
    (s.startPair p role takeover).mem = s.mem := by
  simp [startPair]

/-! ### Arithmetic and logic -/

@[simp] theorem aluOp_mem (s : State) (p : Pair) (c : Cond) (sf : Bool) (rd : GReg) (f : KPair → Word × NZCV) :
    (aluOp p c sf rd f s).mem = s.mem := by
  simp [aluOp]
@[simp] theorem cmpOp_mem (s : State) (p : Pair) (c : Cond) (f : KPair → NZCV) : (cmpOp p c f s).mem = s.mem := by
  simp [cmpOp]
@[simp] theorem ovfOp_mem (s : State) (p : Pair) (c : Cond) (sf : Bool) (rd : GReg) (f : KPair → Word × NZCV) :
    (ovfOp p c sf rd f s).mem = s.mem := by
  simp [ovfOp]
@[simp] theorem mulOp_mem (s : State) (p : Pair) (c : Cond) (f : KPair → BitVec 64) : (mulOp p c f s).mem = s.mem := by
  simp [mulOp]
@[simp] theorem divOp_mem (s : State) (p : Pair) (c : Cond) (res : KPair → Word × Word) (bad : KPair → Nat) :
    (divOp p c res bad s).mem = s.mem := by
  simp [divOp]

/-! ### Control flow and special registers -/

@[simp] theorem callOp_mem (s : State) (p : Pair) (c : Cond) (target : KPair → Word) :
    (callOp p c target s).mem = s.mem := by
  simp [callOp]
@[simp] theorem mtsOp_mem (s : State) (p : Pair) (c : Cond) (sr : Nat) (v : KPair → Word) :
    (mtsOp p c sr v s).mem = s.mem := by
  unfold mtsOp
  split <;> simp

/-! ### The record ring and open faults -/

@[simp] theorem State.setOpenF_mem (s : State) (i : Nat) (f : OpenF) : (s.setOpenF i f).mem = s.mem := by
  simp [setOpenF]
@[simp] theorem State.newFault_mem (s : State) : (s.newFault).mem = s.mem := by simp [newFault]
@[simp] theorem State.openOrJoin_mem (s : State) (m : Msg) (seq : Nat) : (s.openOrJoin m seq).mem = s.mem := by
  unfold openOrJoin
  dsimp only
  (repeat' split) <;> simp
@[simp] theorem State.auditKick_mem (s : State) : (s.auditKick).mem = s.mem := by simp [auditKick]
@[simp] theorem State.auditFlush_mem (s : State) : (s.auditFlush).mem = s.mem := by simp [auditFlush]
@[simp] theorem State.mirror_mem (s : State) (r : SRec) : (s.mirror r).mem = s.mem := by simp [mirror]
@[simp] theorem State.ringDrop_mem (s : State) : (s.ringDrop).mem = s.mem := by simp [ringDrop]
@[simp] theorem State.viewAdd_mem (s : State) (r : SRec) (d : Nat) : (s.viewAdd r d).mem = s.mem := by simp [viewAdd]
@[simp] theorem State.newRecord_mem (s : State) (m : Msg) : (s.newRecord m).mem = s.mem := by simp [newRecord]
@[simp] theorem State.lossRecord_mem (s : State) (m : Msg) : (s.lossRecord m).mem = s.mem := by simp [lossRecord]
@[simp] theorem State.takeMsg_mem (s : State) (m : Msg) (ms : Nat) : (s.takeMsg m ms).mem = s.mem := by simp [takeMsg]

/-! ### Changes of mode -/

@[simp] theorem State.tagUnkey_mem (s : State) : (s.tagUnkey).mem = s.mem := by simp [tagUnkey]
@[simp] theorem State.tagIdle_mem (s : State) : (s.tagIdle).mem = s.mem := by simp [tagIdle]
@[simp] theorem State.tagApp_mem (s : State) (old new : Mode) : (s.tagApp old new).mem = s.mem := by simp [tagApp]
@[simp] theorem State.ccDeact_mem (s : State) (i : Nat) : (s.ccDeact i).mem = s.mem := by simp [ccDeact]
@[simp] theorem State.custEnd_mem (s : State) (status cause : Nat) : (s.custEnd status cause).mem = s.mem := by
  simp [custEnd]
@[simp] theorem State.cerEnd_mem (s : State) (st fail : Nat) : (s.cerEnd st fail).mem = s.mem := by simp [cerEnd]
@[simp] theorem State.injEnd_mem (s : State) (result : Nat) : (s.injEnd result).mem = s.mem := by simp [injEnd]
@[simp] theorem State.cerFail_mem (s : State) (fail : Nat) : (s.cerFail fail).mem = s.mem := by simp [cerFail]
@[simp] theorem State.ticketEnd_mem (s : State) (code : Nat) : (s.ticketEnd code).mem = s.mem := by
  have hrun (u : State) : ((List.range 3).foldl (fun s p =>
      s.modPair p (fun k => { k with run := if k.run = .debugHalt then .running else k.run })) u).mem = u.mem :=
    mem_foldl _ (fun _ _ => by rfl) _ u
  unfold ticketEnd
  dsimp only
  (repeat' split) <;> simp only [event_mem, fault_mem, hrun]
@[simp] theorem State.dbgModeEnd_mem (s : State) : (s.dbgModeEnd).mem = s.mem := by simp [dbgModeEnd]
@[simp] theorem State.withdraw_mem (s : State) (what : Purpose) : (s.withdraw what).mem = s.mem := by simp [withdraw]
@[simp] theorem State.quenchImage_mem (s : State) : (s.quenchImage).mem = s.mem := by simp [quenchImage]
@[simp] theorem State.quench_mem (s : State) (kbb : Bool) : (s.quench kbb).mem = s.mem := by simp [quench]
@[simp] theorem State.lockJob_mem (s : State) (id : Nat) : (s.lockJob id).mem = s.mem := by
  unfold lockJob
  dsimp only
  (repeat' split) <;> simp
@[simp] theorem State.lockPort_mem (s : State) : (s.lockPort).mem = s.mem := by
  unfold lockPort
  dsimp only
  (repeat' split) <;> simp
@[simp] theorem State.stopFetch_mem (s : State) : (s.stopFetch).mem = s.mem := by simp [stopFetch]
@[simp] theorem State.gateEng_mem (s : State) : (s.gateEng).mem = s.mem := by simp [gateEng]

/-! ### Skimmer and Riser commands -/

@[simp] theorem State.fenceOff_mem (s : State) (pool n : Nat) : (s.fenceOff pool n).mem = s.mem := by simp [fenceOff]
@[simp] theorem State.fence_mem (s : State) (pool n : Nat) (kind : Option Nat) : (s.fence pool n kind).mem = s.mem := by
  simp [fence]
@[simp] theorem State.fenceFor_mem (s : State) (m : Msg) : (s.fenceFor m).mem = s.mem := by simp [fenceFor]
@[simp] theorem State.fenceWrite_mem (s : State) (b i : Nat) (v : Word) : (s.fenceWrite b i v).mem = s.mem := by
  simp [fenceWrite]
@[simp] theorem State.auditCompact_mem (s : State) : (s.auditCompact).mem = s.mem := by simp [auditCompact]
@[simp] theorem State.clearOne_mem (s : State) (i : Nat) : (s.clearOne i).mem = s.mem := by simp [clearOne]
theorem State.clrWrite_mem (s : State) (v : Word) {t : State} (ht : s.clrWrite v = some t) : t.mem = s.mem := by
  unfold clrWrite at ht
  split at ht
  · contradiction
  · obtain rfl := Option.some.inj ht
    split
    · exact mem_foldl _ (fun s n => clearOne_mem s n) _ _
    · exact clearOne_mem ..
@[simp] theorem State.risMsg_mem (s : State) (kind pool unit n : Nat) : (s.risMsg kind pool unit n).mem = s.mem := by
  simp [risMsg]
@[simp] theorem State.exhausted_mem (s : State) (pool unit : Nat) : (s.exhausted pool unit).mem = s.mem := by
  simp [exhausted]
@[simp] theorem State.spareIn_mem (s : State) (pool unit : Nat) : (s.spareIn pool unit).mem = s.mem := by simp [spareIn]
@[simp] theorem State.wakeSpare_mem (s : State) (n : Nat) : (s.wakeSpare n).mem = s.mem := by simp [wakeSpare]
@[simp] theorem State.bringIn_mem (s : State) (pool unit n : Nat) : (s.bringIn pool unit n).mem = s.mem := by
  simp [bringIn]
@[simp] theorem State.substitute_mem (s : State) (p : Nat) : (s.substitute p).mem = s.mem := by
  unfold substitute
  dsimp only
  rw [mem_foldl _ fun u x => ?due, mem_foldl _ fun u x => ?wake]
  · simp
  case due => split <;> simp
  case wake => split <;> simp

/-! ### The flash controller -/

@[simp] theorem State.flcSuspend_mem (s : State) (susp resm : Bool) : (s.flcSuspend susp resm).mem = s.mem := by
  unfold flcSuspend
  dsimp only
  (repeat' split) <;> simp
theorem State.flcCmdWrite_mem (s : State) (v : Word) {t : State} (ht : s.flcCmdWrite v = some t) : t.mem = s.mem := by
  grind [flcCmdWrite, setReg_mem, flcEnd_mem, flcSuspend_mem, flashNext_mem]
@[simp] theorem State.weaken_mem (s : State) (b n a : Nat) : (s.weaken b n a).mem = s.mem := by simp [weaken]
@[simp] theorem State.remap_mem (s : State) (b n : Nat) : (s.remap b n).mem = s.mem := by simp [remap]
@[simp] theorem State.untear_mem (s : State) (b n : Nat) : (s.untear b n).mem = s.mem := by simp [untear]
@[simp] theorem State.tear_mem (s : State) (b n : Nat) : (s.tear b n).mem = s.mem := by simp [tear]
@[simp] theorem State.flcRes_mem (s : State) (pulses off : Nat) : (s.flcRes pulses off).mem = s.mem := setReg_mem ..
@[simp] theorem State.suspend_mem (s : State) (b : Nat) (what : Purpose) (how : Nat) :
    (s.suspend b what how).mem = s.mem := by
  simp [suspend]
@[simp] theorem State.healAll_mem (s : State) : (s.healAll).mem = s.mem := by simp [healAll]
theorem State.flcCfgWrite_mem (s : State) (v : Word) {t : State} (ht : s.flcCfgWrite v = some t) : t.mem = s.mem := by
  grind [flcCfgWrite, healAll_mem, setReg_mem]

/-! ### The tag store -/

@[simp] theorem State.answer_mem (s : State) (sw : Nat) (data : List Byte) : (s.answer sw data).mem = s.mem := by
  simp [answer]
@[simp] theorem State.sendFrame_mem (s : State) (f : List Byte) : (s.sendFrame f).mem = s.mem := by simp [sendFrame]
@[simp] theorem State.tagEvent_mem (s : State) (n : Nat) : (s.tagEvent n).mem = s.mem := by simp [tagEvent]
@[simp] theorem State.credEnd_mem (s : State) (result : Nat) : (s.credEnd result).mem = s.mem := by
  rw [credEnd, event_mem, setReg_mem]
@[simp] theorem State.hostWriteEnd_mem (s : State) (j : Job) : (s.hostWriteEnd j).mem = s.mem := by simp [hostWriteEnd]
@[simp] theorem State.afterCommit_mem (s : State) (w : TagWho) : (s.afterCommit w).1.mem = s.mem := by
  unfold afterCommit
  dsimp only
  (repeat' split) <;> simp
@[simp] theorem State.startCommit_mem (s : State) (w : TagWho) (recs : List (Nat × List Byte)) :
    (s.startCommit w recs).mem = s.mem := by
  simp [startCommit]
@[simp] theorem State.auth1_mem (s : State) (k : List Byte) : (s.auth1 k).mem = s.mem := by simp [auth1]
@[simp] theorem State.auth2_mem (s : State) (k b d : List Byte) : (s.auth2 k b d).mem = s.mem := by simp [auth2]
@[simp] theorem State.apduDo_mem (s : State) (a : Apdu) : (s.apduDo a).mem = s.mem := by
  unfold apduDo
  simp only [mem_ite, count_mem, tagUnkey_mem, answer_mem, startCommit_mem, rtcNow_mem, implies_true, ite_self]
  (repeat' split) <;> simp
@[simp] theorem State.apduRun_mem (s : State) (a : Apdu) : (s.apduRun a).mem = s.mem := by
  unfold apduRun
  dsimp only
  (repeat' split) <;> simp
@[simp] theorem State.tagHost_mem (s : State) (j : Job) : (s.tagHost j).mem = s.mem := by simp [tagHost]
@[simp] theorem State.tagCred_mem (s : State) (c : Word) : (s.tagCred c).mem = s.mem := by
  unfold tagCred
  rw [withFree_mem]
  intro n u
  dsimp only
  (repeat' split) <;> simp only [credEnd_mem, startCommit_mem]
@[simp] theorem State.tagNext_mem (s : State) (fuel : Nat) : (s.tagNext fuel).mem = s.mem := by
  induction fuel generalizing s with
  | zero => rfl
  | succ fuel ih =>
    unfold tagNext
    split
    · rfl
    split
    · rw [ih, apduRun_mem]
    · dsimp only
      split
      · rw [ih]
        split <;> simp
      · rw [ih]
    · rw [ih, tagCred_mem]
    · rfl
@[simp] theorem State.tagServe_mem (s : State) : (s.tagServe).mem = s.mem := by simp [tagServe]

/-! ### Tag commands -/

@[simp] theorem State.tagOff_mem (s : State) : (s.tagOff).mem = s.mem := by simp [tagOff]
@[simp] theorem State.tagDrop_mem (s : State) : (s.tagDrop).mem = s.mem := by simp [tagDrop]
@[simp] theorem State.tagReady_mem (s : State) : (s.tagReady).mem = s.mem := by simp [tagReady]
@[simp] theorem State.apduIn_mem (s : State) (a : Apdu) : (s.apduIn a).mem = s.mem := by simp [apduIn]
@[simp] theorem State.tagJob_mem (s : State) (id op : Nat) : (s.tagJob id op).mem = s.mem := by
  unfold tagJob
  dsimp only
  (repeat' split) <;> simp
theorem State.credWrite_mem (s : State) (v : Word) {t : State} (ht : s.credWrite v = some t) : t.mem = s.mem := by
  grind [credWrite, setReg_mem, tagServe_mem]
theorem State.pwWrite_mem (s : State) (second : Bool) (v : Word) {t : State} (ht : s.pwWrite second v = some t) :
    t.mem = s.mem := by
  grind [pwWrite]
@[simp] theorem State.credGo_mem (s : State) (rq : Rq) (op : Nat) (v : Word) : (s.credGo rq op v).mem = s.mem := by
  grind [credGo, asWrite_mem, credWrite_mem]
@[simp] theorem State.tagSoftReset_mem (s : State) : (s.tagSoftReset).mem = s.mem := by
  unfold tagSoftReset
  dsimp only
  generalize hu : List.foldl _ _ _ = u
  have hends : u.mem = s.mem := by
    rw [← hu, mem_foldl _ fun v id => ?_]
    split
    · split <;> simp
    · rfl
  simp only [mem_ite, tagIdle_mem, credEnd_mem, hends, ite_self]
@[simp] theorem State.badIns_mem (s : State) (a : Apdu) : (s.badIns a).mem = s.mem := by simp [badIns]

/-! ### Ports, domains and the management link -/

@[simp] theorem State.abandon_mem (s : State) (j : Job) : (s.abandon j).mem = s.mem := by
  unfold abandon
  dsimp only
  (repeat' split) <;> simp
@[simp] theorem State.domainClear_mem (s : State) (p : Nat) : (s.domainClear p).mem = s.mem := by
  unfold domainClear
  dsimp only
  rw [modPort_eq, setPort_mem, uninstantiate_mem]
  dsimp only
  rw [setBind_mem, evict_mem, mem_foldl _ fun _ _ => by rfl, mem_foldl _ fun _ _ => abandon_mem ..]
@[simp] theorem State.domainReset_mem (s : State) (p cause : Nat) : (s.domainReset p cause).mem = s.mem := by
  simp [domainReset]
@[simp] theorem State.linkFall_mem (s : State) (p : Nat) (train : Bool) : (s.linkFall p train).mem = s.mem := by
  simp [linkFall]
@[simp] theorem State.hptCfgWrite_mem (s : State) (p : Nat) (v : Word) : (s.hptCfgWrite p v).mem = s.mem := by
  simp [hptCfgWrite]
@[simp] theorem State.bootEnable_mem (s : State) (p : Nat) : (s.bootEnable p).mem = s.mem := by simp [bootEnable]
@[simp] theorem State.bootWrite_mem (s : State) (p off : Nat) (v : Word) : (s.bootWrite p off v).mem = s.mem := by
  simp [bootWrite]
@[simp] theorem State.bar2Write_mem (s : State) (p off : Nat) (v : Word) : (s.bar2Write p off v).mem = s.mem := by
  simp [bar2Write]
@[simp] theorem State.mlkErr_mem (s : State) : (s.mlkErr).mem = s.mem := by simp [mlkErr]
@[simp] theorem State.mlkFrame_mem (s : State) (u cmd : Byte) (d : List Byte) (crc : Byte) :
    (s.mlkFrame u cmd d crc).mem = s.mem := by
  simp [mlkFrame]

/-! ### Cards and their journal -/

@[simp] theorem State.jKick_mem (s : State) : (s.jKick).mem = s.mem := by simp [jKick]
@[simp] theorem State.jAppend_mem (s : State) (r : JRec) : (s.jAppend r).mem = s.mem := by simp [jAppend]
@[simp] theorem State.jCompact_mem (s : State) : (s.jCompact).mem = s.mem := by
  unfold jCompact
  (repeat' split) <;> simp
@[simp] theorem State.showGen_mem (s : State) : (s.showGen).mem = s.mem := by simp [showGen]
@[simp] theorem State.cardWake_mem (s : State) : (s.cardWake).1.mem = s.mem := by
  unfold cardWake
  split <;> simp
@[simp] theorem State.tryResolve_mem (s : State) : (s.tryResolve).mem = s.mem := by simp [tryResolve]
@[simp] theorem State.genFail_mem (s : State) (status cause : Nat) : (s.genFail status cause).mem = s.mem := by
  simp [genFail]
@[simp] theorem State.genNext_mem (s : State) (g : GenRun) : (s.genNext g).mem = s.mem := by
  unfold genNext
  split <;> simp
@[simp] theorem State.genEnd_mem (s : State) (g : GenRun) : (s.genEnd g).mem = s.mem := by simp [genEnd]
@[simp] theorem State.genAbandon_mem (s : State) (gen : Nat) : (s.genAbandon gen).mem = s.mem := by simp [genAbandon]
@[simp] theorem State.jAnswer_mem (s : State) (r : JRec) (wp : Bool) : (s.jAnswer r wp).mem = s.mem := by
  unfold jAnswer
  dsimp only
  (repeat' split) <;> simp
@[simp] theorem State.genBegin_mem (s : State) : (s.genBegin).mem = s.mem := by
  grind [genBegin, jAppend_mem, drawBytes_mem, rtcNow_mem, withFree_mem]
@[simp] theorem State.verifyEnd_mem (s : State) : (s.verifyEnd).mem = s.mem := by simp [verifyEnd]
@[simp] theorem State.verifyBegin_mem (s : State) : (s.verifyBegin).mem = s.mem := by simp [verifyBegin]
theorem State.custWrite_mem (s : State) (v : Word) {t : State} (ht : s.custWrite v = some t) : t.mem = s.mem := by
  grind [custWrite, setReg_mem, custEnd_mem, jAppend_mem, genBegin_mem, verifyBegin_mem]
@[simp] theorem State.judgeEntry_mem (s : State) (e : JRec) (v : Nat) (wp : Bool) :
    (s.judgeEntry e v wp).1.mem = s.mem := by
  unfold judgeEntry
  dsimp only
  (repeat' split) <;> simp
@[simp] theorem State.jResolve_mem (s : State) (wp : Bool) (vs : List (Fin 3)) : (s.jResolve wp vs).mem = s.mem := by
  have hjudge (wp : Bool) (l : List (JRec × Nat)) (x : State × List JRec) :
      (l.foldl (fun (x : State × List JRec) (e : JRec × Nat) =>
        let (t, c) := x.1.judgeEntry e.1 e.2 wp
        (t, if c then e.1 :: x.2 else x.2)) x).1.mem = x.1.mem := by
    induction l generalizing x with
    | nil => rfl
    | cons e l ih => rw [List.foldl_cons, ih]; exact judgeEntry_mem ..
  unfold jResolve
  dsimp only
  (repeat' split) <;> simp [hjudge]
@[simp] theorem State.cardInit_mem (s : State) : (s.cardInit).mem = s.mem := by simp [cardInit]
@[simp] theorem State.cardGranted_mem (s : State) : (s.cardGranted).mem = s.mem := by simp [cardGranted]
@[simp] theorem State.cardGone_mem (s : State) : (s.cardGone).mem = s.mem := by simp [cardGone]
@[simp] theorem State.cerResult_mem (s : State) (code : Nat) : (s.cerResult code).mem = s.mem := by simp [cerResult]
@[simp] theorem State.cardFail_mem (s : State) (i : Nat) : (s.cardFail i).mem = s.mem := by simp [cardFail]
@[simp] theorem State.ccAsk_mem (s : State) (i : Nat) : (s.ccAsk i).mem = s.mem := by simp [ccAsk]
@[simp] theorem State.ccKick_mem (s : State) : (s.ccKick).mem = s.mem := by simp [ccKick]
@[simp] theorem State.ccGranted_mem (s : State) (i : Nat) : (s.ccGranted i).mem = s.mem := by simp [ccGranted]
@[simp] theorem State.ccNextClass_mem (s : State) (i : Nat) (a : Bool) : (s.ccNextClass i a).mem = s.mem := by
  simp [ccNextClass]
@[simp] theorem State.sdGone_mem (s : State) : (s.sdGone).mem = s.mem := by simp [sdGone]
@[simp] theorem State.ccGone_mem (s : State) (i : Nat) : (s.ccGone i).mem = s.mem := by simp [ccGone]

/-! ### Flask and the backup domain -/

@[simp] theorem State.tamperMsg_mem (s : State) (i resp time : Nat) (deferred : Bool) :
    (s.tamperMsg i resp time deferred).mem = s.mem := by
  simp [tamperMsg]
@[simp] theorem State.mirPush_mem (s : State) (e : MirE) : (s.mirPush e).mem = s.mem := by simp [mirPush]
@[simp] theorem State.flkMark_mem (s : State) (t i : Nat) : (s.flkMark t i).mem = s.mem := by simp [flkMark]
@[simp] theorem State.flkNote_mem (s : State) (t mode i : Nat) : (s.flkNote t mode i).mem = s.mem := by simp [flkNote]
@[simp] theorem State.flkLight_mem (s : State) (l : Nat) : (s.flkLight l).mem = s.mem := by simp [flkLight]
@[simp] theorem State.flkDeferred_mem (s : State) : (s.flkDeferred).mem = s.mem := by simp [flkDeferred]
theorem State.flkClrWrite_mem (s : State) (rq : Rq) (v : Word) {t : State} (ht : s.flkClrWrite rq v = some t) :
    t.mem = s.mem := by
  grind [flkClrWrite, mirPush_mem, rtcNow_mem, event_mem]
theorem State.rtcSetWrite_mem (s : State) (v : Word) {t : State} (ht : s.rtcSetWrite v = some t) : t.mem = s.mem := by
  grind [rtcSetWrite]
@[simp] theorem State.rtcMeasWrite_mem (s : State) (v : Word) : (s.rtcMeasWrite v).mem = s.mem := by simp [rtcMeasWrite]
theorem State.flkRespWrite_mem (s : State) (v : Word) {t : State} (ht : s.flkRespWrite v = some t) : t.mem = s.mem := by
  grind [flkRespWrite, setReg_mem]
theorem State.flkCfgWrite_mem (s : State) (v : Word) {t : State} (ht : s.flkCfgWrite v = some t) : t.mem = s.mem := by
  grind [flkCfgWrite, setReg_mem]
@[simp] theorem State.backupLost_mem (s : State) : (s.backupLost).mem = s.mem := by simp [backupLost]

/-! ### The beginning of a Start -/

@[simp] theorem State.startRng_mem (s : State) : (s.startRng).mem = s.mem := by simp [startRng]

/-! ### The steps of a Start -/

@[simp] theorem State.stepEarly_mem (s : State) : (s.stepEarly).mem = s.mem := by simp [stepEarly]
@[simp] theorem State.retireAll_mem (s : State) (now : Nat) : (s.retireAll now).mem = s.mem := by simp [retireAll]
@[simp] theorem State.bistFail_mem (s : State) (p u : Nat) : (s.bistFail p u).mem = s.mem := by simp [bistFail]
@[simp] theorem State.assignUnits_mem (s : State) (warm : Bool) (bad : List (Nat × Nat)) :
    (s.assignUnits warm bad).mem = s.mem := by
  simp [assignUnits]
@[simp] theorem State.assignSrcs_mem (s : State) : (s.assignSrcs).mem = s.mem := by simp [assignSrcs]
@[simp] theorem State.belowAll_mem (s : State) : (s.belowAll).mem = s.mem := by simp [belowAll]
@[simp] theorem State.stepRng_mem (s : State) (warm : Bool) : (s.stepRng warm).mem = s.mem := by
  unfold stepRng
  dsimp only
  rw [mem_foldl _ fun u p => ?gen]
  · (repeat' split) <;> simp
  case gen => split <;> rfl
@[simp] theorem State.badRecord_mem (s : State) : (s.badRecord).mem = s.mem := by simp [badRecord]
@[simp] theorem State.pickRecord_mem (s : State) (key : List Byte) (l : List ImgRec) :
    (s.pickRecord key l).1.mem = s.mem := by
  induction l with
  | nil => rfl
  | cons r l ih =>
    unfold pickRecord
    (repeat' split) <;> simp_all
@[simp] theorem State.loadSlot_mem (s : State) (key : List Byte) (n : Nat) : (s.loadSlot key n).mem = s.mem := by
  grind [loadSlot, pickRecord_mem, imgAppend_mem, setSlot_mem]
@[simp] theorem State.rangesDefault_mem (s : State) : (s.rangesDefault).mem = s.mem := by
  unfold rangesDefault
  exact mem_foldl _ (fun _ _ => by rfl) _ s
@[simp] theorem State.loadOthers_mem (s : State) (key : List Byte) : (s.loadOthers key).mem = s.mem := by
  have hranges (l : List Nat) (u : State) : ((List.range 4).foldl (fun (s : State) d =>
      s.setReg (R.KST_DOM_SL + 4 * d) (w32 (l.getD d 0))) u).mem = u.mem := mem_foldl _ (fun _ _ => by rfl) _ u
  have hpick := s.pickRecord_mem key (s.kst.log.filter (fun r => r.body.code == 5))
  unfold loadOthers
  dsimp only
  (repeat' split) <;> simp_all
@[simp] theorem State.unsealed_mem (s : State) : (s.unsealed).mem = s.mem := by simp [unsealed]
@[simp] theorem State.drawEph_mem (s : State) : (s.drawEph).mem = s.mem := by simp [drawEph]
@[simp] theorem State.loadIdKey_mem (s : State) : (s.loadIdKey).mem = s.mem := by
  grind [loadIdKey, setSlot_mem, withFree_mem]
@[simp] theorem State.stepLimits_mem (s : State) : (s.stepLimits).mem = s.mem := by
  unfold stepLimits
  refine mem_foldl _ (fun u d => ?_) _ s
  simp only [modPort_eq, setPort_mem, setReg_mem]
@[simp] theorem State.stepLinks_mem (s : State) : (s.stepLinks).mem = s.mem := by
  unfold stepLinks
  exact mem_foldl _ (fun _ _ => by rfl) _ s
@[simp] theorem State.stepClocks_mem (s : State) (xtal : Bool) : (s.stepClocks xtal).mem = s.mem := by simp [stepClocks]
@[simp] theorem State.smsDone_mem (s : State) : (s.smsDone).mem = s.mem := by
  grind [smsDone, setReg_mem, withFree_mem, event_mem]
@[simp] theorem State.stepDone_mem (s : State) (warm : Bool) : (s.stepDone warm).mem = s.mem := by simp [stepDone]

/-! ### Ceremonies -/

@[simp] theorem State.cerStart_mem (s : State) (c : Cer) : (s.cerStart c).mem = s.mem := by simp [cerStart]
@[simp] theorem State.cerAbsent_mem (s : State) (kind : Nat) : (s.cerAbsent kind).mem = s.mem := by simp [cerAbsent]
@[simp] theorem State.cerWrite_mem (s : State) (kind m n : Nat) : (s.cerWrite kind m n).mem = s.mem := by
  grind [cerWrite, cerStart_mem, drawBytes_mem]
@[simp] theorem State.cerCollect_mem (s : State) (kind m n : Nat) (setId kcv : List Byte) :
    (s.cerCollect kind m n setId kcv).mem = s.mem := by
  simp [cerCollect]
@[simp] theorem State.cerOpen_mem (s : State) (kind m n : Nat) : (s.cerOpen kind m n).mem = s.mem := by
  grind [cerOpen, cerWrite_mem, cerAbsent_mem, cerCollect_mem]
theorem State.cerCmdWrite_mem (s : State) (v : Word) {t : State} (ht : s.cerCmdWrite v = some t) : t.mem = s.mem := by
  grind [cerCmdWrite, setReg_mem, cerOpen_mem, cerFail_mem]
@[simp] theorem State.drawKbb_mem (s : State) : (s.drawKbb).mem = s.mem := by simp [drawKbb]
@[simp] theorem State.cerPut_mem (s : State) (resp : Option (List Byte)) (put : Bool) :
    (s.cerPut resp put).mem = s.mem := by
  simp [cerPut]

/-! ### Clocks, leave and modes -/

@[simp] theorem State.xJudge_mem (s : State) : (s.xJudge).mem = s.mem := by simp [xJudge]
theorem State.xstabWrite_mem (s : State) (v : Word) {t : State} (ht : s.xstabWrite v = some t) : t.mem = s.mem := by
  grind [xstabWrite, setReg_mem, xJudge_mem]
@[simp] theorem State.xtalStep_mem (s : State) : (s.xtalStep).mem = s.mem := by simp [xtalStep]
@[simp] theorem State.rampDone_mem (s : State) : (s.rampDone).mem = s.mem := by simp [rampDone]
@[simp] theorem State.rampStep_mem (s : State) (k : Nat) : (s.rampStep k).mem = s.mem := by simp [rampStep]
@[simp] theorem State.lossOf_mem (s : State) (ramp mode c : Nat) : (State.lossOf ramp mode s c).mem = s.mem := by
  simp [lossOf]
@[simp] theorem State.xRestart_mem (s : State) : (s.xRestart).mem = s.mem := by simp [xRestart]
@[simp] theorem State.judgeAgain_mem (s : State) (l : List Nat) : (s.judgeAgain l).mem = s.mem := by simp [judgeAgain]
@[simp] theorem State.granted_mem (s : State) (l : Leave) : (s.granted l).mem = s.mem := by
  unfold granted
  dsimp only
  (repeat' split) <;> simp
@[simp] theorem State.leaveRefused_mem (s : State) (l : Leave) : (s.leaveRefused l).mem = s.mem := by
  unfold leaveRefused
  dsimp only
  (repeat' split) <;> simp
theorem State.budgetWrite_mem (s : State) (v : Word) {t : State} (ht : s.budgetWrite v = some t) : t.mem = s.mem := by
  unfold budgetWrite at ht
  dsimp only at ht
  split at ht
  · contradiction
  · obtain rfl := Option.some.inj ht
    split <;> simp
@[simp] theorem State.enterService_mem (s : State) : (s.enterService).mem = s.mem := by simp [enterService]
@[simp] theorem State.enterHold_mem (s : State) : (s.enterHold).mem = s.mem := by simp [enterHold]
theorem State.sysPairWrite_mem (s : State) (rq : Rq) (v : Word) {t : State} (ht : s.sysPairWrite rq v = some t) :
    t.mem = s.mem := by
  unfold sysPairWrite at ht
  dsimp only at ht
  (repeat' split at ht)
  · contradiction
  · rw [Option.some.inj ht]
  · obtain rfl := Option.some.inj ht
    simp

/-! ### Refused core accesses -/

@[simp] theorem State.refusePair_mem (s : State) (p a : Nat) (w : Why) : (s.refusePair p a w).mem = s.mem := by
  unfold refusePair
  split <;> simp

/-! ### Pairs that fail -/

@[simp] theorem State.pairFail_mem (s : State) (p kind : Nat) : (s.pairFail p kind).mem = s.mem := by simp [pairFail]
@[simp] theorem State.takeEvents_mem (s : State) (p : Nat) : (s.takeEvents p).mem = s.mem := by simp [takeEvents]
@[simp] theorem State.takeRole_mem (s : State) (n r : Nat) : (s.takeRole n r).mem = s.mem := by simp [takeRole]
theorem State.pairCtlWrite_mem (s : State) (rq : Rq) (v : Word) {t : State} (ht : s.pairCtlWrite rq v = some t) :
    t.mem = s.mem := by
  simp only [pairCtlWrite] at ht
  grind [startPair_mem]

/-! ### The registers of DBG -/

@[simp] theorem State.ticketGo_mem (s : State) (len : Nat) : (s.ticketGo len).mem = s.mem := by
  grind [ticketGo, setReg_mem, ticketRefuse_mem, rtcNow_mem]
theorem State.tktWrite_mem (s : State) (rq : Rq) (v : Word) {t : State} (ht : s.tktWrite rq v = some t) :
    t.mem = s.mem := by
  grind [tktWrite, ticketEnd_mem, ticketGo_mem]
@[simp] theorem State.ticketAccept_mem (s : State) (t : List Byte) : (s.ticketAccept t).mem = s.mem := by
  simp [ticketAccept]
@[simp] theorem State.ticketDone_mem (s : State) : (s.ticketDone).mem = s.mem := by
  unfold ticketDone
  split <;> simp
theorem State.tctrWrite_mem (s : State) (rq : Rq) (v : Word) {t : State} (ht : s.tctrWrite rq v = some t) :
    t.mem = s.mem := by
  grind [tctrWrite, setReg_mem]
theorem State.dbgPairWrite_mem (s : State) (rq : Rq) (v : Word) {t : State} (ht : s.dbgPairWrite rq v = some t) :
    t.mem = s.mem := by
  grind [dbgPairWrite, modPair_mem]
@[simp] theorem State.cregWrite_mem (s : State) (p n : Nat) (v : Word) : (s.cregWrite p n v).mem = s.mem := by
  simp [cregWrite]
theorem State.cregDataWrite_mem (s : State) (v : Word) {t : State} (ht : s.cregDataWrite v = some t) :
    t.mem = s.mem := by
  grind [cregDataWrite, cregWrite_mem]

/-! ### Soft resets -/

@[simp] theorem State.clearRegs_mem (s : State) (b i : Nat) (more : Nat → Bool) :
    (s.clearRegs b i more).mem = s.mem := by
  simp [clearRegs]
@[simp] theorem State.ctxSoftReset_mem (s : State) : (s.ctxSoftReset).mem = s.mem := by
  unfold ctxSoftReset
  dsimp only
  split
  · simp
  · exact (mem_getD (fun _ => ctxCfgWrite_mem _ _) rfl).trans (failAll_mem ..)
@[simp] theorem State.symSoftReset_mem (s : State) (n : Nat) : (s.symSoftReset n).mem = s.mem := by simp [symSoftReset]
@[simp] theorem State.cruSoftReset_mem (s : State) (u : Nat) : (s.cruSoftReset u).mem = s.mem := by
  unfold cruSoftReset
  dsimp only
  (repeat' split) <;> simp
@[simp] theorem State.kstSoftReset_mem (s : State) : (s.kstSoftReset).mem = s.mem := by simp [kstSoftReset]
@[simp] theorem State.flcSoftReset_mem (s : State) : (s.flcSoftReset).mem = s.mem := by simp [flcSoftReset]
@[simp] theorem State.crdSoftReset_mem (s : State) : (s.crdSoftReset).mem = s.mem := by
  unfold crdSoftReset
  dsimp only
  (repeat' split) <;> simp
@[simp] theorem State.dbgSoftReset_mem (s : State) : (s.dbgSoftReset).mem = s.mem := by
  unfold dbgSoftReset
  split <;> simp
@[simp] theorem State.srstWork_mem (s : State) (b i : Nat) : (s.srstWork b i).mem = s.mem := by
  have hcapt : (if bit (s.reg R.RNG_CAPT) 31 then (s.captWrite 0).getD s else s).mem = s.mem := by
    split
    · exact mem_getD (fun _ => captWrite_mem _ _) rfl
    · rfl
  unfold srstWork
  simp only [mem_ite, hptCfgWrite_mem, ctxSoftReset_mem, symSoftReset_mem, cruSoftReset_mem, rngSoftReset_mem,
    kstSoftReset_mem, flcSoftReset_mem, tagSoftReset_mem, crdSoftReset_mem, dbgSoftReset_mem, ite_self]
  rw [← mem_ite, hcapt]
  simp only [ite_self]
@[simp] theorem State.softReset_mem (s : State) (b i : Nat) : (s.softReset b i).mem = s.mem := by simp [softReset]
@[simp] theorem State.srstEnd_mem (s : State) (b i : Nat) : (s.srstEnd b i).mem = s.mem := by simp [srstEnd]

/-! ### Register reads and writes -/

theorem State.seen_mem (s : State) (b i a : Nat) {t : State × Word} (ht : s.seen b i a = some t) : t.1.mem = s.mem := by
  grind [seen]
theorem State.captures_mem (s : State) (b i a hi v : Nat) {t : State × Word} (ht : s.captures b i a hi v = some t) :
    t.1.mem = s.mem := by
  grind [captures, setReg_mem]
theorem State.cregDataRead_mem (s : State) {t : State × Word} (ht : s.cregDataRead = some t) : t.1.mem = s.mem := by
  grind [cregDataRead, modPair_mem]
@[simp] theorem State.minutesNow_mem (s : State) : (s.minutesNow).mem = s.mem := by simp [minutesNow]
theorem State.ringRead_mem (s : State) (a : Nat) {t : State × Word} (ht : s.ringRead a = some t) : t.1.mem = s.mem := by
  grind [ringRead, setReg_mem]
theorem State.bodyRead_mem (s : State) (b i a : Nat) {t : State × Word} (ht : s.bodyRead b i a = some t) :
    t.1.mem = s.mem := by
  have hcapt {hi v : Nat} : s.captures b i a hi v = some t → t.1.mem = s.mem :=
    fun h => captures_mem _ _ _ _ _ _ h
  have hseen {u : State} (hu : u.mem = s.mem) (h : u.seen b i a = some t) : t.1.mem = s.mem :=
    (seen_mem _ _ _ _ h).trans hu
  have hsome {u : State} {w : Word} (hu : u.mem = s.mem) (h : some (u, w) = some t) : t.1.mem = s.mem := by
    rw [← Option.some.inj h, hu]
  revert ht
  unfold bodyRead
  exact of_ite_eq hcapt <| of_ite_eq hcapt <| of_ite_eq hcapt <| of_ite_eq hcapt <| of_ite_eq hcapt <|
    of_ite_eq (hsome (by simp)) <| of_ite_eq (hseen (capAdvance_mem s)) <| of_ite_eq (hsome (capAdvance_mem s)) <|
    of_ite_eq (hseen (rtcNow_mem _ _ fun _ _ => setReg_mem ..)) <| of_ite_eq (hsome (setReg_mem ..)) <|
    of_ite_eq (fun h => ringRead_mem _ _ h) <| of_ite_eq (fun h => cregDataRead_mem _ h) <|
    of_ite_eq (hseen (minutesNow_mem s)) (hseen rfl)
theorem State.regRead_mem (s : State) (b i pg off : Nat) {t : State × Word} (ht : s.regRead b i pg off = some t) :
    t.1.mem = s.mem := by
  grind [regRead, setHdr_mem, bodyRead_mem]
@[simp] theorem State.evtClear_mem (s : State) (b i : Nat) (v hit : Word) : (s.evtClear b i v hit).mem = s.mem := by
  simp [evtClear]
@[simp] theorem State.enWrite_mem (s : State) (b i : Nat) (en : Bool) : (s.enWrite b i en).mem = s.mem := by
  simp [enWrite]
@[simp] theorem State.ctrlWrite_mem (s : State) (b i : Nat) (v : Word) : (s.ctrlWrite b i v).mem = s.mem := by
  simp [ctrlWrite]
@[simp] theorem State.lockWrite_mem (s : State) (b i : Nat) : (s.lockWrite b i).mem = s.mem := by simp [lockWrite]
@[simp] theorem State.headWrite_mem (s : State) (b i off : Nat) (v : Word) : (s.headWrite b i off v).mem = s.mem := by
  simp [headWrite]
@[simp] theorem State.plainWrite_mem (s : State) (a : Nat) (v : Word) : (s.plainWrite a v).mem = s.mem := by
  unfold plainWrite
  split <;> simp
theorem State.checked_mem (s : State) (a : Nat) (v : Word) (ok : Bool) {t : State} (ht : s.checked a v ok = some t) :
    t.mem = s.mem := by
  grind [checked, plainWrite_mem]
theorem State.domQpWrite_mem (s : State) (d a : Nat) (v : Word) {t : State} (ht : s.domQpWrite d a v = some t) :
    t.mem = s.mem := by
  grind [domQpWrite, checked_mem]
@[simp] theorem State.shareCap_mem (s : State) (d q : Nat) : (s.shareCap d q).mem = s.mem := by simp [shareCap]
theorem State.tunWrite_mem (s : State) (a : Nat) (v : Word) {t : State} (ht : s.tunWrite a v = some t) :
    t.mem = s.mem := by
  unfold tunWrite at ht
  dsimp only at ht
  (repeat' split at ht)
  · exact domQpWrite_mem _ _ _ _ ht
  · obtain ⟨u, hu, rfl⟩ := Option.map_eq_some_iff.mp ht
    rw [shareCap_mem, checked_mem _ _ _ _ hu]
  · exact checked_mem _ _ _ _ ht
  · exact checked_mem _ _ _ _ ht
  · exact checked_mem _ _ _ _ ht
  all_goals
    obtain rfl := Option.some.inj ht
    exact plainWrite_mem ..
theorem State.ctxWrite_mem (s : State) (a : Nat) (v : Word) {t : State} (ht : s.ctxWrite a v = some t) :
    t.mem = s.mem := by
  unfold ctxWrite at ht
  dsimp only at ht
  (repeat' split at ht)
  · exact ctxCfgWrite_mem _ _ ht
  · exact ctxCtrlWrite_mem _ _ ht
  · exact rangeWrite_mem _ _ _ _ ht
  · exact rangeWrite_mem _ _ _ _ ht
  · exact checked_mem _ _ _ _ ht
  · simp_all
  · obtain rfl := Option.some.inj ht
    exact plainWrite_mem ..
theorem State.cruWrite_mem (s : State) (rq : Rq) (i a : Nat) (v : Word) {t : State} (ht : s.cruWrite rq i a v = some t)
    :
    t.mem = s.mem := by
  grind [cruWrite, uctrlWrite_mem, plainWrite_mem, fwCmdWrite_mem]
theorem State.rngWrite_mem (s : State) (a : Nat) (v : Word) {t : State} (ht : s.rngWrite a v = some t) :
    t.mem = s.mem := by
  grind [rngWrite, captWrite_mem, checked_mem, plainWrite_mem, reseedInternal_mem]
theorem State.domSlotWrite_mem (s : State) (d a : Nat) (v : Word) {t : State} (ht : s.domSlotWrite d a v = some t) :
    t.mem = s.mem := by
  grind [domSlotWrite, imgAppend_mem, plainWrite_mem]
theorem State.gatWrite_mem (s : State) (rq : Rq) (a : Nat) (v : Word) {t : State} (ht : s.gatWrite rq a v = some t) :
    t.mem = s.mem := by
  grind [gatWrite, pairCtlWrite_mem, checked_mem, plainWrite_mem]
theorem State.flcWrite_mem (s : State) (a : Nat) (v : Word) {t : State} (ht : s.flcWrite a v = some t) :
    t.mem = s.mem := by
  grind [flcWrite, flcCfgWrite_mem, checked_mem, plainWrite_mem, flcCmdWrite_mem]
theorem State.tagWrite_mem (s : State) (a : Nat) (v : Word) {t : State} (ht : s.tagWrite a v = some t) :
    t.mem = s.mem := by
  grind [tagWrite, pwWrite_mem, credWrite_mem, plainWrite_mem]
theorem State.flkWrite_mem (s : State) (rq : Rq) (a : Nat) (v : Word) {t : State} (ht : s.flkWrite rq a v = some t) :
    t.mem = s.mem := by
  grind [flkWrite, flkRespWrite_mem, rtcSetWrite_mem, flkClrWrite_mem, plainWrite_mem, flkCfgWrite_mem,
    rtcMeasWrite_mem]
theorem State.skmWrite_mem (s : State) (a : Nat) (v : Word) {t : State} (ht : s.skmWrite a v = some t) :
    t.mem = s.mem := by
  grind [skmWrite, checked_mem, plainWrite_mem, clrWrite_mem]
theorem State.risWrite_mem (s : State) (a : Nat) (v : Word) {t : State} (ht : s.risWrite a v = some t) :
    t.mem = s.mem := by
  grind [risWrite, checked_mem, plainWrite_mem]
theorem State.clkWrite_mem (s : State) (a : Nat) (v : Word) {t : State} (ht : s.clkWrite a v = some t) :
    t.mem = s.mem := by
  grind [clkWrite, xstabWrite_mem, checked_mem, plainWrite_mem, budgetWrite_mem]
@[simp] theorem State.readAt_mem (s : State) (rq : Rq) (a : Nat) : (s.readAt rq a).mem = s.mem := by
  unfold readAt
  split
  · rfl
  split
  · split
    · exact barred_mem _ _ _ _ ‹_›
    · split
      · exact regRead_mem _ _ _ _ _ ‹_›
      · exact refuse_mem ..
  · rfl
@[simp] theorem State.load_mem (s : State) (p : Pair) (a n : Nat) (k : Nat → State → State) (hk : ∀ x u, (k x u).mem =
    u.mem) :
    (s.load p a n k).mem = s.mem := by
  unfold load
  dsimp only
  (repeat' split) <;> simp only [refusePair_mem, hk]
  exact regRead_mem _ _ _ _ _ ‹_›
@[simp] theorem State.afterStore_mem (s : State) (p : Nat) (f : KPair → KPair) : (s.afterStore p f).mem = s.mem := by
  simp [afterStore]
@[simp] theorem State.dbgAck_mem (s : State) (a : Nat) (data : Word) (ack : Nat) :
    (s.dbgAck a data ack).mem = s.mem := by
  simp [dbgAck]
theorem State.dbgUnread_mem (s : State) (a : Nat) {t : State} (ht : s.dbgUnread a = some t) : t.mem = s.mem := by
  grind [dbgUnread, fault_mem, dbgRefuse_mem]
@[simp] theorem State.dbgLoad_mem (s : State) (a : Nat) : (s.dbgLoad a).mem = s.mem := by
  unfold dbgLoad
  (repeat' split) <;> simp [*]
  · exact dbgUnread_mem _ _ ‹_›
  · exact regRead_mem _ _ _ _ _ ‹_›
@[simp] theorem headCmd_mem (s : State) (rq : Rq) (b i off : Nat) (v : Word) (eff : State → State) (heff : ∀ u, (eff
    u).mem = u.mem) :
    (headCmd rq b i off v eff s).mem = s.mem := by
  simp [headCmd, heff]

/-! ### The debug master -/

@[simp] theorem State.pinsTaken_mem (s : State) : (s.pinsTaken).mem = s.mem := by simp [pinsTaken]

/-! ### Loads, stores and the bit space -/

@[simp] theorem loadOp_mem (s : State) (p : Pair) (c : Cond) (rd ra : GReg) (imm : BitVec 14) (n : Nat) (f : Nat → Word)
    :
    (loadOp p c rd ra imm n f s).mem = s.mem := by
  simp [loadOp]
@[simp] theorem State.bitFault_mem (s : State) (p a : Nat) : (s.bitFault p a).mem = s.mem := by simp [bitFault]
@[simp] theorem State.bitGet_mem (s : State) (p a : Nat) (f : Bool → State → State) (hf : ∀ x u, (f x u).mem = u.mem) :
    (s.bitGet p a f).mem = s.mem := by
  unfold bitGet
  split <;> simp [hf]
@[simp] theorem State.ramPut_mem (s : State) (p n : Nat) (v : Bool) : (s.ramPut p n v).mem = s.mem := by simp [ramPut]
@[simp] theorem State.bitPut_mem (s : State) (p a : Nat) (v : Bool) (f : State → State) (hf : ∀ u, (f u).mem = u.mem) :
    (s.bitPut p a v f).mem = s.mem := by
  unfold bitPut
  split <;> simp [hf]
@[simp] theorem bitStore_mem (s : State) (p : Pair) (c : Cond) (b : BitOp) (v : KPair → Bool) :
    (bitStore p c b v s).mem = s.mem := by
  simp [bitStore]
@[simp] theorem bitLoad_mem (s : State) (p : Pair) (c : Cond) (b : BitOp) (f : NZCV → Bool → NZCV) :
    (bitLoad p c b f s).mem = s.mem := by
  simp [bitLoad]

/-! ### Steps -/

@[simp] theorem State.withFetchWord_mem (s : State) (nbits w : Nat) : (s.withFetchWord nbits w).mem = s.mem := by
  unfold withFetchWord
  split <;> simp

end Sys2Proof.Machine
end

section
/-! SUPPORT. The canonical form of memory (log entry 2): each operation that writes bytes keeps it, as do those that run
another one on the state they make; so every command keeps it, and every step. -/

namespace Sys2Proof.Machine

/-! ### Cases and folds -/

@[simp] theorem memWf_ite (c : Prop) [Decidable c] (m n : Tbl Byte) :
    memWf (if c then m else n) = if c then memWf m else memWf n := apply_ite ..

/-- A fold of steps that each keep the form. -/
@[simp] theorem memWf_foldl {α : Type} (f : State → α → State)
    (h : ∀ s a, memWf s.mem = true → memWf (f s a).mem = true) (l : List α) (s : State) (hs : memWf s.mem = true) :
    memWf (l.foldl f s).mem = true := by
  induction l generalizing s with
  | nil => exact hs
  | cons a l ih => exact ih _ (h s a hs)

/-- A fold that carries a value beside the state. -/
theorem memWf_foldl_fst {α β : Type} (f : State × β → α → State × β)
    (h : ∀ x a, memWf x.1.mem = true → memWf (f x a).1.mem = true) (l : List α) (x : State × β)
    (hx : memWf x.1.mem = true) : memWf (l.foldl f x).1.mem = true := by
  induction l generalizing x with
  | nil => exact hx
  | cons a l ih => exact ih _ (h x a hx)

/-! ### Events and messages -/

@[simp] theorem State.memWf_fill (s : State) (a n : Nat) (v : Byte) (h : memWf s.mem = true) :
    memWf (s.fill a n v).mem = true := by
  simp [fill, memWf_setBytes, h]
@[simp] theorem State.memWf_withFree (s : State) (k : Nat → State → State) (hk : ∀ x u, memWf u.mem = true → memWf (k x
    u).mem = true) (h : memWf s.mem = true) :
    memWf (s.withFree k).mem = true := by
  simp [withFree, hk, h]

/-! ### Exceptions of a pair (R301-R311, R317) -/

@[simp] theorem State.memWf_busResp (s : State) (p a : Nat) (m : State → State) (hm : ∀ u, memWf u.mem = true → memWf (m
    u).mem = true) (h : memWf s.mem = true) :
    memWf (s.busResp p a m).mem = true := by
  simp [busResp, hm, h]

/-! ### The Riser and the backup RTC -/

@[simp] theorem State.memWf_rtcNow (s : State) (k : Nat → State → State) (hk : ∀ x u, memWf u.mem = true → memWf (k x
    u).mem = true) (h : memWf s.mem = true) :
    memWf (s.rtcNow k).mem = true := by
  grind [rtcNow, memWf_withFree]

/-! ### The counter vault -/

@[simp] theorem State.memWf_pageDurable (s : State) (rtc : Nat) (p : VPage) (h : memWf s.mem = true) :
    memWf (s.pageDurable rtc p).mem = true := by
  unfold pageDurable
  dsimp only
  split
  · simp [memWf_setBytes, h]
  · simp [memWf_setBytes, h]
  · rw [mem_ite, mem_ite, mem_foldl _ fun _ _ => by rfl]
    simp [memWf_setBytes, h]

/-! ### Key slots and the image log -/

@[simp] theorem State.memWf_imgDurable (s : State) (r : ImgRec) (h : memWf s.mem = true) :
    memWf (s.imgDurable r).mem = true := by
  unfold imgDurable
  split <;> simp [memWf_setBytes, h]

/-! ### How a register write is carried out -/

@[simp] theorem State.memWf_asWrite (s : State) (rq : Rq) (b i a : Nat) (v : Word) (eff : State → Option State) (heff :
    ∀ u t, memWf u.mem = true → eff u = some t → memWf t.mem = true) (h : memWf s.mem = true) :
    memWf (s.asWrite rq b i a v eff).mem = true := by
  grind [asWrite, barred_mem, refuse_mem, holdAcc_mem]
@[simp] theorem State.memWf_asRead (s : State) (rq : Rq) (b i a : Nat) (eff : State → State) (heff : ∀ u, memWf u.mem =
    true → memWf (eff u).mem = true) (h : memWf s.mem = true) :
    memWf (s.asRead rq b i a eff).mem = true := by
  grind [asRead, barred_mem, holdAcc_mem]

/-! ### Jobs on a lane -/

@[simp] theorem State.memWf_onLane (s : State) (j : Job) (n blocks tenths : Nat) (k : State → State) (hk : ∀ u, memWf
    u.mem = true → memWf (k u).mem = true) (h : memWf s.mem = true) :
    memWf (s.onLane j n blocks tenths k).mem = true := by
  simp [onLane, hk, h]

/-! ### Installs, enrolment and vault events -/

@[simp] theorem State.memWf_firstDurable (s : State) (p : VPage) (h : memWf s.mem = true) :
    memWf (s.firstDurable p).mem = true := by
  grind [firstDurable, pageJob_mem, vaultKick_mem, memWf_rtcNow, releaseLeave_mem, ckptRetry_mem, memWf_pageDurable]
@[simp] theorem State.memWf_vaultErased (s : State) (h : memWf s.mem = true) : memWf (s.vaultErased).mem = true := by
  simp [vaultErased, memWf_forget, h]

/-! ### The Crucible -/

@[simp] theorem State.memWf_drawUnit (s : State) (k : List Byte → State → State) (hk : ∀ x u, memWf u.mem = true → memWf
    (k x u).mem = true) (h : memWf s.mem = true) :
    memWf (s.drawUnit k).mem = true := by
  simp [drawUnit, hk, h]
@[simp] theorem State.memWf_fwFinish (s : State) (j : Job) (data key : List Byte) (h : memWf s.mem = true) :
    memWf (s.fwFinish j data key).mem = true := by
  unfold fwFinish
  dsimp only
  (repeat' split) <;> simp [memWf_setBytes, h]
@[simp] theorem State.memWf_cruRelease (s : State) (u cls : Nat) (fw : Bool) (j : Job) (o : COut) (h : memWf s.mem =
    true) :
    memWf (s.cruRelease u cls fw j o).mem = true := by
  unfold cruRelease
  dsimp only
  (repeat' split) <;> simp [h]

/-! ### Random numbers -/

@[simp] theorem State.memWf_drawBytes (s : State) (n : Nat) (k : List Byte → State → State) (hk : ∀ x u, memWf u.mem =
    true → memWf (k x u).mem = true) (h : memWf s.mem = true) :
    memWf (s.drawBytes n k).mem = true := by
  simp [drawBytes, hk, h]

/-! ### Key-store commands and image records -/

@[simp] theorem State.memWf_imgErased (s : State) (h : memWf s.mem = true) : memWf (s.imgErased).mem = true := by
  simp [imgErased, memWf_forget, h]
@[simp] theorem State.memWf_imgAnswer (s : State) (w : ImgWait) (h : memWf s.mem = true) :
    memWf (s.imgAnswer w).mem = true := by
  simp only [imgAnswer]
  grind [fwEnd_mem, postOutput_mem, kstFwEnd_mem, succeed_mem, memWf_setBytes]

/-! ### Rings and dispatch -/

@[simp] theorem State.memWf_door (s : State) (p q o : Nat) (k : State → State) (hk : ∀ u, memWf u.mem = true → memWf (k
    u).mem = true) (h : memWf s.mem = true) :
    memWf (s.door p q o k).mem = true := by
  simp [door, hk, h]

/-! ### Admin commands -/

@[simp] theorem State.memWf_adminRun (s : State) (id op : Nat) (k : State → Job → State) (hk : ∀ u x, memWf u.mem = true
    → memWf (k u x).mem = true) (h : memWf s.mem = true) :
    memWf (s.adminRun id op k).mem = true := by
  unfold adminRun
  dsimp only
  (repeat' split) <;> simp [hk, h]

/-! ### One instruction -/

@[simp] theorem State.memWf_instr (s : State) (p : Nat) (c : Cond) (first : Bool) (body : State → State) (hbody : ∀ u,
    memWf u.mem = true → memWf (body u).mem = true) (h : memWf s.mem = true) :
    memWf (s.instr p c first body).mem = true := by
  simp [instr, hbody, h]

/-! ### Changes of mode -/

@[simp] theorem State.memWf_scramble (s : State) (a n : Nat) (h : memWf s.mem = true) :
    memWf (s.scramble a n).mem = true := by
  grind [scramble, memWf_drawBytes, memWf_setBytes]
@[simp] theorem State.memWf_tagCut (s : State) (h : memWf s.mem = true) : memWf (s.tagCut).mem = true := by
  unfold tagCut
  split
  · exact h
  · simp only [mem_ite]
    split
    · exact h
    · exact memWf_foldl _ (fun u r hu => by simp [hu]) _ _ h
@[simp] theorem State.memWf_tagHostCut (s : State) (h : memWf s.mem = true) : memWf (s.tagHostCut).mem = true := by
  unfold tagHostCut
  split <;> simp [h]
@[simp] theorem State.memWf_lockRest (s : State) (h : memWf s.mem = true) : memWf (s.lockRest).mem = true := by
  simp [lockRest, h]
@[simp] theorem State.memWf_lockdown (s : State) (reason : Nat) (kbb : Bool) (h : memWf s.mem = true) :
    memWf (s.lockdown reason kbb).mem = true := by
  simp [lockdown, h]
@[simp] theorem State.memWf_quenchLock (s : State) (reason : Nat) (kbb : Bool) (h : memWf s.mem = true) :
    memWf (s.quenchLock reason kbb).mem = true := by
  simp [quenchLock, h]

/-! ### Skimmer and Riser commands -/

@[simp] theorem State.memWf_skmPass (s : State) (h : memWf s.mem = true) : memWf (s.skmPass).mem = true := by
  simp [skmPass, h]
@[simp] theorem State.memWf_auditDurable (s : State) (h : memWf s.mem = true) : memWf (s.auditDurable).mem = true := by
  unfold auditDurable
  split <;> simp [memWf_setBytes, h]
@[simp] theorem State.memWf_auditErased (s : State) (h : memWf s.mem = true) : memWf (s.auditErased).mem = true := by
  simp [auditErased, memWf_forget, h]
@[simp] theorem State.memWf_mapWrite (s : State) (second : Bool) (n : Nat) (l : List MapEnt) (e : MapEnt) (h : memWf
    s.mem = true) :
    memWf (s.mapWrite second n l e).1.mem = true := by
  unfold mapWrite
  split <;> simp [memWf_forget, memWf_setBytes, h]
@[simp] theorem State.memWf_mapDurable (s : State) (h : memWf s.mem = true) : memWf (s.mapDurable).mem = true := by
  unfold mapDurable
  dsimp only
  (repeat' split) <;> simp [h]

/-! ### The flash controller -/

@[simp] theorem State.memWf_eraseEnd (s : State) (b n : Nat) (ok : Bool) (pulses : Nat) (h : memWf s.mem = true) :
    memWf (s.eraseEnd b n ok pulses).mem = true := by
  simp [eraseEnd, memWf_forget, h]
@[simp] theorem State.memWf_fwOpEnd (s : State) (o : FReq) (ok : Bool) (pulses : Nat) (h : memWf s.mem = true) :
    memWf (s.fwOpEnd o ok pulses).mem = true := by
  unfold fwOpEnd
  dsimp only
  (repeat' split) <;> simp [memWf_setBytes, h]
@[simp] theorem State.memWf_flashCut (s : State) (h : memWf s.mem = true) : memWf (s.flashCut).mem = true := by
  unfold flashCut
  refine memWf_foldl _ (fun u o hu => ?_) _ _ h
  split
  · refine memWf_withFree _ _ (fun n v hv => ?_) hu
    split <;> simp [hv]
  · (repeat' split) <;> simp [hu]

/-! ### The tag store -/

@[simp] theorem State.memWf_markNext (s : State) (h : memWf s.mem = true) : memWf (s.markNext).1.mem = true := by
  unfold markNext
  split <;> simp [memWf_forget, h]
@[simp] theorem State.memWf_commitWrite (s : State) (recs : List (Nat × List Byte)) (h : memWf s.mem = true) :
    memWf (s.commitWrite recs).mem = true := by
  have hput (u : State) (x : Nat × List Byte) (hu : memWf u.mem = true) (n : Nat) (c : Prop) [Decidable c] :
      memWf (((if c then u.remap 4 n else u).setBytes (u.shadowAddr x.1) x.2).untear 4 n).mem = true := by
    rw [untear_mem]
    refine memWf_setBytes _ _ _ ?_
    split <;> simp [hu]
  unfold commitWrite
  exact memWf_setBytes _ _ _ (memWf_markNext _ (memWf_foldl _ (fun u x hu => hput u x hu _ _) _ _ h))
@[simp] theorem State.memWf_commitEnd (s : State) (c : TCommit) (bad : Option Nat) (h : memWf s.mem = true) :
    memWf (s.commitEnd c bad).mem = true := by
  simp only [commitEnd]
  grind [answer_mem, failJob_mem, memWf_commitWrite, credEnd_mem, memWf_scramble, tagEvent_mem, startCommit_mem,
    tagServe_mem, afterCommit_mem, tagIdle_mem, count_mem, weaken_mem]

/-! ### Cards and their journal -/

@[simp] theorem State.memWf_jDurable (s : State) (r : JRec) (h : memWf s.mem = true) :
    memWf (s.jDurable r).mem = true := by
  simp [jDurable, memWf_setBytes, h]
@[simp] theorem State.memWf_journalErased (s : State) (h : memWf s.mem = true) :
    memWf (s.journalErased).mem = true := by
  simp [journalErased, memWf_forget, h]

/-! ### Flask and the backup domain -/

@[simp] theorem State.memWf_flkAlarms (s : State) (t : Nat) (l : List Nat) (h : memWf s.mem = true) :
    memWf (s.flkAlarms t l).mem = true := by
  simp [flkAlarms, h]
@[simp] theorem State.memWf_flkSample (s : State) (t checked live : Nat) (h : memWf s.mem = true) :
    memWf (s.flkSample t checked live).mem = true := by
  simp [flkSample, h]

/-! ### The beginning of a Start -/

@[simp] theorem State.memWf_dropAll (s : State) (warm : Bool) (h : memWf s.mem = true) :
    memWf (s.dropAll warm).mem = true := by
  unfold dropAll
  refine memWf_flashCut _ ?_
  rw [mem_foldl _ fun _ _ => abandon_mem ..]
  exact h
@[simp] theorem State.memWf_coldClear (s : State) (h : memWf s.mem = true) : memWf (s.coldClear).mem = true := by
  simp [coldClear, memWf_forget, h]
@[simp] theorem State.memWf_warmClear (s : State) (h : memWf s.mem = true) : memWf (s.warmClear).mem = true := by
  simp [warmClear, h]
@[simp] theorem State.memWf_startBegin (s : State) (warm : Bool) (cause lock : Nat) (h : memWf s.mem = true) :
    memWf (s.startBegin warm cause lock).mem = true := by
  simp [startBegin, h]
@[simp] theorem State.memWf_powerLost (s : State) (h : memWf s.mem = true) : memWf (s.powerLost).mem = true := by
  simp [powerLost, h]
theorem State.memWf_sysRstWrite (s : State) (v : Word) (h : memWf s.mem = true) {t : State} (ht : s.sysRstWrite v = some
    t) :
    memWf t.mem = true := by
  grind [sysRstWrite, memWf_startBegin]

/-! ### The steps of a Start -/

@[simp] theorem State.memWf_raiseWord (s : State) (n : Nat) (h : memWf s.mem = true) :
    memWf (s.raiseWord n).mem = true := by
  simp [raiseWord, memWf_setBytes, h]
@[simp] theorem State.memWf_stepOtp (s : State) (h : memWf s.mem = true) : memWf (s.stepOtp).mem = true := by
  unfold stepOtp
  exact memWf_setBytes _ _ _ (memWf_foldl _ (fun u n hu => memWf_raiseWord u n hu) _ _ h)
@[simp] theorem State.memWf_healOwned (s : State) (b lo hi : Nat) (h : memWf s.mem = true) :
    memWf (s.healOwned b lo hi).mem = true :=
  memWf_foldl _ (fun u n hu => memWf_eraseEnd u b n true 0 hu) _ _ h
@[simp] theorem State.memWf_stepFlash (s : State) (h : memWf s.mem = true) : memWf (s.stepFlash).mem = true := by
  unfold stepFlash
  refine memWf_healOwned _ _ _ _ (memWf_healOwned _ _ _ _ (memWf_healOwned _ _ _ _ (memWf_healOwned _ _ _ _ ?_)))
  rw [mem_foldl _ fun _ _ => fault_mem ..]
  exact h
@[simp] theorem State.memWf_rowFail (s : State) (m row : Nat) (h : memWf s.mem = true) :
    memWf (s.rowFail m row).1.mem = true := by
  unfold rowFail
  dsimp only
  (repeat' split) <;> simp [h]
@[simp] theorem State.memWf_assignRoles (s : State) (warm : Bool) (bad : List (Nat × Nat)) (h : memWf s.mem = true) :
    memWf (s.assignRoles warm bad).mem = true := by
  have hroles (f : State → Nat → KPair) (l : List Nat) : (l.foldl (fun s p => s.setPair p (f s p)) s).mem = s.mem :=
    mem_foldl _ (fun u p => setPair_mem ..) l s
  unfold assignRoles
  dsimp only
  split
  · exact memWf_lockdown _ _ _ ((hroles _ _).symm ▸ h)
  · rw [startPair_mem, hroles]
    exact h
@[simp] theorem State.memWf_stepRepair (s : State) (warm : Bool) (bad rows : List (Nat × Nat)) (h : memWf s.mem = true)
    :
    memWf (s.stepRepair warm bad rows).mem = true := by
  unfold stepRepair
  refine memWf_rtcNow _ _ (fun now u hu => ?_) ?_
  · rw [mapKick_mem, belowAll_mem, assignSrcs_mem]
    refine memWf_assignRoles _ _ _ ?_
    rw [assignUnits_mem, retireAll_mem]
    exact hu
  · rw [mem_foldl _ fun _ _ => bistFail_mem ..]
    exact memWf_foldl_fst _ (fun x r hx => by exact memWf_rowFail _ _ _ hx) _ _ h
@[simp] theorem State.memWf_stepVault (s : State) (warm : Bool) (h : memWf s.mem = true) :
    memWf (s.stepVault warm).mem = true := by
  unfold stepVault
  rw [mem_foldl _ fun _ _ => by rfl]
  exact memWf_healOwned _ _ _ _ h
@[simp] theorem State.memWf_imgWipe (s : State) (h : memWf s.mem = true) : memWf (s.imgWipe).mem = true := by
  simp [imgWipe, memWf_forget, h]
@[simp] theorem State.memWf_unsealImage (s : State) (h : memWf s.mem = true) : memWf (s.unsealImage).mem = true := by
  unfold unsealImage
  dsimp only
  (repeat' split) <;> simp [h]
@[simp] theorem State.memWf_restoreLoad (s : State) (recs : List (List Byte)) (h : memWf s.mem = true) :
    memWf (s.restoreLoad recs).mem = true := by
  unfold restoreLoad
  split
  · exact memWf_lockdown _ _ _ h
  · dsimp only
    rw [unsealed_mem]
    dsimp only
    rw [imgAppend_mem, mem_foldl _ fun u r => ?one]
    · rw [imgAppend_mem]
      exact memWf_imgWipe _ h
    case one =>
      split
      · rw [imgAppend_mem, setSlot_mem]
      · rw [imgAppend_mem, mem_foldl _ fun _ _ => by rfl]
      · exact badRecord_mem u
@[simp] theorem State.memWf_decommission (s : State) (h : memWf s.mem = true) : memWf (s.decommission).mem = true := by
  obtain ⟨l, u, hu, hs⟩ : ∃ l u, u = ((s.imgWipe.setBytes 0x0C801000 (zeros 4096)).raiseWord 3).commitWrite l ∧
      s.decommission = { u with
        life := .decommissioned, flk := { u.flk with decom := false }, tag := { u.tag with ctr := none } } :=
    ⟨_, _, rfl, rfl⟩
  have hform : memWf u.mem = true :=
    hu ▸ memWf_commitWrite _ l (memWf_raiseWord _ _ (memWf_setBytes _ _ _ (memWf_imgWipe _ h)))
  rw [hs]
  exact hform
@[simp] theorem State.memWf_stepKeys (s : State) (warm : Bool) (recs : List (List Byte)) (h : memWf s.mem = true) :
    memWf (s.stepKeys warm recs).mem = true := by
  simp [stepKeys, h]
@[simp] theorem State.memWf_runStart (s : State) (r : StartReq) (xtal : Bool) (bad rows : List (Nat × Nat)) (recs : List
    (List Byte)) (h : memWf s.mem = true) :
    memWf (s.runStart r xtal bad rows recs).mem = true := by
  grind [runStart, auditKick_mem, stepDone_mem, memWf_lockdown, flkDeferred_mem, memWf_stepFlash, memWf_stepVault,
    memWf_stepOtp, stepEarly_mem, memWf_stepRepair, stepLinks_mem, memWf_stepKeys, stepClocks_mem, stepLimits_mem,
    stepRng_mem]

/-! ### Ceremonies -/

@[simp] theorem State.memWf_otpFill (s : State) (o : Nat) (l : List Byte) (h : memWf s.mem = true) :
    memWf (s.otpFill o l).mem = true := by
  simp [otpFill, memWf_setBytes, h]
@[simp] theorem State.memWf_actCommission (s : State) (c : Cer) (k : List Byte) (h : memWf s.mem = true) :
    memWf (s.actCommission c k).mem = true := by
  simp [actCommission, h]
@[simp] theorem State.memWf_actRestore (s : State) (c : Cer) (k : List Byte) (h : memWf s.mem = true) :
    memWf (s.actRestore c k).mem = true := by
  simp [actRestore, h]
@[simp] theorem State.memWf_actRaise (s : State) (h : memWf s.mem = true) : memWf (s.actRaise).mem = true := by
  simp [actRaise, h]
@[simp] theorem State.memWf_actDecommission (s : State) (h : memWf s.mem = true) :
    memWf (s.actDecommission).mem = true := by
  simp [actDecommission, h]
@[simp] theorem State.memWf_actInjection (s : State) (c : Cer) (h : memWf s.mem = true) :
    memWf (s.actInjection c).mem = true := by
  grind [actInjection, memWf_otpFill, cerEnd_mem, memWf_raiseWord, injEnd_mem, event_mem]
@[simp] theorem State.memWf_cerCombine (s : State) (h : memWf s.mem = true) : memWf (s.cerCombine).mem = true := by
  simp [cerCombine, h]
@[simp] theorem State.memWf_cerTake (s : State) (resp : Option (List Byte)) (h : memWf s.mem = true) :
    memWf (s.cerTake resp).mem = true := by
  unfold cerTake
  split <;> simp [h]

/-! ### Clocks, leave and modes -/

@[simp] theorem State.memWf_safeState (s : State) (h : memWf s.mem = true) : memWf (s.safeState).mem = true := by
  unfold safeState
  dsimp only
  rw [ccDeact_mem, ccDeact_mem]
  refine memWf_flashCut _ ?_
  rw [mem_foldl _ fun _ _ => abandon_mem ..]
  exact h
@[simp] theorem State.memWf_clockFail (s : State) (l : List Nat) (h : memWf s.mem = true) :
    memWf (s.clockFail l).mem = true := by
  simp [clockFail, h]
@[simp] theorem State.memWf_returnStart (s : State) (h : memWf s.mem = true) : memWf (s.returnStart).mem = true := by
  simp [returnStart, h]
@[simp] theorem State.memWf_clientProgFail (s : State) (o : FReq) (h : memWf s.mem = true) :
    memWf (s.clientProgFail o).mem = true := by
  unfold clientProgFail
  dsimp only
  (repeat' split) <;> simp [h]
@[simp] theorem State.memWf_clientErased (s : State) (o : FReq) (ok : Bool) (pulses : Nat) (h : memWf s.mem = true) :
    memWf (s.clientErased o ok pulses).mem = true := by
  unfold clientErased
  dsimp only
  (repeat' split) <;> simp [h]
@[simp] theorem State.memWf_flashEnd (s : State) (b : Nat) (ok : Bool) (pulses : Nat) (h : memWf s.mem = true) :
    memWf (s.flashEnd b ok pulses).mem = true := by
  unfold flashEnd
  split <;> simp [h]
theorem State.memWf_mreqWrite (s : State) (rq : Rq) (v : Word) (h : memWf s.mem = true) {t : State} (ht : s.mreqWrite rq
    v = some t) :
    memWf t.mem = true := by
  grind [mreqWrite, enterService_mem, flushLog_mem, memWf_lockdown]

/-! ### Pairs that fail -/

@[simp] theorem State.memWf_takeover (s : State) (p : Nat) (h : memWf s.mem = true) :
    memWf (s.takeover p).mem = true := by
  unfold takeover
  dsimp only
  (repeat' split) <;> simp [h]

/-! ### The registers of DBG -/

@[simp] theorem State.memWf_injSeed (s : State) (h : memWf s.mem = true) : memWf (s.injSeed).mem = true := by
  grind [injSeed, memWf_drawBytes, reseedInternal_mem, memWf_setBytes]
@[simp] theorem State.memWf_injKey (s : State) (h : memWf s.mem = true) : memWf (s.injKey).mem = true := by
  unfold injKey
  dsimp only
  split
  · refine memWf_drawUnit _ _ (fun r u hu => ?_) h
    rw [mem_foldl _ fun _ _ => setReg_mem ..]
    exact memWf_setBytes _ _ _ hu
  · exact h
@[simp] theorem State.memWf_injRaise (s : State) (h : memWf s.mem = true) : memWf (s.injRaise).mem = true := by
  simp [injRaise, h]
@[simp] theorem State.memWf_injGo (s : State) (m n : Nat) (h : memWf s.mem = true) :
    memWf (s.injGo m n).mem = true := by
  grind [injGo, memWf_injSeed, memWf_otpFill, cerWrite_mem, memWf_injRaise, injEnd_mem, memWf_injKey]
theorem State.memWf_injWrite (s : State) (rq : Rq) (v : Word) (h : memWf s.mem = true) {t : State} (ht : s.injWrite rq v
    = some t) :
    memWf t.mem = true := by
  grind [injWrite, setReg_mem, memWf_injGo, injEnd_mem]
theorem State.memWf_dbgWrite (s : State) (rq : Rq) (a : Nat) (v : Word) (h : memWf s.mem = true) {t : State} (ht :
    s.dbgWrite rq a v = some t) :
    memWf t.mem = true := by
  grind [dbgWrite, setReg_mem, memWf_injWrite, tctrWrite_mem, tktWrite_mem, dbgPairWrite_mem, cregDataWrite_mem]

/-! ### Register reads and writes -/

theorem State.memWf_kstWrite (s : State) (a : Nat) (v : Word) (h : memWf s.mem = true) {t : State} (ht : s.kstWrite a v
    = some t) :
    memWf t.mem = true := by
  grind [kstWrite, cerCmdWrite_mem, domSlotWrite_mem, checked_mem, plainWrite_mem, kstFwWrite_mem, memWf_quenchLock]
theorem State.memWf_sysWrite (s : State) (rq : Rq) (a : Nat) (v : Word) (h : memWf s.mem = true) {t : State} (ht :
    s.sysWrite rq a v = some t) :
    memWf t.mem = true := by
  grind [sysWrite, memWf_sysRstWrite, sysPairWrite_mem, plainWrite_mem, memWf_mreqWrite]
theorem State.memWf_regWrite (s : State) (rq : Rq) (b i pg off : Nat) (v : Word) (h : memWf s.mem = true) {t : State}
    (ht : s.regWrite rq b i pg off v = some t) :
    memWf t.mem = true := by
  have hkept {u : State} (hu : u.mem = s.mem) : memWf u.mem = true := hu ▸ h
  have hsome {u : State} (hu : u.mem = s.mem) (ht : some u = some t) : memWf t.mem = true :=
    Option.some.inj ht ▸ hkept hu
  revert ht
  unfold regWrite
  refine of_ite_eq (hsome (headWrite_mem ..)) <| of_ite_eq (hsome ?hpt) <|
    of_ite_eq (fun e => hkept (tunWrite_mem _ _ _ e)) <| of_ite_eq (fun e => hkept (ctxWrite_mem _ _ _ e)) <|
    of_ite_eq (fun e => hkept (cruWrite_mem _ _ _ _ _ e)) <| of_ite_eq (fun e => hkept (rngWrite_mem _ _ _ e)) <|
    of_ite_eq (fun e => memWf_kstWrite _ _ _ h e) <| of_ite_eq (fun e => hkept (gatWrite_mem _ _ _ _ e)) <|
    of_ite_eq (fun e => hkept (flcWrite_mem _ _ _ e)) <| of_ite_eq (fun e => hkept (tagWrite_mem _ _ _ e)) <|
    of_ite_eq (of_ite_eq (fun e => hkept (custWrite_mem _ _ e)) (hsome (plainWrite_mem ..))) <|
    of_ite_eq (fun e => hkept (flkWrite_mem _ _ _ _ e)) <| of_ite_eq (fun e => hkept (skmWrite_mem _ _ _ e)) <|
    of_ite_eq (fun e => hkept (risWrite_mem _ _ _ e)) <| of_ite_eq (fun e => hkept (clkWrite_mem _ _ _ e)) <|
    of_ite_eq (fun e => memWf_sysWrite _ _ _ _ h e) <| of_ite_eq (fun e => memWf_dbgWrite _ _ _ _ h e)
      (hsome (plainWrite_mem ..))
  case hpt => split <;> simp
@[simp] theorem State.memWf_writeAt (s : State) (rq : Rq) (a : Nat) (v : Word) (h : memWf s.mem = true) :
    memWf (s.writeAt rq a v).mem = true := by
  grind [writeAt, memWf_asWrite, refuse_mem, memWf_regWrite]
@[simp] theorem State.memWf_load (s : State) (p : Pair) (a n : Nat) (k : Nat → State → State) (hk : ∀ x u, memWf u.mem =
    true → memWf (k x u).mem = true) (h : memWf s.mem = true) :
    memWf (s.load p a n k).mem = true := by
  unfold load
  split
  · exact (refusePair_mem ..).symm ▸ h
  split
  · exact h
  split
  · split
    · exact hk _ _ ((regRead_mem _ _ _ _ _ ‹_›).symm ▸ h)
    · exact (refusePair_mem ..).symm ▸ h
  · exact hk _ _ h
  · exact hk _ _ h
@[simp] theorem State.memWf_store (s : State) (p : Pair) (a n v : Nat) (k : State → State) (hk : ∀ u, memWf u.mem = true
    → memWf (k u).mem = true) (h : memWf s.mem = true) :
    memWf (s.store p a n v k).mem = true := by
  grind [store, post_mem, memWf_regWrite, refusePair_mem, memWf_setBytes]
@[simp] theorem State.memWf_dbgStore (s : State) (a : Nat) (v : Word) (h : memWf s.mem = true) :
    memWf (s.dbgStore a v).mem = true := by
  grind [dbgStore, dbgRefuse_mem, memWf_regWrite, dbgAck_mem, memWf_setBytes]
@[simp] theorem State.memWf_heldRun (s : State) (x : HeldAcc) (h : memWf s.mem = true) :
    memWf (s.heldRun x).mem = true := by
  unfold heldRun
  split <;> simp [h]
@[simp] theorem State.memWf_srstDone (s : State) (b i : Nat) (h : memWf s.mem = true) :
    memWf (s.srstDone b i).mem = true := by
  unfold srstDone
  dsimp only
  split
  · exact h
  · exact memWf_foldl _ (fun u x hu => memWf_heldRun u x hu) _ _ ((srstEnd_mem ..).symm ▸ h)
@[simp] theorem memWf_headCmd (s : State) (rq : Rq) (b i off : Nat) (v : Word) (eff : State → State) (heff : ∀ u, memWf
    u.mem = true → memWf (eff u).mem = true) (h : memWf s.mem = true) :
    memWf (headCmd rq b i off v eff s).mem = true := by
  grind [headCmd, State.memWf_asWrite]

/-! ### The debug master -/

@[simp] theorem State.memWf_tapSelect (s : State) (code : Nat) (h : memWf s.mem = true) :
    memWf (s.tapSelect code).mem = true := by
  simp [tapSelect, h]

/-! ### Loads, stores and the bit space -/

@[simp] theorem memWf_storeOp (s : State) (p : Pair) (c : Cond) (ra : GReg) (imm : BitVec 14) (n : Nat) (v : KPair →
    Nat) (h : memWf s.mem = true) :
    memWf (storeOp p c ra imm n v s).mem = true := by
  grind [storeOp, State.memWf_store, State.afterStore_mem, State.memWf_instr]
@[simp] theorem State.memWf_bitGet (s : State) (p a : Nat) (f : Bool → State → State) (hf : ∀ x u, memWf u.mem = true →
    memWf (f x u).mem = true) (h : memWf s.mem = true) :
    memWf (s.bitGet p a f).mem = true := by
  unfold bitGet
  split <;> simp [hf, h]
@[simp] theorem State.memWf_bitPut (s : State) (p a : Nat) (v : Bool) (f : State → State) (hf : ∀ u, memWf u.mem = true
    → memWf (f u).mem = true) (h : memWf s.mem = true) :
    memWf (s.bitPut p a v f).mem = true := by
  unfold bitPut
  split <;> simp [hf, h]

/-! ### Commands -/

/-- The answer of a command, if a next state, has memory in canonical form. -/
def Formed (o : Host.Outcome State Fault Refusal) : Prop := ∀ t, o = .next t → memWf t.mem = true

@[simp] theorem formed_next (t : State) : Formed (.next t) ↔ memWf t.mem = true :=
  ⟨fun h => h t rfl, fun h _ e => Host.Outcome.next.inj e ▸ h⟩

/-! ### Lane states -/

@[simp] theorem formed_execLaneSeedArrival (s : State) (n : Fin 9) (waited : Nat) (h : memWf s.mem = true) :
    Formed (execLaneSeedArrival n waited s) := by
  unfold execLaneSeedArrival
  dsimp only
  (repeat' split) <;> simp [h]

/-! ### Jobs on a lane -/

@[simp] theorem formed_execOpenFrame (s : State) (job : Nat) (h : memWf s.mem = true) :
    Formed (execOpenFrame job s) := by
  unfold execOpenFrame
  dsimp only
  (repeat' split) <;> simp [h]
@[simp] theorem formed_execSealFrame (s : State) (job : Nat) (h : memWf s.mem = true) :
    Formed (execSealFrame job s) := by
  grind [Formed, execSealFrame, State.onLane_mem, State.sealFrame_mem]
@[simp] theorem formed_execStreamSave (s : State) (job : Nat) (h : memWf s.mem = true) :
    Formed (execStreamSave job s) := by
  unfold execStreamSave
  split <;> simp [h]
@[simp] theorem formed_execStreamRestore (s : State) (job : Nat) (h : memWf s.mem = true) :
    Formed (execStreamRestore job s) := by
  unfold execStreamRestore
  split <;> simp [h]
@[simp] theorem formed_execWrap (s : State) (job : Nat) (h : memWf s.mem = true) : Formed (execWrap job s) := by
  unfold execWrap
  split <;> simp [h]
@[simp] theorem formed_execDerive (s : State) (job : Nat) (h : memWf s.mem = true) : Formed (execDerive job s) := by
  unfold execDerive
  split <;> simp [h]

/-! ### Installs, enrolment and vault events -/

@[simp] theorem formed_execLaneSeedTimeout (s : State) (n : Fin 9) (late : List Nat) (h : memWf s.mem = true) :
    Formed (execLaneSeedTimeout n late s) := by
  unfold execLaneSeedTimeout
  dsimp only
  (repeat' split) <;> simp [h]
@[simp] theorem formed_execVaultTableReadReturn (s : State) (h : memWf s.mem = true) :
    Formed (execVaultTableReadReturn s) := by
  unfold execVaultTableReadReturn
  split <;> simp [h]
@[simp] theorem formed_execRecordFetchCompletion (s : State) (d : Port) (idx : Nat) (r : ReadRes) (h : memWf s.mem =
    true) :
    Formed (execRecordFetchCompletion d idx r s) := by
  simp only [execRecordFetchCompletion, formed_next]
  grind [State.endInstall_mem, State.modInstall_mem]
@[simp] theorem formed_execInstallDone (s : State) (n : Fin 9) (h : memWf s.mem = true) :
    Formed (execInstallDone n s) := by
  unfold execInstallDone
  dsimp only
  (repeat' split) <;> simp [h]
@[simp] theorem formed_execInstallEntryFree (s : State) (d : Port) (idx : Nat) (h : memWf s.mem = true) :
    Formed (execInstallEntryFree d idx s) := by
  unfold execInstallEntryFree
  split <;> simp [h]
@[simp] theorem formed_execEnrolPut (s : State) (job : Nat) (h : memWf s.mem = true) : Formed (execEnrolPut job s) := by
  unfold execEnrolPut
  split <;> simp [h]
@[simp] theorem formed_execEnrolRetire (s : State) (job : Nat) (h : memWf s.mem = true) :
    Formed (execEnrolRetire job s) := by
  unfold execEnrolRetire
  split <;> simp [h]
@[simp] theorem formed_execCtxFlush (s : State) (job : Nat) (h : memWf s.mem = true) : Formed (execCtxFlush job s) := by
  unfold execCtxFlush
  split <;> simp [h]
@[simp] theorem formed_execVaultPageDurable (s : State) (h : memWf s.mem = true) : Formed (execVaultPageDurable s) := by
  unfold execVaultPageDurable
  split <;> simp [h]
@[simp] theorem formed_execVaultCloseComplete (s : State) (h : memWf s.mem = true) :
    Formed (execVaultCloseComplete s) := by
  unfold execVaultCloseComplete
  split <;> simp [h]
@[simp] theorem formed_execCloseVault (s : State) (rq : Rq) (h : memWf s.mem = true) :
    Formed (execCloseVault rq s) := by
  grind [Formed, execCloseVault, State.asWrite_mem, State.ctxCtrlWrite_mem]
@[simp] theorem formed_execOpenVault (s : State) (rq : Rq) (h : memWf s.mem = true) : Formed (execOpenVault rq s) := by
  grind [Formed, execOpenVault, State.asWrite_mem, State.ctxCtrlWrite_mem]
@[simp] theorem formed_execVaultRangeWrite (s : State) (rq : Rq) (d : Port) (cnt : Bool) (v : Word) (h : memWf s.mem =
    true) :
    Formed (execVaultRangeWrite rq d cnt v s) := by
  grind [Formed, execVaultRangeWrite, State.rangeWrite_mem, State.asWrite_mem]
@[simp] theorem formed_execCklWrite (s : State) (rq : Rq) (v : Word) (h : memWf s.mem = true) :
    Formed (execCklWrite rq v s) := by
  grind [Formed, execCklWrite, State.asWrite_mem, State.ctxCfgWrite_mem]

/-! ### The Crucible -/

@[simp] theorem formed_execPkSign (s : State) (job : Nat) (h : memWf s.mem = true) : Formed (execPkSign job s) := by
  unfold execPkSign
  split <;> simp [h]
@[simp] theorem formed_execPkVerify (s : State) (job : Nat) (h : memWf s.mem = true) : Formed (execPkVerify job s) := by
  unfold execPkVerify
  split <;> simp [h]
@[simp] theorem formed_execPkAgree (s : State) (job : Nat) (h : memWf s.mem = true) : Formed (execPkAgree job s) := by
  unfold execPkAgree
  split <;> simp [h]
@[simp] theorem formed_execPkKeygen (s : State) (job : Nat) (h : memWf s.mem = true) : Formed (execPkKeygen job s) := by
  unfold execPkKeygen
  split <;> simp [h]
@[simp] theorem formed_execRsaPriv (s : State) (job : Nat) (h : memWf s.mem = true) : Formed (execRsaPriv job s) := by
  unfold execRsaPriv
  split <;> simp [h]
@[simp] theorem formed_execRsaPub (s : State) (job : Nat) (h : memWf s.mem = true) : Formed (execRsaPub job s) := by
  unfold execRsaPub
  split <;> simp [h]
@[simp] theorem formed_execUnwrap (s : State) (job : Nat) (h : memWf s.mem = true) : Formed (execUnwrap job s) := by
  unfold execUnwrap
  split <;> simp [h]
@[simp] theorem formed_execCruWipeDone (s : State) (u : Fin 3) (h : memWf s.mem = true) :
    Formed (execCruWipeDone u s) := by
  unfold execCruWipeDone
  dsimp only
  (repeat' split) <;> simp [h]
@[simp] theorem formed_execCruRngTimeout (s : State) (job : Nat) (h : memWf s.mem = true) :
    Formed (execCruRngTimeout job s) := by
  grind [Formed, execCruRngTimeout, State.failJob_mem, State.fwFail_mem]
@[simp] theorem formed_execSelftest (s : State) (rq : Rq) (u : Fin 3) (v : Word) (h : memWf s.mem = true) :
    Formed (execSelftest rq u v s) := by
  grind [Formed, execSelftest, State.asWrite_mem, State.uctrlWrite_mem]
@[simp] theorem formed_execCruTestDone (s : State) (u : Fin 3) (fail : Option (Fin 256)) (h : memWf s.mem = true) :
    Formed (execCruTestDone u fail s) := by
  simp only [execCruTestDone, formed_next]
  grind [State.unitKatFail_mem, State.setFld_mem, State.modUnit_mem]
@[simp] theorem formed_execCruFwGo (s : State) (rq : Rq) (v : Word) (h : memWf s.mem = true) :
    Formed (execCruFwGo rq v s) := by
  grind [Formed, execCruFwGo, State.asWrite_mem, State.fwCmdWrite_mem]

/-! ### Random numbers -/

@[simp] theorem formed_execRandom (s : State) (job : Nat) (h : memWf s.mem = true) : Formed (execRandom job s) := by
  unfold execRandom
  split <;> simp [h]
@[simp] theorem formed_execReseed (s : State) (job : Nat) (h : memWf s.mem = true) : Formed (execReseed job s) := by
  unfold execReseed
  split <;> simp [h]
@[simp] theorem formed_execRngRun (s : State) (h : memWf s.mem = true) : Formed (execRngRun s) := by
  grind [Formed, execRngRun, State.cruMaterial_mem, State.takeWords_mem, State.rngDrain_mem, State.event_mem]
@[simp] theorem formed_execRngWaitTimeout (s : State) (job : Nat) (h : memWf s.mem = true) :
    Formed (execRngWaitTimeout job s) := by
  unfold execRngWaitTimeout
  split <;> simp [h]
@[simp] theorem formed_execRngCapture (s : State) (rq : Rq) (v : Word) (h : memWf s.mem = true) :
    Formed (execRngCapture rq v s) := by
  grind [Formed, execRngCapture, State.captWrite_mem, State.asWrite_mem]

/-! ### Key-store commands and image records -/

@[simp] theorem formed_execGenerate (s : State) (rq : Rq) (n : Fin 4096) (typ : Fin 256) (h : memWf s.mem = true) :
    Formed (execGenerate rq n typ s) := by
  grind [Formed, execGenerate, State.asWrite_mem, State.kstFwWrite_mem]
@[simp] theorem formed_execKstSetShare (s : State) (rq : Rq) (n : Fin 4096) (h : memWf s.mem = true) :
    Formed (execKstSetShare rq n s) := by
  grind [Formed, execKstSetShare, State.asWrite_mem, State.kstFwWrite_mem]
@[simp] theorem formed_execNarrow (s : State) (rq : Rq) (n : Fin 4096) (h : memWf s.mem = true) :
    Formed (execNarrow rq n s) := by
  grind [Formed, execNarrow, State.asWrite_mem, State.kstFwWrite_mem]
@[simp] theorem formed_execKstErase (s : State) (rq : Rq) (n : Fin 4096) (h : memWf s.mem = true) :
    Formed (execKstErase rq n s) := by
  grind [Formed, execKstErase, State.asWrite_mem, State.kstFwWrite_mem]
@[simp] theorem formed_execImageRecordDurable (s : State) (h : memWf s.mem = true) :
    Formed (execImageRecordDurable s) := by
  unfold execImageRecordDurable
  split <;> simp [h]
@[simp] theorem formed_execImageStall (s : State) (h : memWf s.mem = true) : Formed (execImageStall s) := by
  unfold execImageStall
  split <;> simp [h]

/-! ### Rings and dispatch -/

@[simp] theorem formed_execOwnReread (s : State) (q : Nat) (e : List Byte) (h : memWf s.mem = true) :
    Formed (execOwnReread q e s) := by
  unfold execOwnReread
  split <;> simp [h]
@[simp] theorem formed_execInputReadCompletion (s : State) (job off : Nat) (r : ReadRes) (h : memWf s.mem = true) :
    Formed (execInputReadCompletion job off r s) := by
  grind [Formed, execInputReadCompletion, State.inputIn_mem, State.inputFail_mem]
@[simp] theorem formed_execLadleReadTimeout (s : State) (job off : Nat) (h : memWf s.mem = true) :
    Formed (execLadleReadTimeout job off s) := by
  unfold execLadleReadTimeout
  split <;> simp [h]
@[simp] theorem formed_execJobDispatch (s : State) (cru : Bool) (cont : Option (Fin 9)) (h : memWf s.mem = true) :
    Formed (execJobDispatch cru cont s) := by
  simp only [execJobDispatch, formed_next]
  grind [State.nextSegment_mem, State.cruDispatch_mem, State.laneDispatch_mem]
@[simp] theorem formed_execCqReadAheadCompletion (s : State) (q : Nat) (owns : Option (List Bool)) (h : memWf s.mem =
    true) :
    Formed (execCqReadAheadCompletion q owns s) := by
  simp only [execCqReadAheadCompletion, formed_next]
  grind [State.readAheadDone_mem, State.cqFault_mem]
@[simp] theorem formed_execNop (s : State) (job : Nat) (h : memWf s.mem = true) : Formed (execNop job s) := by
  unfold execNop
  split <;> simp [h]

/-! ### Admin commands -/

@[simp] theorem formed_execDestroyQp (s : State) (job : Nat) (h : memWf s.mem = true) :
    Formed (execDestroyQp job s) := by
  grind [Formed, execDestroyQp, State.destroyStart_mem, State.destroyOn_mem, State.adminRun_mem, State.destroyStep_mem]
@[simp] theorem formed_execDestroyTmoExpiry (s : State) (q : Nat) (h : memWf s.mem = true) :
    Formed (execDestroyTmoExpiry q s) := by
  unfold execDestroyTmoExpiry
  split <;> simp [h]

/-! ### Control flow and special registers -/

@[simp] theorem formed_execKTrap (s : State) (p : Pair) (c : Cond) (n : Fin 128) (h : memWf s.mem = true) :
    Formed (execKTrap p c n s) := by
  grind [Formed, execKTrap, State.except_mem, State.instr_mem, State.enter_mem]
@[simp] theorem formed_execInterruptEntry (s : State) (p : Pair) (h : memWf s.mem = true) :
    Formed (execInterruptEntry p s) := by
  unfold execInterruptEntry
  split <;> simp [h]
@[simp] theorem formed_execKMfs (s : State) (p : Pair) (c : Cond) (rd : GReg) (sr : Fin 32) (h : memWf s.mem = true) :
    Formed (execKMfs p c rd sr s) := by
  unfold execKMfs
  split <;> simp [h]

/-! ### Skimmer and Riser commands -/

@[simp] theorem formed_execFaultMessageTaken (s : State) (ms : Nat) (h : memWf s.mem = true) :
    Formed (execFaultMessageTaken ms s) := by
  unfold execFaultMessageTaken
  split <;> simp [h]
@[simp] theorem formed_execFaultClear (s : State) (rq : Rq) (v : Word) (h : memWf s.mem = true) :
    Formed (execFaultClear rq v s) := by
  grind [Formed, execFaultClear, State.asWrite_mem, State.clrWrite_mem]

/-! ### The flash controller -/

@[simp] theorem formed_execProgram (s : State) (rq : Rq) (h : memWf s.mem = true) : Formed (execProgram rq s) := by
  grind [Formed, execProgram, State.asWrite_mem, State.flcCmdWrite_mem]
@[simp] theorem formed_execErase (s : State) (rq : Rq) (h : memWf s.mem = true) : Formed (execErase rq s) := by
  grind [Formed, execErase, State.asWrite_mem, State.flcCmdWrite_mem]
@[simp] theorem formed_execBlankCheck (s : State) (rq : Rq) (h : memWf s.mem = true) :
    Formed (execBlankCheck rq s) := by
  grind [Formed, execBlankCheck, State.asWrite_mem, State.flcCmdWrite_mem]
@[simp] theorem formed_execOtpProgram (s : State) (rq : Rq) (h : memWf s.mem = true) :
    Formed (execOtpProgram rq s) := by
  grind [Formed, execOtpProgram, State.asWrite_mem, State.flcCmdWrite_mem]
@[simp] theorem formed_execSusp (s : State) (rq : Rq) (op : Fin 16) (h : memWf s.mem = true) :
    Formed (execSusp rq op s) := by
  grind [Formed, execSusp, State.asWrite_mem, State.flcCmdWrite_mem]
@[simp] theorem formed_execResm (s : State) (rq : Rq) (op : Fin 16) (h : memWf s.mem = true) :
    Formed (execResm rq op s) := by
  grind [Formed, execResm, State.asWrite_mem, State.flcCmdWrite_mem]
@[simp] theorem formed_execEraseSuspended (s : State) (b : Fin 4) (why : Fin 3) (h : memWf s.mem = true) :
    Formed (execEraseSuspended b why s) := by
  unfold execEraseSuspended
  split <;> simp [h]
@[simp] theorem formed_execEraseAutoResume (s : State) (b : Fin 4) (h : memWf s.mem = true) :
    Formed (execEraseAutoResume b s) := by
  unfold execEraseAutoResume
  split <;> simp [h]

/-! ### Tag commands -/

@[simp] theorem formed_execCommitEnergyTimeout (s : State) (h : memWf s.mem = true) :
    Formed (execCommitEnergyTimeout s) := by
  unfold execCommitEnergyTimeout
  split <;> simp [h]
@[simp] theorem formed_execTagCommitDone (s : State) (bad : Option (Fin 16)) (h : memWf s.mem = true) :
    Formed (execTagCommitDone bad s) := by
  unfold execTagCommitDone
  split <;> simp [h]
@[simp] theorem formed_execMarkerPreErase (s : State) (h : memWf s.mem = true) : Formed (execMarkerPreErase s) := by
  simp [execMarkerPreErase, State.memWf_forget, h]
@[simp] theorem formed_execTagBusyTimeout (s : State) (job : Nat) (h : memWf s.mem = true) :
    Formed (execTagBusyTimeout job s) := by
  unfold execTagBusyTimeout
  split <;> simp [h]

/-! ### Ports, domains and the management link -/

@[simp] theorem formed_execMlinkRead (s : State) (h : memWf s.mem = true) : Formed (execMlinkRead s) := by
  unfold execMlinkRead
  split <;> simp [h]

/-! ### Cards and their journal -/

@[simp] theorem formed_execWriteGen (s : State) (rq : Rq) (h : memWf s.mem = true) : Formed (execWriteGen rq s) := by
  grind [Formed, execWriteGen, State.asWrite_mem, State.custWrite_mem]
@[simp] theorem formed_execVerify (s : State) (rq : Rq) (h : memWf s.mem = true) : Formed (execVerify rq s) := by
  grind [Formed, execVerify, State.asWrite_mem, State.custWrite_mem]
@[simp] theorem formed_execDiscardJournal (s : State) (rq : Rq) (h : memWf s.mem = true) :
    Formed (execDiscardJournal rq s) := by
  grind [Formed, execDiscardJournal, State.asWrite_mem, State.custWrite_mem]
@[simp] theorem formed_execJournalRecordDurable (s : State) (wp : Bool) (h : memWf s.mem = true) :
    Formed (execJournalRecordDurable wp s) := by
  unfold execJournalRecordDurable
  split <;> simp [h]
@[simp] theorem formed_execJournalTimeout (s : State) (h : memWf s.mem = true) : Formed (execJournalTimeout s) := by
  unfold execJournalTimeout
  dsimp only
  (repeat' split) <;> simp [h]
@[simp] theorem formed_execCardWriteDone (s : State) (res : Fin 3) (h : memWf s.mem = true) :
    Formed (execCardWriteDone res s) := by
  unfold execCardWriteDone
  split <;> simp [h]
@[simp] theorem formed_execCardBusyTimeout (s : State) (h : memWf s.mem = true) : Formed (execCardBusyTimeout s) := by
  unfold execCardBusyTimeout
  split <;> simp [h]

/-! ### Flask and the backup domain -/

@[simp] theorem formed_execFlaskSample (s : State) (checked live : BitVec 14) (temp : Option Byte) (h : memWf s.mem =
    true) :
    Formed (execFlaskSample checked live temp s) := by
  simp only [execFlaskSample, formed_next]
  grind [State.memWf_flkSample, State.memWf_rtcNow]
@[simp] theorem formed_execFlaskContinuousTrip (s : State) (live : BitVec 14) (light : BitVec 16) (h : memWf s.mem =
    true) :
    Formed (execFlaskContinuousTrip live light s) := by
  grind [Formed, execFlaskContinuousTrip, State.memWf_flkSample, State.flkLight_mem, State.memWf_rtcNow]
@[simp] theorem formed_execFlagClear (s : State) (rq : Rq) (v : Word) (h : memWf s.mem = true) :
    Formed (execFlagClear rq v s) := by
  grind [Formed, execFlagClear, State.asWrite_mem, State.flkClrWrite_mem]
@[simp] theorem formed_execRtcSet (s : State) (rq : Rq) (v : Word) (h : memWf s.mem = true) :
    Formed (execRtcSet rq v s) := by
  grind [Formed, execRtcSet, State.asWrite_mem, State.rtcSetWrite_mem]
@[simp] theorem formed_execMirrorEntryWrite (s : State) (h : memWf s.mem = true) : Formed (execMirrorEntryWrite s) := by
  unfold execMirrorEntryWrite
  split <;> simp [State.memWf_forget, State.memWf_setBytes, h]

/-! ### The beginning of a Start -/

@[simp] theorem formed_execCold (s : State) (rq : Rq) (h : memWf s.mem = true) : Formed (execCold rq s) := by
  grind [Formed, execCold, State.memWf_asWrite, State.memWf_sysRstWrite]
@[simp] theorem formed_execWarm (s : State) (rq : Rq) (h : memWf s.mem = true) : Formed (execWarm rq s) := by
  grind [Formed, execWarm, State.memWf_asWrite, State.memWf_sysRstWrite]

/-! ### The steps of a Start -/

@[simp] theorem formed_execColdStart (s : State) (xtal : Bool) (bad rows : List (Nat × Nat)) (h : memWf s.mem = true) :
    Formed (execColdStart xtal bad rows s) := by
  unfold execColdStart
  split <;> simp [h]
@[simp] theorem formed_execWarmStart (s : State) (bad : List (Nat × Nat)) (recs : List (List Byte)) (h : memWf s.mem =
    true) :
    Formed (execWarmStart bad recs s) := by
  unfold execWarmStart
  split <;> simp [h]

/-! ### Ceremonies -/

@[simp] theorem formed_execCommission (s : State) (rq : Rq) (m n : Fin 16) (h : memWf s.mem = true) :
    Formed (execCommission rq m n s) := by
  grind [Formed, execCommission, State.cerCmdWrite_mem, State.asWrite_mem]
@[simp] theorem formed_execRestore (s : State) (rq : Rq) (h : memWf s.mem = true) : Formed (execRestore rq s) := by
  grind [Formed, execRestore, State.cerCmdWrite_mem, State.asWrite_mem]
@[simp] theorem formed_execRaise (s : State) (rq : Rq) (h : memWf s.mem = true) : Formed (execRaise rq s) := by
  grind [Formed, execRaise, State.cerCmdWrite_mem, State.asWrite_mem]
@[simp] theorem formed_execDecommission (s : State) (rq : Rq) (h : memWf s.mem = true) :
    Formed (execDecommission rq s) := by
  grind [Formed, execDecommission, State.cerCmdWrite_mem, State.asWrite_mem]
@[simp] theorem formed_execAbort (s : State) (rq : Rq) (h : memWf s.mem = true) : Formed (execAbort rq s) := by
  grind [Formed, execAbort, State.cerCmdWrite_mem, State.asWrite_mem]
@[simp] theorem formed_execQuench (s : State) (rq : Rq) (h : memWf s.mem = true) : Formed (execQuench rq s) := by
  grind [Formed, execQuench, State.memWf_asWrite, State.memWf_quenchLock]

/-! ### Clocks, leave and modes -/

@[simp] theorem formed_execLeaveGrant (s : State) (h : memWf s.mem = true) : Formed (execLeaveGrant s) := by
  grind [Formed, execLeaveGrant, State.grantHead_mem, State.granted_mem]
@[simp] theorem formed_execLeaveWait (s : State) (i : Nat) (w : Fin 65536) (h : memWf s.mem = true) :
    Formed (execLeaveWait i w s) := by
  unfold execLeaveWait
  split <;> simp [h]
@[simp] theorem formed_execPwrBudget (s : State) (rq : Rq) (v : Word) (h : memWf s.mem = true) :
    Formed (execPwrBudget rq v s) := by
  grind [Formed, execPwrBudget, State.asWrite_mem, State.budgetWrite_mem]
@[simp] theorem formed_execService (s : State) (rq : Rq) (h : memWf s.mem = true) : Formed (execService rq s) := by
  grind [Formed, execService, State.memWf_asWrite, State.memWf_mreqWrite]
@[simp] theorem formed_execHold (s : State) (rq : Rq) (h : memWf s.mem = true) : Formed (execHold rq s) := by
  grind [Formed, execHold, State.memWf_asWrite, State.memWf_mreqWrite]
@[simp] theorem formed_execLockdown (s : State) (rq : Rq) (h : memWf s.mem = true) : Formed (execLockdown rq s) := by
  grind [Formed, execLockdown, State.memWf_asWrite, State.memWf_mreqWrite]
@[simp] theorem formed_execServicePairRelease (s : State) (rq : Rq) (h : memWf s.mem = true) :
    Formed (execServicePairRelease rq s) := by
  grind [Formed, execServicePairRelease, State.asWrite_mem, State.sysPairWrite_mem]

/-! ### Pairs that fail -/

@[simp] theorem formed_execPairRestart (s : State) (rq : Rq) (target : Fin 4) (h : memWf s.mem = true) :
    Formed (execPairRestart rq target s) := by
  grind [Formed, execPairRestart, State.pairCtlWrite_mem, State.asWrite_mem]
@[simp] theorem formed_execRefusedFetch (s : State) (p : Pair) (h : memWf s.mem = true) :
    Formed (execRefusedFetch p s) := by
  grind [Formed, execRefusedFetch, State.refusePair_mem]

/-! ### The debug master -/

@[simp] theorem formed_execTicketGo (s : State) (rq : Rq) (len : Fin 2048) (h : memWf s.mem = true) :
    Formed (execTicketGo rq len s) := by
  grind [Formed, execTicketGo, State.asWrite_mem, State.tktWrite_mem]
@[simp] theorem formed_execTicketClose (s : State) (rq : Rq) (h : memWf s.mem = true) :
    Formed (execTicketClose rq s) := by
  grind [Formed, execTicketClose, State.asWrite_mem, State.tktWrite_mem]
@[simp] theorem formed_execTctrWrite (s : State) (rq : Rq) (v : Word) (h : memWf s.mem = true) :
    Formed (execTctrWrite rq v s) := by
  grind [Formed, execTctrWrite, State.asWrite_mem, State.tctrWrite_mem]
@[simp] theorem formed_execHalt (s : State) (rq : Rq) (p : Fin 4) (h : memWf s.mem = true) :
    Formed (execHalt rq p s) := by
  grind [Formed, execHalt, State.asWrite_mem, State.dbgPairWrite_mem]
@[simp] theorem formed_execStep (s : State) (rq : Rq) (p : Fin 4) (h : memWf s.mem = true) :
    Formed (execStep rq p s) := by
  grind [Formed, execStep, State.asWrite_mem, State.dbgPairWrite_mem]
@[simp] theorem formed_execResume (s : State) (rq : Rq) (p : Fin 4) (h : memWf s.mem = true) :
    Formed (execResume rq p s) := by
  grind [Formed, execResume, State.asWrite_mem, State.dbgPairWrite_mem]
@[simp] theorem formed_execCregAccess (s : State) (rq : Rq) (wr : Option Word) (h : memWf s.mem = true) :
    Formed (execCregAccess rq wr s) := by
  unfold execCregAccess
  split
  · rw [formed_next, State.asWrite_mem _ _ _ _ _ _ _ fun _ _ => State.cregDataWrite_mem _ _]
    exact h
  · rw [formed_next, State.asRead_mem _ _ _ _ _ _ fun u => ?read]
    · exact h
    case read =>
      split
      · exact State.cregDataRead_mem _ ‹_›
      · exact State.refuse_mem ..
@[simp] theorem formed_execIdentityInjection (s : State) (rq : Rq) (m n : Fin 16) (h : memWf s.mem = true) :
    Formed (execIdentityInjection rq m n s) := by
  grind [Formed, execIdentityInjection, State.memWf_injWrite, State.memWf_asWrite]

/-! ### Loads, stores and the bit space -/

@[simp] theorem formed_execKStd (s : State) (p : Pair) (c : Cond) (rd ra : GReg) (imm : BitVec 14) (h : memWf s.mem =
    true) :
    Formed (execKStd p c rd ra imm s) := by
  grind [Formed, execKStd, State.except_mem, State.memWf_store, State.afterStore_mem, State.memWf_instr]
@[simp] theorem formed_execKPush (s : State) (p : Pair) (c : Cond) (rd : GReg) (h : memWf s.mem = true) :
    Formed (execKPush p c rd s) := by
  grind [Formed, execKPush, State.memWf_store, State.afterStore_mem, State.memWf_instr]
@[simp] theorem formed_execKXchg (s : State) (p : Pair) (c : Cond) (rd ra rb : GReg) (h : memWf s.mem = true) :
    Formed (execKXchg p c rd ra rb s) := by
  grind [Formed, execKXchg, State.memWf_load, State.memWf_store, State.finish_mem, State.memWf_instr,
    State.refusePair_mem]

/-! ### Every command -/

/-- Every command keeps the form: one that splits on the state by its lemma above, the others by what they call. -/
theorem formed_exec (c : Instr) (s : State) (h : memWf s.mem = true) : Formed (exec c s) := by
  cases c <;> simp [exec, h, execLaneActivationDone, execLaneIdleTimeout, execEnc, execDec, execMacGen, execMacVer,
    execXtsEnc, execXtsDec, execVaultPageFlushTimer, execVaultCompaction, execVaultRefresh, execVaultStall,
    execVaultLeaveRetry, execCruDurationEnd, execSeedWordReady, execSourceStartupPass, execRngHealthFail,
    execInternalReseed, execReseedInt, execRngFwrndRead, execSqTail, execCqHint, execInlinePush, execFetchTurn,
    execEntryReadCompletion, execCreditPeriod, execCompletionWrite, execCqReadAhead, execCreateQp, execQueryQp,
    execSetShare, execBindTable, execSetWindow, execGetCaps, execGetFaults, execDrbgInstantiate, execKAdd, execKSub,
    execKAnd, execKOr, execKXor, execKShl, execKShr, execKSar, execKRor, execKAddc, execKSubc, execKCmp, execKTst,
    execKMov, execKAddv, execKSubv, execKAddi, execKAndi, execKOri, execKXori, execKShli, execKShri, execKSari,
    execKCmpi, execKMovw, execKMovk, execKAddvi, execKMul, execKMuls, execKMac, execKMacs, execMulResultLand, execKDiv,
    execKDivs, execDivResultLand, execKBra, execKBr, execKCall, execKCallr, execKRet, execKRetx, execKNop, execKWfe,
    execWfeWake, execKBarrier, execKSwpb, execKEsync, execUndef, execKMts, execSfctlPush, execSfctlDiscard,
    execSkimmerPass, execAuditFlushTimer, execAuditPageDurable, execAuditSectorErase, execFaultnDrive,
    execFaultnPulseExpiry, execSpareIn, execFieldMapWrite, execFirmwareFence, execTornHeal, execSectorCopy, execFieldOn,
    execFieldLost, execGuardEnd, execReqa, execWupa, execAnticollision, execSelectCascade, execHlta, execRats, execPps,
    execDeselect, execSelect, execGetIdentity, execGetStatus, execReadTamper, execReadBinary, execUpdateBinary,
    execPutTicket, execPassword, execAuth1, execAuth2, execReadFaults, execUnsupportedIns, execTagBadFrame,
    execCommitEnergyReady, execWtxResend, execTagstoreRead, execTagstoreWrite, execSetPassword, execSetFlags,
    execLoadKey, execResetTries, execEraseCred, execClearTicket, execUnsupportedRequest, execAdminEnable,
    execPerstAssert, execPerstDeassert, execHotReset, execLinkDown, execFunctionLevelReset, execD3hotToD0,
    execD3hotEntry, execPortEn, execDomainResetComplete, execLinkUp, execL1Entry, execL1Exit, execHsBeat, execAssign,
    execRelease, execIdentity, execHealth, execCapacity, execFaultRead, execMlinkBadFrame, execMlinkResponseReady,
    execMlinkSclTimeout, execMchinChange, execSdCardDetect, execSdDebounceDone, execSdRemoval, execSdIdle,
    execJournalResolution, execCcPresent, execCcRemoved, execCcAtr, execCcAtrTimeout, execCcClassaRetry,
    execCcOvercurrent, execFlaskWindow, execRtcMeasure, execRtcMeasureDone, execVbatLoss, execMainPowerGood,
    execMainPowerLost, execRstn, execCeremonyCardResult, execCeremonyTimeout, execXtalWindow, execXtalJudged,
    execPllReferenceChange, execRampStep, execClockLoss, execSourceReturn, execHrefclkReturnTimeout,
    execFlashOpComplete, execHoldComplete, execLockstepMismatch, execEccUncorrected, execPairTakeover,
    execRegisterWrite, execSoftReset, execSoftResetComplete, execBlockDisable, execEventClear, execBlockLock,
    execDbgaccRead, execDbgaccWrite, execDbgaccClearError, execTicketVerifyDone, execTicketTimerExpiry, execExtest,
    execClamp, execHighz, execIdcode, execSamplePreload, execDbgacc, execBypass, execTapReset, execBoundaryUpdate,
    execKLdw, execKLdh, execKLdhs, execKLdb, execKLdbs, execKStw, execKSth, execKStb, execKLdd, execKPop, execKSetb,
    execKClrb, execKTstb, execKMovb, execKAndb, execKOrb, execKXorb]

end Sys2Proof.Machine

open Sys2Proof Sys2Proof.Machine

/-- Settles O4: an idle step changes nothing, any other is a command on the state without it. -/
theorem everyStepKeepsMemoryCanonical : Obligations.EveryStepKeepsMemoryCanonical := by
  unfold Obligations.EveryStepKeepsMemoryCanonical
  intro s t h ht
  unfold step at ht
  split at ht
  · exact Host.Outcome.next.inj ht ▸ h
  next c l _ => exact formed_exec c { s with pending := l } h t ht
end

section
/-! SUPPORT. Kennu arithmetic and logic: the flags of sums and differences (R284), halfwords and shifts, overflow (R292,
R293), products and quotients in flight (R289, R290), and instructions whose condition fails (R282). -/

namespace Sys2Proof.Machine

/-! ### Sums and differences -/

/-- A number of 33 bits does not fit a word exactly when it overflows. -/
theorem bmod_ne_iff (x : Int) (hl : -2 ^ 32 ≤ x) (hu : x < 2 ^ 32) : x.bmod (2 ^ 32) ≠ x ↔ x ≥ 2 ^ 31 ∨ x < -2 ^ 31 := by
  have hpow : ((2 ^ 32 : Nat) : Int) = 4294967296 := rfl
  simp only [Int.bmod, hpow]
  split <;> omega

theorem toInt_add_ne (a b : Word) : decide ((a + b).toInt ≠ a.toInt + b.toInt) = a.saddOverflow b := by
  have ha := a.two_mul_toInt_lt
  have hb := b.two_mul_toInt_lt
  have ha' := a.le_two_mul_toInt
  have hb' := b.le_two_mul_toInt
  rw [Bool.eq_iff_iff, decide_eq_true_iff, BitVec.toInt_add, bmod_ne_iff _ (by omega) (by omega)]
  simp [BitVec.saddOverflow]

theorem toInt_sub_ne (a b : Word) : decide ((a - b).toInt ≠ a.toInt - b.toInt) = a.ssubOverflow b := by
  have ha := a.two_mul_toInt_lt
  have hb := b.two_mul_toInt_lt
  have ha' := a.le_two_mul_toInt
  have hb' := b.le_two_mul_toInt
  rw [Bool.eq_iff_iff, decide_eq_true_iff, BitVec.toInt_sub, bmod_ne_iff _ (by omega) (by omega)]
  simp [BitVec.ssubOverflow]

theorem w32_add (a b : Word) (n : Nat) : w32 (a.toNat + b.toNat + n) = a + b + w32 n := by
  simp [w32, BitVec.ofNat_add]

/-- R284: an addition with carry in. -/
theorem addFlags_eq (a b : Word) (cin : Bool) : addFlags a b cin =
    (a + b + w32 (b2n cin), ⟨(a + b + w32 (b2n cin)).msb, a + b + w32 (b2n cin) == 0,
      decide (2 ^ 32 ≤ a.toNat + b.toNat + b2n cin),
      decide ((a + b + w32 (b2n cin)).toInt ≠ a.toInt + b.toInt + b2n cin)⟩) := by
  simp only [addFlags, w32_add, ge_iff_le]

/-- R284: an addition without carry in overflows as a signed sum does. -/
@[simp] theorem addFlags_false (a b : Word) : addFlags a b false =
    (a + b, ⟨(a + b).msb, a + b == 0, decide (2 ^ 32 ≤ a.toNat + b.toNat), a.saddOverflow b⟩) := by
  simp [addFlags_eq, b2n, w32, ← toInt_add_ne]

/-- R284: a subtraction without borrow in overflows as a signed difference does. -/
@[simp] theorem subFlags_false (a b : Word) : subFlags a b false =
    (a - b, ⟨(a - b).msb, a - b == 0, decide (a.toNat < b.toNat), a.ssubOverflow b⟩) := by
  simp [subFlags, b2n, w32, ← toInt_sub_ne]

/-! ### Halfwords -/

theorem getLsbD_putField (w : Word) {hi lo v i : Nat} (hlo : lo ≤ hi) (hi32 : i < 32) :
    (putField w hi lo v).getLsbD i = if lo ≤ i ∧ i ≤ hi then v.testBit (i - lo) else w.getLsbD i := by
  have hmask : (w32 ((2 ^ (hi + 1 - lo) - 1) * 2 ^ lo)).getLsbD i = decide (lo ≤ i ∧ i ≤ hi) := by
    simp only [w32, BitVec.getLsbD_ofNat, Nat.testBit_mul_two_pow, Nat.testBit_two_pow_sub_one, hi32, decide_true,
      Bool.true_and, ← Bool.decide_and, decide_eq_decide]
    omega
  have hval : (w32 (v * 2 ^ lo)).getLsbD i = (decide (lo ≤ i) && v.testBit (i - lo)) := by
    simp only [w32, BitVec.getLsbD_ofNat, Nat.testBit_mul_two_pow, hi32, decide_true, Bool.true_and]
  simp only [putField, BitVec.getLsbD_or, BitVec.getLsbD_and, BitVec.getLsbD_not, hmask, hval, hi32]
  by_cases h : lo ≤ i ∧ i ≤ hi <;> simp [h]

theorem getLsbD_append_halves (x y : BitVec 16) (i : Nat) :
    BitVec.getLsbD (w := 32) (x ++ y) i = if i < 16 then y.getLsbD i else x.getLsbD (i - 16) :=
  BitVec.getLsbD_append

theorem putField_low (w : Word) (h : BitVec 16) : putField w 15 0 h.toNat = w.extractLsb' 16 16 ++ h := by
  apply BitVec.eq_of_getLsbD_eq
  intro i hi
  rw [getLsbD_putField w (by decide) hi, getLsbD_append_halves, BitVec.testBit_toNat]
  by_cases hlow : i < 16
  · simp [hlow, Nat.le_of_lt_succ hlow]
  · have hpos : i - 16 < 16 := by omega
    have hsum : 16 + (i - 16) = i := by omega
    simp [hlow, hpos, hsum, show ¬ i ≤ 15 by omega]

theorem putField_high (w : Word) (h : BitVec 16) : putField w 31 16 h.toNat = h ++ w.extractLsb' 0 16 := by
  apply BitVec.eq_of_getLsbD_eq
  intro i hi
  rw [getLsbD_putField w (by decide) hi, getLsbD_append_halves, BitVec.testBit_toNat]
  by_cases hlow : i < 16
  · simp [hlow, show ¬ 16 ≤ i by omega]
  · simp [hlow, show 16 ≤ i ∧ i ≤ 31 by omega]

/-- R281: a halfword in its place, the other halfword clear. -/
theorem halfword_eq (hw : Bool) (h : BitVec 16) : h.zeroExtend 32 <<< (16 * b2n hw) =
    if hw then h ++ (0 : BitVec 16) else h.zeroExtend 32 := by
  cases hw with
  | false => simp [b2n]
  | true =>
    apply BitVec.eq_of_getLsbD_eq
    intro i hi
    simp only [if_true]
    rw [getLsbD_append_halves]
    by_cases hlow : i < 16 <;> simp [b2n, hlow, hi]

/-! ### Products and quotients in flight -/

/-- R290: a quotient in flight lands in QT and RM. -/
theorem landDiv_of_flight {k : KPair} {q r : Word} (h : k.divQ = some (q, r)) :
    landDiv k = { k with divQ := none, qt := q, rm := r } := by
  simp [landDiv, h]

/-- R294: a division that lands at once leaves its own quotient and remainder. -/
theorem landDiv_issued (k : KPair) (q r : Word) :
    landDiv { landDiv k with divQ := some (q, r) } = { k with divQ := none, qt := q, rm := r } := by
  rw [landDiv_of_flight rfl]
  cases h : k.divQ with
  | none => simp [landDiv, h]
  | some x => simp [landDiv, h]

/-- R289: the oldest product in flight lands in MH:ML. -/
theorem landMul_of_flight {k : KPair} {x : BitVec 64} {l : List (BitVec 64)} (h : k.mulQ = x :: l) :
    landMul k = { k with mulQ := l, mh := x.extractLsb' 32 32, ml := x.extractLsb' 0 32 } := by
  have hhigh : (x >>> 32).truncate 32 = x.extractLsb' 32 32 := by
    apply BitVec.eq_of_toNat_eq
    simp
  have hlow : x.truncate 32 = x.extractLsb' 0 32 := by
    apply BitVec.eq_of_toNat_eq
    simp
  simp only [landMul, h, hhigh, hlow]

namespace State

variable (s : State) {p : Pair} {c : Cond}

/-! ### Instructions of an issuing pair -/

section
variable (h : s.issues p c)
include h

/-- R284: an ALU instruction writes RD and, with S, the flags. -/
theorem aluOp_of_issues (sf : Bool) (rd : GReg) (f : KPair → Word × NZCV) :
    aluOp p c sf rd f s = s.next p ((s.pair p).alu sf rd (f (s.pair p)).1 (f (s.pair p)).2) := by
  simp only [aluOp, s.instr_of_issues h, finish_eq, KPair.alu]

/-- R281: an immediate form writes RD alone. -/
theorem aluOp_false_of_issues (rd : GReg) (f : KPair → Word × NZCV) :
    aluOp p c false rd f s = s.next p ((s.pair p).setR rd (f (s.pair p)).1) :=
  s.aluOp_of_issues h false rd f

/-- R284: a compare writes the flags alone. -/
theorem cmpOp_of_issues (f : KPair → NZCV) : cmpOp p c f s = s.next p ((s.pair p).setFl (f (s.pair p))) := by
  simp only [cmpOp, s.instr_of_issues h, finish_eq]

/-- R289: a product goes behind those in flight. -/
theorem mulOp_of_issues (f : KPair → BitVec 64) :
    mulOp p c f s = s.next p { s.pair p with mulQ := (s.pair p).mulQ ++ [f (s.pair p)] } := by
  simp only [mulOp, s.instr_of_issues h, finish_eq]

/-- R290, R294: a division without a fault of its own. -/
theorem divOp_of_good {res : KPair → Word × Word} {bad : KPair → Nat} {q r : Word} (hbad : bad (s.pair p) = 0)
    (hres : res (s.pair p) = (q, r)) :
    divOp p c res bad s = s.next p (if csPrc (s.pair p).cs then { s.pair p with divQ := none, qt := q, rm := r }
      else { landDiv (s.pair p) with divQ := some (q, r) }) := by
  have hland : (landDiv (s.pair p)).cs = (s.pair p).cs := by
    cases hq : (s.pair p).divQ <;> simp [landDiv, hq]
  simp only [divOp, s.instr_of_issues h, hbad, if_true, finish_eq, hres, landDiv_issued]

/-! ### Overflow -/

/-- R292: without signed overflow the instruction acts as its unchecked form. -/
theorem ovfOp_of_fits (sf : Bool) (rd : GReg) {f : KPair → Word × NZCV} (hv : (f (s.pair p)).2.v = false) :
    ovfOp p c sf rd f s = s.next p ((s.pair p).alu sf rd (f (s.pair p)).1 (f (s.pair p)).2) := by
  simp [ovfOp, s.instr_of_issues h, hv, finish_eq, KPair.alu]

/-- R293: a precise exception is taken at the instruction, which writes nothing else. -/
theorem arith_of_precise (cause : Nat) (f : KPair → KPair) (hprc : csPrc (s.pair p).cs) :
    s.arith p cause f =
      (s.setPair p { s.pair p with aea := (s.pair p).pc, aec := w32 cause }).enter p 5 (s.pair p).pc 0 := by
  obtain ⟨-, haep, -⟩ := s.issues_iff.mp h
  simp [arith, haep, hprc, modPair_eq]

/-- R293: an imprecise exception completes the instruction and is due within 8 more. -/
theorem arith_of_imprecise (cause : Nat) (f : KPair → KPair) (hprc : csPrc (s.pair p).cs = false) :
    ∃ n ≤ 8, s.arith p cause f = { s with fresh := s.fresh + 1 }.next p { f (s.pair p) with
      aea := (s.pair p).pc, aec := w32 cause, cs := putBit (f (s.pair p)).cs 3 true, aepLeft := 1 + n } := by
  obtain ⟨-, haep, -⟩ := s.issues_iff.mp h
  refine ⟨Config.free s.fresh % 9, by omega, ?_⟩
  simp only [arith, haep, hprc, Bool.false_eq_true, if_false, withFree]
  exact finish_eq { s with fresh := s.fresh + 1 } p _

/-- R292, R293: an overflow is taken precisely or left pending. -/
theorem ovfOp_of_overflow (sf : Bool) (rd : GReg) {f : KPair → Word × NZCV} (hv : (f (s.pair p)).2.v = true) :
    ovfOp p c sf rd f s = s.arith p 1 (fun k => k.alu sf rd (f k).1 (f k).2) := by
  simp [ovfOp, s.instr_of_issues h, hv, KPair.alu]

/-- R292, R293: an overflow-checked form with its result `x` and flags `n`, by overflow and PRC. -/
theorem ovfOp_outcome (sf : Bool) (rd : GReg) {f : KPair → Word × NZCV} {x : Word} {n : NZCV}
    (hf : f (s.pair p) = (x, n)) :
    if n.v then
      (csPrc (s.pair p).cs → (.next (ovfOp p c sf rd f s) : Host.Outcome State Fault Refusal) =
        .next ((s.setPair p { s.pair p with aea := (s.pair p).pc, aec := 1 }).enter p 5 (s.pair p).pc 0)) ∧
      (csPrc (s.pair p).cs = false → ∃ t, (.next (ovfOp p c sf rd f s) : Host.Outcome State Fault Refusal) = .next t ∧
        ∃ m ≤ 8, t = { s with fresh := s.fresh + 1 }.next p { (s.pair p).alu sf rd x n with
          aea := (s.pair p).pc, aec := 1, cs := putBit ((s.pair p).alu sf rd x n).cs 3 true, aepLeft := 1 + m })
    else (.next (ovfOp p c sf rd f s) : Host.Outcome State Fault Refusal) = .next (s.next p ((s.pair p).alu sf rd x n)) := by
  by_cases hv : n.v
  · rw [if_pos hv]
    have hover := s.ovfOp_of_overflow h sf rd (f := f) (by rw [hf, hv])
    refine ⟨fun hprc => congrArg _ (hover.trans (s.arith_of_precise h 1 _ hprc)), fun hprc => ⟨_, rfl, ?_⟩⟩
    obtain ⟨m, hm, harith⟩ := s.arith_of_imprecise h 1 (fun k => k.alu sf rd (f k).1 (f k).2) hprc
    refine ⟨m, hm, hover.trans (harith.trans ?_)⟩
    rw [hf]
    rfl
  · rw [if_neg hv]
    exact congrArg _ ((s.ovfOp_of_fits h sf rd (by simpa [hf] using hv)).trans (by rw [hf]))

end

/-! ### Instructions that do not issue -/

/-- R282: a pair that does not run does nothing. -/
theorem instr_of_stopped (hrun : (s.pair p).run ≠ .running) (first : Bool) (body : State → State) :
    s.instr p c first body = s := by
  simp [instr, hrun]

/-- R282: an instruction whose condition fails only goes on to the next one. -/
theorem instr_of_failed (hrun : (s.pair p).run = .running) (haep : csAep (s.pair p).cs = false)
    (hc : condHolds c (s.pair p).fl = false) (first : Bool) (body : State → State) :
    s.instr p c first body = s.next p (s.pair p) := by
  simp [instr, hrun, haep, hc, retire_eq, next]

end State

/-- R282: a Kennu instruction is carried out by its pair under its condition. -/
theorem exec_of_kennuOf {i : Instr} {p : Pair} {c : Cond} (hi : kennuOf i = some (p, c)) (s : State) :
    ∃ first body, exec i s = .next (s.instr p c first body) := by
  cases i
  case undef q d => cases d <;> cases hi; exact ⟨_, _, rfl⟩
  case kMovb q d b =>
    cases hi
    cases hd : b.d <;> exact ⟨_, _, by simp only [exec, execKMovb, hd]; rfl⟩
  all_goals cases hi <;> exact ⟨_, _, rfl⟩

end Sys2Proof.Machine

open Sys2Proof Sys2Proof.Machine

/-- Settles O1: by the definition of a step. -/
theorem stepRunsTheFrontCommand : Obligations.StepRunsTheFrontCommand := by
  unfold Obligations.StepRunsTheFrontCommand
  intro s c l
  rfl

/-- Settles O5: each is an ALU instruction or a compare whose result is a sum or a difference. -/
theorem kennuAddSubtractResultAndFlags : Obligations.KennuAddSubtractResultAndFlags := by
  unfold Obligations.KennuAddSubtractResultAndFlags
  intro s p c sf rd ra rb imm h k a b i cin
  refine ⟨?add, ?sub, ?addc, congrArg _ (s.aluOp_of_issues h sf rd _), ?cmp, ?cmpi, ?addi⟩
  case add => exact congrArg _ ((s.aluOp_of_issues h sf rd _).trans (by rw [addFlags_false]))
  case sub => exact congrArg _ ((s.aluOp_of_issues h sf rd _).trans (by rw [subFlags_false]))
  case addc => exact congrArg _ ((s.aluOp_of_issues h sf rd _).trans (by rw [addFlags_eq]))
  case cmp => exact congrArg _ ((s.cmpOp_of_issues h _).trans (by rw [subFlags_false]))
  case cmpi => exact congrArg _ ((s.cmpOp_of_issues h _).trans (by rw [subFlags_false]; rfl))
  case addi => exact congrArg _ ((s.aluOp_false_of_issues h rd _).trans (by rw [addFlags_false]; rfl))

/-- Settles O6: each is an ALU instruction whose flags are those of its result; the halfword moves are fields of RD. -/
theorem kennuLogicAndMoveResult : Obligations.KennuLogicAndMoveResult := by
  unfold Obligations.KennuLogicAndMoveResult
  intro s p c sf hw rd ra rb imm half h k a b u nz
  refine ⟨congrArg _ (s.aluOp_of_issues h sf rd _), congrArg _ (s.aluOp_of_issues h sf rd _),
    congrArg _ (s.aluOp_of_issues h sf rd _), congrArg _ (s.aluOp_of_issues h sf rd _),
    congrArg _ (s.cmpOp_of_issues h _), congrArg _ (s.aluOp_false_of_issues h rd _),
    congrArg _ (s.aluOp_false_of_issues h rd _), congrArg _ (s.aluOp_false_of_issues h rd _), ?movw, ?movk⟩
  case movw => exact congrArg _ ((s.aluOp_false_of_issues h rd _).trans (by rw [halfword_eq]))
  case movk => exact congrArg _ ((s.aluOp_false_of_issues h rd _).trans (by rw [putField_high, putField_low]))

/-- Settles O7: each is an ALU instruction. -/
theorem kennuShiftResultAndFlags : Obligations.KennuShiftResultAndFlags := by
  unfold Obligations.KennuShiftResultAndFlags
  intro s p c sf rd ra rb m h k a n fl
  exact ⟨congrArg _ (s.aluOp_of_issues h sf rd _), congrArg _ (s.aluOp_of_issues h sf rd _),
    congrArg _ (s.aluOp_of_issues h sf rd _), congrArg _ (s.aluOp_of_issues h sf rd _),
    congrArg _ (s.aluOp_false_of_issues h rd _), congrArg _ (s.aluOp_false_of_issues h rd _),
    congrArg _ (s.aluOp_false_of_issues h rd _)⟩

/-- Settles O9: each product is issued by one lemma; the oldest lands. -/
theorem kennuProductsInIssueOrder : Obligations.KennuProductsInIssueOrder := by
  unfold Obligations.KennuProductsInIssueOrder
  intro s p c ra rb k u v acc put
  refine ⟨fun h => ⟨congrArg _ (s.mulOp_of_issues h _), congrArg _ (s.mulOp_of_issues h _),
    congrArg _ (s.mulOp_of_issues h _), congrArg _ (s.mulOp_of_issues h _)⟩, fun x l hq => ?_⟩
  exact congrArg (fun k => Host.Outcome.next (s.setPair p k)) (landMul_of_flight hq)

/-- Settles O10: a division whose divisor raises no exception, signed or not; the division in flight lands. -/
theorem kennuDivisionLands : Obligations.KennuDivisionLands := by
  unfold Obligations.KennuDivisionLands
  intro s p c ra rb k a b go
  refine ⟨fun h hb => congrArg _ (s.divOp_of_good h (if_neg hb) (if_neg hb)), fun h hb hmin => ?_, fun q r hq => ?_⟩
  · exact congrArg _ (s.divOp_of_good h ((if_neg hb).trans (if_neg hmin)) ((if_neg hb).trans (if_neg hmin)))
  · exact congrArg (fun k => Host.Outcome.next (s.setPair p k)) (landDiv_of_flight hq)

/-- Settles O8: each form by whether its sum or difference overflows, and by PRC. -/
theorem kennuOverflowChecked : Obligations.KennuOverflowChecked := by
  unfold Obligations.KennuOverflowChecked
  intro s p c sf rd ra rb imm h k a b i add sub precise late
  refine ⟨?addv, ?subv, ?addvi⟩
  case addv => exact s.ovfOp_outcome h sf rd (f := fun k => addFlags (k.r ra) (k.r rb) false) (addFlags_false a b)
  case subv => exact s.ovfOp_outcome h sf rd (f := fun k => subFlags (k.r ra) (k.r rb) false) (subFlags_false a b)
  case addvi => exact s.ovfOp_outcome h false rd (f := fun k => addFlags (k.r ra) (simm imm) false) (addFlags_false a i)

/-- Settles O20: every Kennu instruction is carried out under its condition. -/
theorem kennuConditionAndIssue : Obligations.KennuConditionAndIssue := by
  unfold Obligations.KennuConditionAndIssue
  intro i p c s hi
  obtain ⟨first, body, hexec⟩ := exec_of_kennuOf hi s
  exact ⟨fun hrun haep hc => hexec.trans (congrArg _ (s.instr_of_failed hrun haep hc first body)),
    fun hrun => hexec.trans (congrArg _ (s.instr_of_stopped hrun first body))⟩
end

section
/-! SUPPORT. Kennu loads and stores in system SRAM (R278, R285), the bit RAM (R286), the special registers (R277, R310) and
SWPB (R317, R318). -/

namespace Sys2Proof.Machine

/-! ### Little-endian bytes -/

@[simp] theorem leBytes_length (n v : Nat) : (leBytes n v).length = n := by
  induction n generalizing v with
  | zero => rfl
  | succ n ih => simp [leBytes, ih]

theorem leBytes_getElem (n v i : Nat) (h : i < (leBytes n v).length) : (leBytes n v)[i] = BitVec.ofNat 8 (v / 256 ^ i) := by
  induction n generalizing v i with
  | zero => simp at h
  | succ n ih =>
    cases i with
    | zero => simp [leBytes]
    | succ i => simp [leBytes, ih, Nat.div_div_eq_div_mul, Nat.pow_succ']

/-- The bytes of a number are those of its value modulo what they hold. -/
theorem leBytes_mod (n v : Nat) : leBytes n (v % 256 ^ n) = leBytes n v := by
  induction n generalizing v with
  | zero => rfl
  | succ n ih =>
    have hlow : BitVec.ofNat 8 (v % (256 * 256 ^ n)) = BitVec.ofNat 8 v := by
      apply BitVec.eq_of_toNat_eq
      simp [Nat.mod_mod_of_dvd]
    rw [Nat.pow_succ', leBytes, leBytes, hlow, Nat.mod_mul_right_div_self, ih]

namespace State

variable (s : State) {p : Pair} {c : Cond}

/-- A write of `n` bytes, byte by byte. -/
theorem byte_setBytes_leBytes (a n v x : Nat) : (s.setBytes a (leBytes n v)).byte x =
    if a ≤ x ∧ x < a + n then BitVec.ofNat 8 (v / 256 ^ (x - a)) else s.byte x := by
  by_cases h : a ≤ x ∧ x < a + n
  · obtain ⟨i, rfl⟩ := Nat.exists_eq_add_of_le h.1
    rw [if_pos h, byte_setBytes_in s a _ i (by simp; omega), leBytes_getElem, Nat.add_sub_cancel_left]
  · rw [if_neg h, byte_setBytes_out s a _ x (by simp; omega)]

/-- A write of bytes changes memory alone. -/
theorem setBytes_eq (a : Nat) (l : List Byte) : s.setBytes a l = { s with mem := (s.setBytes a l).mem } := by
  induction l generalizing s a with
  | nil => rfl
  | cons b l ih => exact ih (s.setByte a b) (a + 1)

@[simp] theorem pair_setBytes (a p : Nat) (l : List Byte) : (s.setBytes a l).pair p = s.pair p := by
  rw [setBytes_eq]
  rfl

/-! ### Loads and stores -/

/-- R285: a load from system SRAM that is not refused reads its bytes. -/
theorem load_of_sram {a n : Nat} (ha : area a = .sram) (hr : s.refusal p a n .load = none) (k : Nat → State → State) :
    s.load p a n k = k (fromLe (s.bytes a n)) s := by
  simp [load, hr, waits, ha]

/-- R285: a store to system SRAM that is not refused writes its bytes. -/
theorem store_of_sram {a n : Nat} (ha : area a = .sram) (hr : s.refusal p a n .store = none) (v : Nat)
    (k : State → State) : s.store p a n v k = k (s.setBytes a (leBytes n v)) := by
  simp [store, hr, waits, ha]

/-- The state after a store of `n` bytes of `v` at `a`, the pair going on as `k`. -/
def stored (p : Pair) (a n v : Nat) (k : KPair) : State := (s.setBytes a (leBytes n v)).next p k

theorem stored_byte (a n v : Nat) (k : KPair) (x : Nat) : (s.stored p a n v k).byte x =
    if a ≤ x ∧ x < a + n then BitVec.ofNat 8 (v / 256 ^ (x - a)) else s.byte x :=
  s.byte_setBytes_leBytes a n v x

/-- A store changes memory and the pair's progress alone. -/
theorem stored_rest (a n v : Nat) (k : KPair) : { s.stored p a n v k with mem := s.mem } = s.next p k := by
  rw [stored, setBytes_eq]
  rfl

section
variable (h : s.issues p c)
include h

/-- R285: an issued load writes RD. -/
theorem loadOp_of_sram {ra : GReg} {imm : BitVec 14} {n : Nat} (ha : area (eaddr (s.pair p) ra imm) = .sram)
    (hr : s.refusal p (eaddr (s.pair p) ra imm) n .load = none) (rd : GReg) (f : Nat → Word) :
    loadOp p c rd ra imm n f s =
      s.next p ((s.pair p).setR rd (f (fromLe (s.bytes (eaddr (s.pair p) ra imm) n)))) := by
  rw [loadOp, s.instr_of_issues h, s.load_of_sram ha hr, finish_eq]

/-- R271: a store completes, unless its pair is held by it. -/
theorem afterStore_of_running {u : State} (hu : u.pair p = s.pair p) (f : KPair → KPair) :
    u.afterStore p f = u.next p (f (s.pair p)) := by
  obtain ⟨hrun, -, -⟩ := s.issues_iff.mp h
  simp [afterStore, hu, hrun, finish_eq]

/-- R285: an issued store writes its bytes. -/
theorem storeOp_of_sram {ra : GReg} {imm : BitVec 14} {n : Nat} (ha : area (eaddr (s.pair p) ra imm) = .sram)
    (hr : s.refusal p (eaddr (s.pair p) ra imm) n .store = none) (v : KPair → Nat) :
    storeOp p c ra imm n v s = s.stored p (eaddr (s.pair p) ra imm) n (v (s.pair p)) (s.pair p) := by
  rw [storeOp, s.instr_of_issues h, s.store_of_sram ha hr, s.afterStore_of_running h (pair_setBytes ..)]
  rfl

/-- R278: PUSH stores below g15 and moves it there. -/
theorem exec_kPush_of_sram (rd : GReg) (ha : area ((s.pair p).r 15 - 4).toNat = .sram)
    (hr : s.refusal p ((s.pair p).r 15 - 4).toNat 4 .store = none) :
    exec (.kPush p c rd) s = .next (s.stored p ((s.pair p).r 15 - 4).toNat 4
      (((s.pair p).setR 15 ((s.pair p).r 15 - 4)).r rd).toNat ((s.pair p).setR 15 ((s.pair p).r 15 - 4))) := by
  simp only [exec, execKPush, s.instr_of_issues h, s.store_of_sram ha hr, s.afterStore_of_running h (pair_setBytes ..),
    stored]

/-- R285: XCHG reads the old word and writes the new one. -/
theorem exec_kXchg_of_sram (rd ra rb : GReg) (ha : area ((s.pair p).r ra).toNat = .sram)
    (hs : s.refusal p ((s.pair p).r ra).toNat 4 .store = none)
    (hl : s.refusal p ((s.pair p).r ra).toNat 4 .load = none) :
    exec (.kXchg p c rd ra rb) s = .next (s.stored p ((s.pair p).r ra).toNat 4 ((s.pair p).r rb).toNat
      ((s.pair p).setR rd (w32 (fromLe (s.bytes ((s.pair p).r ra).toNat 4))))) := by
  simp [exec, execKXchg, s.instr_of_issues h, ha, s.load_of_sram ha hl, s.store_of_sram ha hs, finish_eq, stored]

end

/-! ### The bit RAM -/

/-- R286: a bit of the bit RAM is read from its byte. -/
theorem bitGet_of_ram {a : Nat} (ha : a < 0x8000) (f : Bool → State → State) :
    s.bitGet p a f = f ((s.pair p).bitRam a) s := by
  simp [bitGet, bitSpot, ha, KPair.bitRam, BitVec.getLsbD, Nat.testBit_eq_decide_div_mod_eq]

end State

/-- The bit RAM with bit `n` written. -/
def ramBits (k : KPair) (n : Nat) (v : Bool) : Tbl Byte :=
  Tbl.set (fun _ => 0) k.bits (n / 8) (if v then Tbl.get (fun _ => 0) k.bits (n / 8) ||| BitVec.ofNat 8 (2 ^ (n % 8))
    else Tbl.get (fun _ => 0) k.bits (n / 8) &&& ~~~BitVec.ofNat 8 (2 ^ (n % 8)))

/-- Bit `i` of a byte, after bit `n` has been written. -/
theorem getLsbD_write_bit (b : Byte) {n i : Nat} (hi : i < 8) (v : Bool) :
    (if v then b ||| BitVec.ofNat 8 (2 ^ n) else b &&& ~~~BitVec.ofNat 8 (2 ^ n)).getLsbD i =
      if i = n then v else b.getLsbD i := by
  have hm : (BitVec.ofNat 8 (2 ^ n)).getLsbD i = decide (i = n) := by
    rw [BitVec.getLsbD_ofNat, Nat.testBit_two_pow]
    simp [hi, eq_comm]
  cases v with
  | false =>
    simp only [Bool.false_eq_true, if_false, BitVec.getLsbD_and, BitVec.getLsbD_not, hm]
    by_cases h : i = n <;> simp [h, hi]
  | true =>
    simp only [if_true, BitVec.getLsbD_or, hm]
    by_cases h : i = n <;> simp [h]

/-- R286: a write of one bit of the bit RAM changes no other. -/
theorem bitRam_ramBits (k : KPair) (n m : Nat) (v : Bool) :
    { k with bits := ramBits k n v }.bitRam m = if m = n then v else k.bitRam m := by
  by_cases hb : m / 8 = n / 8
  · have hiff : m % 8 = n % 8 ↔ m = n := by omega
    simp only [KPair.bitRam, ramBits, hb, Tbl.get_set_self, getLsbD_write_bit _ (Nat.mod_lt m (by decide : 0 < 8)), hiff]
  · have hne : m ≠ n := fun h => hb (h ▸ rfl)
    simp only [KPair.bitRam, ramBits, Tbl.get_set_ne _ _ _ hb, hne, if_false]

namespace State

variable (s : State) {p : Pair} {c : Cond} {b : BitOp}

section
variable (h : s.issues p c) (ha : bitAddr (s.pair p) b < 0x8000)
include h ha

/-- R286: a bit written to the bit RAM. -/
theorem bitStore_of_ram (v : KPair → Bool) : bitStore p c b v s =
    s.next p { s.pair p with bits := ramBits (s.pair p) (bitAddr (s.pair p) b) (v (s.pair p)) } := by
  simp [bitStore, s.instr_of_issues h, bitPut, bitSpot, ha, finish_eq, ramPut, ramBits, next]

/-- R286: flags made from a bit of the bit RAM. -/
theorem bitLoad_of_ram (f : NZCV → Bool → NZCV) : bitLoad p c b f s =
    s.next p ((s.pair p).setFl (f (s.pair p).fl ((s.pair p).bitRam (bitAddr (s.pair p) b)))) := by
  simp only [bitLoad, s.instr_of_issues h, s.bitGet_of_ram ha, finish_eq]

end

/-! ### Special registers and SWPB -/

section
variable (h : s.issues p c)
include h

/-- R277: MFS of a register its level allows, CYCLO apart. -/
theorem exec_kMfs_of_allowed (rd : GReg) {sr : Fin 32} {l : Nat} (hl : mfsLevel sr.val = some l)
    (hpl : csPl (s.pair p).cs ≤ l) (hsr : sr.val ≠ 12) :
    exec (.kMfs p c rd sr) s = .next (s.next p ((s.pair p).setR rd (srRead s p sr.val))) := by
  simp only [exec, execKMfs, s.instr_of_issues h, hl, Nat.not_lt.mpr hpl, hsr, finish_eq, if_false, gt_iff_lt]

/-- R277: MFS of CYCLO captures the high word of a free count. -/
theorem exec_kMfs_of_cyclo (rd : GReg) {sr : Fin 32} {l : Nat} (hl : mfsLevel sr.val = some l)
    (hpl : csPl (s.pair p).cs ≤ l) (hsr : sr.val = 12) :
    ∃ n, exec (.kMfs p c rd sr) s = .next ({ s with fresh := s.fresh + 1 }.next p
      { (s.pair p).setR rd (w32 n) with cycHi := w32 (n / 2 ^ 32) }) := by
  have hl12 : mfsLevel 12 = some l := hsr ▸ hl
  refine ⟨Config.free s.fresh, ?_⟩
  simp only [exec, execKMfs, s.instr_of_issues h, hl12, Nat.not_lt.mpr hpl, hsr, withFree, finish_eq, if_false, if_true,
    gt_iff_lt]
  rfl

/-- R277: MFS of a number the table does not give. -/
theorem exec_kMfs_of_reserved (rd : GReg) {sr : Fin 32} (hl : mfsLevel sr.val = none) :
    exec (.kMfs p c rd sr) s = .next (s.enter p 1 (s.pair p).pc 0) := by
  simp only [exec, execKMfs, s.instr_of_issues h, hl, s.except_of_issues h]

/-- R277: MTS of a register its level allows. -/
theorem mtsOp_of_allowed {sr l : Nat} (hl : mtsLevel sr = some l) (hpl : csPl (s.pair p).cs ≤ l) (v : KPair → Word) :
    mtsOp p c sr v s = s.next p (srWrite (s.pair p) sr (v (s.pair p))) := by
  simp only [mtsOp, s.instr_of_issues h, hl, Nat.not_lt.mpr hpl, finish_eq, if_false, gt_iff_lt]

/-- R277: MTS of a number the table does not give, or of a read-only register. -/
theorem mtsOp_of_reserved {sr : Nat} (hl : mtsLevel sr = none) (v : KPair → Word) :
    mtsOp p c sr v s = s.enter p 1 (s.pair p).pc 0 := by
  simp only [mtsOp, s.instr_of_issues h, hl, s.except_of_issues h]

/-- R310: SFCTL.PUSH at level 0. -/
theorem exec_sfctlPush_of_level0 (hpl : csPl (s.pair p).cs = 0) (disc : Bool) :
    exec (.sfctlPush p c disc) s = .next (s.next p (sfPush (s.pair p))) := by
  have hmts := s.mtsOp_of_allowed h (sr := 20) (l := 0) rfl (Nat.le_of_eq hpl) (fun _ => if disc then 3 else 1)
  cases disc <;> exact congrArg _ hmts

/-- R317, R318: SWPB at level 0 swaps, or is refused, and goes on. -/
theorem exec_kSwpb_of_level0 (hpl : csPl (s.pair p).cs = 0) :
    exec (.kSwpb p c) s = .next ((s.gateSwap p (!csBank (s.pair p).cs)).1.finish p id) := by
  simp only [exec, execKSwpb, s.instr_of_issues h, hpl, ne_eq, not_true_eq_false, if_false]

end

end State
end Sys2Proof.Machine

open Sys2Proof Sys2Proof.Machine

/-- Settles O12: the swap is made or refused as the other bank's defect says. -/
theorem kennuBankSwap : Obligations.KennuBankSwap := by
  unfold Obligations.KennuBankSwap
  intro s p c h k
  refine ⟨fun hpl hb => ?_, fun hpl hb => ?_⟩
  · rw [s.exec_kSwpb_of_level0 h hpl, s.gateSwap_of_wellFormed p hb]
    simp only [State.finish_eq, State.next, State.pair_setPair, State.setPair_setPair, id]
    rfl
  · obtain ⟨u, m, hswap, hpairs, hmem, hinbox, hblk, hkind⟩ := s.gateSwap_of_defect p hb
    have hpair : u.pair p = s.pair p := by simp [State.pair, hpairs]
    refine ⟨u.next p (u.pair p), ?_, ?_, hmem, m, hinbox, hblk, hkind⟩
    · rw [s.exec_kSwpb_of_level0 h hpl, hswap, State.finish_eq]
      rfl
    · rw [State.next, State.pair_setPair, hpair]

/-- Settles O13: each load is of one size; LDD and POP go on with the word read. -/
theorem kennuLoadsFromSram : Obligations.KennuLoadsFromSram := by
  unfold Obligations.KennuLoadsFromSram
  intro s p c rd ra imm h k a sp ok v
  refine ⟨fun ⟨ha, hr⟩ => congrArg _ (s.loadOp_of_sram h ha hr rd _),
    fun ⟨ha, hr⟩ => ⟨congrArg _ (s.loadOp_of_sram h ha hr rd _), congrArg _ (s.loadOp_of_sram h ha hr rd _)⟩,
    fun ⟨ha, hr⟩ => ⟨congrArg _ (s.loadOp_of_sram h ha hr rd _), congrArg _ (s.loadOp_of_sram h ha hr rd _)⟩,
    fun ⟨ha, hr⟩ heven => ?ldd, fun ⟨ha, hr⟩ => ?pop⟩
  case ldd =>
    have hload := s.load_of_sram (p := p) ha hr
    simp only [exec, execKLdd, s.instr_of_issues h, heven, eaddr, Nat.zero_ne_one, if_false]
    exact congrArg _ ((hload _).trans (s.finish_eq p _))
  case pop =>
    simp only [exec, execKPop, s.instr_of_issues h]
    exact congrArg _ ((s.load_of_sram ha hr _).trans (s.finish_eq p _))

/-- Settles O14: each store is of one size, its bytes those of the number modulo that size. -/
theorem kennuStoresToSram : Obligations.KennuStoresToSram := by
  unfold Obligations.KennuStoresToSram
  intro s p c rd ra rb imm h k a b sp ok stored rest
  have hdone : ∀ (a n v : Nat) (j : KPair), stored (s.stored p a n v j) a n v ∧ rest (s.stored p a n v j) j :=
    fun a n v j => ⟨s.stored_byte a n v j, s.stored_rest a n v j⟩
  refine ⟨fun ⟨ha, hr⟩ => ⟨_, congrArg Host.Outcome.next (s.storeOp_of_sram h ha hr _), hdone ..⟩, fun ⟨ha, hr⟩ => ⟨_, ?sth, hdone ..⟩,
    fun ⟨ha, hr⟩ => ⟨_, ?stb, hdone ..⟩, fun ⟨ha, hr⟩ heven => ⟨_, ?std, hdone ..⟩,
    fun ⟨ha, hr⟩ => ⟨_, s.exec_kPush_of_sram h rd ha hr, hdone ..⟩,
    fun ⟨ha, hr⟩ hl => ⟨_, s.exec_kXchg_of_sram h rd ra rb ha hr hl, hdone ..⟩⟩
  case sth =>
    exact congrArg Host.Outcome.next ((s.storeOp_of_sram h ha hr _).trans
      (congrArg (fun l => (s.setBytes a l).next p k) (leBytes_mod 2 _)))
  case stb =>
    exact congrArg Host.Outcome.next ((s.storeOp_of_sram h ha hr _).trans
      (congrArg (fun l => (s.setBytes a l).next p k) (leBytes_mod 1 _)))
  case std =>
    have hstore := s.store_of_sram (p := p) ha hr
    simp only [exec, execKStd, s.instr_of_issues h, heven, eaddr, Nat.zero_ne_one, if_false]
    refine congrArg Host.Outcome.next ((hstore _ _).trans ((s.afterStore_of_running h (State.pair_setBytes ..) _).trans ?_))
    rw [Nat.mul_comm]
    rfl

/-- Settles O15: each form writes the bit or makes the flags from it. -/
theorem kennuBitRam : Obligations.KennuBitRam := by
  unfold Obligations.KennuBitRam
  intro s p c b h ha k n v put cc
  have hput : ∀ x, put (s.next p { k with bits := ramBits k n x }) x := fun x => ⟨_, rfl, fun m => bitRam_ramBits k n m x⟩
  refine ⟨⟨_, congrArg Host.Outcome.next (s.bitStore_of_ram h ha _), hput _⟩, ⟨_, congrArg Host.Outcome.next (s.bitStore_of_ram h ha _), hput _⟩,
    congrArg _ (s.bitLoad_of_ram h ha _), ?movb, congrArg _ (s.bitLoad_of_ram h ha _),
    congrArg _ (s.bitLoad_of_ram h ha _), congrArg _ (s.bitLoad_of_ram h ha _)⟩
  case movb =>
    simp only [exec, execKMovb]
    by_cases hd : b.d
    · simp only [hd, if_true]
      exact ⟨_, congrArg Host.Outcome.next (s.bitStore_of_ram h ha _), hput _⟩
    · simp only [hd, if_false, Bool.false_eq_true]
      exact congrArg Host.Outcome.next (s.bitLoad_of_ram h ha _)

/-- Settles O16: MFS and MTS by what the tables of levels give; SFCTL is an MTS. -/
theorem kennuSpecialRegisters : Obligations.KennuSpecialRegisters := by
  unfold Obligations.KennuSpecialRegisters
  intro s p c rd sr disc k
  refine ⟨fun h l hl hpl => ⟨s.exec_kMfs_of_allowed h rd hl hpl, s.exec_kMfs_of_cyclo h rd hl hpl⟩,
    fun h l hl hpl => congrArg _ (s.mtsOp_of_allowed h hl hpl _), fun h hl => s.exec_kMfs_of_reserved h rd hl,
    fun h hl => congrArg _ (s.mtsOp_of_reserved h hl _), fun h hpl => ⟨fun hroom => ?_, fun hfull => ?_, ?_⟩⟩
  · rw [s.exec_sfctlPush_of_level0 h hpl, sfPush, if_neg (Nat.not_lt.mpr hroom)]
  · rw [s.exec_sfctlPush_of_level0 h hpl, sfPush, if_pos hfull]
  · exact congrArg _ (s.mtsOp_of_allowed h (sr := 20) (l := 0) rfl (Nat.le_of_eq hpl) _)
end

section
open Sys2Proof Sys2Proof.Machine

/-- Settles O2: each command's effect is a next state by its definition, and an empty queue idles. -/
theorem noCommandStops : Obligations.NoCommandStops := by
  unfold Obligations.NoCommandStops
  refine ⟨fun c s => ?_, fun s hs => ?_⟩
  · cases c <;> exact ⟨_, rfl⟩
  · simp only [step, hs]

/-- Settles O3: by the reset values; the tables of slots and queue pairs are empty. -/
theorem resetState : Obligations.ResetState := by
  unfold Obligations.ResetState
  exact ⟨rfl, rfl, rfl, fun _ => rfl, fun _ => rfl, rfl, rfl, rfl, rfl, rfl, by decide, by decide, rfl, rfl, rfl, rfl, rfl,
    rfl⟩
end

section
/-! SUPPORT. What the leave arbiter and the flash banks leave alone (R330-R335, R446-R448): asking for leave or a flash
operation, returning it and refusing it change their own queues, two headers and a few registers; messages only join the
inbox. -/

namespace Sys2Proof.Machine

/-- The state without what the leave arbiter and the flash banks may change. -/
def State.unleased (s : State) : State :=
  { s with regs := [], hdrs := [], inbox := [], leavePend := [], leaveHeld := [], flashQ := [], flashOn := []
           vault := { s.vault with refused := false } }

/-- The registers the leave arbiter and the flash banks may write. -/
def leaveReg (a : Nat) : Prop := a = R.PWR_REFUSED ∨ a = R.FLC_STATUS ∨ ∃ b < 4, a = R.FLC_SUSPCNT + b * 0x10

/-- From `s` to `t` only the leave arbiter and the flash banks have worked. -/
structure LeaveOnly (s t : State) : Prop where
  rest : t.unleased = s.unleased
  inbox : s.inbox <+: t.inbox
  reg : ∀ a, ¬leaveReg a → t.reg a = s.reg a
  hdr : ∀ b i, b * 32 + i ≠ Blk.CLK * 32 → b * 32 + i ≠ Blk.FLC * 32 → t.hdr b i = s.hdr b i

namespace LeaveOnly

variable {s t u : State}

theorem refl (s : State) : LeaveOnly s s := ⟨rfl, List.prefix_refl _, fun _ _ => rfl, fun _ _ _ _ => rfl⟩

theorem trans (h : LeaveOnly s t) (g : LeaveOnly t u) : LeaveOnly s u where
  rest := g.rest.trans h.rest
  inbox := h.inbox.trans g.inbox
  reg a ha := (g.reg a ha).trans (h.reg a ha)
  hdr b i hc hf := (g.hdr b i hc hf).trans (h.hdr b i hc hf)

section
variable (h : LeaveOnly s t)
include h

/-- What the arbiter and the banks never touch is as it was. -/
theorem field {α : Type} (f : State → α) (hf : ∀ s, f s.unleased = f s) : f t = f s := by
  rw [← hf t, h.rest, hf]

theorem mem : t.mem = s.mem := h.field State.mem fun _ => rfl
theorem jobs : t.jobs = s.jobs := h.field State.jobs fun _ => rfl
theorem slots : t.slots = s.slots := h.field State.slots fun _ => rfl
theorem pairs : t.pairs = s.pairs := h.field State.pairs fun _ => rfl
theorem lanes : t.lanes = s.lanes := h.field State.lanes fun _ => rfl
theorem units : t.units = s.units := h.field State.units fun _ => rfl
theorem skm : t.skm = s.skm := h.field State.skm fun _ => rfl
theorem ris : t.ris = s.ris := h.field State.ris fun _ => rfl
theorem crd : t.crd = s.crd := h.field State.crd fun _ => rfl
theorem tag : t.tag = s.tag := h.field State.tag fun _ => rfl
theorem flk : t.flk = s.flk := h.field State.flk fun _ => rfl
theorem kst : t.kst = s.kst := h.field State.kst fun _ => rfl
theorem clk : t.clk = s.clk := h.field State.clk fun _ => rfl
theorem mode : t.mode = s.mode := h.field State.mode fun _ => rfl
theorem ctxs : t.ctxs = s.ctxs := h.field State.ctxs fun _ => rfl
theorem vslots : t.vslots = s.vslots := h.field State.vslots fun _ => rfl
theorem binds : t.binds = s.binds := h.field State.binds fun _ => rfl
theorem qps : t.qps = s.qps := h.field State.qps fun _ => rfl
theorem ports : t.ports = s.ports := h.field State.ports fun _ => rfl

/-- Of the vault only the note of a refusal may change. -/
theorem vault : t.vault = { s.vault with refused := t.vault.refused } := by
  have hv : ({ t.vault with refused := false } : Vault) = { s.vault with refused := false } := h.field (fun s => { s.vault with refused := false }) fun _ => rfl
  exact congrArg (fun v : Vault => { v with refused := t.vault.refused }) hv

end

/-- A change of the queues of the arbiter and the banks. -/
theorem queues (s : State) (lp lh : List Leave) (q : List FReq) (on : List FOp) :
    LeaveOnly s { s with leavePend := lp, leaveHeld := lh, flashQ := q, flashOn := on } :=
  ⟨rfl, List.prefix_refl _, fun _ _ => rfl, fun _ _ _ _ => rfl⟩

theorem setReg (s : State) {a : Nat} (ha : leaveReg a) (v : Word) : LeaveOnly s (s.setReg a v) where
  rest := rfl
  inbox := List.prefix_refl _
  reg _ hb := s.reg_setReg_ne v fun h => hb (h ▸ ha)
  hdr _ _ _ _ := rfl

theorem event (s : State) {b : Nat} (hb : b = Blk.CLK ∨ b = Blk.FLC) (n : Nat) : LeaveOnly s (s.event b 0 n) where
  rest := rfl
  inbox := List.prefix_refl _
  reg _ _ := rfl
  hdr _ _ hc hf := s.hdr_setHdr_ne _ (by rcases hb with rfl | rfl <;> assumption)

theorem fault (s : State) (k a : Nat) : LeaveOnly s (s.fault Blk.CLK 0 k a) where
  rest := rfl
  inbox := List.prefix_append _ _
  reg _ _ := rfl
  hdr _ _ hc _ := s.hdr_setHdr_ne _ hc

theorem leaveImpossible (s : State) (b i tok : Nat) : LeaveOnly s (s.leaveImpossible b i tok) :=
  (setReg s (.inl rfl) _).trans ((event _ (.inl rfl) 5).trans (fault ..))

theorem flcEnd (s : State) (c : Nat) : LeaveOnly s (s.flcEnd c) :=
  (setReg s (.inr (.inl rfl)) _).trans (event _ (.inr rfl) 2)

theorem clientRefused (s : State) (what : Purpose) : LeaveOnly s (s.clientRefused what) := by
  unfold State.clientRefused
  split
  · exact ⟨rfl, List.prefix_refl _, fun _ _ => rfl, fun _ _ _ _ => rfl⟩
  · exact refl s

theorem flashTake (s : State) (r : FReq) : LeaveOnly s (s.flashTake r) := by
  unfold State.flashTake
  dsimp only
  split
  next h => exact (setReg s (.inr (.inr ⟨r.bank, h.2, rfl⟩)) _).trans (queues ..)
  · exact queues ..

theorem flashResume (s : State) (what : Purpose) : LeaveOnly s (s.flashResume what) := by
  unfold State.flashResume
  split
  · exact refl s
  · exact queues ..

/-- A bank that takes its next operation, passing over those it ends at once. -/
theorem flashNext (s : State) (b fuel : Nat) : LeaveOnly s (s.flashNext b fuel) := by
  induction fuel generalizing s with
  | zero => exact refl s
  | succ fuel ih =>
    have hq (r : FReq) : LeaveOnly s { s with flashQ := s.flashQ.erase r } := queues ..
    unfold State.flashNext
    split
    · exact refl s
    split
    · split
      · exact flashResume ..
      · exact refl s
    next r _ =>
      split
      · exact flashResume ..
      refine (hq r).trans ?_
      generalize ({ s with flashQ := s.flashQ.erase r } : State) = s
      dsimp only
      split
      · exact flashTake ..
      next c _ =>
        refine LeaveOnly.trans ?_ (ih _)
        have hl : LeaveOnly s (if c = 5 then s.leaveImpossible r.blk 0 r.tok else s) := by
          split
          · exact leaveImpossible ..
          · exact refl s
        split
        · exact hl.trans (flcEnd ..)
        · exact hl.trans (clientRefused ..)

theorem askFlash (s : State) (r : FReq) : LeaveOnly s (s.askFlash r).1 := by
  unfold State.askFlash
  split
  · exact leaveImpossible ..
  · exact (queues ..).trans (flashNext ..)

theorem askLeave (s : State) (b i tok : Nat) (what : Purpose) : LeaveOnly s (s.askLeave b i tok what).1 := by
  unfold State.askLeave
  split
  · exact leaveImpossible ..
  · exact queues ..

theorem releaseLeave (s : State) (what : Purpose) : LeaveOnly s (s.releaseLeave what) := by
  unfold State.releaseLeave
  dsimp only
  split
  · exact (queues ..).trans (flashNext ..)
  · exact queues ..

end LeaveOnly
end Sys2Proof.Machine
end

section
/-! SUPPORT. The Skimmer: messages taken into records (R417, R420, R421), the audit log's pages (R418, R419), open faults
cleared and FAULTN (R422, R423). -/

namespace Sys2Proof.Machine

/-! ### Taking a message -/

/-- What recording a message leaves of the record ring, its numbering, its reactions and its losses; messages only join the
inbox. -/
structure RingKept (s t : State) : Prop where
  ring : t.skm.ring = s.skm.ring
  seq : t.skm.seq = s.skm.seq
  react : t.skm.react = s.skm.react
  lostDue : t.skm.lostDue = s.skm.lostDue
  inbox : s.inbox <+: t.inbox

namespace RingKept

variable {s t u : State}

theorem refl (s : State) : RingKept s s := ⟨rfl, rfl, rfl, rfl, List.prefix_refl _⟩

theorem trans (h : RingKept s t) (g : RingKept t u) : RingKept s u :=
  ⟨g.ring.trans h.ring, g.seq.trans h.seq, g.react.trans h.react, g.lostDue.trans h.lostDue, h.inbox.trans g.inbox⟩

theorem of_leaveOnly (h : LeaveOnly s t) : RingKept s t := by
  have hskm := h.skm
  exact ⟨by rw [hskm], by rw [hskm], by rw [hskm], by rw [hskm], h.inbox⟩

/-- R52: the views of the domains are the ports'. -/
theorem viewAdd (s : State) (r : SRec) (d : Nat) : RingKept s (s.viewAdd r d) := by
  unfold State.viewAdd
  dsimp only
  split
  · exact ⟨rfl, rfl, rfl, rfl, List.prefix_refl _⟩
  · exact refl s

theorem foldl_viewAdd (s : State) (r : SRec) (l : List Nat) : RingKept s (l.foldl (fun s d => s.viewAdd r d) s) := by
  induction l generalizing s with
  | nil => exact refl s
  | cons d l ih => exact (viewAdd s r d).trans (ih _)

theorem auditKick (s : State) : RingKept s s.auditKick := by
  unfold State.auditKick
  split
  · exact refl s
  · exact of_leaveOnly (.askFlash ..)

/-- R418: a record mirrored joins the open page, and the page those to program. -/
theorem mirror (s : State) (r : SRec) : RingKept s (s.mirror r) := by
  have hpage (p : List SRec) (l : List APage) : RingKept s { s with skm := { s.skm with page := p, pages := l } } :=
    ⟨rfl, rfl, rfl, rfl, List.prefix_refl _⟩
  unfold State.mirror
  split
  · exact refl s
  dsimp only
  split
  · unfold State.auditFlush
    split
    · exact hpage ..
    · exact (hpage ..).trans (auditKick _)
  · exact hpage ..

end RingKept

namespace State

variable (s : State)

/-- R417: with room in the ring a record enters it with the next SEQ. -/
theorem newRecord_of_room (m : Msg) (hroom : s.skm.ring.length < 512) :
    ∃ r, (s.newRecord m).skm.ring = r :: s.skm.ring ∧ r.msg = m ∧ r.seq = (s.skm.seq + 1) % 2 ^ 32 ∧ r.rep = 0 ∧
      (s.newRecord m).skm.react = s.skm.react ∧ (s.newRecord m).skm.lostDue = s.skm.lostDue ∧
      s.inbox <+: (s.newRecord m).inbox := by
  let r : SRec := ⟨m, (s.skm.seq + 1) % 2 ^ 32, (s.rtc + Config.free s.fresh) % 2 ^ 48, 0⟩
  obtain ⟨u, heq, hskm, hinbox⟩ : ∃ u : State, s.newRecord m = ((List.range 4).foldl (fun s d => s.viewAdd r d) u).mirror r ∧
      u.skm = { s.skm with seq := r.seq, ring := r :: s.skm.ring } ∧ u.inbox = s.inbox := by
    refine ⟨{ s with fresh := s.fresh + 1, rtc := r.rtc
                     skm := { s.skm with seq := r.seq, ring := r :: s.skm.ring } }, ?_, rfl, rfl⟩
    simp only [newRecord, rtcNow, withFree, ringDrop, hroom, if_true, r]
  have hkept := (RingKept.foldl_viewAdd u r (List.range 4)).trans (.mirror _ r)
  rw [heq, ← hinbox]
  exact ⟨r, by rw [hkept.ring, hskm], rfl, rfl, rfl, by rw [hkept.react, hskm], by rw [hkept.lostDue, hskm], hkept.inbox⟩

/-- R418: with no loss due no LOG_LOSS record enters. -/
theorem lossRecord_of_none (m : Msg) (h : s.skm.lostDue = false) : s.lossRecord m = s := by
  simp [lossRecord, h]

/-- R421: a message joins or opens a fault; the ring, its reactions and the inbox stay. -/
theorem openOrJoin_keeps (m : Msg) (q : Nat) : (s.openOrJoin m q).skm.ring = s.skm.ring ∧
    (s.openOrJoin m q).skm.react = s.skm.react ∧ (s.openOrJoin m q).inbox = s.inbox := by
  have hnew (u : State) : u.newFault.skm.ring = u.skm.ring ∧ u.newFault.skm.react = u.skm.react ∧
      u.newFault.inbox = u.inbox := by
    unfold newFault
    dsimp only
    split <;> exact ⟨rfl, rfl, rfl⟩
  unfold openOrJoin
  split
  · exact ⟨rfl, rfl, rfl⟩
  split
  · exact ⟨rfl, rfl, rfl⟩
  split
  · exact hnew _
  split
  · exact ⟨rfl, rfl, rfl⟩
  · exact hnew _

/-- R417, R421: a message of its own makes a record. -/
theorem takeMsg_of_new {m : Msg} {ms : Nat} (hlost : s.skm.lostDue = false) (hnew : s.coalesces m ms = false)
    (hroom : s.skm.ring.length < 512) :
    ∃ r, (s.takeMsg m ms).skm.ring = r :: s.skm.ring ∧ r.msg = m ∧ r.seq = (s.skm.seq + 1) % 2 ^ 32 ∧ r.rep = 0 ∧
      (s.takeMsg m ms).skm.react = s.skm.react ++ [m] ∧ s.inbox <+: (s.takeMsg m ms).inbox := by
  obtain ⟨r, hring, hmsg, hseq, hrep, hreact, hdue, hinbox⟩ := s.newRecord_of_room m hroom
  have hloss := (s.newRecord m).lossRecord_of_none m (hdue.trans hlost)
  obtain ⟨oring, oreact, oinbox⟩ := (s.newRecord m).openOrJoin_keeps m (s.newRecord m).skm.seq
  simp only [takeMsg, hnew, Bool.false_eq_true, if_false, hloss]
  exact ⟨r, oring.trans hring, hmsg, hseq, hrep, by rw [oreact, hreact], oinbox ▸ hinbox⟩

/-- R417: a message that repeats the newest record within the window is counted in it. -/
theorem takeMsg_of_repeat {m : Msg} {ms : Nat} {r : SRec} {q : List SRec} (hring : s.skm.ring = r :: q)
    (hrep : s.coalesces m ms = true) : (s.takeMsg m ms).inbox = s.inbox ∧
      (s.takeMsg m ms).skm.react = s.skm.react ++ [m] ∧
      (s.takeMsg m ms).skm.ring = { r with rep := satSucc 0xFFFF r.rep } :: q := by
  simp only [takeMsg, hrep, if_true, hring]
  obtain ⟨oring, oreact, oinbox⟩ := ({ s with skm := { s.skm with
    ring := { r with rep := satSucc 0xFFFF r.rep } :: q } } : State).openOrJoin_keeps m s.skm.seq
  exact ⟨oinbox, by rw [oreact], oring⟩

/-- R420: before the flash step of a cold Start a message goes to the early buffer. -/
theorem exec_faultMessageTaken_of_early {m : Msg} {l : List Msg} (ms : Nat) (hin : s.inbox = m :: l)
    (hbusy : (s.hdr Blk.SKM 0).srstBusy = false) (hen : (s.hdr Blk.SKM 0).en = true) (hearly : s.skm.earlyOn = true)
    (hroom : s.skm.early.length < 32) : exec (.faultMessageTaken ms) s =
      .next { s with inbox := l, skm := { s.skm with early := s.skm.early ++ [m] } } := by
  simp [exec, execFaultMessageTaken, hin, hbusy, hen, hearly, hroom]

/-- R411, R417: afterwards the oldest message is taken. -/
theorem exec_faultMessageTaken_of_late {m : Msg} {l : List Msg} (ms : Nat) (hin : s.inbox = m :: l)
    (hbusy : (s.hdr Blk.SKM 0).srstBusy = false) (hen : (s.hdr Blk.SKM 0).en = true) (hlate : s.skm.earlyOn = false) :
    exec (.faultMessageTaken ms) s = .next ({ s with inbox := l }.takeMsg m ms) := by
  simp [exec, execFaultMessageTaken, hin, hbusy, hen, hlate]

/-! ### The audit log -/

/-- R418: a part-filled page joins those to program. -/
theorem auditFlush_of_page (h : s.skm.page ≠ []) : s.auditFlush =
    { s with skm := { s.skm with pages := s.skm.pages ++ [(⟨false, s.skm.page⟩ : APage)], page := [] } }.auditKick := by
  rw [auditFlush, if_neg (by simpa using h)]

theorem auditKick_skm : s.auditKick.skm = s.skm := by
  unfold auditKick
  split
  · rfl
  · exact (LeaveOnly.askFlash ..).skm

/-- R419: compaction queues pages and asks for an erase; the log itself stays. -/
theorem auditCompact_keeps : s.auditCompact.skm.logPage = s.skm.logPage ∧ s.auditCompact.skm.ring = s.skm.ring ∧
    s.auditCompact.skm.logTail = s.skm.logTail ∧ s.auditCompact.skm.log = s.skm.log := by
  have hskm {t : State} (h : t.skm = s.skm) : t.skm.logPage = s.skm.logPage ∧ t.skm.ring = s.skm.ring ∧
      t.skm.logTail = s.skm.logTail ∧ t.skm.log = s.skm.log := by rw [h]; exact ⟨rfl, rfl, rfl, rfl⟩
  unfold auditCompact
  split
  · split
    · exact hskm rfl
    · exact hskm (LeaveOnly.askFlash ..).skm
  split
  · exact hskm rfl
  dsimp only
  split
  · rw [(LeaveOnly.askFlash ..).skm, auditKick_skm]
    exact ⟨rfl, rfl, rfl, rfl⟩
  · rw [auditKick_skm]
    exact ⟨rfl, rfl, rfl, rfl⟩

@[simp] theorem skm_setBytes (a : Nat) (l : List Byte) : (s.setBytes a l).skm = s.skm := by
  rw [setBytes_eq]

@[simp] theorem skm_forget (a b : Nat) : (s.forget a b).skm = s.skm := rfl

/-- R418: a page that becomes durable stands at its place, and the next page follows. -/
theorem auditDurable_of_page {p : APage} {l : List APage} (h : s.skm.pages = p :: l) :
    s.auditDurable.skm.logPage = s.skm.logPage + 1 ∧ s.auditDurable.skm.ring = s.skm.ring ∧
      s.auditDurable.mem = (s.setBytes (0x09C00000 + s.skm.logPage % 12288 * 256) p.bytes).mem := by
  simp only [auditDurable, h]
  refine ⟨?_, ?_, by simp⟩
  · rw [(auditCompact_keeps _).1, auditKick_skm, (LeaveOnly.releaseLeave ..).skm]
  · rw [(auditCompact_keeps _).2.1, auditKick_skm, (LeaveOnly.releaseLeave ..).skm, skm_setBytes]

/-- R419: the erase of the oldest sector leaves it all ones, and its entries leave the log. -/
theorem auditErased_keeps : s.auditErased.skm.logTail = s.skm.logTail + 16 ∧
    s.auditErased.skm.log = s.skm.log.filter (fun e => decide (s.skm.logTail + 16 ≤ e.1)) ∧
    s.auditErased.mem = (s.forget (0x09C00000 + s.skm.logTail % 12288 * 256)
      (0x09C00000 + s.skm.logTail % 12288 * 256 + 0x1000)).mem := by
  simp only [auditErased]
  refine ⟨?_, ?_, by simp⟩
  · rw [(auditCompact_keeps _).2.2.1, (LeaveOnly.releaseLeave ..).skm, skm_forget]
  · rw [(auditCompact_keeps _).2.2.2, (LeaveOnly.releaseLeave ..).skm, skm_forget]

/-! ### Clearing -/

/-- R422: a keyed write of SKM_CLR without ALL clears one entry. -/
theorem exec_faultClear_of_key {rq : Rq} {v : Word} (hw : s.writable rq Blk.SKM 0 R.SKM_CLR = true)
    (hkey : bits v 31 16 = 0x4643) (hone : bit v 8 = false) : exec (.faultClear rq v) s =
      .next ({ s with skm := { s.skm with reasserted := false } }.clearOne (bits v 6 0)) := by
  simp only [exec, execFaultClear, s.asWrite_of_writable v _ hw, clrWrite, hkey, hone, ne_eq, not_true_eq_false, if_false,
    Bool.false_eq_true, Option.getD_some]

/-- R422: an entry whose cause has gone closes. -/
theorem clearOne_of_gone {i : Nat} (hopen : (s.openF i).cnt ≠ 0) (hgone : s.liveCause (s.openF i) = false) :
    s.clearOne i = s.setOpenF i {} := by
  simp [clearOne, hopen, hgone]

/-- R422: an entry whose cause is present stays open, REASSERTED. -/
theorem clearOne_of_present {i : Nat} (hopen : (s.openF i).cnt ≠ 0) (hlive : s.liveCause (s.openF i) = true) :
    s.clearOne i = { s with skm := { s.skm with reasserted := true } }.event Blk.SKM 0 3 := by
  simp [clearOne, hopen, hlive]

@[simp] theorem openF_setOpenF (i : Nat) (f : OpenF) : (s.setOpenF i f).openF i = f := by simp [openF, setOpenF]

/-- R423: DRIVE asserts FAULTN. -/
theorem faultn_of_drive (h : bit (s.reg R.SKM_PIN) 0 = true) : s.faultn = true := by
  simp [faultn, h]

end State
end Sys2Proof.Machine

open Sys2Proof Sys2Proof.Machine

/-- Settles O21: a message taken makes a record, repeats the newest one, or waits in the early buffer. -/
theorem faultMessagesRecordedInOrder : Obligations.FaultMessagesRecordedInOrder := by
  unfold Obligations.FaultMessagesRecordedInOrder
  intro s ms m l hin hbusy hen
  have hlate := s.exec_faultMessageTaken_of_late ms hin hbusy hen
  refine ⟨fun hearly hlost hnew hroom => ?_, fun hearly r q hring hrep => ?_,
    s.exec_faultMessageTaken_of_early ms hin hbusy hen⟩
  · obtain ⟨r, ring, hmsg, hseq, hrec, hreact, x, hx⟩ :=
      State.takeMsg_of_new { s with inbox := l } (ms := ms) hlost hnew hroom
    exact ⟨_, r, x, hlate hearly, hx.symm, hreact, ring, hmsg, hseq, hrec, State.takeMsg_mem ..⟩
  · obtain ⟨hinbox, hreact, ring⟩ := State.takeMsg_of_repeat { s with inbox := l } hring hrep
    exact ⟨_, hlate hearly, hinbox, hreact, ring, State.takeMsg_mem ..⟩

/-- Settles O23: the page flushed, the page made durable and the sector erased, compaction leaving the log as it is. -/
theorem auditLogPages : Obligations.AuditLogPages := by
  unfold Obligations.AuditLogPages
  intro s
  refine ⟨fun hpage => ?flush, fun p l hhand hpages => ?durable, fun hhand => ?erase⟩
  case flush =>
    refine ⟨s.auditFlush, rfl, ?_, ?_, ?_, s.auditFlush_mem⟩ <;> rw [s.auditFlush_of_page hpage, State.auditKick_skm]
  case durable =>
    obtain ⟨hlog, hring, hmem⟩ := s.auditDurable_of_page hpages
    exact ⟨s.auditDurable, by simp only [exec, execAuditPageDurable, hhand, if_true], hlog, hring, hmem⟩
  case erase =>
    obtain ⟨htail, hlog, hmem⟩ := s.auditErased_keeps
    refine ⟨s.auditErased, by simp only [exec, execAuditSectorErase, hhand, if_true], htail, hlog, fun a => ?_⟩
    have hbyte : s.auditErased.byte a = _ := congrArg (Tbl.get memDefault · a) hmem
    rw [hbyte, ← State.byte, State.byte_forget]
    refine ite_congr rfl (fun hin => ?_) fun _ => rfl
    exact if_pos (by omega)

/-- Settles O24: the entry cleared or reasserted by whether its cause is present; the pin and the pulse as written. -/
theorem faultClearAndFaultn : Obligations.FaultClearAndFaultn := by
  unfold Obligations.FaultClearAndFaultn
  intro s rq v drive
  refine ⟨fun hw hkey hone hopen => ?clear, fun hw => ?drive, rfl⟩
  case clear =>
    have hex := s.exec_faultClear_of_key hw hkey hone
    have hclear := State.clearOne_of_gone { s with skm := { s.skm with reasserted := false } } hopen
    have hstay := State.clearOne_of_present { s with skm := { s.skm with reasserted := false } } hopen
    refine ⟨fun hgone => ⟨_, hex.trans (congrArg _ (hclear hgone)), ?_⟩,
      fun hlive => ⟨_, hex.trans (congrArg _ (hstay hlive)), ?_⟩⟩
    · exact ⟨State.openF_setOpenF .., rfl, rfl, rfl⟩
    · exact ⟨rfl, rfl, rfl, rfl⟩
  case drive =>
    refine ⟨_, congrArg Host.Outcome.next (s.asWrite_of_writable _ _ hw), rfl, fun hd => State.faultn_of_drive _ ?_⟩
    simp [hd, b2n, bit, w32]
end

section
/-! SUPPORT. The Riser: fences (R14, R426), spares (R429, R431), the field map (R433), and pairs that fail, are replaced or
restart (R273-R276, R312). -/

namespace Sys2Proof.Machine.State

variable (s : State)

/-! ### Fences -/

theorem isFenced_setFence (b i : Nat) {n : Nat} (hn : n < 32) : (s.setFence b i n).isFenced b i n = true := by
  unfold setFence
  dsimp only
  split
  next h => exact h
  · simp only [isFenced, hdr_setHdr]
    exact bit_putBit_self _ hn

@[simp] theorem lane_setFence (b i n m : Nat) : (s.setFence b i n).lane m = s.lane m := by
  unfold setFence
  dsimp only
  split <;> rfl

/-- R14: a fence takes a lane that is not yet fenced out of use. -/
theorem lane_fence_st {n : Nat} (h : (s.lane n).st ≠ .fenced) (kind : Option Nat) :
    ((s.fence 0 n kind).lane n).st = .fenced := by
  simp [fence, unitFenced, h, fenceOff]

/-- R14: firmware's fence of a lane. -/
theorem exec_firmwareFence_of_lane {rq : Rq} {n : Nat} {mask : Word}
    (hw : s.writable rq Blk.SYM n (blkBase Blk.SYM n + 0x28) = true) (hm : bit mask 0 = true) :
    exec (.firmwareFence rq Blk.SYM n mask) s = .next ((s.fence 0 n none).setFence Blk.SYM n 0) := by
  simp [exec, execFirmwareFence, s.asWrite_of_writable _ _ hw, fenceWrite, hm]

/-! ### Spares -/

section
variable {pool u : Nat} (hsubs : s.ris.subs = []) (hdue : s.ris.due = [(pool, u)])
include hsubs hdue

/-- R429: the one unit to be replaced gets the lowest spare. -/
theorem substitute_of_spare {x : Nat} {l : List Nat} (hx : s.spares pool = x :: l) :
    s.substitute pool = { s with ris := { s.ris with subs := [], due := [] } }.bringIn pool u x := by
  have hx' : ({ s with ris := { s.ris with subs := [], due := [] } } : State).spares pool = x :: l := hx
  simp [substitute, hsubs, hdue, hx']

/-- R431: with no spare the pool is exhausted. -/
theorem substitute_of_none (hx : s.spares pool = []) :
    s.substitute pool = { s with ris := { s.ris with subs := [], due := [] } }.exhausted pool u := by
  have hx' : ({ s with ris := { s.ris with subs := [], due := [] } } : State).spares pool = [] := hx
  simp [substitute, hsubs, hdue, hx']

end

theorem wakeSpare_ris (n : Nat) : (s.wakeSpare n).ris = s.ris := by
  unfold wakeSpare
  split
  · rfl
  dsimp only
  split <;> exact (LeaveOnly.askLeave ..).ris

/-- R429: a spare being brought in is noted. -/
theorem bringIn_ris (pool u n : Nat) : (s.bringIn pool u n).ris = { s.ris with subs := s.ris.subs ++ [(pool, u, n)] } := by
  unfold bringIn
  dsimp only
  split
  · exact wakeSpare_ris ..
  split <;> rfl

/-- R431: the record of an exhausted pool. -/
theorem exhausted_sends (pool u : Nat) : ∃ m, (s.exhausted pool u).inbox = s.inbox ++ [m] ∧
    m.kind = Kind.REPAIR_EXHAUSTED ∧ m.blk = Blk.RIS ∧ (s.exhausted pool u).ris = s.ris :=
  ⟨_, rfl, rfl, rfl, rfl⟩

theorem exec_spareIn_of_pool {pool : Fin 4} (hp : pool.val ≠ 2) (hw : s.clk.waiting = false) :
    exec (.spareIn pool) s = .next (s.substitute pool) := by
  have hpool : pool ≠ 2 := fun h => hp (congrArg Fin.val h)
  simp [exec, execSpareIn, hpool, hw]

/-! ### The field map -/

@[simp] theorem ris_setBytes (a : Nat) (l : List Byte) : (s.setBytes a l).ris = s.ris := by
  rw [setBytes_eq]

/-- R433: an entry is written at its place in the half of its copy that is not yet full. -/
theorem mapWrite_of_room {n : Nat} (h : n % 1024 ≠ 0) (second : Bool) (l : List MapEnt) (e : MapEnt) :
    s.mapWrite second n l e = (s.setBytes (mapBase second + n / 1024 % 2 * 0x8000 + n % 1024 * 32) e.bytes, n + 1) := by
  simp [mapWrite, h]

/-- R433: an entry durable in copy 1. -/
theorem mapDurable_first {e : MapEnt} (hfirst : s.flashOn.any (fun o => o.rq.what == .fieldMap && o.rq.bank == 1) = true)
    (he : s.ris.ents[s.ris.copy1]? = some e) (hroom : s.ris.half1 % 1024 ≠ 0) :
    s.mapDurable.ris.copy1 = s.ris.copy1 + 1 ∧ s.mapDurable.ris.copy2 = s.ris.copy2 ∧ s.mapDurable.mem =
      (s.setBytes (0x08FF0000 + s.ris.half1 / 1024 % 2 * 0x8000 + s.ris.half1 % 1024 * 32) e.bytes).mem := by
  simp only [mapDurable, hfirst, if_true, he, s.mapWrite_of_room hroom, mapBase, Bool.false_eq_true, if_false]
  refine ⟨?_, ?_, by simp⟩ <;> rw [(LeaveOnly.askFlash ..).ris, (LeaveOnly.releaseLeave ..).ris]
  dsimp only
  rw [ris_setBytes]

theorem mapKick_leaveOnly : LeaveOnly s s.mapKick := by
  unfold mapKick
  split
  · exact .askFlash ..
  · exact .refl s

/-- R433: an entry durable in copy 2 is the newest of both. -/
theorem mapDurable_second {e : MapEnt} (hfirst : s.flashOn.any (fun o => o.rq.what == .fieldMap && o.rq.bank == 1) = false)
    (he : s.ris.ents[s.ris.copy2]? = some e) (hroom : s.ris.half2 % 1024 ≠ 0) :
    s.mapDurable.ris.copy2 = s.ris.copy2 + 1 ∧ s.mapDurable.ris.seq = e.seq ∧ s.mapDurable.mem =
      (s.setBytes (0x09FF0000 + s.ris.half2 / 1024 % 2 * 0x8000 + s.ris.half2 % 1024 * 32) e.bytes).mem := by
  simp only [mapDurable, hfirst, if_true, he, s.mapWrite_of_room hroom, mapBase, Bool.false_eq_true, if_false]
  refine ⟨?_, ?_, by simp⟩ <;> rw [(mapKick_leaveOnly _).ris, event_eq]
  · exact congrArg Ris.copy2 (LeaveOnly.releaseLeave ..).ris
  · exact congrArg Ris.seq (LeaveOnly.releaseLeave ..).ris

/-! ### Pairs -/

/-- What an event set for other pairs leaves: pair `p` is the same, and nothing but the pairs changes. -/
structure OthersTold (p : Nat) (s t : State) : Prop where
  pair : t.pair p = s.pair p
  rest : { t with pairs := s.pairs } = s

namespace OthersTold

variable {p : Nat} {s t u : State}

theorem refl (p : Nat) (s : State) : OthersTold p s s := ⟨rfl, rfl⟩

theorem trans (h : OthersTold p s t) (g : OthersTold p t u) : OthersTold p s u :=
  ⟨g.pair.trans h.pair, by
    have hu : ({ u with pairs := s.pairs } : State) = { t with pairs := s.pairs } :=
      congrArg (fun v : State => { v with pairs := s.pairs }) g.rest
    exact hu.trans h.rest⟩

/-- What is not of the pairs is the same. -/
theorem field {α : Type} (h : OthersTold p s t) (f : State → α) (hf : ∀ (s : State) l, f { s with pairs := l } = f s) :
    f t = f s := by
  rw [← hf t s.pairs, h.rest]

theorem setPair (s : State) {q : Nat} (hq : q ≠ p) (k : KPair) : OthersTold p s (s.setPair q k) :=
  ⟨s.pair_setPair_ne k hq.symm, rfl⟩

theorem foldl {f : State → Nat → State} (h : ∀ s q, OthersTold p s (f s q)) (l : List Nat) (s : State) :
    OthersTold p s (l.foldl f s) := by
  induction l generalizing s with
  | nil => exact refl p s
  | cons q l ih => exact (h s q).trans (ih _)

theorem haltEvents (s : State) (p : Nat) : OthersTold p s (s.haltEvents p) := by
  refine foldl (fun s q => ?_) _ s
  split
  next h => exact setPair s h.1 _
  · exact refl p s

theorem takeEvents (s : State) (p : Nat) : OthersTold p s (s.takeEvents p) := by
  refine foldl (fun s q => ?_) _ s
  split
  next h => exact setPair s h.1 _
  · exact refl p s

end OthersTold

/-- R426: a strike adds an entry to the field map and asks for its page. -/
theorem mapAdd_keeps (typ pool unit spare kind : Nat) : (s.mapAdd typ pool unit spare kind).pairs = s.pairs ∧
    (s.mapAdd typ pool unit spare kind).ris.subs = s.ris.subs ∧
    (s.mapAdd typ pool unit spare kind).ris.due = s.ris.due ∧ s.inbox <+: (s.mapAdd typ pool unit spare kind).inbox := by
  obtain ⟨u, heq, hpairs, hsubs, hdue, hinbox⟩ : ∃ u : State, s.mapAdd typ pool unit spare kind = u.mapKick ∧
      u.pairs = s.pairs ∧ u.ris.subs = s.ris.subs ∧ u.ris.due = s.ris.due ∧ u.inbox = s.inbox :=
    ⟨_, rfl, rfl, rfl, rfl, rfl⟩
  have hkick := u.mapKick_leaveOnly
  rw [heq, hkick.ris, hkick.pairs, ← hinbox]
  exact ⟨hpairs, hsubs, hdue, hkick.inbox⟩

/-- R426, R429: a unit that served takes a strike and is to be replaced. -/
theorem noteFence_of_serving {pool unit : Nat} (kind : Nat) (h : s.ris.subs = []) :
    (s.noteFence pool unit true (some kind)).pairs = s.pairs ∧
      (pool, unit) ∈ (s.noteFence pool unit true (some kind)).ris.due ∧
      s.inbox <+: (s.noteFence pool unit true (some kind)).inbox := by
  obtain ⟨hpairs, hsubs, hdue, hinbox⟩ := s.mapAdd_keeps 1 pool unit 0xFFFF kind
  simp only [noteFence, hsubs, h, List.find?_nil, if_true]
  exact ⟨hpairs, List.mem_append_right _ (List.mem_singleton.2 rfl), hinbox⟩

/-- R273, R276: a pair that runs in a role stops, fenced, and is to be replaced. -/
theorem pairFail_outcome {p kind : Nat} (hrun : (s.pair p).run = .running ∨ (s.pair p).run = .waiting)
    (hrole : (s.pair p).role ≠ 0) (hin : (s.pair p).fenced = false) (hsubs : s.ris.subs = []) :
    ((s.pairFail p kind).pair p).run = .mismatch ∧ ((s.pairFail p kind).pair p).fenced = true ∧
      ((s.pairFail p kind).pair p).role = (s.pair p).role ∧ (2, p) ∈ (s.pairFail p kind).ris.due ∧
      ∃ m, m ∈ (s.pairFail p kind).inbox ∧ m.blk = Blk.KEN ∧ m.inst = p ∧ m.kind = kind ∧
        m.addr = (s.pair p).pc.toNat := by
  have hruns : s.pairRuns p = true := by simpa [pairRuns] using hrun
  have haddr : (s.pair p).pc.toNat % 2 ^ 40 = (s.pair p).pc.toNat := Nat.mod_eq_of_lt (by omega)
  have htold := OthersTold.haltEvents (s.faultBy Blk.KEN p kind (s.pair p).pc.toNat 4 Blk.GAT 0) p
  have hfail : s.pairFail p kind =
      ((((s.faultBy Blk.KEN p kind (s.pair p).pc.toNat 4 Blk.GAT 0).haltEvents p).modPair p
        (fun k => { k with run := .mismatch, fenced := true })).noteFence 2 p true (some kind)) := by
    simp [pairFail, hrole, hin, hruns]
  generalize (s.faultBy Blk.KEN p kind (s.pair p).pc.toNat 4 Blk.GAT 0).haltEvents p = u at htold hfail
  have hpair : u.pair p = s.pair p := htold.pair
  have hris : u.ris = s.ris := htold.field State.ris fun _ _ => rfl
  have hinbox : u.inbox = s.inbox ++ [⟨Blk.KEN, p, kind, kindSev kind, (s.pair p).pc.toNat % 2 ^ 40, 4⟩] :=
    htold.field State.inbox fun _ _ => rfl
  obtain ⟨hpairs, hdue, hpre⟩ := (u.modPair p (fun k => { k with run := .mismatch, fenced := true })).noteFence_of_serving
    (pool := 2) (unit := p) kind (hris ▸ hsubs)
  rw [← hfail] at hpairs hdue hpre
  have hself : (s.pairFail p kind).pair p = { s.pair p with run := .mismatch, fenced := true } := by
    rw [pair, hpairs, ← pair, modPair_eq, pair_setPair, hpair]
  rw [hself]
  refine ⟨rfl, rfl, rfl, hdue, ⟨Blk.KEN, p, kind, kindSev kind, (s.pair p).pc.toNat % 2 ^ 40, 4⟩, hpre.subset ?_, rfl,
    rfl, rfl, haddr⟩
  exact hinbox ▸ List.mem_append_right _ (List.mem_singleton.2 rfl)

/-! ### Takeover and restart -/

/-- R274: the one pair without a role that is fit is the spare. -/
theorem spares_of_one {p q : Pair} (hp : (s.pair p).fenced = true) (hq : (s.pair q).role = 0)
    (hin : (s.pair q).fenced = false) (hrest : ∀ x : Pair, x ≠ p → x ≠ q → (s.pair x).role ≠ 0) :
    s.spares 2 = [q.val] := by
  have hfit : ∀ n ∈ List.range 3, ((s.pair n).role == 0 && !(s.pair n).fenced) = decide (n = q.val) := by
    intro n hn
    have hn3 : n < 3 := List.mem_range.mp hn
    by_cases hnq : n = q.val
    · simp [hnq, hq, hin]
    by_cases hnp : n = p.val
    · simp [hnp, hp, hnp ▸ hnq]
    · have hrole := hrest ⟨n, hn3⟩ (fun h => hnp (congrArg Fin.val h)) fun h => hnq (congrArg Fin.val h)
      simp [hrole, hnq]
  have hsp : s.spares 2 = (List.range 3).filter (fun n => (s.pair n).role == 0 && !(s.pair n).fenced) := rfl
  rw [hsp, List.filter_congr hfit]
  exact (by decide : ∀ q : Pair, (List.range 3).filter (fun n => decide (n = q.val)) = [q.val]) q

/-- R274: the event of a takeover changes no role. -/
theorem role_takeEvents (p x : Nat) : ((s.takeEvents p).pair x).role = (s.pair x).role := by
  unfold takeEvents
  generalize List.range 3 = l
  induction l generalizing s with
  | nil => rfl
  | cons q l ih =>
    rw [List.foldl_cons, ih]
    split
    · by_cases hx : x = q
      · simp [hx]
      · simp [pair_setPair_ne _ _ hx]
    · rfl

/-- R274: pair `q` takes over the role of pair `p`. -/
def takenOver (p q : Pair) : State :=
  (({ s with ris := { s.ris with due := s.ris.due.erase (2, p.val) } }.modPair p (fun k => { k with role := 0 })).takeRole q
    (s.pair p).role).spareIn 2 p

theorem exec_pairTakeover_of_spare {p q : Pair} (hdue : (2, p.val) ∈ s.ris.due) (hwait : s.clk.waiting = false)
    (hrole : (s.pair p).role ≠ 0) (hp : (s.pair p).fenced = true) (hq : (s.pair q).role = 0)
    (hin : (s.pair q).fenced = false) (hrest : ∀ x : Pair, x ≠ p → x ≠ q → (s.pair x).role ≠ 0) :
    exec (.pairTakeover p) s = .next (s.takenOver p q) := by
  have hne (x : Pair) (h : x ≠ p) : ({ s with ris := { s.ris with due := s.ris.due.erase (2, p.val) } }.modPair p
      (fun k => { k with role := 0 })).pair x = s.pair x := pair_setPair_ne _ _ fun e => h (Fin.ext e)
  have hqp : q ≠ p := fun h => by simp [h, hp] at hin
  have hspare := spares_of_one ({ s with ris := { s.ris with due := s.ris.due.erase (2, p.val) } }.modPair p
    (fun k => { k with role := 0 })) (p := p) (q := q) (by rw [modPair_eq, pair_setPair]; exact hp)
    (by rw [hne q hqp]; exact hq) (by rw [hne q hqp]; exact hin) fun x hxp hxq => by rw [hne x hxp]; exact hrest x hxp hxq
  have hcontains : s.ris.due.contains (2, p.val) = true := List.contains_iff_mem.mpr hdue
  simp only [exec, execPairTakeover, takeover, hcontains, hwait, hspare, hrole, Bool.not_true, Bool.false_eq_true,
    or_self, if_false]
  rfl

theorem takenOver_pairs {p q : Pair} (hqp : q ≠ p) : ((s.takenOver p q).pair p).role = 0 ∧
    ((s.takenOver p q).pair q).role = (s.pair p).role ∧ ((s.takenOver p q).pair q).takeover = true ∧
    ((s.takenOver p q).pair q).run = .running ∧ ((s.takenOver p q).pair q).pc = 0 := by
  obtain ⟨u, hpairs, hp⟩ : ∃ u : State, (s.takenOver p q).pairs = (u.takeRole q (s.pair p).role).pairs ∧
      (u.pair p).role = 0 := ⟨_, rfl, by rw [modPair_eq, pair_setPair]⟩
  have hpq : p.val ≠ q.val := fun h => hqp (Fin.ext h.symm)
  have hpair (x : Nat) : (s.takenOver p q).pair x = (u.takeRole q (s.pair p).role).pair x :=
    congrArg (fun l => Tbl.get (fun _ => ({} : KPair)) l x) hpairs
  have hself : (s.takenOver p q).pair q = (u.startPair q (s.pair p).role true).pair q :=
    (hpair q).trans (OthersTold.takeEvents ..).pair
  refine ⟨?_, ?_⟩
  · rw [hpair, takeRole, role_takeEvents, startPair, modPair_eq, pair_setPair_ne _ _ hpq]
    exact hp
  · rw [hself, startPair, modPair_eq, pair_setPair]
    exact ⟨rfl, rfl, rfl, rfl⟩

/-- The fields of a keyed write of GAT_PAIR_CTL that restarts a pair (R312). -/
theorem pairCtl_fields : ∀ p : Pair, bit (w32 (0x53540004 + p)) 2 = true ∧ bits (w32 (0x53540004 + p)) 31 16 = 0x5354 ∧
    bits (w32 (0x53540004 + p)) 1 0 = p := by decide

/-- R312: a doubly faulted pair restarts in its role. -/
theorem exec_pairRestart_of_faulted {p q : Pair} (hw : s.writable (.pair q) Blk.GAT 0 R.GAT_PAIR_CTL = true) (hqp : q ≠ p)
    (hrun : (s.pair p).run = .doubleFault) (hin : (s.pair p).fenced = false) :
    exec (.pairRestart (.pair q) (p.castLT (by omega))) s =
      .next (s.startPair p (s.pair p).role (s.pair p).takeover) := by
  obtain ⟨hrestart, hkey, hself⟩ := pairCtl_fields p
  have hne : q.val ≠ p.val := fun h => hqp (Fin.ext h)
  have hp3 : p.val ≠ 3 := by omega
  simp only [exec, execPairRestart, s.asWrite_of_writable _ _ hw]
  simp [pairCtlWrite, hrestart, hkey, hself, hrun, hin, hne, hp3]

end Sys2Proof.Machine.State

open Sys2Proof Sys2Proof.Machine

/-- Settles O25: the fence through the lane's header, the one unit due by whether a spare is left, and the entry by the
copy in hand. -/
theorem fencesSparesAndFieldMap : Obligations.FencesSparesAndFieldMap := by
  unfold Obligations.FencesSparesAndFieldMap
  intro s rq n mask pool u e
  refine ⟨fun hw hm hst => ?fence, fun hp hwait hsubs hdue => ⟨fun x l hx => ?spare, fun hx => ?none⟩,
    fun hhand hfirst he hroom => ?first, fun hhand hfirst he hroom => ?second⟩
  case fence =>
    have haddr : blkBase Blk.SYM n + 0x28 = 0x20700028 + n * 0x10000 := by
      simp [blkBase, blkInsts, blkStride, Blk.SYM, Blk.HPT]
      omega
    refine ⟨_, s.exec_firmwareFence_of_lane (by rwa [haddr]) hm, ?_, State.isFenced_setFence _ _ _ (by decide)⟩
    rw [State.lane_setFence]
    exact s.lane_fence_st hst none
  case spare =>
    refine ⟨_, s.exec_spareIn_of_pool hp hwait, ?_, ?_, State.substitute_mem ..⟩ <;>
      rw [s.substitute_of_spare hsubs hdue hx, State.bringIn_ris]
    rfl
  case none =>
    obtain ⟨m, hin, hkind, hblk, hris⟩ :=
      ({ s with ris := { s.ris with subs := [], due := [] } } : State).exhausted_sends pool u
    refine ⟨_, m, s.exec_spareIn_of_pool hp hwait, ?_, hkind, hblk, ?_⟩ <;> rw [s.substitute_of_none hsubs hdue hx]
    · exact hin
    · rw [hris]
  case first =>
    exact ⟨s.mapDurable, by simp only [exec, execFieldMapWrite, hhand, if_true], s.mapDurable_first hfirst he hroom⟩
  case second =>
    exact ⟨s.mapDurable, by simp only [exec, execFieldMapWrite, hhand, if_true], s.mapDurable_second hfirst he hroom⟩

/-- Settles O26: the failure, the takeover by the one fit pair and the keyed restart. -/
theorem pairsFailAndAreReplaced : Obligations.PairsFailAndAreReplaced := by
  unfold Obligations.PairsFailAndAreReplaced
  intro s p q k dead
  refine ⟨fun hrun hrole hin hsubs => ?fail, fun hdue hwait hrole hp hq hin hrest => ?takeover,
    fun hw hqp hrun hin => ?restart⟩
  case fail =>
    exact ⟨⟨_, rfl, s.pairFail_outcome hrun hrole hin hsubs⟩, ⟨_, rfl, s.pairFail_outcome hrun hrole hin hsubs⟩⟩
  case takeover =>
    have hqp : q ≠ p := fun h => by simp [k, h ▸ hin] at hp
    exact ⟨_, s.exec_pairTakeover_of_spare hdue hwait hrole hp hq hin hrest, s.takenOver_pairs hqp⟩
  case restart =>
    refine ⟨_, s.exec_pairRestart_of_faulted hw hqp hrun hin, ?_⟩
    rw [State.startPair, State.modPair_eq, State.pair_setPair]
    exact ⟨rfl, rfl, rfl, rfl, rfl, fun x hx => State.pair_setPair_ne _ _ hx⟩
end

section
/-! SUPPORT. The commands of the common header (R11, R16-R18): soft reset, enable, clear of events and lock. -/

namespace Sys2Proof.Machine

section
variable (s : State) {rq : Rq} {b i : Nat}

/-- A header command that reaches its register has its effect. -/
theorem headCmd_of_writable {off : Nat} (hi : i < blkInsts b) (hw : s.writable rq b i (blkBase b i + off) = true)
    (v : Word) (eff : State → State) : headCmd rq b i off v eff s = eff s := by
  simp [headCmd, hi, s.asWrite_of_writable _ _ hw]

/-- The bits of a write of BLK_CTRL with SRST. -/
theorem srst_bits (en : Bool) : bit (w32 (2 + b2n en)) 0 = en ∧ bit (w32 (2 + b2n en)) 1 = true := by
  cases en <;> decide

namespace State

@[simp] theorem setHdr_setHdr (b i : Nat) (g h : Hdr) : (s.setHdr b i g).setHdr b i h = s.setHdr b i h := by
  simp [setHdr]

/-- R16: EN alone is written, unless the block has flash work waiting for it. -/
theorem enWrite_of_other (hb : b ≠ Blk.FLC) (en : Bool) :
    s.enWrite b i en = s.setHdr b i { s.hdr b i with en := en } := by
  simp [enWrite, hb]

/-- A block whose soft reset ends no work (R16). -/
def idleBlock (b : Nat) : Prop := b = Blk.GAT ∨ b = Blk.RIS ∨ b = Blk.MLK ∨ b = Blk.CLK

theorem ne_flc_of_idle (hb : idleBlock b) : b ≠ Blk.FLC := by
  rcases hb with rfl | rfl | rfl | rfl <;> decide

theorem srstWork_of_idle (hb : idleBlock b) : s.srstWork b i = s := by
  rcases hb with rfl | rfl | rfl | rfl <;> rfl

theorem srstMore_of_idle (hb : idleBlock b) (t : State) : s.srstMore t b = fun _ => false := by
  funext a
  rcases hb with rfl | rfl | rfl | rfl <;> rfl

@[simp] theorem hdr_clearRegs (f : Nat → Bool) (c j : Nat) : (s.clearRegs b i f).hdr c j = s.hdr c j := rfl

/-- The state a soft reset of a block without work leaves (R16). -/
def srstIdle (b i : Nat) (en : Bool) : State :=
  ((s.setHdr b i { s.hdr b i with en := en, srstBusy := true }).clearRegs b i fun _ => false).setHdr b i
    { s.hdr b i with en := en, srstBusy := true, evt := 0, evtCnt := 0 }

/-- R16: the soft reset of such a block clears its registers and its events. -/
theorem ctrlWrite_of_idle (hb : idleBlock b) (en : Bool) :
    s.ctrlWrite b i (w32 (2 + b2n en)) = s.srstIdle b i en := by
  obtain ⟨h0, h1⟩ := srst_bits en
  simp only [ctrlWrite, h0, h1, if_true, s.enWrite_of_other (ne_flc_of_idle hb), softReset, hdr_setHdr, setHdr_setHdr,
    srstWork_of_idle _ hb, srstMore_of_idle _ hb, hdr_clearRegs, srstIdle]

/-- A lock outlives the reset: locked fields keep their values (R11, R16). -/
theorem rwlShut_setHdr (en : Bool) (a : Nat) :
    (s.setHdr b i { s.hdr b i with en := en, srstBusy := true }).rwlShut b i a = s.rwlShut b i a := by
  simp [rwlShut, locked]

theorem reg_srstIdle (en : Bool) (a : Nat) : (s.srstIdle b i en).reg a =
    if blkBase b i ≤ a ∧ a < blkBase b i + blkPages b * 0x1000 ∧ srstKeep b a = false ∧ s.rwlShut b i a = false then
      regReset a else s.reg a := by
  simp only [srstIdle, reg, clearRegs, Tbl.get_clear, setHdr_regs, rwlShut_setHdr]
  simp [and_assoc]

/-- R17: the end of a soft reset of a block other than CTX, with no access held, releases the block. -/
theorem srstDone_of_empty (hbusy : (s.hdr b i).srstBusy = true) (hb : b ≠ Blk.CTX) (hheld : (s.hdr b i).held = []) :
    s.srstDone b i = s.setHdr b i { s.hdr b i with srstBusy := false, held := [] } := by
  simp [srstDone, hbusy, srstReady, hb, hheld, srstEnd]

end State
end
end Sys2Proof.Machine

open Sys2Proof Sys2Proof.Machine

/-- Settles O28: each command reaches its header register; the reset of a block without work clears its registers. -/
theorem headerCommandsHaveTheirEffect : Obligations.HeaderCommandsHaveTheirEffect := by
  unfold Obligations.HeaderCommandsHaveTheirEffect
  intro s rq b i en mask collide hi h
  refine ⟨fun hw => ⟨fun hb => ?srst, fun hb => ?en⟩, fun hbusy hb hheld => congrArg _ (s.srstDone_of_empty hbusy hb hheld),
    fun hw => congrArg _ (headCmd_of_writable s hi hw mask _), fun hw => congrArg _ (headCmd_of_writable s hi hw 1 _)⟩
  case srst =>
    refine ⟨s.srstIdle b i en, ?_, State.hdr_setHdr .., fun a hlo hhi hkeep hshut => ?_, fun a hout => ?_, rfl, rfl, rfl⟩
    · exact congrArg _ ((headCmd_of_writable s hi hw _ _).trans (s.ctrlWrite_of_idle hb en))
    · rw [State.reg_srstIdle, if_pos ⟨hlo, hhi, hkeep, hshut⟩]
    · rw [State.reg_srstIdle, if_neg (by omega)]
  case en => exact congrArg _ ((headCmd_of_writable s hi hw _ _).trans (s.enWrite_of_other hb en))
end

section
/-! SUPPORT. Register fields and their counts, and the management link: frames, answers and reads (R68-R70). -/

namespace Sys2Proof.Machine

/-! ### Register fields -/

theorem testBit_bits (w : Word) (hi lo i : Nat) : (bits w hi lo).testBit i = (decide (i < hi + 1 - lo) && w.getLsbD (lo + i)) := by
  rw [bits, Nat.testBit_mod_two_pow, Nat.testBit_shiftRight, BitVec.testBit_toNat]

/-- A field written holds the value, cut to its width. -/
theorem bits_putField (w : Word) {hi lo : Nat} (hlo : lo ≤ hi) (hhi : hi < 32) (v : Nat) :
    bits (putField w hi lo v) hi lo = v % 2 ^ (hi + 1 - lo) := by
  apply Nat.eq_of_testBit_eq
  intro i
  rw [testBit_bits, Nat.testBit_mod_two_pow]
  by_cases h : i < hi + 1 - lo
  · have hin : lo ≤ lo + i ∧ lo + i ≤ hi := by omega
    rw [getLsbD_putField w hlo (by omega), if_pos hin, Nat.add_sub_cancel_left]
  · simp [h]

/-- A field written leaves another field as it is. -/
theorem bits_putField_other (w : Word) {hi lo hi' lo' : Nat} (hlo : lo ≤ hi) (hhi : hi' < 32) (hout : hi' < lo ∨ hi < lo')
    (v : Nat) : bits (putField w hi lo v) hi' lo' = bits w hi' lo' := by
  apply Nat.eq_of_testBit_eq
  intro i
  rw [testBit_bits, testBit_bits]
  by_cases h : i < hi' + 1 - lo'
  · rw [getLsbD_putField w hlo (by omega), if_neg (by omega)]
  · simp [h]

theorem satSucc_le (n m : Nat) : satSucc n m ≤ n := by
  unfold satSucc
  split <;> omega

namespace State

variable (s : State)

theorem fld_setFld (a : Nat) {hi lo : Nat} (hlo : lo ≤ hi) (hhi : hi < 32) (v : Nat) :
    (s.setFld a hi lo v).fld a hi lo = v % 2 ^ (hi + 1 - lo) := by
  simp only [setFld, fld, reg_setReg, bits_putField _ hlo hhi]

theorem fld_setFld_other (a : Nat) {hi lo hi' lo' : Nat} (hlo : lo ≤ hi) (hhi : hi' < 32) (hout : hi' < lo ∨ hi < lo')
    (v : Nat) : (s.setFld a hi lo v).fld a hi' lo' = s.fld a hi' lo' := by
  simp only [setFld, fld, reg_setReg, bits_putField_other _ hlo hhi hout]

/-- R11: a counter steps and saturates. -/
theorem fld_count (a : Nat) {hi lo : Nat} (hlo : lo ≤ hi) (hhi : hi < 32) :
    (s.count a hi lo).fld a hi lo = satSucc (2 ^ (hi + 1 - lo) - 1) (s.fld a hi lo) := by
  have hle := satSucc_le (2 ^ (hi + 1 - lo) - 1) (s.fld a hi lo)
  have hpos := Nat.two_pow_pos (hi + 1 - lo)
  rw [count, fld_setFld s a hlo hhi, Nat.mod_eq_of_lt (by omega)]

/-- A counter that steps leaves the other field of its register. -/
theorem fld_count_other (a : Nat) {hi lo hi' lo' : Nat} (hlo : lo ≤ hi) (hhi : hi' < 32) (hout : hi' < lo ∨ hi < lo') :
    (s.count a hi lo).fld a hi' lo' = s.fld a hi' lo' :=
  s.fld_setFld_other a hlo hhi hout _

/-! ### Frames -/

section
variable (hf : s.fieldPower = false) (hpins : s.dbg.pins = false) {u : Byte}
include hf hpins

/-- R68: the candidate takes the address assigned. -/
theorem mlkFrame_of_assign {n : Byte} (haddr : s.mlk.addr = none) (hchin : s.mlk.chin = true) (hlo : 1 ≤ n.toNat)
    (hhi : n.toNat ≤ 0xFE) : s.mlkFrame 0 0x01 [n] (crc8 [0, 0x01, BitVec.ofNat 8 1, n]) =
      { s with mlk := { s.mlk with resp := none, ready := false, addr := some n.toNat } } := by
  simp [mlkFrame, hf, hpins, candidate, haddr, hchin, hlo, hhi]

section
variable (haddr : s.mlk.addr = some u.toNat) (hlo : 1 ≤ u.toNat)
include haddr hlo

/-- R69, R70: a good frame to the unit is answered; a release that is answered OK forgets the address. -/
theorem mlkFrame_of_named {cmd : Byte} {d data : List Byte} (hd : d.length ≤ 32)
    (hdo : s.mlkDo u.toNat cmd.toNat d (Config.free s.fresh) = (0, data)) :
    s.mlkFrame u cmd d (crc8 ([u, cmd, BitVec.ofNat 8 d.length] ++ d)) = { s with
      fresh := s.fresh + 1
      mlk := { s.mlk with resp := some (mlkResp 0 data), ready := false, addr := if cmd = 2 then none else s.mlk.addr } } := by
  have hnamed : s.mlkNamed u.toNat = true := by simp [mlkNamed, haddr]
  have hu : u.toNat ≠ 0 := by omega
  have hdo' : ({ s with fresh := s.fresh + 1, mlk := { s.mlk with resp := none, ready := false } } : State).mlkDo u.toNat
      cmd.toNat d (Config.free s.fresh) = (0, data) := hdo
  simp only [mlkFrame, hf, hpins, hnamed, hu, withFree, hdo']
  simp [Nat.not_lt.mpr hd]

end
end

/-- R70: a frame with a bad CRC to the unit is counted. -/
theorem exec_mlinkBadFrame_of_crc {u cmd crc : Byte} {d : List Byte} (hf : s.fieldPower = false)
    (hpins : s.dbg.pins = false) (hnamed : s.mlkNamed u.toNat = true)
    (hcrc : crc ≠ crc8 ([u, cmd, BitVec.ofNat 8 d.length] ++ d)) : exec (.mlinkBadFrame u cmd d crc) s =
      .next { s with mlk := { s.mlk with resp := none, ready := false } }.mlkErr := by
  have hbad : s.mlkBad u cmd d crc = true := by
    have hne : (crc != crc8 ([u, cmd, BitVec.ofNat 8 d.length] ++ d)) = true := bne_iff_ne.mpr hcrc
    simp only [mlkBad, hne, Bool.true_or]
  simp only [exec, execMlinkBadFrame, hbad, if_true, mlkFrame, hf, hpins, hnamed, hcrc, ne_eq, not_false_eq_true, true_or,
    Bool.false_eq_true, or_self, if_false]

/-- R70: a refusal is counted in MLK_ERRCNT. -/
theorem mlkErr_fld : s.mlkErr.fld R.MLK_ERRCNT 15 0 = satSucc 0xFFFF (s.fld R.MLK_ERRCNT 15 0) :=
  s.fld_count R.MLK_ERRCNT (by decide) (by decide)

/-- R70: the data of FAULT_READ of a record in the ring. -/
theorem mlkDo_of_faultRead {u : Byte} {x : BitVec 16} {r : SRec} (temp : Nat) (hu : u.toNat ≤ 0xFE)
    (hmode : s.mode ≠ .start) (hcfg : bit (s.reg R.MLK_CFG) 0 = true) (hx : x.toNat < 512)
    (hr : s.skm.ring[x.toNat]? = some r) :
    s.mlkDo u.toNat 0x13 (leBytes 2 x.toNat) temp = (0, (s.mlkFault x.toNat).2) := by
  have hle : fromLe (leBytes 2 x.toNat) = x.toNat := by
    simp only [leBytes, fromLe, BitVec.toNat_ofNat]
    omega
  have hall : u.toNat ≠ 0xFF := by omega
  have hin : ¬ 511 < x.toNat := by omega
  simp [mlkDo, hall, hmode, hcfg, hle, hin, mlkFault, hr]

end State
end Sys2Proof.Machine

open Sys2Proof Sys2Proof.Machine

/-- Settles O31: the frame assigns, or the command it names has its data. -/
theorem managementCommandsAnswer : Obligations.ManagementCommandsAnswer := by
  unfold Obligations.ManagementCommandsAnswer
  intro s u n x r frame answer hf hpins
  refine ⟨fun haddr hchin hlo hhi hu => ?assign, fun haddr hlo hhi => ?named⟩
  case assign =>
    subst hu
    exact congrArg _ (s.mlkFrame_of_assign hf hpins haddr hchin hlo hhi)
  case named =>
    have hall : u.toNat ≠ 0xFF := by omega
    have hdo {cmd : Byte} {d data : List Byte} := s.mlkFrame_of_named hf hpins haddr hlo (cmd := cmd) (d := d) (data := data)
    refine ⟨congrArg _ (hdo (by decide) ?release), congrArg _ (hdo (by decide) ?identity),
      congrArg _ (hdo (by decide) ?health), fun hstart hlock hcfg => congrArg _ (hdo (by decide) ?capacity),
      fun hstart hcfg hx hr => congrArg _ (hdo (cmd := 0x13) ?_ (s.mlkDo_of_faultRead _ hhi hstart hcfg hx hr))⟩
    case release => simp [State.mlkDo, hall]
    case identity => simp [State.mlkDo]
    case health => simp [State.mlkDo, hall]
    case capacity => simp [State.mlkDo, hall, hstart, hlock, hcfg]
    simp

/-- Settles O32: by the state of the response and the frame's CRC. -/
theorem managementFramesAndReads : Obligations.ManagementFramesAndReads := by
  unfold Obligations.ManagementFramesAndReads
  intro s u cmd crc d r high m
  refine ⟨fun hf hpins hnamed hcrc => ⟨_, s.exec_mlinkBadFrame_of_crc hf hpins hnamed hcrc, rfl, State.mlkErr_fld _, rfl⟩,
    fun hr => ⟨?ready, fun hready => ?answer, fun hbusy => ⟨{ s.mlkErr with mlk := { m with tx := mlkResp 6 [] } }, ?busy, rfl,
      s.mlkErr_fld⟩⟩, fun hr => ?unselected,
    ⟨_, rfl, rfl, rfl, rfl⟩, ⟨_, rfl, rfl, rfl⟩⟩
  case ready => simp [exec, execMlinkResponseReady, show s.mlk.resp = some r from hr, m]
  case answer => simp [exec, execMlinkRead, show s.mlk.resp = some r from hr, show s.mlk.ready = true from hready, m]
  case busy =>
    simp only [exec, execMlinkRead, show s.mlk.resp = some r from hr, show s.mlk.ready = false from hbusy,
      Bool.false_eq_true, if_false]
    rfl
  case unselected => simp only [exec, execMlinkRead, show s.mlk.resp = none from hr, m]
end

section
/-! SUPPORT. Host ports: refused requests (R54), causes of domain reset and what it takes away (R60-R62), and the admin
bootstrap (R53). -/

namespace Sys2Proof.Machine

/-! ### What an abandoned job lets go of (R61) -/

/-- An abandoned job's lane stops. -/
def State.abandonLane (s : State) (j : Job) : State :=
  match s.laneOf j.id with
  | some n => s.modLane n (fun l => { l with
      st := if l.st = LaneSt.paused then .unseeded else if l.st = LaneSt.busy then .idle else l.st
      work := .none, done := 0 })
  | none => s

/-- An abandoned job's unit is freed, or wiped without a report. -/
def State.abandonUnit (s : State) (j : Job) : State :=
  match s.unitOf j.id with
  | some u =>
    if (s.unit u).st = UnitSt.leave then s.freeUnit u .idle
    else s.modUnit u (fun k => { k with st := .wipe, out := none, job := none })
  | none => s

/-- A key slot an abandoned job holds RESERVED is EMPTY again. -/
def State.abandonFill (s : State) (j : Job) : State :=
  match j.fill with
  | some n => if j.isDone then s else (s.dropRecord j.id n).setSlot n {}
  | none => s

theorem State.abandon_eq (s : State) (j : Job) : s.abandon j = ((s.abandonLane j).abandonUnit j).abandonFill j := rfl

/-- What ending a domain's jobs leaves: the queue pairs, the ports, the pairs, and every register but the leave arbiter's
and the flash banks'. -/
structure HostKept (s t : State) : Prop where
  qps : t.qps = s.qps
  ports : t.ports = s.ports
  pairs : t.pairs = s.pairs
  reg : ∀ a, ¬leaveReg a → t.reg a = s.reg a

namespace HostKept

variable {s t u : State}

theorem refl (s : State) : HostKept s s := ⟨rfl, rfl, rfl, fun _ _ => rfl⟩

theorem trans (h : HostKept s t) (g : HostKept t u) : HostKept s u :=
  ⟨g.qps.trans h.qps, g.ports.trans h.ports, g.pairs.trans h.pairs, fun a ha => (g.reg a ha).trans (h.reg a ha)⟩

theorem of_leaveOnly (h : LeaveOnly s t) : HostKept s t := ⟨h.qps, h.ports, h.pairs, h.reg⟩

theorem foldl {α : Type} {f : State → α → State} (h : ∀ s a, HostKept s (f s a)) (l : List α) (s : State) :
    HostKept s (l.foldl f s) := by
  induction l generalizing s with
  | nil => exact refl s
  | cons a l ih => exact (h s a).trans (ih _)

theorem modLane (s : State) (n : Nat) (f : Lane → Lane) : HostKept s (s.modLane n f) := ⟨rfl, rfl, rfl, fun _ _ => rfl⟩

theorem modUnit (s : State) (n : Nat) (f : CUnit → CUnit) : HostKept s (s.modUnit n f) := ⟨rfl, rfl, rfl, fun _ _ => rfl⟩

theorem abandonLane (s : State) (j : Job) : HostKept s (s.abandonLane j) := by
  unfold State.abandonLane
  split
  · exact modLane ..
  · exact refl s

theorem abandonUnit (s : State) (j : Job) : HostKept s (s.abandonUnit j) := by
  unfold State.abandonUnit
  split
  · split
    · exact (modUnit ..).trans (of_leaveOnly (.releaseLeave ..))
    · exact modUnit ..
  · exact refl s

theorem abandonFill (s : State) (j : Job) : HostKept s (s.abandonFill j) := by
  unfold State.abandonFill
  split
  · split
    · exact refl s
    · exact ⟨rfl, rfl, rfl, fun _ _ => rfl⟩
  · exact refl s

theorem abandon (s : State) (j : Job) : HostKept s (s.abandon j) :=
  (abandonLane s j).trans ((abandonUnit ..).trans (abandonFill ..))

end HostKept

namespace State

variable (s : State) {p : Nat}

@[simp] theorem setPort_setPort (p : Nat) (u v : HPort) : (s.setPort p u).setPort p v = s.setPort p v := by simp [setPort]

@[simp] theorem qp_setPort (p q : Nat) (v : HPort) : (s.setPort p v).qp q = s.qp q := rfl

@[simp] theorem port_count (a hi lo p : Nat) : (s.count a hi lo).port p = s.port p := rfl

@[simp] theorem reg_setPort (p a : Nat) (v : HPort) : (s.setPort p v).reg a = s.reg a := rfl

/-! ### A domain reset -/

/-- R61: what the steps of a domain reset leave of the port, the queue pairs, the jobs and the pairs. -/
theorem domainClear_outcome (p : Nat) : (s.domainClear p).port p = { s.port p with
      drbg := false, asq := 0, acq := 0, bwin := 0, bwinLen := 0, sqN := 0, cqN := 0, adminEn := false, cfgErr := 0
      cfgError := false, parkQ := [] } ∧
    (∀ q, (s.domainClear p).qp q = if (s.qp q).dom = p ∧ (s.qp q).st ≠ .absent then {} else s.qp q) ∧
    (∀ j ∈ (s.domainClear p).jobs, j.dom ≠ p) ∧ (s.domainClear p).pairs = s.pairs ∧
    ∀ a, ¬leaveReg a → (s.domainClear p).reg a = s.reg a := by
  generalize ht : s.domainClear p = t
  unfold domainClear at ht
  extract_lets mine ids s1 stop s2 b s3 r s4 bit rng tag s5 s6 at ht
  have h1 : HostKept s s1 := .foldl .abandon _ _
  have h2 : HostKept s1 s2 := .foldl (fun s n => .modLane s n stop) _ _
  clear_value s2
  have h4 : HostKept s2 s4 := ⟨rfl, rfl, rfl, fun _ _ => rfl⟩
  have hu := h1.trans (h2.trans h4)
  clear_value s4
  subst ht
  have hport : s6.port p = { s4.port p with drbg := false } := port_setPort s5 p _
  refine ⟨?_, fun q => ?_, fun j hj => ?_, hu.pairs, hu.reg⟩
  · have h4 : s4.port p = s.port p := congrArg (Tbl.get (fun _ => ({} : HPort)) · p) hu.ports
    rw [modPort_eq, port_setPort, hport, h4]
  · have hqp (q : Nat) : s4.qp q = s.qp q := congrArg (Tbl.get (fun _ => ({} : QP)) · q) hu.qps
    have hget : s5.qp q = if (s4.qp q).dom == p && (s4.qp q).st != QState.absent then {} else s4.qp q :=
      Tbl.get_clear (fun _ => ({} : QP)) (fun q => (s4.qp q).dom == p && (s4.qp q).st != QState.absent) s4.qps q
    refine Eq.trans (b := s5.qp q) rfl ?_
    rw [hget, hqp]
    simp
  · have hj' : j ∈ s4.jobs.filter (fun j => j.dom != p) := hj
    simpa using (List.mem_filter.mp hj').2

/-- What a cause of domain reset leaves (R60, R61). -/
structure DomainDown (s t : State) (p : Nat) : Prop where
  port : t.port p = { s.port p with
    drbg := false, asq := 0, acq := 0, bwin := 0, bwinLen := 0, sqN := 0, cqN := 0, adminEn := false, cfgErr := 0
    cfgError := false, parkQ := [], resetting := true }
  qp : ∀ q, t.qp q = if (s.qp q).dom = p ∧ (s.qp q).st ≠ .absent then {} else s.qp q
  jobs : ∀ j ∈ t.jobs, j.dom ≠ p
  pairs : t.pairs = s.pairs
  mem : t.mem = s.mem
  reg : ∀ a, ¬leaveReg a → a ≠ R.HPT_DRST + p * 0x40000 → t.reg a = s.reg a

/-- R60: a cause of domain reset on a port not in reset. -/
theorem domainReset_outcome (cause : Nat) (h : (s.port p).resetting = false) :
    DomainDown s (s.domainReset p cause) p := by
  generalize ha : R.HPT_DRST + p * 0x40000 = a
  have heq : s.domainReset p cause = (((s.count a 15 0).setFld a 19 16 cause).domainClear p).modPort p
      (fun k => { k with resetting := true }) := by
    subst ha
    exact if_neg (Bool.eq_false_iff.mp h)
  have hregs (b : Nat) (hb : b ≠ a) : ((s.count a 15 0).setFld a 19 16 cause).reg b = s.reg b :=
    (State.reg_setReg_ne _ _ hb).trans (State.reg_setReg_ne _ _ hb)
  have hports : ((s.count a 15 0).setFld a 19 16 cause).ports = s.ports := rfl
  have hqps : ((s.count a 15 0).setFld a 19 16 cause).qps = s.qps := rfl
  have hpairs : ((s.count a 15 0).setFld a 19 16 cause).pairs = s.pairs := rfl
  generalize (s.count a 15 0).setFld a 19 16 cause = u at *
  obtain ⟨cport, cqp, cjobs, cpairs, creg⟩ := u.domainClear_outcome p
  have hmem := s.domainReset_mem p cause
  rw [heq] at hmem ⊢
  constructor
  case port => rw [modPort_eq, port_setPort, cport, port, hports, ← port]
  case qp =>
    intro q
    have hq : u.qp q = s.qp q := congrArg (Tbl.get (fun _ => ({} : QP)) · q) hqps
    rw [modPort_eq, qp_setPort, cqp, hq]
  case jobs =>
    rw [modPort_eq, setPort_jobs]
    exact cjobs
  case pairs => rw [modPort_eq, setPort_pairs, cpairs, hpairs]
  case mem => exact hmem
  case reg =>
    intro b hl hb
    rw [modPort_eq, reg_setPort, creg b hl]
    exact hregs b fun e => hb (e.trans ha.symm)

/-! ### Refused requests -/

/-- R20, R54: a refused request is counted as UR or as CA, logged for AER and sent. -/
theorem hostRefuse_outcome (p bar off : Nat) (ca : Bool) : ∃ m, (s.hostRefuse p bar off ca).inbox = s.inbox ++ [m] ∧
    m.kind = Kind.ACCESS_VIOLATION ∧ m.blk = Blk.HPT ∧ m.inst = p ∧
    ((s.hostRefuse p bar off ca).port p).aer = (if ca then 2 else 1) :: (s.port p).aer ∧
    (s.hostRefuse p bar off ca).fld (R.HPT_VIOL + p * 0x40000) 15 0 = (if ca then s.fld (R.HPT_VIOL + p * 0x40000) 15 0
      else satSucc 0xFFFF (s.fld (R.HPT_VIOL + p * 0x40000) 15 0)) ∧
    (s.hostRefuse p bar off ca).fld (R.HPT_VIOL + p * 0x40000) 31 16 =
      (if ca then satSucc 0xFFFF (s.fld (R.HPT_VIOL + p * 0x40000) 31 16) else s.fld (R.HPT_VIOL + p * 0x40000) 31 16) ∧
    (s.hostRefuse p bar off ca).jobs = s.jobs ∧ (s.hostRefuse p bar off ca).mem = s.mem := by
  cases ca with
  | true =>
    refine ⟨_, rfl, rfl, rfl, rfl, congrArg HPort.aer (port_setPort ..), ?_, ?_, rfl, rfl⟩
    · exact s.fld_count_other _ (by decide) (by decide) (by decide)
    · exact s.fld_count _ (by decide) (by decide)
  | false =>
    refine ⟨_, rfl, rfl, rfl, rfl, congrArg HPort.aer (port_setPort ..), ?_, ?_, rfl, rfl⟩
    · exact s.fld_count _ (by decide) (by decide)
    · exact s.fld_count_other _ (by decide) (by decide) (by decide)

/-! ### Causes of domain reset -/

theorem DomainDown.outcome {s u t : State} {p : Nat} (h : DomainDown u t p) (hqps : u.qps = s.qps)
    (hgen : (u.port p).gen = (s.port p).gen) (hmem : u.mem = s.mem) (hpairs : u.pairs = s.pairs) :
    (t.port p).resetting = true ∧ (t.port p).adminEn = false ∧ (t.port p).drbg = false ∧
      (t.port p).gen = (s.port p).gen ∧ (∀ q, (t.qp q).st ≠ .absent → (t.qp q).dom ≠ p) ∧
      (∀ q, (s.qp q).dom ≠ p → t.qp q = s.qp q) ∧ (∀ j ∈ t.jobs, j.dom ≠ p) ∧ t.mem = s.mem ∧ t.pairs = s.pairs := by
  have hqp (q : Nat) : u.qp q = s.qp q := congrArg (Tbl.get (fun _ => ({} : QP)) · q) hqps
  refine ⟨by rw [h.port], by rw [h.port], by rw [h.port], by rw [h.port, hgen], fun q hst hdom => ?_, fun q hdom => ?_,
    h.jobs, h.mem.trans hmem, h.pairs.trans hpairs⟩
  · rw [h.qp] at hst hdom
    split at hst
    · exact hst rfl
    next hn =>
      rw [if_neg hn] at hdom
      exact hn ⟨hdom, hst⟩
  · rw [h.qp, hqp, if_neg fun hn => hdom hn.1]

/-- R60: the link falls with a cause of domain reset. -/
theorem linkFall_domainReset (p : Nat) (train : Bool) (cause : Nat) (h : (s.port p).resetting = false) :
    DomainDown (s.linkFall p train) ((s.linkFall p train).domainReset p cause) p :=
  domainReset_outcome _ cause (by simpa [linkFall] using h)

/-- R60: a function level reset, or D3hot left, with its domain reset. -/
theorem d3_domainReset (p cause : Nat) (h : (s.port p).resetting = false) :
    DomainDown (s.modPort p fun k => { k with d3 := false })
      ((s.modPort p fun k => { k with d3 := false }).domainReset p cause) p :=
  domainReset_outcome _ cause (by simpa using h)

/-- The state in which PERST has just been asserted on port `p` (R60, R64). -/
def perstNoted (p : Nat) : State :=
  { s.modPort p (fun k => { k with perst := true }) with clk := { s.clk with
    hrefOff := if s.clk.hrefOff / 2 ^ p % 2 = 1 then s.clk.hrefOff - 2 ^ p else s.clk.hrefOff } }

theorem exec_perstAssert_of_running {p : Port} (hruns : s.portRuns p = true) (hperst : (s.port p).perst = false) :
    exec (.perstAssert p) s = .next (((s.perstNoted p).linkFall p false).domainReset p 1) := by
  have hruns' : (s.perstNoted p).portRuns p = true := hruns
  refine congrArg Host.Outcome.next (if_neg ?_)
  rintro (h | h)
  · exact Bool.false_ne_true (hperst.symm.trans h)
  · have hstop : (!(s.perstNoted p).portRuns p) = true := h
    rw [hruns'] at hstop
    cases hstop

theorem perstNoted_port (p : Nat) : (s.perstNoted p).port p = { s.port p with perst := true } := s.port_setPort p _

/-- R60 step 6: the domain comes back with the next generation, and HOST_RESET is sent. -/
theorem exec_domainResetComplete_of_resetting {p : Port} (h : (s.port p).resetting = true) :
    ∃ t m, exec (.domainResetComplete p) s = .next t ∧
      t.port p = { (s.domainClear p).port p with resetting := false, gen := ((s.domainClear p).port p).gen + 1 } ∧
      m ∈ t.inbox ∧ m.kind = Kind.HOST_RESET ∧ m.blk = Blk.HPT ∧ m.inst = p.val := by
  have hex : exec (.domainResetComplete p) s = .next (((s.domainClear p).modPort p
      (fun k => { k with resetting := false, gen := k.gen + 1 })).faultBy Blk.HPT p Kind.HOST_RESET
        (((s.domainClear p).modPort p (fun k => { k with resetting := false, gen := k.gen + 1 })).fld
          (R.HPT_DRST + p * 0x40000) 19 16) p Blk.HPT p) := by
    simp [exec, execDomainResetComplete, h]
  generalize s.domainClear p = u at hex ⊢
  exact ⟨_, ⟨Blk.HPT, p, Kind.HOST_RESET, _, _, _⟩, hex, u.port_setPort p _,
    List.mem_append_right _ (List.mem_singleton.2 rfl), rfl, rfl, rfl⟩

/-! ### The admin bootstrap -/

section
variable {p : Port} {v : Word} (hlive : s.portLive p = true) (hd3 : (s.port p).d3 = false)
  (hadmin : (s.port p).adminEn = false) (hmode : s.mode = .service ∨ s.mode = .hold) (hgo : bit v 31 = true)
include hlive hd3 hadmin hmode hgo

/-- R53: a write of ENABLE reaches the check of the configuration. -/
theorem exec_adminEnable_of_open : exec (.adminEnable p 0x220 v) s =
    .next ((s.setPort p { s.port p with sqN := bits v 4 0, cqN := bits v 12 8 }).bootEnable p) := by
  have hm : (s.mode == .service || s.mode == .hold) = true := by
    rcases hmode with h | h <;> rw [h] <;> rfl
  simp [exec, execAdminEnable, bar2Write, hlive, hd3, hadmin, hm, bootReg, roReg, bootWrite, hgo]

end

/-- R53: a configuration that fails its check makes nothing. -/
theorem bootEnable_of_bad {p : Nat} {k : HPort} (h : bootErr k ≠ 0) :
    (s.setPort p k).bootEnable p = s.setPort p { k with cfgErr := bootErr k, cfgError := true } := by
  simp [bootEnable, h]

/-- R53: a configuration that passes makes window 0 and the admin queue pair. -/
theorem bootEnable_of_good {p : Nat} {k : HPort} (h : bootErr k = 0) : (s.setPort p k).bootEnable p =
    ((s.setWin p 0 { base := k.bwin, len := k.bwinLen, lr := true, lw := true }).setPort p { k with
      adminEn := true, cfgErr := 0, cfgError := false }).setQp p { st := .active, dom := p, sqN := k.sqN, cqN := k.cqN
                                                                   sqBase := k.asq, cqBase := k.acq } := by
  have hswap (w : Win) (k' : HPort) : ((s.setPort p k).setWin p 0 w).setPort p k' = (s.setWin p 0 w).setPort p k' :=
    setPort_setPort (s.setWin p 0 w) p k k'
  simp only [bootEnable, port_setPort, h, ne_eq, not_true_eq_false, if_false, hswap]

@[simp] theorem win_setWin (d i : Nat) (w : Win) : (s.setWin d i w).win d i = w := by simp [win, setWin]

/-! ### The port's enable -/

/-- The register of a port's enable belongs to neither the leave arbiter nor the flash banks. -/
theorem not_leaveReg_hptCfg (p : Port) : ¬leaveReg (R.HPT_CFG + p * 0x40000) := by
  rintro (h | h | ⟨b, hb, h⟩) <;> simp only [R.HPT_CFG, R.PWR_REFUSED, R.FLC_STATUS, R.FLC_SUSPCNT] at h <;> omega

/-- R60: firmware clearing PORT_EN. -/
theorem exec_portEn_of_clear {rq : Rq} {p : Port} {v : Word}
    (hw : s.writable rq Blk.HPT p (R.HPT_CFG + p * 0x40000) = true) (hon : s.portEn p = true) (hoff : bit v 0 = false) :
    exec (.portEn rq p v) s =
      .next (((s.setReg (R.HPT_CFG + p * 0x40000) 0).linkFall p false).domainReset p 6) := by
  simp [exec, execPortEn, s.asWrite_of_writable _ _ hw, hptCfgWrite, hon, hoff, b2n, w32]

end State
end Sys2Proof.Machine

open Sys2Proof Sys2Proof.Machine

/-- Settles O29: a refused request by its kind, and each cause of domain reset on a port not in reset; during one a further
cause is counted. -/
theorem portCausesResetTheDomain : Obligations.PortCausesResetTheDomain := by
  unfold Obligations.PortCausesResetTheDomain
  intro s p bar off shape ca viol down hlive
  refine ⟨?refuse, fun hres => ⟨?hot, ?down, ?flr, fun hd3 => ?d3, fun hruns hperst => ?perst⟩, fun hres => ?busy⟩
  case refuse =>
    obtain ⟨m, hm⟩ := s.hostRefuse_outcome p bar off ca
    exact ⟨_, m, by simp only [exec, execUnsupportedRequest, hlive, Bool.not_true, Bool.false_eq_true, if_false]; rfl, hm⟩
  case hot =>
    have h := s.linkFall_domainReset p true 2 hres
    refine ⟨_, by simp only [exec, execHotReset, hlive, if_true], h.outcome rfl ?_ rfl rfl, ?_, ?_⟩
    · simp [State.linkFall]
    · rw [h.port]; simp [State.linkFall]
    · rw [h.port]; simp [State.linkFall]
  case down =>
    have h := s.linkFall_domainReset p true 3 hres
    refine ⟨_, by simp only [exec, execLinkDown, hlive, if_true], h.outcome rfl ?_ rfl rfl, ?_⟩
    · simp [State.linkFall]
    · rw [h.port]; simp [State.linkFall]
  case flr =>
    have h := s.d3_domainReset p 4 hres
    have hup : (s.port p).linkUp = true := by simpa [State.portLive] using (Bool.and_eq_true_iff.mp hlive).2
    refine ⟨_, by simp only [exec, execFunctionLevelReset, hlive, if_true], h.outcome rfl ?_ rfl rfl, ?_, ?_⟩
    · simp
    · rw [h.port]; simpa using hup
    · rw [h.port]; simp
  case d3 =>
    have h := s.d3_domainReset p 5 hres
    refine ⟨_, by simp only [exec, execD3hotToD0, hlive, hd3, and_self, if_true], h.outcome rfl ?_ rfl rfl, ?_⟩
    · simp
    · rw [h.port]; simp
  case perst =>
    have h := (s.perstNoted p).linkFall_domainReset p false 1 (by rw [s.perstNoted_port]; exact hres)
    refine ⟨_, s.exec_perstAssert_of_running hruns hperst, h.outcome rfl ?_ rfl rfl, ?_, ?_⟩
    · simp [State.linkFall, s.perstNoted_port]
    · rw [h.port]; simp [State.linkFall, s.perstNoted_port]
    · rw [h.port]; simp [State.linkFall, s.perstNoted_port]
  case busy =>
    simp only [exec, execFunctionLevelReset, hlive, if_true]
    refine congrArg Host.Outcome.next (if_pos ?_)
    simpa using hres

/-- Settles O30: the bootstrap by its check, PORT_EN by the domain reset it begins, the rest by the port's own state. -/
theorem portBootstrapAndLink : Obligations.PortBootstrapAndLink := by
  unfold Obligations.PortBootstrapAndLink
  intro s rq p v speed x1 k k'
  refine ⟨fun hlive hd3 hadmin hmode hgo => ?boot, fun hw hon hoff hres => ?disable, fun hres => ?complete,
    fun hperst hruns => ?perst, fun htrain hspeed => ?up, fun hlive => ?d3, fun hlive hhold => ?l1, rfl,
    fun hmode hwait => ?beat⟩
  case boot =>
    have hex := s.exec_adminEnable_of_open hlive hd3 hadmin hmode hgo
    refine ⟨fun hgood => ⟨_, hex.trans (congrArg _ (s.bootEnable_of_good hgood)), ?_⟩,
      fun hbad => hex.trans (congrArg _ (s.bootEnable_of_bad hbad))⟩
    have hport : ∀ (u : State) (j : HPort) (q : QP), ((u.setPort p j).setQp p q).port p = j := fun u j q => u.port_setPort p j
    refine ⟨by rw [hport], by rw [hport], State.win_setWin .., ?_, ?_, ?_, ?_, ?_, fun q hq => ?_, rfl, rfl⟩
    iterate 5 rw [State.qp_setQp]
    exact State.qp_setQp_ne _ _ hq
  case disable =>
    have h := (s.setReg (R.HPT_CFG + p * 0x40000) 0).linkFall_domainReset p false 6 hres
    refine ⟨_, s.exec_portEn_of_clear hw hon hoff, ?_, by rw [h.port], ?_, h.jobs⟩
    · have hne : R.HPT_CFG + p * 0x40000 ≠ R.HPT_DRST + p * 0x40000 := by simp [R.HPT_CFG, R.HPT_DRST]
      have hreg := h.reg _ (State.not_leaveReg_hptCfg p) hne
      rw [State.portEn, State.fld, hreg, State.linkFall, State.modPort_eq, State.reg_setPort, State.reg_setReg]
      rfl
    · rw [h.port]; simp [State.linkFall]
  case complete =>
    have hclear : ((s.domainClear p).port p).gen = k.gen := by rw [(s.domainClear_outcome p).1]
    obtain ⟨t, m, hex, hport, hin, hkind, hblk, hinst⟩ := s.exec_domainResetComplete_of_resetting hres
    exact ⟨t, m, hex, by rw [hport], by rw [hport, hclear], hin, hkind, hblk, hinst⟩
  case perst =>
    have hruns' : (s.setPort p { s.port p with perst := false }).portRuns p = true := hruns
    refine ⟨(s.setPort p { s.port p with perst := false, training := true }), ?_, ?_⟩
    · simp [exec, execPerstDeassert, show (s.port p).perst = true from hperst, hruns']
    · rw [State.port_setPort]
      exact ⟨rfl, rfl, rfl, rfl⟩
  case up => simp [exec, execLinkUp, show (s.port p).training = true from htrain, hspeed, k]
  case d3 => simp [exec, execD3hotEntry, hlive, k]
  case l1 => simp [exec, execL1Entry, hlive, hhold, k]
  case beat => simp [exec, execHsBeat, hmode, hwait]
end

section
/-! SUPPORT. Admin commands: what runs when the turn of a command has come (R108), and the commands that set the domain
(R116, R118, R120, R136, R227). -/

namespace Sys2Proof.Machine.State

/-- The job that `job id` finds has that id. -/
theorem id_of_job {s : State} {id : Nat} {j : Job} (h : s.job id = some j) : j.id = id := by
  simpa using List.find?_some h

/-- A command whose turn has come and that has passed admission runs at once. -/
theorem adminRun_of_turn {s : State} {id op : Nat} {j : Job} (h : s.turn id op j) (k : State → Job → State) :
    s.adminRun id op k = k s j := by
  obtain ⟨hjob, hop, hqp, hturn, hready⟩ := h
  have hgo : ¬ (j.op ≠ op ∨ j.qp ≥ 4 ∨ (!s.adminTurn j) = true) := by simp [hop, hturn]; omega
  simp only [adminRun, hjob, if_neg hgo, hready, reduceCtorEq, if_false, if_true]

/-- With nothing waiting for seed words, the RNG's command goes to its DRBG at once (R227). -/
theorem rngJob_of_none_waiting {s : State} (hq : s.rng.waitQ = []) (j : Job) :
    s.rngJob j = (s.rngTry j).getD (s.rngWait j) := by
  rw [rngJob, if_neg (by simp [hq])]
  cases s.rngTry j <;> rfl

/-- DRBG_INSTANTIATE of a domain without a DRBG takes three words of the running RNG's buffer (R227). -/
theorem rngTry_instantiate {s : State} {j : Job} {a b c : Nat} {l : List Nat} (hop : j.op = 0x88) (hrun : s.rng.st = .run)
    (hserve : s.minSrc ≤ s.servingSrcs) (hbuf : s.rng.buf = a :: b :: c :: l) (hnew : (s.port j.dom).drbg = false) :
    ∃ u : State, s.takeWords 3 j.dom = some u ∧ u.rng.buf = l ∧ u.ports = s.ports ∧ u.jobs = s.jobs ∧ u.mem = s.mem ∧
      s.rngTry j = some (((u.seeded j.dom).modPort j.dom (fun p => { p with drbg := true })).succeed j 0 0) := by
  have hfew : ¬ (s.rng.buf.length < 3 ∨ s.servingSrcs < s.minSrc) := by simp [hbuf]; omega
  obtain ⟨u, hu⟩ : ∃ u, s.takeWords 3 j.dom = some u := ⟨_, if_neg hfew⟩
  have hval := hu
  rw [takeWords, if_neg hfew] at hval
  simp only [Option.some.injEq] at hval
  refine ⟨u, hu, ?_, by rw [← hval], by rw [← hval], by rw [← hval], ?_⟩
  · rw [← hval]; simp [hbuf]
  · simp [rngTry, hrun, hop, hnew, hostWords, hu]

end Sys2Proof.Machine.State

open Sys2Proof Sys2Proof.Machine

/-- Settles O39: each command runs at once in its turn; SET_SHARE, SET_WINDOW, BIND_TABLE and GET_FAULTS then by their own
definition, DRBG_INSTANTIATE by what the RNG gives. -/
theorem adminCommandsSetTheDomain : Obligations.AdminCommandsSetTheDomain := by
  intro s id j r a b c l
  refine ⟨fun h => ?share, fun h => ?window, fun h hkind hfree hrec => ?bind, fun h f q hrecs => ?faults, fun h hwait => ?drbg⟩
  case share => exact congrArg Host.Outcome.next (State.adminRun_of_turn h _)
  case window => exact congrArg Host.Outcome.next (State.adminRun_of_turn h _)
  case faults =>
    refine congrArg Host.Outcome.next ((State.adminRun_of_turn h _).trans ?_)
    simp only [State.getFaults, hrecs]
  case bind =>
    have hrun : exec (.bindTable id) s = .next (s.bindTable j) :=
      congrArg Host.Outcome.next (State.adminRun_of_turn h _)
    refine ⟨fun hlow => ?_, fun hsame => ?_⟩ <;> rw [hrun]
    · simp [State.bindTable, hkind, hfree, hrec, hlow]
    · simp [State.bindTable, hkind, hfree, hrec, hsame, State.bindNow]
      rfl
  case drbg =>
    have hrun : exec (.drbgInstantiate id) s = .next ((s.rngTry j).getD (s.rngWait j)) :=
      congrArg Host.Outcome.next ((State.adminRun_of_turn h _).trans (State.rngJob_of_none_waiting hwait j))
    refine ⟨fun hst hserve hbuf hnew => ?_, fun hst => ?_⟩ <;> rw [hrun]
    · obtain ⟨u, -, hrest, hports, hjobs, hmem, htry⟩ := State.rngTry_instantiate h.2.1 hst hserve hbuf hnew
      refine ⟨(u.seeded j.dom).modPort j.dom (fun p => { p with drbg := true }), by rw [htry]; rfl, ?_, hrest, hjobs, hmem⟩
      simp [State.modPort]
    · simp [State.rngTry, hst]
end

section
/-! SUPPORT. How a job ends (R90-R107): what it lets go of, what marking it finished writes, and what reporting it may change.
-/

namespace Sys2Proof.Machine

/-- The job lets go of its lane. -/
def State.letLane (s : State) (j : Job) (ok auth : Bool) : State :=
  match s.laneOf j.id with
  | none => s
  | some n => s.laneEnd n (if ok then none else some auth)

/-- A failing job lets go of the key slot it holds. -/
def State.letSlot (s : State) (j : Job) (ok : Bool) : State :=
  match j.fill with
  | some n => if ok then s else (s.dropRecord j.id n).setSlot n {}
  | none => s

/-- A failing job lets go of the stream slot it uses. -/
def State.letStream (s : State) (j : Job) (ok : Bool) : State :=
  match j.stream with
  | some n => if ok then s else s.setStream n {}
  | none => s

theorem State.letGo_eq (s : State) (j : Job) (ok auth : Bool) :
    s.letGo j ok auth = ((s.letLane j ok auth).letSlot j ok).letStream j ok := rfl

/-- The state without what a job's engine and held slots may change when it ends. -/
def State.unworking (s : State) : State :=
  { s with regs := [], lanes := [], slots := [], kst := { s.kst with queue := [] }, streams := [] }

/-- From `s` to `t` a job has only let go of its lane, slot and stream, and counters have moved. -/
structure WorkEnded (s t : State) : Prop where
  rest : t.unworking = s.unworking

namespace WorkEnded

variable {s t u : State}

theorem refl (s : State) : WorkEnded s s := ⟨rfl⟩

theorem trans (h : WorkEnded s t) (g : WorkEnded t u) : WorkEnded s u := ⟨g.rest.trans h.rest⟩

section
variable (h : WorkEnded s t)
include h

/-- What an ending job never touches is as it was. -/
theorem field {α : Type} (f : State → α) (hf : ∀ s, f s.unworking = f s) : f t = f s := by
  rw [← hf t, h.rest, hf]

theorem mem : t.mem = s.mem := h.field State.mem fun _ => rfl
theorem jobs : t.jobs = s.jobs := h.field State.jobs fun _ => rfl
theorem qps : t.qps = s.qps := h.field State.qps fun _ => rfl
theorem staging : t.staging = s.staging := h.field State.staging fun _ => rfl
theorem ports : t.ports = s.ports := h.field State.ports fun _ => rfl

end

theorem setReg (s : State) (a : Nat) (v : Word) : WorkEnded s (s.setReg a v) := ⟨rfl⟩
theorem count (s : State) (a hi lo : Nat) : WorkEnded s (s.count a hi lo) := ⟨rfl⟩
theorem setLane (s : State) (n : Nat) (v : Lane) : WorkEnded s (s.setLane n v) := ⟨rfl⟩

theorem laneEnd (s : State) (n : Nat) (fail : Option Bool) : WorkEnded s (s.laneEnd n fail) := by
  have hend (f : Lane → Lane) : WorkEnded s ((s.modLane n f).countWrap (symReg R.SYM_JOBS n) 31 0) :=
    (setLane s n _).trans (setReg ..)
  unfold State.laneEnd
  dsimp only
  split
  · exact hend _
  · exact (hend _).trans (count ..)
  · exact (hend _).trans (count ..)

theorem dropRecord (s : State) (id n : Nat) : WorkEnded s (s.dropRecord id n) := ⟨rfl⟩
theorem setSlot (s : State) (n : Nat) (v : KSlot) : WorkEnded s (s.setSlot n v) := ⟨rfl⟩
theorem setStream (s : State) (n : Nat) (v : Stream) : WorkEnded s (s.setStream n v) := ⟨rfl⟩

theorem countStatus (s : State) (j : Job) (status : Nat) : WorkEnded s (s.countStatus j status) := by
  unfold State.countStatus
  split
  · exact count ..
  split
  · split
    · exact count ..
    · exact count ..
  · exact refl s

/-- A job lets go of its lane, and when it fails of its slot and its stream (R188, R203). -/
theorem letGo (s : State) (j : Job) (ok auth : Bool) : WorkEnded s (s.letGo j ok auth) := by
  have hlane : WorkEnded s (s.letLane j ok auth) := by
    unfold State.letLane
    split
    · exact refl s
    · exact laneEnd ..
  have hslot (u : State) : WorkEnded u (u.letSlot j ok) := by
    unfold State.letSlot
    split
    · split
      · exact refl u
      · exact (dropRecord ..).trans (setSlot ..)
    · exact refl u
  have hstream (u : State) : WorkEnded u (u.letStream j ok) := by
    unfold State.letStream
    split
    · split
      · exact refl u
      · exact setStream ..
    · exact refl u
  rw [State.letGo_eq]
  exact hlane.trans ((hslot _).trans (hstream _))

end WorkEnded

/-- A job that succeeds keeps its stream slot. -/
theorem State.letGo_streams (s : State) (j : Job) (auth : Bool) : (s.letGo j true auth).streams = s.streams := by
  have hlane : (s.letLane j true auth).streams = s.streams := by
    unfold State.letLane
    split
    · rfl
    · rfl
  have hslot (u : State) : (u.letSlot j true).streams = u.streams := by
    unfold State.letSlot
    split
    · rfl
    · rfl
  have hstream (u : State) : (u.letStream j true).streams = u.streams := by
    unfold State.letStream
    split
    · rfl
    · rfl
  rw [State.letGo_eq]
  exact (hstream _).trans ((hslot _).trans hlane)

/-- The state without what reporting a queue pair may change. -/
def State.unreported (s : State) : State :=
  { s with regs := [], hdrs := [], inbox := [], qps := [], jobs := [], staging := [] }

/-- From `s` to `t` queue pair `q` has only reported: posted completions, released jobs they cover, perhaps faulted. -/
structure Reported (q : Nat) (s t : State) : Prop where
  rest : t.unreported = s.unreported
  qp : ∀ x, x ≠ q → t.qp x = s.qp x
  jobs : t.jobs.Sublist s.jobs
  staging : s.staging <+: t.staging
  inbox : s.inbox <+: t.inbox
  reg : ∀ a, a ≠ R.TUN_ERR → t.reg a = s.reg a
  hdr : ∀ b i, b * 32 + i ≠ Blk.TUN * 32 → t.hdr b i = s.hdr b i

namespace Reported

variable {q : Nat} {s t u : State}

theorem refl (q : Nat) (s : State) : Reported q s s :=
  ⟨rfl, fun _ _ => rfl, .refl _, List.prefix_refl _, List.prefix_refl _, fun _ _ => rfl, fun _ _ _ => rfl⟩

theorem trans (h : Reported q s t) (g : Reported q t u) : Reported q s u where
  rest := g.rest.trans h.rest
  qp x hx := (g.qp x hx).trans (h.qp x hx)
  jobs := g.jobs.trans h.jobs
  staging := h.staging.trans g.staging
  inbox := h.inbox.trans g.inbox
  reg a ha := (g.reg a ha).trans (h.reg a ha)
  hdr b i hb := (g.hdr b i hb).trans (h.hdr b i hb)

/-- What reporting never touches is as it was. -/
theorem field (h : Reported q s t) {α : Type} (f : State → α) (hf : ∀ s, f s.unreported = f s) : f t = f s := by
  rw [← hf t, h.rest, hf]

theorem modQp (q : Nat) (s : State) (f : QP → QP) : Reported q s (s.modQp q f) where
  rest := rfl
  qp _ hx := s.qp_setQp_ne _ hx
  jobs := .refl _
  staging := List.prefix_refl _
  inbox := List.prefix_refl _
  reg _ _ := rfl
  hdr _ _ _ := rfl

theorem ringFault (s : State) (q slot status ring : Nat) : Reported q s (s.ringFault q slot status ring) := by
  have hcount (u : State) : Reported q u ((u.count R.TUN_ERR 31 16).event Blk.TUN 0 5) :=
    ⟨rfl, fun _ _ => rfl, .refl _, List.prefix_refl _, List.prefix_refl _, fun _ ha => State.reg_setReg_ne _ _ ha,
      fun _ _ hb => State.hdr_setHdr_ne _ _ hb⟩
  exact (modQp ..).trans (hcount _)

theorem faultBy (q : Nat) (s : State) (b i kind addr dom : Nat) : Reported q s (s.faultBy b i kind addr dom Blk.TUN 0) where
  rest := rfl
  qp _ _ := rfl
  jobs := .refl _
  staging := List.prefix_refl _
  inbox := List.prefix_append _ _
  reg _ _ := rfl
  hdr _ _ hb := s.hdr_setHdr_ne _ hb

theorem post (q : Nat) (s : State) (d a : Nat) (data : List Byte) (output : Bool) : Reported q s (s.post d a data output) := by
  unfold State.post
  split
  · exact refl q s
  · exact ⟨rfl, fun _ _ => rfl, .refl _, List.prefix_append _ _, List.prefix_refl _, fun _ _ => rfl, fun _ _ _ => rfl⟩

theorem release (q : Nat) (s : State) (p : Job → Bool) : Reported q s { s with jobs := s.jobs.filter p } :=
  ⟨rfl, fun _ _ => rfl, List.filter_sublist, List.prefix_refl _, List.prefix_refl _, fun _ _ => rfl, fun _ _ _ => rfl⟩

theorem putCompl (s : State) (q n : Nat) (e : List Byte) : Reported q s (s.putCompl q n e).1 := by
  unfold State.putCompl
  dsimp only
  split
  · exact (ringFault ..).trans (faultBy ..)
  · dsimp only
    exact (post q s _ _ e false).trans (modQp q _ _)

theorem writeCompl (s : State) (q : Nat) (c : Compl) : Reported q s (s.writeCompl q c) := by
  unfold State.writeCompl
  dsimp only
  generalize complBytes c.ordr c.early c.last.status c.last.tag c.covers.length (s.qp q).h c.last.result c.last.detail = e
  split
  · exact (putCompl ..).trans ((modQp ..).trans (release ..))
  · exact putCompl ..

theorem complWaits (s : State) (q : Nat) : Reported q s (s.complWaits q) := modQp ..

theorem reportRing (s : State) (q : Nat) : Reported q s (s.reportRing q) := by
  unfold State.reportRing
  dsimp only
  split
  · exact refl q s
  · split
    · exact modQp ..
    split
    · exact complWaits ..
    · exact (modQp ..).trans (putCompl ..)

theorem report (s : State) (q fuel : Nat) : Reported q s (s.report q fuel) := by
  induction fuel generalizing s with
  | zero => exact refl q s
  | succ fuel ih =>
    unfold State.report
    dsimp only
    split
    · exact refl q s
    split
    · exact release ..
    split
    · exact modQp ..
    · split
      · exact complWaits ..
      · exact (writeCompl ..).trans (ih _)

theorem reportAll (s : State) (q : Nat) : Reported q s (s.reportAll q) := (reportRing s q).trans (report ..)

end Reported

namespace State

/-- What marking a finished job writes into it. -/
def finishedAs (s : State) (status : Nat) (result detail : Word) (j : Job) : Job :=
  { j with stage := .done, status := status, result := result, detail := detail, fin := s.nextFin, res := [], input := []
           ks := {}, kek := [], fill := none, stream := none }

theorem markDone_jobs (s : State) (id status : Nat) (result detail : Word) :
    (s.markDone id status result detail).jobs =
      s.jobs.map (fun j => if j.id = id then s.finishedAs status result detail j else j) := rfl

theorem markDone_qps (s : State) (id status : Nat) (result detail : Word) :
    (s.markDone id status result detail).qps = s.qps := rfl

theorem markDone_staging (s : State) (id status : Nat) (result detail : Word) :
    (s.markDone id status result detail).staging = s.staging := rfl

/-- The job that an id finds after every job of that id was changed alike. -/
theorem find_map_of_id {l : List Job} {id : Nat} {j : Job} (h : l.find? (fun j => j.id == id) = some j) {f : Job → Job}
    (hf : ∀ j, (f j).id = j.id) :
    (l.map (fun j => if j.id = id then f j else j)).find? (fun j => j.id == id) = some (f j) := by
  have hid : j.id = id := by simpa using List.find?_some h
  have hsame : ((fun j => j.id == id) ∘ fun j => if j.id = id then f j else j) = fun j : Job => j.id == id := by
    funext x
    by_cases hx : x.id = id <;> simp [hx, hf]
  rw [List.find?_map, hsame, h, Option.map_some, if_pos hid]

/-- The job an id finds after a change that keeps ids. -/
theorem job_modJob {s : State} {id : Nat} {j : Job} (h : s.job id = some j) {f : Job → Job} (hf : ∀ j, (f j).id = j.id) :
    (s.modJob id f).job id = some (f j) := find_map_of_id h hf

/-- A queue pair with no free CQ slot, and no ring fault, reports nothing: its completion waits (R94). -/
theorem reportAll_of_full {s : State} {q : Nat} (hfree : (s.qp q).free = 0) (hmsg : (s.qp q).ringMsg = none)
    (hring : (s.qp q).faultRing = 0) :
    (s.reportAll q).jobs = s.jobs ∧ (s.reportAll q).staging = s.staging := by
  have hpre : s.reportRing q = s := by simp [reportRing, hmsg]
  rw [reportAll, hpre, report]
  simp only [hmsg, hring, hfree, Option.isSome_none, Bool.false_eq_true, or_false, Nat.zero_ne_one, if_false, if_true]
  split
  · exact ⟨rfl, rfl⟩
  · split
    · exact ⟨rfl, rfl⟩
    · exact ⟨rfl, rfl⟩

/-- A job that ends on such a queue pair keeps its slot as finished, and posts nothing more. -/
theorem finish_of_full {s t : State} {j : Job} {status : Nat} {r d : Word} (hjobs : t.jobs = s.jobs) (hqps : t.qps = s.qps)
    (hjob : s.job j.id = some j) (hfree : (s.qp j.qp).free = 0) (hmsg : (s.qp j.qp).ringMsg = none)
    (hring : (s.qp j.qp).faultRing = 0) :
    ((t.markDone j.id status r d).reportAll j.qp).job j.id = some (t.finishedAs status r d j) ∧
      ((t.markDone j.id status r d).reportAll j.qp).staging = t.staging := by
  have hqp : (t.markDone j.id status r d).qp j.qp = s.qp j.qp := by
    rw [qp, markDone_qps, hqps]; rfl
  obtain ⟨hj, hs⟩ := reportAll_of_full (hqp ▸ hfree) (hqp ▸ hmsg) (hqp ▸ hring)
  have hfind : t.jobs.find? (fun x => x.id == j.id) = some j := by rw [hjobs]; exact hjob
  refine ⟨?_, hs⟩
  rw [job, hj, markDone_jobs]
  exact find_map_of_id (f := t.finishedAs status r d) hfind fun _ => rfl

theorem scatter_rest (s : State) (d : Nat) (l : List (Nat × Nat × Nat)) (data : List Byte) :
    (s.scatter d l data).jobs = s.jobs ∧ (s.scatter d l data).qps = s.qps := by
  induction l generalizing s data with
  | nil => exact ⟨rfl, rfl⟩
  | cons x l ih =>
    obtain ⟨a, n, m⟩ := x
    obtain ⟨hj, hq⟩ := ih (s.post d a (data.take n) true) (data.drop n)
    have hpost : (s.post d a (data.take n) true).jobs = s.jobs ∧ (s.post d a (data.take n) true).qps = s.qps := by
      unfold post
      split <;> exact ⟨rfl, rfl⟩
    exact ⟨hj.trans hpost.1, hq.trans hpost.2⟩

theorem zeroOutput_rest (s : State) (j : Job) : (s.zeroOutput j).jobs = s.jobs ∧ (s.zeroOutput j).qps = s.qps := by
  unfold zeroOutput
  dsimp only
  split
  · split
    · exact s.scatter_rest ..
    · exact s.scatter_rest ..
  · split
    · exact ⟨rfl, rfl⟩
    · exact ⟨rfl, rfl⟩

end State
end Sys2Proof.Machine

open Sys2Proof Sys2Proof.Machine

/-- Settles O36: what a job lets go of keeps jobs, queue pairs and staging, and with no free slot nothing is reported. -/
theorem finishedJobsHoldTheirOutcome : Obligations.FinishedJobsHoldTheirOutcome := by
  intro s j r d status stage entry cause detail out hjob hfree hmsg hring
  refine ⟨?succeed, ?fail, ?deliver⟩
  case succeed =>
    have hgo := WorkEnded.letGo s j true false
    obtain ⟨hx, hs⟩ := State.finish_of_full (status := St.OK) (r := r) (d := d) hgo.jobs hgo.qps hjob hfree hmsg hring
    exact ⟨_, hx, rfl, rfl, rfl, rfl, rfl, hs.trans hgo.staging⟩
  case fail =>
    obtain ⟨u, hu, hjobs, hqps, hstaging⟩ : ∃ u, (if stage ≥ 6 then s.zeroOutput j else s) = u ∧ u.jobs = s.jobs ∧
        u.qps = s.qps ∧ (stage < 6 → u.staging = s.staging) := by
      refine ⟨_, rfl, ?_⟩
      split
      next hlate =>
        exact ⟨(s.zeroOutput_rest j).1, (s.zeroOutput_rest j).2, fun h => absurd h (by omega)⟩
      next hlate =>
        exact ⟨rfl, rfl, fun _ => rfl⟩
    have hgo := (WorkEnded.countStatus u j status).trans (WorkEnded.letGo _ j false (status == St.AUTH_FAIL))
    obtain ⟨hx, hs⟩ := State.finish_of_full (status := status) (r := failWord stage entry cause) (d := w32 detail)
      (hgo.jobs.trans hjobs) (hgo.qps.trans hqps) hjob hfree hmsg hring
    rw [State.failJob, State.failQuiet, hu]
    exact ⟨_, hx, rfl, rfl, rfl, rfl, rfl, fun h => hs.trans (hgo.staging.trans (hstaging h))⟩
  case deliver =>
    obtain ⟨hjobs, hqps⟩ := s.scatter_rest j.dom j.outs out
    have hgo := WorkEnded.letGo (s.postOutput j out) j true false
    obtain ⟨hx, hs⟩ := State.finish_of_full (status := St.OK) (r := w32 out.length) (d := d)
      (hgo.jobs.trans hjobs) (hgo.qps.trans hqps) hjob hfree hmsg hring
    exact ⟨_, hx, rfl, rfl, rfl, hs.trans hgo.staging⟩
end

section
/-! SUPPORT. Queue pairs made, destroyed and queried (R113, R114, R119). -/

namespace Sys2Proof.Machine.State

/-- A search depends only on what its test says of the list's own elements. -/
theorem find?_eq_of_agree {α : Type} {p q : α → Bool} {l : List α} (h : ∀ x ∈ l, p x = q x) : l.find? p = l.find? q := by
  induction l with
  | nil => rfl
  | cons x l ih =>
    rw [List.find?_cons, List.find?_cons, h x (List.mem_cons_self ..), ih fun y hy => h y (List.mem_cons_of_mem x hy)]

/-- What the end of a DESTROY_QP leaves: no queue pair, no job of it, none of its stream slots (R114 steps 5 and 6). -/
theorem destroyEnd_outcome (s : State) {j : Job} {q : Nat} (hne : j.qp ≠ q) :
    ((s.destroyEnd j q).qp q).st = .absent ∧ (∀ x ∈ (s.destroyEnd j q).jobs, x.qp ≠ q) ∧
      (∀ n, ((s.destroyEnd j q).stream n).bound → ((s.destroyEnd j q).stream n).qp ≠ q) := by
  generalize ht : s.destroyEnd j q = t
  unfold destroyEnd succeed at ht
  dsimp only at ht
  generalize hu : ({ s with
    jobs := s.jobs.filter (fun x => x.qp != q)
    streams := Tbl.clear (fun n => (s.stream n).bound && (s.stream n).qp == q) s.streams } : State) = u at ht
  have hujobs : u.jobs = s.jobs.filter (fun x => x.qp != q) := by rw [← hu]
  have hustreams : u.streams = Tbl.clear (fun n => (s.stream n).bound && (s.stream n).qp == q) s.streams := by rw [← hu]
  generalize w32 (s.qp q).reported = r at ht
  generalize w32 ((s.qp q).released - (s.qp q).reported) = d at ht
  have hgo := WorkEnded.letGo (u.setQp q {}) j true false
  have hstreams := (u.setQp q {}).letGo_streams j false
  generalize (u.setQp q {}).letGo j true false = v at ht hgo hstreams
  have hrep := Reported.reportAll (v.markDone j.id St.OK r d) j.qp
  rw [ht] at hrep
  refine ⟨?_, fun x hx => ?_, fun n => ?_⟩
  · rw [hrep.qp q (Ne.symm hne), qp, markDone_qps, hgo.qps]
    exact congrArg QP.st (u.qp_setQp q {})
  · obtain ⟨y, hy, hyx⟩ := List.mem_map.mp (markDone_jobs .. ▸ hrep.jobs.subset hx)
    rw [hgo.jobs, show (u.setQp q {}).jobs = u.jobs from rfl, hujobs] at hy
    have hyq : y.qp ≠ q := by simpa using (List.mem_filter.mp hy).2
    rw [← hyx]
    split
    · exact hyq
    · exact hyq
  · have hst : t.streams = Tbl.clear (fun n => (s.stream n).bound && (s.stream n).qp == q) s.streams :=
      (hrep.field State.streams fun _ => rfl).trans (hstreams.trans hustreams)
    rw [stream, hst, Tbl.get_clear]
    split
    next hmine =>
      simp
    next hmine =>
      intro hbound hqp
      exact hmine (by simp [show (s.stream n).bound = true from hbound, show (s.stream n).qp = q from hqp])

theorem queryBytes_length (s : State) (q : Nat) : (s.queryBytes q).length = 64 := by
  unfold queryBytes
  dsimp only
  split
  · simp [zeros]
  · simp [zeros]

theorem capsBytes_length (s : State) (d : Nat) : (s.capsBytes d).length = 128 := by
  simp [capsBytes, caps, lims]

/-- With no waiting job a domain's park entries find no taker. -/
theorem unparkAll_of_none {s : State} {d : Nat} (h : (s.port d).parkQ = []) : s.unparkAll d = s := by
  simp [unparkAll, h, unpark]

theorem qjobs_modJob_eq_nil {s : State} {q id : Nat} (h : s.qjobs q = []) {f : Job → Job} (hf : ∀ j, (f j).qp = j.qp) :
    (s.modJob id f).qjobs q = [] := by
  rw [qjobs, modJob, List.filter_map, List.map_eq_nil_iff]
  refine Eq.trans (List.filter_congr fun x _ => ?_) h
  by_cases hx : x.id = id <;> simp [hx, hf]

/-- Steps 1 and 2 of R114 on a queue pair without jobs, chain or waiting park entries: it is DESTROYING with nothing due, and
the command waits. -/
theorem destroyStart_of_idle {s : State} {j : Job} {q : Nat} (hkind : j.u 34 1 % 2 = 0) (hjobs : s.qjobs q = [])
    (hchain : (s.qp q).chain = []) (hpark : (s.port (s.qp q).dom).parkQ = []) :
    ∃ k : QP, k.st = .destroying ∧ k.drain = false ∧ k.frozen = [] ∧ k.ringMsg = (s.qp q).ringMsg ∧
      s.destroyStart j q = (s.setQp q k).modJob j.id (fun x => { x with stage := .wait (.destroy q) }) := by
  have hnodrain : ¬ j.u 34 1 % 2 = 1 := by omega
  refine ⟨{ s.qp q with
    st := .destroying, inl := [], spilled := [], fetch := none, reread := none, pend := none, drain := false
    tmo := if j.u 36 2 = 0 then 100 else j.u 36 2, frozen := [], reported := 0, released := s.qInfl q }, rfl, rfl, rfl, rfl, ?_⟩
  simp only [destroyStart, hnodrain, decide_false, hjobs, List.length_nil, dueAll, List.map_nil, if_false, modQp]
  generalize hk : ({ s.qp q with
    st := .destroying, inl := [], spilled := [], fetch := none, reread := none, pend := none, drain := false
    tmo := if j.u 36 2 = 0 then 100 else j.u 36 2, frozen := [], reported := 0, released := s.qInfl q } : QP) = k
  generalize hu : (s.setQp q k).modJob j.id (fun x => { x with stage := .wait (.destroy q) }) = u
  have hqp : u.qp q = k := by rw [← hu]; exact s.qp_setQp q k
  have hends : u.endChain q = u := by simp [endChain, hqp, ← hk, hchain]
  have hnojobs : u.qjobs q = [] := by
    rw [← hu]
    exact qjobs_modJob_eq_nil hjobs fun _ => rfl
  have hport : (u.port (u.qp q).dom).parkQ = [] := by rw [hqp, ← hk, ← hu]; exact hpark
  rw [hends, endAll, hnojobs, List.foldl_nil, unparkAll_of_none hport]

/-- The command that waits for the destruction it began is its destroyer. -/
theorem destroyer_of_waits {s : State} {j : Job} {q : Nat} (hnone : s.destroyer q = none) (hjob : s.job j.id = some j) :
    (s.modJob j.id (fun x => { x with stage := .wait (.destroy q) })).destroyer q =
      some { j with stage := .wait (.destroy q) } := by
  have hno (x : Job) (hx : x ∈ s.jobs) : (x.stage == .wait (.destroy q)) = false := by
    simpa using List.find?_eq_none.mp hnone x hx
  have hfind : s.jobs.find? ((fun x : Job => x.stage == .wait (.destroy q)) ∘
      fun x => if x.id = j.id then { x with stage := .wait (.destroy q) } else x) = s.jobs.find? (fun x => x.id == j.id) := by
    refine find?_eq_of_agree fun x hx => ?_
    by_cases hid : x.id = j.id
    · simp [hid]
    · simp [hid, hno x hx]
  rw [destroyer, modJob, List.find?_map, hfind, show s.jobs.find? (fun x => x.id == j.id) = some j from hjob]
  simp

/-- A queue pair in DESTROYING without jobs or ring message ends at once. -/
theorem destroyStep_of_idle {s : State} {j : Job} {q : Nat} (hdrain : (s.qp q).drain = false) (hjobs : s.qjobs q = [])
    (hmsg : (s.qp q).ringMsg = none) (hst : (s.qp q).st = .destroying) (hfrozen : (s.qp q).frozen = []) :
    s.destroyStep j q = (s.reportAll q).destroyEnd j q := by
  have hpre : s.reportRing q = s := by simp [reportRing, hmsg]
  have hdue : s.nextDue q = none := by simp [nextDue, hst, hdrain, destroyNext, hfrozen, hjobs]
  have hidle : (s.reportAll q).qjobs q = [] ∧ ((s.reportAll q).qp q).ringMsg = none := by
    rw [reportAll, hpre, report]
    simp only [hst, hmsg, hdue, reduceCtorEq, Option.isSome_none, Bool.false_eq_true, or_false, if_false]
    split
    · refine ⟨?_, hmsg⟩
      rw [qjobs, List.filter_filter, List.filter_eq_nil_iff]
      intro x hx
      have hno : x.qp ≠ q := by simpa using List.filter_eq_nil_iff.mp hjobs x hx
      simp [hno]
    · exact ⟨hjobs, (congrArg QP.ringMsg (s.qp_setQp q _)).trans hmsg⟩
  simp [destroyStep, hdrain, hidle.1, hidle.2]

end Sys2Proof.Machine.State

open Sys2Proof Sys2Proof.Machine

/-- Settles O38: the end of a destruction releases the queue pair, and one without jobs ends in the command that begins it. -/
theorem queuePairsAreMadeDestroyedAndQueried : Obligations.QueuePairsAreMadeDestroyedAndQueried := by
  intro s id q j
  refine ⟨fun h hq hne => ?create, fun h hq hlow hkind hjobs hchain hmsg hst hnone hpark => ?destroy, fun hd hne => ?expiry,
    fun h => ⟨congrArg Host.Outcome.next (State.adminRun_of_turn h _), State.queryBytes_length ..⟩,
    fun h => ⟨congrArg Host.Outcome.next (State.adminRun_of_turn h _), State.capsBytes_length ..⟩⟩
  case create =>
    refine congrArg Host.Outcome.next ((State.adminRun_of_turn h _).trans ?_)
    simp only [State.createQp, hq, if_neg hne]
  case destroy =>
    obtain ⟨k, hkst, hkdrain, hkfrozen, hkmsg, hstart⟩ := State.destroyStart_of_idle hkind hjobs hchain hpark
    have hjob : s.job j.id = some j := (State.id_of_job h.1).symm ▸ h.1
    have hready : j.stage ≠ .wait (.destroy q) := by rw [h.2.2.2.2]; simp
    have hne : j.qp ≠ q := by have := h.2.2.1; omega
    have hd := State.destroyer_of_waits (s := s.setQp q k) hnone hjob
    generalize hu : (s.setQp q k).modJob j.id (fun x => { x with stage := .wait (.destroy q) }) = u at hstart hd
    have hqp : u.qp q = k := by rw [← hu]; exact s.qp_setQp q k
    have hnojobs : u.qjobs q = [] := by
      rw [← hu]
      exact State.qjobs_modJob_eq_nil hjobs fun _ => rfl
    have hstep := State.destroyStep_of_idle (j := { j with stage := .wait (.destroy q) })
      (hqp ▸ hkdrain) hnojobs (by rw [hqp, hkmsg, hmsg]) (hqp ▸ hkst) (hqp ▸ hkfrozen)
    have hrun : exec (.destroyQp id) s = .next ((u.reportAll q).destroyEnd { j with stage := .wait (.destroy q) } q) := by
      have hgo : exec (.destroyQp id) s = .next ((s.destroyStart j (j.u 32 2)).destroyOn (j.u 32 2)) := by
        simp only [exec, execDestroyQp, h.1, h.2.2.2.2]
        exact congrArg Host.Outcome.next (State.adminRun_of_turn h _)
      rw [hgo, hq, hstart, State.destroyOn, hd]
      exact congrArg Host.Outcome.next hstep
    obtain ⟨h1, h2, h3⟩ := State.destroyEnd_outcome (u.reportAll q) (j := { j with stage := .wait (.destroy q) }) hne
    refine ⟨_, hrun, h1, h2, h3, ?_⟩
    simp only [State.destroyEnd_mem, State.reportAll_mem, ← hu, State.modJob_mem, State.setQp_mem]
  case expiry =>
    obtain ⟨h1, h2, h3⟩ := State.destroyEnd_outcome (s.endAll q) hne
    refine ⟨(s.endAll q).destroyEnd j q, ?_, h1, h2, h3⟩
    simp only [exec, execDestroyTmoExpiry, hd]
end

section
/-! SUPPORT. Vault pages join the pages to program (R151, R156): what queueing a page changes, and the close, open, range and
interval writes built on it. -/

namespace Sys2Proof.Machine

/-- The state without the open LOG page, the pages to program and what leave and the banks may change. -/
def State.unpaged (s : State) : State :=
  { s.unleased with vault := { s.vault with refused := false, pages := [], logWs := [] } }

/-- From `s` to `t` pages have only joined those to program, an open LOG page being closed or not. -/
structure PagesOnly (s t : State) : Prop where
  rest : t.unpaged = s.unpaged
  pages : s.vault.pages <+: t.vault.pages
  logWs : t.vault.logWs = s.vault.logWs ∨ t.vault.logWs = []
  inbox : s.inbox <+: t.inbox
  reg : ∀ a, ¬leaveReg a → t.reg a = s.reg a

namespace PagesOnly

variable {s t u : State}

theorem refl (s : State) : PagesOnly s s := ⟨rfl, List.prefix_refl _, .inl rfl, List.prefix_refl _, fun _ _ => rfl⟩

theorem trans (h : PagesOnly s t) (g : PagesOnly t u) : PagesOnly s u where
  rest := g.rest.trans h.rest
  pages := h.pages.trans g.pages
  logWs := g.logWs.elim (fun e => e ▸ h.logWs) .inr
  inbox := h.inbox.trans g.inbox
  reg a ha := (g.reg a ha).trans (h.reg a ha)

section
variable (h : PagesOnly s t)
include h

/-- What queueing a page never touches is as it was. -/
theorem field {α : Type} (f : State → α) (hf : ∀ s, f s.unpaged = f s) : f t = f s := by
  rw [← hf t, h.rest, hf]

theorem mem : t.mem = s.mem := h.field State.mem fun _ => rfl
theorem jobs : t.jobs = s.jobs := h.field State.jobs fun _ => rfl
theorem vslots : t.vslots = s.vslots := h.field State.vslots fun _ => rfl
theorem binds : t.binds = s.binds := h.field State.binds fun _ => rfl
theorem ctxs : t.ctxs = s.ctxs := h.field State.ctxs fun _ => rfl

/-- A LOG page closed stays closed. -/
theorem logWs_nil (hs : s.vault.logWs = []) : t.vault.logWs = [] := h.logWs.elim (fun e => e.trans hs) fun e => e

end

/-- A page joins the pages to program. -/
theorem pagesOf (s : State) (l : List VPage) (hl : s.vault.pages <+: l) : PagesOnly s { s with vault := { s.vault with pages := l } } :=
  ⟨rfl, hl, .inl rfl, List.prefix_refl _, fun _ _ => rfl⟩

theorem ofLeave (h : LeaveOnly s t) : PagesOnly s t where
  rest := by
    have hv : ({ t.vault with refused := false, pages := [], logWs := [] } : Vault) =
        { s.vault with refused := false, pages := [], logWs := [] } :=
      h.field (fun s => ({ s.vault with refused := false, pages := [], logWs := [] } : Vault)) fun _ => rfl
    have hu := congrArg (fun u : State => { u with vault := { u.vault with pages := [], logWs := [] } }) h.rest
    exact hu
  pages := (congrArg (fun v : Vault => s.vault.pages <+: v.pages) h.vault).mpr List.prefix_rfl
  logWs := .inl (by rw [h.vault])
  inbox := h.inbox
  reg := h.reg

end PagesOnly

namespace LeaveOnly

/-- Asking leave for the first page waiting changes only what asking changes. -/
theorem vaultKick (s : State) : LeaveOnly s s.vaultKick := by
  unfold State.vaultKick
  split
  · exact refl s
  · dsimp only
    generalize (⟨2, if (s.jobs.any fun j => j.stage == .wait .ckpt || j.stage == .wait .mark) = true then 2 else 3, 1,
      s.vault.seq / 16 % 2048, Blk.CTX, 4, .vaultPage⟩ : FReq) = r
    have ha := askFlash s r
    exact ha.trans ⟨rfl, List.prefix_refl _, fun _ _ => rfl, fun _ _ _ _ => rfl⟩

end LeaveOnly

namespace State

/-- The OPEN MARK that goes first after a close (R156). -/
def openFirst (s : State) (p : VPage) : List VPage :=
  if s.vault.closed ∧ p ≠ .mark 1 none none none ∧ !s.vault.pages.contains (.mark 1 none none none)
  then [.mark 1 none none none] else []

theorem queuePage_eq (s : State) (p : VPage) : s.queuePage p =
    ({ s with vault := { s.vault with pages := s.vault.pages ++ s.openFirst p ++ [p] } } : State).vaultKick := rfl

theorem queuePage_pages (s : State) (p : VPage) :
    (s.queuePage p).vault.pages = s.vault.pages ++ s.openFirst p ++ [p] := by
  rw [queuePage_eq, (LeaveOnly.vaultKick _).vault]

theorem mem_queuePage_pages (s : State) (p : VPage) : p ∈ (s.queuePage p).vault.pages := by
  rw [queuePage_pages]
  exact List.mem_append_right _ (List.mem_singleton_self p)

theorem queuePage_only (s : State) (p : VPage) : PagesOnly s (s.queuePage p) := by
  have hl : s.vault.pages <+: s.vault.pages ++ s.openFirst p ++ [p] := by
    rw [List.append_assoc]; exact List.prefix_append _ _
  rw [queuePage_eq]
  exact (PagesOnly.pagesOf s _ hl).trans (.ofLeave (.vaultKick _))

/-- Closing the open LOG page leaves no open page; its words, if any, are a page to program. -/
theorem flushLog_only (s : State) : PagesOnly s s.flushLog ∧ s.flushLog.vault.logWs = [] := by
  unfold flushLog
  split
  next h => exact ⟨.refl s, by simpa using h⟩
  · have hu : PagesOnly s { s with vault := { s.vault with logWs := [] } } :=
      ⟨rfl, List.prefix_refl _, .inr rfl, List.prefix_refl _, fun _ _ => rfl⟩
    have hq := queuePage_only { s with vault := { s.vault with logWs := [] } } (.log s.vault.logCkl s.vault.logWs)
    exact ⟨hu.trans hq, hq.logWs_nil rfl⟩

/-- Pages of groups queued one after another. -/
theorem queueGroups_only (s : State) (exact : Bool) (l : List Nat) :
    PagesOnly s (l.foldl (fun s g => s.queueGroup (20 * g) exact) s) := by
  induction l generalizing s with
  | nil => exact .refl s
  | cons g l ih => exact (queuePage_only ..).trans (ih _)

/-- A close closes the LOG page, queues the groups that advanced and then the CLOSE MARK (R156). -/
theorem closeVault_outcome (s : State) : s.closeVault.vault.closing ∧ .mark 2 none none none ∈ s.closeVault.vault.pages ∧
    s.closeVault.vault.logWs = [] ∧ s.closeVault.vslots = s.vslots ∧ s.closeVault.mem = s.mem := by
  obtain ⟨hflush, hlog⟩ := s.flushLog_only
  unfold closeVault
  dsimp only
  generalize ((s.vslots.filter (fun e => advanced e.2)).map (fun e => e.1 / 20)).eraseDups = gs
  have hgroups := queueGroups_only s.flushLog true gs
  generalize gs.foldl (fun s g => s.queueGroup (20 * g) true) s.flushLog = u at hgroups
  have hmark := queuePage_only { u with vault := { u.vault with closing := true } } (.mark 2 none none none)
  refine ⟨hmark.field (fun s => s.vault.closing) fun _ => rfl, mem_queuePage_pages .., hmark.logWs_nil (hgroups.logWs_nil hlog), ?_, ?_⟩
  · exact hmark.vslots.trans (hgroups.vslots.trans hflush.vslots)
  · exact hmark.mem.trans (hgroups.mem.trans hflush.mem)

end State
end Sys2Proof.Machine

open Sys2Proof Sys2Proof.Machine

/-- Settles O46: each write takes effect through the pages it queues, and what queueing never touches is as it was. -/
theorem vaultIsClosedOpenedAndSet : Obligations.VaultIsClosedOpenedAndSet := by
  intro s rq d v
  refine ⟨fun hw => ⟨fun hmode hidle hopen => ?close, fun hmode => ?noClose, fun hclosed hno => ?opening⟩,
    fun hw => ⟨fun hfree hcnt => ?range, fun hbound => ?noRange⟩,
    fun hw => ⟨fun hlo hhi hflush => ?interval, fun hbad => ?noInterval⟩⟩
  case close =>
    obtain ⟨h1, h2, h3, h4, h5⟩ := s.closeVault_outcome
    refine ⟨s.closeVault, ?_, h1, h2, h3, h4, h5⟩
    have hbit : bit 1#32 0 = true ∧ bit 1#32 1 = false := by decide
    simp [exec, execCloseVault, s.asWrite_of_writable _ _ hw, State.ctxCtrlWrite, hbit, hmode, hidle, hopen]
  case noClose =>
    have hbit : bit 1#32 0 = true := by decide
    simp [exec, execCloseVault, s.asWrite_of_writable _ _ hw, State.ctxCtrlWrite, hbit, hmode]
  case opening =>
    have hq := s.queuePage_only (.mark 1 none none none)
    refine ⟨s.queuePage (.mark 1 none none none), ?_, ?_, hq.vslots, hq.mem⟩
    · have hbit : bit 2#32 0 = false ∧ bit 2#32 1 = true := by decide
      have hno : VPage.mark 1 none none none ∉ s.vault.pages := by simpa using hno
      simp [exec, execOpenVault, s.asWrite_of_writable _ _ hw, State.ctxCtrlWrite, hbit, hclosed, hno]
    · simp [State.queuePage_pages, State.openFirst]
  case range =>
    obtain ⟨u, hu, hreg, hbinds, hmem⟩ : ∃ u : State, ({ s.setReg (R.CTX_DOM_VB + d * 0x10) (w32 (bits v 17 0)) with
        vault := { s.vault with rangeBusy := true } } : State) = u ∧
        u.reg (R.CTX_DOM_VB + d * 0x10) = w32 (bits v 17 0) ∧ u.binds = s.binds ∧ u.mem = s.mem :=
      ⟨_, rfl, s.reg_setReg .., rfl, rfl⟩
    have hbusy : u.vault.rangeBusy = true := by rw [← hu]
    have hq := u.queuePage_only (.mark 3 none (some (d.val, bits v 17 0, 0)) none)
    refine ⟨u.queuePage (.mark 3 none (some (d.val, bits v 17 0, 0)) none), ?_,
      (hq.field (fun s => s.vault.rangeBusy) fun _ => rfl).trans hbusy, ?_, State.mem_queuePage_pages .., hq.binds.trans hbinds,
      hq.mem.trans hmem⟩
    · have hsmall : ¬ 262144 < bits v 17 0 := by
        have : bits v 17 0 < 2 ^ 18 := by simpa [bits] using Nat.mod_lt _ (by decide)
        omega
      simp [exec, execVaultRangeWrite, s.asWrite_of_writable _ _ hw, State.rangeWrite, hfree, hcnt, hsmall, ← hu]
    · refine (hq.reg _ ?_).trans hreg
      simp only [leaveReg, R.CTX_DOM_VB, R.PWR_REFUSED, R.FLC_STATUS, R.FLC_SUSPCNT]
      omega
  case noRange =>
    simp [exec, execVaultRangeWrite, s.asWrite_of_writable _ _ hw, State.rangeWrite, hbound]
  case interval =>
    have hok : ¬ (bits v 12 8 < 8 ∨ bits v 12 8 > 16 ∨ bits v 7 0 = 0) := by omega
    obtain ⟨hf, hlog⟩ := s.flushLog_only
    refine ⟨(if bits v 12 8 ≠ s.fld R.CTX_CFG 12 8 then s.flushLog else s).setReg R.CTX_CFG (v &&& 0x1FFF), ?_,
      State.reg_setReg .., fun hne => ?_, ?_, ?_⟩
    · simp only [exec, execCklWrite, s.asWrite_of_writable _ _ hw, State.ctxCfgWrite, if_neg hok, Option.getD_some]
    · rw [if_pos hne]; exact hlog
    · split
      · exact hf.vslots
      · rfl
    · split
      · exact hf.mem
      · rfl
  case noInterval =>
    simp only [exec, execCklWrite, s.asWrite_of_writable _ _ hw, State.ctxCfgWrite, if_pos hbad, Option.getD_none]
end

section
/-! SUPPORT. What a busy Crucible unit holds as its result (R198-R211). -/

namespace Sys2Proof.Machine

namespace State

/-- A unit holds result `o`, or, with `bad`, the fault it finds in it (R211). -/
def holdResult (s : State) (u : Nat) (bad : Bool) (o : COut) : State :=
  s.modUnit u (fun k => { k with out := some (if bad then pkFaulty u else o) })

/-- A result that the unit checks: the check is one fresh free value. -/
theorem unitResult_checked (s : State) (u : Nat) (o : COut) (bad : Bool) :
    s.unitResult u o true bad =
      ({ s with fresh := s.fresh + 1 } : State).holdResult u (bad || Config.unitFaults u s.fresh) o := rfl

theorem unitResult_unchecked (s : State) (u : Nat) (o : COut) (bad : Bool) :
    s.unitResult u o false bad = s.holdResult u false o := rfl

/-- A fault found in the result replaces it, whatever it is. -/
theorem holdResult_of_bad (s : State) (u : Nat) (o o' : COut) : s.holdResult u true o = s.holdResult u true o' := rfl

end State

theorem pkSign_ed {j : Job} (h : j.alg = 5) (m r : List Byte) :
    pkSign j m r = pkDone (edSign (m.take 32) (slice m 32 32) j.input) [] := if_pos h

theorem pkSign_curve {j : Job} (h : j.alg ≠ 5) (m r : List Byte) :
    pkSign j m r = pkDone ((curveOf j.alg).sign (fromBe (m.take (curveOf j.alg).len)) ((curveOf j.alg).digestInt j.input) 3 r) [] :=
  if_neg h

theorem pkVerify_ed {j : Job} (h : j.alg = 5) : pkVerify j =
    if edVerify (slice j.input 0 32) (slice j.input 32 64) (j.input.drop 96) then pkDone [] [] else pkReject := by
  simp only [pkVerify, if_pos h]

theorem pkVerify_curve {j : Job} (h : j.alg ≠ 5) : pkVerify j =
    if (curveOf j.alg).verify (slice j.input 0 (1 + 2 * (curveOf j.alg).len))
        (slice j.input (1 + 2 * (curveOf j.alg).len) (2 * (curveOf j.alg).len))
        (j.input.drop (1 + 4 * (curveOf j.alg).len)) then pkDone [] [] else pkReject := by
  simp only [pkVerify, if_neg h]

/-- PK_AGREE holds the secret the agreement gives, or is rejected (R203, R205). -/
theorem pkAgree_eq {j : Job} {m : List Byte} {z : Option (List Byte)}
    (h : z = if j.alg = 4 then xAgree (m.take 32) j.input
      else (curveOf j.alg).agree (fromBe (m.take (curveOf j.alg).len)) j.input) :
    pkAgree j m = (z.map (pkDone [])).getD pkReject := by
  rw [pkAgree, ← h]
  cases z <;> rfl

/-- RSA_PRIV rejects an input of 0 or not below the modulus (R204). -/
theorem rsaPriv_of_out_of_range {j : Job} {m : List Byte}
    (h : fromBe j.input = 0 ∨ rsaPart m (j.nbits / 8) 0 ≤ fromBe j.input) : rsaPriv j m = (pkReject, false) := by
  rw [rsaPriv]
  exact if_pos h

/-- RSA_PRIV of an input in range: the result and whether the check of R211 finds it wrong. -/
theorem rsaPriv_of_in_range {j : Job} {m : List Byte} {g : Nat → Nat} {y : Nat} (hg : g = rsaPart m (j.nbits / 8))
    (hy : y = rsaCrt (g 2) (g 3) (g 4) (g 5) (g 6) (fromBe j.input)) (h0 : fromBe j.input ≠ 0) (hn : fromBe j.input < g 0) :
    rsaPriv j m = (pkDone (beBytes (j.nbits / 8) y) [], powMod (g 0) 32 y (g 1) != fromBe j.input) := by
  subst hy hg
  rw [rsaPriv]
  exact if_neg (by omega)

end Sys2Proof.Machine

open Sys2Proof Sys2Proof.Machine

/-- Settles O47: each opcode holds its result in the unit, checked for a fault where R211 says so. -/
theorem crucibleUnitsComputeResults : Obligations.CrucibleUnitsComputeResults := by
  intro s id u j c m r i k put
  have hput (n : Nat) (bad : Bool) (o : COut) : put n bad o = ({ s with fresh := n } : State).holdResult u bad o := rfl
  simp only [hput]
  refine ⟨fun h => ?sign, fun h => ?verify, fun h z hz => ?agree, fun h d hd => ?keygen, fun h g x y hg hx hy => ?priv,
    fun h n e x hn he hx => ?pub⟩
  case sign =>
    have hrun : exec (.pkSign id) s = .next (({ s with fresh := s.fresh + 2 } : State).holdResult u
        (Config.unitFaults u (s.fresh + 1)) (pkSign j m r)) := by
      simp only [exec, execPkSign, h]
      rfl
    refine ⟨fun ha => ?_, fun ha => ?_⟩ <;> rw [hrun]
    · rw [pkSign_ed ha]
    · rw [pkSign_curve ha]
  case verify =>
    have hrun : exec (.pkVerify id) s = .next (({ s with fresh := s.fresh + 1 } : State).holdResult u
        (Config.unitFaults u s.fresh) (pkVerify j)) := by
      simp only [exec, execPkVerify, h]
      rfl
    refine ⟨fun ha => ?_, fun ha => ?_⟩ <;> rw [hrun]
    · rw [pkVerify_ed ha]
    · rw [pkVerify_curve ha]
  case agree =>
    have hrun : exec (.pkAgree id) s = .next (({ s with fresh := s.fresh + 1 } : State).holdResult u
        (Config.unitFaults u s.fresh) ((z.map (pkDone [])).getD pkReject)) := by
      simp only [exec, execPkAgree, h]
      rw [pkAgree_eq hz]
      rfl
    exact ⟨fun x hx => by rw [hrun, hx]; rfl, fun hnone => by rw [hrun, hnone]; rfl⟩
  case keygen =>
    have hrun : exec (.pkKeygen id) s = .next (({ s with fresh := s.fresh + 2 } : State).holdResult u
        (Config.unitFaults u (s.fresh + 1)) (pkKeygen j r)) := by
      simp only [exec, execPkKeygen, h]
      rfl
    rw [hrun, hd]
    rfl
  case priv =>
    have hrun : exec (.rsaPriv id) s = .next (({ s with fresh := s.fresh + 1 } : State).holdResult u
        ((rsaPriv j m).2 || Config.unitFaults u s.fresh) (rsaPriv j m).1) := by
      simp only [exec, execRsaPriv, h]
      rfl
    rw [hrun]
    subst hx
    refine ⟨fun hbad => ?_, fun h0 hlt hok => ?_, fun h0 hlt hwrong => ?_⟩
    · rw [rsaPriv_of_out_of_range (hg ▸ hbad)]
      rfl
    · have hsame : (powMod (g 0) 32 y (g 1) != fromBe j.input) = false := bne_eq_false_iff_eq.mpr hok
      rw [rsaPriv_of_in_range hg hy h0 hlt, hsame]
      rfl
    · rw [rsaPriv_of_in_range hg hy h0 hlt, bne_iff_ne.mpr hwrong]
      rfl
  case pub =>
    have hrun : exec (.rsaPub id) s = .next (({ s with fresh := s.fresh } : State).holdResult u false (rsaPub j)) := by
      simp only [exec, execRsaPub, h]
      rfl
    rw [hrun]
    subst hn he hx
    refine ⟨fun hbad => ?_, fun h1 h2 h3 h4 h5 h6 => ?_⟩
    · rw [show rsaPub j = pkReject from if_pos hbad]
    · refine congrArg (fun o => Host.Outcome.next (State.holdResult s u false o)) (if_neg ?_)
      change fromBe _ ≠ 0 at h5
      simp only [i, k] at *
      omega
end

section
/-! SUPPORT. Ends of jobs as a whole, and Crucible units that wipe, test, are fenced and take the port's job (R197-R218). -/

namespace Sys2Proof.Machine

/-- The state without what the end of a job may change. -/
def State.unended (s : State) : State :=
  { s with regs := [], hdrs := [], inbox := [], lanes := [], slots := [], kst := { s.kst with queue := [] }, streams := []
           qps := [], jobs := [], staging := [], nextFin := 0, closedIdx := [], installs := [] }

/-- From `s` to `t` jobs have only ended and been reported. -/
structure JobEnded (s t : State) : Prop where
  rest : t.unended = s.unended
  inbox : s.inbox <+: t.inbox
  staging : s.staging <+: t.staging
  hdr : ∀ b i, b * 32 + i ≠ Blk.TUN * 32 → t.hdr b i = s.hdr b i
  jobs : ∀ x ∈ t.jobs, x ∈ s.jobs ∨ x.stage = .done

namespace JobEnded

variable {s t u : State}

theorem refl (s : State) : JobEnded s s :=
  ⟨rfl, List.prefix_refl _, List.prefix_refl _, fun _ _ _ => rfl, fun _ hx => .inl hx⟩

theorem trans (h : JobEnded s t) (g : JobEnded t u) : JobEnded s u where
  rest := g.rest.trans h.rest
  inbox := h.inbox.trans g.inbox
  staging := h.staging.trans g.staging
  hdr b i hb := (g.hdr b i hb).trans (h.hdr b i hb)
  jobs x hx := (g.jobs x hx).elim (h.jobs x) .inr

/-- What the end of a job never touches is as it was. -/
theorem field (h : JobEnded s t) {α : Type} (f : State → α) (hf : ∀ s, f s.unended = f s) : f t = f s := by
  rw [← hf t, h.rest, hf]

theorem ofWork (h : WorkEnded s t) : JobEnded s t where
  rest := congrArg (fun u : State => { u with
    hdrs := [], inbox := [], qps := [], jobs := [], staging := [], nextFin := 0, closedIdx := [], installs := [] }) h.rest
  inbox := h.field State.inbox (fun _ => rfl) ▸ List.prefix_refl _
  staging := h.staging ▸ List.prefix_refl _
  hdr b i _ := h.field (fun s => s.hdr b i) fun _ => rfl
  jobs _ hx := .inl (h.jobs ▸ hx)

theorem ofReported {q : Nat} (h : Reported q s t) : JobEnded s t where
  rest := congrArg (fun u : State => { u with
    lanes := [], slots := [], kst := { u.kst with queue := [] }, streams := [], nextFin := 0, closedIdx := []
    installs := [] }) h.rest
  inbox := h.inbox
  staging := h.staging
  hdr := h.hdr
  jobs _ hx := .inl (h.jobs.subset hx)

theorem markDone (s : State) (id status : Nat) (result detail : Word) : JobEnded s (s.markDone id status result detail) where
  rest := rfl
  inbox := List.prefix_refl _
  staging := List.prefix_refl _
  hdr _ _ _ := rfl
  jobs x hx := by
    obtain ⟨y, hy, hyx⟩ := List.mem_map.mp (State.markDone_jobs .. ▸ hx)
    split at hyx
    next hid =>
      exact .inr (hyx ▸ rfl)
    next hid =>
      exact .inl (hyx ▸ hy)

theorem post (s : State) (d a : Nat) (data : List Byte) (output : Bool) : JobEnded s (s.post d a data output) :=
  .ofReported (.post 0 s d a data output)

theorem scatter (s : State) (d : Nat) (l : List (Nat × Nat × Nat)) (data : List Byte) : JobEnded s (s.scatter d l data) := by
  induction l generalizing s data with
  | nil => exact refl s
  | cons x l ih => exact (post ..).trans (ih ..)

theorem zeroOutput (s : State) (j : Job) : JobEnded s (s.zeroOutput j) := by
  have hcount (s : State) (hi lo : Nat) : JobEnded s (s.count R.SYM_ZERO hi lo) := .ofWork (.count ..)
  unfold State.zeroOutput
  dsimp only
  split
  · split
    · exact (scatter ..).trans (hcount ..)
    · exact scatter ..
  · split
    · exact hcount ..
    · exact refl s

theorem succeed (s : State) (j : Job) (r d : Word) : JobEnded s (s.succeed j r d) :=
  (ofWork (.letGo s j true false)).trans ((markDone ..).trans (ofReported (.reportAll ..)))

theorem failQuiet (s : State) (j : Job) (status stage entry cause detail : Nat) :
    JobEnded s (s.failQuiet j status stage entry cause detail) := by
  have hzero : JobEnded s (if stage ≥ 6 then s.zeroOutput j else s) := by
    split
    · exact zeroOutput ..
    · exact refl s
  exact hzero.trans ((ofWork ((WorkEnded.countStatus _ j status).trans (.letGo ..))).trans (markDone ..))

theorem failJob (s : State) (j : Job) (status stage entry cause detail : Nat) :
    JobEnded s (s.failJob j status stage entry cause detail) := (failQuiet ..).trans (ofReported (.reportAll ..))

theorem deliver (s : State) (j : Job) (data : List Byte) (detail : Word) : JobEnded s (s.deliver j data detail) :=
  (scatter ..).trans (succeed ..)

theorem foldl {f : State → Job → State} (hf : ∀ s j, JobEnded s (f s j)) (s : State) (l : List Job) :
    JobEnded s (l.foldl f s) := by
  induction l generalizing s with
  | nil => exact refl s
  | cons j l ih => exact (hf s j).trans (ih _)

theorem failAll (s : State) (l : List Job) (status stage cause detail : Nat) :
    JobEnded s (s.failAll l status stage cause detail) := foldl (fun _ _ => failJob ..) s l

end JobEnded

/-- What noting a fence does once its strike is entered: a unit that served is to be replaced (R429). -/
def State.oweSpare (s : State) (pool unit : Nat) (serving : Bool) : State :=
  match s.ris.subs.find? (fun x => x.1 == pool && x.2.2 == unit) with
  | some x => { s with ris := { s.ris with
      subs := s.ris.subs.filter (fun y => y != x), due := s.ris.due ++ [(pool, x.2.1)] } }
  | none => if serving then { s with ris := { s.ris with due := s.ris.due ++ [(pool, unit)] } } else s

/-- From `s` to `t` unit `u` and the others are as they were, unit `u` fenced if it was, and messages only join the inbox. -/
structure UnitKept (u : Nat) (s t : State) : Prop where
  units : t.units = s.units
  fence : (t.hdr Blk.CRU u).fence = (s.hdr Blk.CRU u).fence
  inbox : s.inbox <+: t.inbox

namespace UnitKept

variable {u : Nat} {s t w : State}

theorem refl (u : Nat) (s : State) : UnitKept u s s := ⟨rfl, rfl, List.prefix_refl _⟩

theorem trans (h : UnitKept u s t) (g : UnitKept u t w) : UnitKept u s w :=
  ⟨g.units.trans h.units, g.fence.trans h.fence, h.inbox.trans g.inbox⟩

theorem ofEnded (h : JobEnded s t) (hu : u < 3) : UnitKept u s t where
  units := h.field State.units fun _ => rfl
  fence := by rw [h.hdr Blk.CRU u (by simp [Blk.CRU, Blk.TUN]; omega)]
  inbox := h.inbox

theorem ofLeave (h : LeaveOnly s t) (hu : u < 3) : UnitKept u s t where
  units := h.units
  fence := by rw [h.hdr Blk.CRU u (by simp [Blk.CRU, Blk.CLK]; omega) (by simp [Blk.CRU, Blk.FLC]; omega)]
  inbox := h.inbox

/-- Writing a header without its fences keeps unit `u`'s fence. -/
theorem fence_setHdr (s : State) (u b i : Nat) {h : Hdr} (hf : h.fence = (s.hdr b i).fence) :
    ((s.setHdr b i h).hdr Blk.CRU u).fence = (s.hdr Blk.CRU u).fence := by
  by_cases hk : Blk.CRU * 32 + u = b * 32 + i
  · rw [State.hdr, State.setHdr, hk, Tbl.get_set_self, hf, State.hdr, State.hdr, hk]
  · rw [s.hdr_setHdr_ne _ hk]

theorem event (u : Nat) (s : State) (b i n : Nat) : UnitKept u s (s.event b i n) := ⟨rfl, fence_setHdr s u b i rfl, List.prefix_refl _⟩

theorem fault (u : Nat) (s : State) (b i k a : Nat) : UnitKept u s (s.fault b i k a) :=
  ⟨rfl, fence_setHdr s u b i rfl, List.prefix_append _ _⟩

theorem setReg (u : Nat) (s : State) (a : Nat) (v : Word) : UnitKept u s (s.setReg a v) := ⟨rfl, rfl, List.prefix_refl _⟩

theorem ticketRefuse (u : Nat) (s : State) (r : Nat) : UnitKept u s (s.ticketRefuse r) := by
  have hstart : UnitKept u s { s with dbg := { s.dbg with verify := none, verdict := none } } := ⟨rfl, rfl, List.prefix_refl _⟩
  exact hstart.trans ((setReg ..).trans ((event ..).trans ((setReg ..).trans (fault ..))))

theorem fwNext (u : Nat) (s : State) (id : Nat) : UnitKept u s (s.fwNext id) := by
  unfold State.fwNext
  split
  · split
    · exact ⟨rfl, rfl, List.prefix_refl _⟩
    · split
      · split
        · exact ⟨rfl, rfl, List.prefix_refl _⟩
        · exact ⟨rfl, rfl, List.prefix_refl _⟩
      · exact ⟨rfl, rfl, List.prefix_refl _⟩
  · exact ⟨rfl, rfl, List.prefix_refl _⟩

theorem ticketChecked (u : Nat) (s : State) (j : Job) (status : Nat) : UnitKept u s (s.ticketChecked j status) := by
  unfold State.ticketChecked
  split
  · exact fwNext ..
  · split
    · exact fwNext ..
    split
    · have hverdict : UnitKept u s { s with dbg := { s.dbg with verdict := some (status == St.OK) } } :=
        ⟨rfl, rfl, List.prefix_refl _⟩
      exact hverdict.trans (fwNext ..)
    split
    · exact ⟨rfl, rfl, List.prefix_refl _⟩
    · exact (ticketRefuse ..).trans (fwNext ..)

theorem fwEnd (u : Nat) (s : State) (j : Job) (status cause result : Nat) : UnitKept u s (s.fwEnd j status cause result) := by
  unfold State.fwEnd
  split
  · exact ticketChecked ..
  · refine trans (t := match j.fill with
      | some n => if (s.slot n).st = SlotSt.reserved then s.setSlot n {} else s
      | none => s) ?_ ((setReg ..).trans ((setReg ..).trans ((fwNext ..).trans (event ..))))
    split
    · split
      · exact ⟨rfl, rfl, List.prefix_refl _⟩
      · exact refl u s
    · exact refl u s

theorem fwFail (u : Nat) (s : State) (j : Job) (status stage cause : Nat) : UnitKept u s (s.fwFail j status stage cause) := by
  unfold State.fwFail
  dsimp only
  split
  · exact (setReg ..).trans (fwEnd ..)
  · exact fwEnd ..

theorem noUnits (hu : u < 3) (s : State) : UnitKept u s s.noUnits := by
  have hport (s : State) : UnitKept u s (match s.fwJob with
      | some j => if j.stage = .ready ∨ j.stage = .wait .rng then s.fwFail j St.ENGINE_UNAVAILABLE 5 0x016A else s
      | none => s) := by
    split
    · split
      · exact fwFail ..
      · exact refl u s
    · exact refl u s
  unfold State.noUnits
  split
  · exact refl u s
  · exact (ofEnded (.failAll ..) hu).trans ((hport _).trans (hport _))

theorem noteFence (hu : u < 3) (s : State) (pool unit : Nat) (serving : Bool) (kind : Option Nat) :
    UnitKept u s (s.noteFence pool unit serving kind) := by
  have hadd (k : Nat) : UnitKept u s (s.mapAdd 1 pool unit 0xFFFF k) := by
    obtain ⟨v, heq, hv⟩ : ∃ v : State, s.mapAdd 1 pool unit 0xFFFF k = v.mapKick ∧ UnitKept u s v :=
      ⟨_, rfl, rfl, rfl, List.prefix_refl _⟩
    rw [heq]
    exact hv.trans (ofLeave v.mapKick_leaveOnly hu)
  have howe (v : State) : UnitKept u v (v.oweSpare pool unit serving) := by
    unfold State.oweSpare
    split
    · exact ⟨rfl, rfl, List.prefix_refl _⟩
    · split
      · exact ⟨rfl, rfl, List.prefix_refl _⟩
      · exact refl u v
  cases kind with
  | none => exact howe s
  | some k => exact (hadd k).trans (howe _)

end UnitKept

namespace State

variable (s : State)

theorem setFence_units (b i n : Nat) : (s.setFence b i n).units = s.units := by
  unfold setFence
  dsimp only
  split
  · rfl
  · rfl

theorem setFence_inbox (b i n : Nat) : (s.setFence b i n).inbox = s.inbox := by
  unfold setFence
  dsimp only
  split
  · rfl
  · rfl

/-- A unit's failed test fences it, with one message of its class (R197). -/
theorem unitKatFail_outcome {u cls : Nat} (hu : u < 3) (hcls : cls < 256) (hst : (s.unit u).st = .test)
    (hjob : (s.unit u).job = none) (hfw : (s.unit u).fw = false) :
    ((s.unitKatFail u cls).unit u).st = .fenced ∧ (s.unitKatFail u cls).isFenced Blk.CRU u 0 ∧
      ∃ m ∈ (s.unitKatFail u cls).inbox, m.kind = Kind.CRU_SELFTEST ∧ m.blk = Blk.CRU ∧ m.inst = u ∧ m.addr = cls := by
  generalize hr : s.unitKatFail u cls = r
  unfold unitKatFail at hr
  dsimp only at hr
  have hregs : UnitKept u s (((s.setFld (cruReg R.CRU_KAT u) 23 16 cls).count (cruReg R.CRU_KAT u) 15 8).setFld
      (cruReg R.CRU_KAT u) 0 0 0) := (UnitKept.setReg ..).trans ((UnitKept.setReg ..).trans (UnitKept.setReg ..))
  generalize ((s.setFld (cruReg R.CRU_KAT u) 23 16 cls).count (cruReg R.CRU_KAT u) 15 8).setFld (cruReg R.CRU_KAT u) 0 0 0 = x
    at hr hregs
  have hvkept := hregs.trans ((UnitKept.event u x Blk.CRU u 2).trans (UnitKept.fault u _ Blk.CRU u Kind.CRU_SELFTEST cls))
  have hvin : ⟨Blk.CRU, u, Kind.CRU_SELFTEST, kindSev Kind.CRU_SELFTEST, cls % 2 ^ 40, 4⟩ ∈
      ((x.event Blk.CRU u 2).fault Blk.CRU u Kind.CRU_SELFTEST cls).inbox :=
    List.mem_append_right _ (List.mem_singleton_self _)
  generalize (x.event Blk.CRU u 2).fault Blk.CRU u Kind.CRU_SELFTEST cls = v at hr hvkept hvin
  have hvunit : v.unit u = s.unit u := congrArg (fun l => Tbl.get _ l u) hvkept.units
  have hnote := UnitKept.noteFence hu v 1 u (v.unit u).serving (some Kind.CRU_SELFTEST)
  generalize v.noteFence 1 u (v.unit u).serving (some Kind.CRU_SELFTEST) = w at hnote hr
  have hwunit : w.unit u = s.unit u := (congrArg (fun l => Tbl.get _ l u) hnote.units).trans hvunit
  have hnojob : w.unitJob u = none := by simp [unitJob, hwunit, hfw, hjob]
  have hfree := LeaveOnly.releaseLeave
    (w.modUnit u (fun k => { k with st := .fenced, job := none, fw := false, out := none, klass := 0 })) (.cru u)
  have hend : w.fenceUnit u = ((w.freeUnit u .fenced).setFence Blk.CRU u 0).noUnits := by
    simp [fenceUnit, hwunit, hst, hnojob]
  rw [hend, freeUnit] at hr
  generalize (w.modUnit u (fun k => { k with st := .fenced, job := none, fw := false, out := none, klass := 0 })).releaseLeave
    (.cru u) = x at hfree hr
  have hrest := UnitKept.noUnits hu (x.setFence Blk.CRU u 0)
  rw [hr] at hrest
  refine ⟨?_, ?_, _, hrest.inbox.subset (x.setFence_inbox .. ▸ hfree.inbox.subset (hnote.inbox.subset hvin)), rfl, rfl, rfl,
    Nat.mod_eq_of_lt (by omega)⟩
  · rw [unit, hrest.units, setFence_units, hfree.units]
    exact congrArg CUnit.st (w.unit_setUnit u _)
  · rw [isFenced, hrest.fence]
    exact x.isFenced_setFence Blk.CRU u (by decide : 0 < 32)

/-- A test of the unit is due when its wipe ends (R218). -/
def testDueAt (u : Nat) : Bool :=
  (s.unit u).testDue ||
    (decide (s.fld R.CRU_CFG 15 0 ≠ 0) && decide (s.fld R.CRU_CFG 15 0 * 65536 ≤ (s.unit u).since + 1))

/-- What a unit holds once its wipe has ended. -/
def wiped (u : Nat) : CUnit :=
  { s.unit u with st := (if s.testDueAt u then .test else .idle), job := none, fw := false, out := none, klass := 0
                  testDue := false, since := (if s.testDueAt u then 0 else (s.unit u).since + 1) }

/-- The wipe of a unit that holds a host job ends: the unit is free or tests, and the job's result is released (R206, R212). -/
theorem exec_cruWipeDone_of_wipe {u : Fin 3} {id : Nat} {j : Job} {o : COut} (hst : (s.unit u).st = .wipe)
    (hfw : (s.unit u).fw = false) (hid : (s.unit u).job = some id) (hjob : s.job id = some j) (hout : (s.unit u).out = some o) :
    ∃ t : State, exec (.cruWipeDone u) s = .next (t.cruRelease u (s.unit u).klass false j o) ∧ t.unit u = s.wiped u ∧
      t.mem = s.mem ∧ t.jobs = s.jobs := by
  have hunit : s.unitJob u = some j := by simp [unitJob, hfw, hid, hjob]
  have hcount : WorkEnded s ((s.countWrap (cruReg R.CRU_JOBS u) 31 0).countWrap (cruReg R.CRU_WIPES u) 31 0) :=
    (WorkEnded.setReg ..).trans (.setReg ..)
  obtain ⟨x, hx⟩ : ∃ x, x = (s.countWrap (cruReg R.CRU_JOBS u) 31 0).countWrap (cruReg R.CRU_WIPES u) 31 0 := ⟨_, rfl⟩
  rw [← hx] at hcount
  have hxunit : x.unit u = s.unit u := hcount.field (fun s => s.unit u) fun _ => rfl
  have hfree := LeaveOnly.releaseLeave (x.modUnit u (fun k => { k with
    st := (if s.testDueAt u then .test else .idle), job := none, fw := false, out := none, klass := 0 })) (.cru u)
  have hrun : exec (.cruWipeDone u) s = .next (((x.freeUnit u (if s.testDueAt u then .test else .idle)).modUnit u (fun k =>
      { k with testDue := false, since := if s.testDueAt u then 0 else (s.unit u).since + 1 })).cruRelease u
        (s.unit u).klass false j o) := by
    simp only [exec, execCruWipeDone, hst, hunit, hout, hfw, hx]
    rfl
  rw [freeUnit] at hrun
  generalize (x.modUnit u (fun k => { k with
    st := (if s.testDueAt u then .test else .idle), job := none, fw := false, out := none, klass := 0 })).releaseLeave (.cru u) = w
    at hfree hrun
  have hwunit : w.unit u = { s.unit u with
      st := (if s.testDueAt u then .test else .idle), job := none, fw := false, out := none, klass := 0 } := by
    rw [unit, hfree.units, ← hxunit]
    exact x.unit_setUnit u _
  refine ⟨_, hrun, ?_, hfree.mem.trans hcount.mem, hfree.jobs.trans hcount.jobs⟩
  rw [modUnit, unit_setUnit, hwunit]
  rfl

/-- GO starts the port's job outside Lockdown (R215). -/
theorem fwCmdWrite_of_go (rq : Rq) {v : Word} (hidle : s.portBusy = false) (hgo : bit v 31 = true) (hmode : s.mode ≠ .lockdown) :
    s.fwCmdWrite rq v = some ((s.setReg R.CRU_FW_CMD (v &&& 0xFFFF)).portGo (match rq with
      | .pair p => bit (s.pair p).cs 6
      | .debug => false)) := by
  have hidle' : ¬ s.portBusy = true := by simp [hidle]
  have hgo' : ¬ (!bit v 31) = true := by simp [hgo]
  have hopen : ¬ ((s.setReg R.CRU_FW_CMD (v &&& 0xFFFF)).mode = .lockdown ∧
    bit ((s.setReg R.CRU_FW_CMD (v &&& 0xFFFF)).reg R.SYS_SMS) 15 = true) := fun h => hmode h.1
  rw [fwCmdWrite, if_neg hidle']
  dsimp only
  rw [if_neg hgo', if_neg hopen]
  rfl

/-- The job the port registers stand for. -/
def portJob (bank : Bool) : Job :=
  { id := s.nextJob, qp := 0, dom := 4, tag := b2n bank, op := leAt s.portEntry 1 1, ordr := false, cmpl := true
    ents := [s.portEntry], stage := .ready }

/-- The port holds job `j`: at its head, or behind a ticket's verification (R472). -/
def portHold (j : Job) : State :=
  if (s.fwJob.map (·.dom)) = some 5 then { s with fwWait := some j } else { s with fwJob := some j }

theorem portHold_of_none (h : ∀ k, s.fwJob = some k → k.dom ≠ 5) (j : Job) : s.portHold j = { s with fwJob := some j } := by
  refine if_neg ?_
  cases hk : s.fwJob with
  | none => simp
  | some k => simpa using h k hk

/-- The state in which the port has taken its job and is busy. -/
def portTaken (bank : Bool) : State :=
  { (s.setReg R.CRU_FW_STAT 0x80000000) with nextJob := s.nextJob + 1, fwJob := some (s.portJob bank) }

/-- A port job that passes every check holds its key and its input as GO found them. -/
theorem portGo_of_good (bank : Bool) {kr : KeyRef} (hnone : s.fwJob = none) (hgood : portBad (s.portJob bank) = none)
    (hkey : (if (s.portJob bank).op = 0x21 ∨ (s.portJob bank).op = 0x25 then .pass .none
      else (s.portTaken bank).resolvePk true (s.portJob bank)) = .pass kr)
    (hgate : (s.portTaken bank).engineRefused bank ((s.portJob bank).u 8 8) (s.portJob bank).inLen 7 = none)
    (hserve : (List.range 3).any (fun n => ((s.portTaken bank).unit n).serving)) :
    s.portGo bank = { s.portTaken bank with
      fwJob := some { s.portJob bank with
        key := kr, ks := (s.portTaken bank).keyOf kr
        input := (s.portTaken bank).bytes ((s.portJob bank).u 8 8) (s.portJob bank).inLen } } := by
  have htaken : ({ (s.setReg R.CRU_FW_STAT 0x80000000) with nextJob := s.nextJob + 1 } : State).portHold (s.portJob bank) =
      s.portTaken bank := portHold_of_none { (s.setReg R.CRU_FW_STAT 0x80000000) with nextJob := s.nextJob + 1 }
        (fun k hk => absurd (hnone.symm.trans hk) (by simp)) _
  have hdom : ∀ k, (s.portTaken bank).fwJob = some k → k.dom ≠ 5 := by
    intro k hk
    rw [← Option.some.inj hk]
    exact (by decide : (4 : Nat) ≠ 5)
  unfold portGo
  extract_lets e j hold w0 w res start t p
  have hhold : hold = portHold := rfl
  have hj : j = s.portJob bank := rfl
  have hw : w = s.portTaken bank := htaken
  clear_value hold j w
  subst hhold hj hw
  rw [hgood]
  dsimp -zeta only
  clear htaken
  have hres : res = .pass kr := hkey
  have hgate' : (s.portTaken bank).engineRefused bank
    (Job.u { s.portJob bank with key := kr, ks := (s.portTaken bank).keyOf kr } 8 8)
    (Job.inLen { s.portJob bank with key := kr, ks := (s.portTaken bank).keyOf kr }) 7 = none := hgate
  rw [hres]
  simp only [start, hgate', portHold_of_none _ hdom]
  exact if_pos hserve

/-- A result that is a success is delivered as it is. -/
theorem cruRelease_done {u cls : Nat} {j : Job} {d key : List Byte} (hfill : j.fill = none) :
    s.cruRelease u cls false j (pkDone d key) = s.deliver j d 0 := by
  simp [cruRelease, pkDone, St.OK, St.PK_INPUT_REJECTED, hfill]

/-- A rejected input ends the job with its one refusal (R205). -/
theorem cruRelease_reject {u cls : Nat} {j : Job} : s.cruRelease u cls false j pkReject =
    (s.count (cruReg R.CRU_ENDS u) 31 16).failJob j St.PK_INPUT_REJECTED 6 0 0 0 := by
  simp [cruRelease, pkReject, St.OK, St.PK_INPUT_REJECTED, cruFail]

end State
end Sys2Proof.Machine

open Sys2Proof Sys2Proof.Machine

/-- Settles O48: the wipe, the tests and the port's GO by their definitions, a failed test by what fencing the unit keeps. -/
theorem crucibleUnitsTakeWipeAndTest : Obligations.CrucibleUnitsTakeWipeAndTest := by
  intro s rq u v id j d key cls kr k due freed bank s0 e p s1
  refine ⟨fun hst hout => ?duration, fun hst hfw hid hjob => ⟨fun hout hfill => ?done, fun hout => ?reject⟩,
    fun hjob hkind hwait => ?timeout, fun hw hbit => ⟨fun hst => ?test, fun hst => ?later⟩, fun hst => ?passed,
    fun hst hjob hfw => ?failed, fun hw => ⟨fun hbusy => ?busy, fun hidle hno => ?noGo, fun hidle hgo hmode hnone hgood hkey hgate
      hserve => ?go⟩⟩
  case duration => simp only [exec, execCruDurationEnd, show (s.unit u).st = .busy from hst, show (s.unit u).out.isSome from hout,
    and_self, if_true]
  case done =>
    obtain ⟨t, hrun, hunit, hmem, hjobs⟩ := s.exec_cruWipeDone_of_wipe hst hfw hid hjob hout
    exact ⟨t, by rw [hrun, t.cruRelease_done hfill], hunit, hmem, hjobs⟩
  case reject =>
    obtain ⟨t, hrun, hunit, hmem, hjobs⟩ := s.exec_cruWipeDone_of_wipe hst hfw hid hjob hout
    exact ⟨t.count (cruReg R.CRU_ENDS u) 31 16, by rw [hrun, t.cruRelease_reject], hunit, hmem, hjobs⟩
  case timeout => simp only [exec, execCruRngTimeout, hjob, hkind, hwait, and_self, if_true]
  case test =>
    simp only [exec, execSelftest, s.asWrite_of_writable _ _ hw, State.uctrlWrite, hbit, show (s.unit u).st = .idle from hst]
    simp
  case later =>
    have hst : (s.unit u).st = .busy ∨ (s.unit u).st = .leave ∨ (s.unit u).st = .wipe := hst
    simp only [exec, execSelftest, s.asWrite_of_writable _ _ hw, State.uctrlWrite, hbit]
    rcases hst with hst | hst | hst <;> simp [hst]
  case passed => simp only [exec, execCruTestDone, show (s.unit u).st = .test from hst, ne_eq, not_true_eq_false, if_false]
  case failed =>
    obtain ⟨h1, h2, m, h3, h4, h5, h6, h7⟩ := s.unitKatFail_outcome u.isLt cls.isLt hst hjob hfw
    refine ⟨s.unitKatFail u cls, m, ?_, h1, h2, h3, h4, h5, h6, h7⟩
    simp only [exec, execCruTestDone, show (s.unit u).st = .test from hst, ne_eq, not_true_eq_false, if_false]
  case busy =>
    simp only [exec, execCruFwGo, s.asWrite_of_writable _ _ hw, State.fwCmdWrite, hbusy, if_true, Option.getD_none]
  case noGo =>
    simp only [exec, execCruFwGo, s.asWrite_of_writable _ _ hw, State.fwCmdWrite, hidle, hno, Bool.false_eq_true, if_false,
      Bool.not_false, if_true, Option.getD_some]
    rfl
  case go =>
    simp only [exec, execCruFwGo, s.asWrite_of_writable _ _ hw, s.fwCmdWrite_of_go rq hidle hgo hmode, Option.getD_some]
    exact congrArg Host.Outcome.next (State.portGo_of_good s0 bank hnone hgood hkey hgate hserve)
end

section
/-! SUPPORT. General symmetric jobs on a lane (R181-R187): what a whole job without stream or generated IV outputs. -/

namespace Sys2Proof.Machine

namespace State

variable {s : State} {id op n : Nat} {j : Job}

/-- The job a lane runs for an opcode has that opcode. -/
theorem op_of_laneJob (h : s.laneJob id op = some (j, n)) : j.op = op := by
  unfold laneJob at h
  split at h
  · split at h
    next hgo =>
      obtain ⟨rfl, rfl⟩ := Prod.mk.inj (Option.some.inj h)
      exact hgo.1
    next => cases h
  · cases h

/-- A symmetric command whose input has arrived runs its job whole. -/
theorem symCmd_of_fits (h : s.laneJob id op = some (j, n)) (hf : s.fits n (symBlocks j)) (hin : j.inTotal ≤ j.input.length) :
    s.symCmd id op = (s.worked j n (symBlocks j) (symTenths j j.ks.mat.length)).symJob j := by
  simp only [symCmd, h, if_neg (Nat.not_lt.mpr hin), onLane_of_fits _ _ _ _ hf]

theorem putStream_of_none (h : j.stream = none) (s : State) (st : Stream) : s.putStream j st = s := by
  simp only [putStream, h]

end State

variable {j : Job}

/-- The start of a job without stream: its own IV (R188). -/
theorem symStart_of_oneShot (h : oneShot j) (st : Stream) (key : List Byte) : symStart j st key = { st with
    blocks := 0, aad := if j.mode = 3 then j.aadLen else 0
    chain := if j.mode = 3 then ctrAt 4 (gcmJ0 (j.iv key)) 1 else if j.mode = 8 then zeros 16 else j.iv key
    j0 := if j.mode = 3 then gcmJ0 (j.iv key) else []
    ghash := if j.mode = 3 then ghash (aesEnc key (zeros 16)) (zeros 16) j.aad else []
    held := [] } := by
  simp [symStart, h.2.1]

theorem iv_of_oneShot (h : oneShot j) (key : List Byte) : j.iv key =
    if j.mode = 3 then slice j.e0 48 12 else if j.mode = 4 then slice j.e0 48 j.nonceLen else slice j.e0 48 16 := by
  simp [Job.iv, h.1]

theorem ivOut_of_oneShot (h : oneShot j) (key : List Byte) : j.ivOut key = [] := by
  simp [Job.ivOut, h.1]

/-- An encryption or a mode without tag outputs its body and nothing else. -/
theorem symJob_of_plain (s : State) (h : oneShot j) (hmac : j.op ≠ 0x12 ∧ j.op ≠ 0x13)
    (hmode : j.mode = 1 ∨ j.mode = 2 ∨ j.mode = 9) :
    s.symJob j = s.finishOut j (symBody j (symStart j (s.stream j.streamNo) j.ks.mat) j.ks.mat j.pay) := by
  have hwrap : ¬ (j.mode = 5 ∨ j.mode = 6) := by omega
  have htag : ¬ (j.mode = 3 ∨ j.mode = 4) := by omega
  simp [State.symJob, hwrap, htag, hmac, State.putStream_of_none h.2.2.2, ivOut_of_oneShot h]

/-- A job in GCM encrypting outputs its body and its tag block. -/
theorem symJob_of_gcm (s : State) (h : oneShot j) (hop : j.op = 0x10) (hmode : j.mode = 3) :
    let key := j.ks.mat
    let zk := aesEnc key (zeros 16)
    let j0 := gcmJ0 (slice j.e0 48 12)
    let ct := cut j (ctrX key 4 (ctrAt 4 j0 1) j.pay)
    s.symJob j = s.finishOut j (ct ++
      ((xorB (aesEnc key j0) (ghash zk (ghash zk (ghash zk (zeros 16) j.aad) (ct.take j.realLen))
        (lenBlock j.aadLen (ct.take j.realLen).length))).take j.tagLen ++ zeros 16).take 16) := by
  intro key zk j0 ct
  simp [State.symJob, hop, hmode, State.putStream_of_none h.2.2.2, ivOut_of_oneShot h, symStart_of_oneShot h, iv_of_oneShot h,
    symBody, symNext, symTag, h.2.2.1, ct, cut, zk, key, j0]

/-- The CMAC of a job without stream. -/
theorem symTag_of_cmac (h : oneShot j) (hmode : j.mode = 8) (st : Stream) (key p o pt ct : List Byte) :
    symTag j (symStart j st key) (symNext j (symStart j st key) key p o) key pt ct =
      cmacEnd key (cmacRun key (zeros 16) ((p.take j.realLen).take (((p.take j.realLen).length - 1) / 16 * 16)))
        ((p.take j.realLen).drop (((p.take j.realLen).length - 1) / 16 * 16)) := by
  simp [symTag, symNext, symStart_of_oneShot h, hmode]

/-- MAC_VER compares the tag: success without output, or AUTH_FAIL (R187). -/
theorem symJob_of_macVer (s : State) (h : oneShot j) (hop : j.op = 0x13) (hmode : j.mode = 8) :
    s.symJob j =
      if (cmacEnd j.ks.mat (cmacRun j.ks.mat (zeros 16)
          ((j.pay.take j.realLen).take (((j.pay.take j.realLen).length - 1) / 16 * 16)))
          ((j.pay.take j.realLen).drop (((j.pay.take j.realLen).length - 1) / 16 * 16))).take j.tagLen = j.tagIn
      then s.finishOut j [] else s.failJob j St.AUTH_FAIL 6 0 0 0 := by
  simp [State.symJob, hmode, hop, State.putStream_of_none h.2.2.2, h.2.2.1, symTag_of_cmac h hmode]

end Sys2Proof.Machine

open Sys2Proof Sys2Proof.Machine

/-- Settles O41: each command runs its job on the lane; the mode then chooses the transform. -/
theorem symmetricJobsTransformTheirPayload : Obligations.SymmetricJobsTransformTheirPayload := by
  intro s id n j key iv p w zk j0 ct mac hf hin hone
  have hrun (op : Nat) (h : s.laneJob id op = some (j, n)) : s.symCmd id op = w.symJob j := State.symCmd_of_fits h hf hin
  have hchain (st : Stream) (hm : j.mode ≠ 3) (hm4 : j.mode ≠ 4) (hm8 : j.mode ≠ 8) : (symStart j st key).chain = iv := by
    simp [symStart_of_oneShot hone, iv_of_oneShot hone, hm, hm4, hm8, iv]
  have hbody1 (st : Stream) (hm : j.mode = 1) : symBody j (symStart j st key) key p = cut j (ctrX key 4 iv p) := by
    simp only [symBody, hchain st (by omega) (by omega) (by omega), hm, true_or, if_true, cut]
  have hplain (op : Nat) (h : s.laneJob id op = some (j, n)) (hop : op ≠ 0x12 ∧ op ≠ 0x13)
      (hm : j.mode = 1 ∨ j.mode = 2 ∨ j.mode = 9) :
      s.symCmd id op = w.finishOut j (symBody j (symStart j (w.stream j.streamNo) key) key p) :=
    (hrun op h).trans (symJob_of_plain w hone (State.op_of_laneJob h ▸ hop) hm)
  refine ⟨fun h => ⟨fun hm => ?_, fun hm => ?_, fun hm => ?_⟩, fun h => ⟨fun hm => ?_, fun hm => ?_⟩, fun h hm => ?_,
    fun h hm => ⟨fun hsame => ?_, fun hdiff => ?_⟩, fun h hm => ?_, fun h hm => ?_⟩
  · exact congrArg Host.Outcome.next ((hplain _ h (by decide) (.inl hm)).trans (by rw [hbody1 _ hm]))
  · refine congrArg Host.Outcome.next ((hplain _ h (by decide) (.inr (.inl hm))).trans ?_)
    simp [symBody, hchain, hm, State.op_of_laneJob h, cut]
  · exact congrArg Host.Outcome.next ((hrun _ h).trans (symJob_of_gcm w hone (State.op_of_laneJob h) hm))
  · exact congrArg Host.Outcome.next ((hplain _ h (by decide) (.inl hm)).trans (by rw [hbody1 _ hm]))
  · refine congrArg Host.Outcome.next ((hplain _ h (by decide) (.inr (.inl hm))).trans ?_)
    simp [symBody, hchain, hm, State.op_of_laneJob h, cut]
  · refine congrArg Host.Outcome.next ((hrun _ h).trans ?_)
    simp [State.symJob, hm, State.op_of_laneJob h, State.putStream_of_none hone.2.2.2, ivOut_of_oneShot hone, hone.2.2.1,
      symTag_of_cmac hone hm, mac, key, p]
  · exact congrArg Host.Outcome.next ((hrun _ h).trans ((symJob_of_macVer w hone (State.op_of_laneJob h) hm).trans (if_pos hsame)))
  · exact congrArg Host.Outcome.next ((hrun _ h).trans ((symJob_of_macVer w hone (State.op_of_laneJob h) hm).trans (if_neg hdiff)))
  · refine congrArg Host.Outcome.next ((hplain _ h (by decide) (.inr (.inr hm))).trans ?_)
    simp [symBody, hm, State.op_of_laneJob h, cut, iv]
  · refine congrArg Host.Outcome.next ((hplain _ h (by decide) (.inr (.inr hm))).trans ?_)
    simp [symBody, hm, State.op_of_laneJob h, cut, iv]
end

section
/-! SUPPORT. Field frames (R173-R178) and the counter commit (R148, R150). -/

namespace Sys2Proof.Machine.State

variable {s : State}

/-- A header that passes every check of R178. -/
def frameHeaderOk (j : Job) (c : Ctx) : Prop :=
  leAt j.input 0 1 = 1 ∧ leAt j.input 7 1 = 0 ∧ fromBe (slice j.input 2 3) = c.idx ∧ leAt j.input 1 1 = c.suite ∧
    leAt j.input 5 1 = c.kep ∧ 128 ≤ leAt j.input 6 1 ∧
    j.inTotal = 16 + fromBe (slice j.input 14 2) + suiteTag c.suite ∧ fromBe (slice j.input 14 2) ≤ j.outTotal ∧
    j.u 32 1 % 2 = 0

/-- With a good header the tag decides: AUTH_FAIL, or the commit of the counter (R178). -/
theorem openFrame_of_header {j : Job} {c : Ctx} (h : frameHeaderOk j c) (s : State) :
    s.openFrame j c =
      (let f := j.input
       let ctr := fromBe (slice f 8 6)
       let plen := fromBe (slice f 14 2)
       let pt := frameX c.suite c.fkey (frameNonce c.suite c.idx 1 c.kep ctr) (slice f 16 plen)
       if frameTag c.suite c.fkey (frameNonce c.suite c.idx 1 c.kep ctr) (f.take 16) pt (slice f 16 plen) ≠
           slice f (16 + plen) (suiteTag c.suite) then s.failJob j St.AUTH_FAIL 6 0 0 0
       else (s.modJob j.id (fun j => { j with aux := ctr })).openCommit { j with aux := ctr } c ctr pt) := by
  obtain ⟨hver, hres, hidx, hsuite, hkep, hdir, hlen, hout, hhdr⟩ := h
  have hdir' : ¬ leAt j.input 6 1 / 128 = 0 := by omega
  have hhdr' : ¬ j.u 32 1 % 2 = 1 := by omega
  have hout' : ¬ fromBe (slice j.input 14 2) + 0 > j.outTotal := by omega
  unfold openFrame
  simp only [hver, hres, hidx, hsuite, hkep, ← hlen, hdir', hhdr', hout', ne_eq, not_true_eq_false, or_self, if_false,
    List.nil_append]

/-- Whether an earlier commit waits does not depend on the counters jobs hold. -/
theorem commitBusy_modJob_aux (s : State) (j : Job) (c : Ctx) (ctr : Nat) :
    (s.modJob j.id (fun j => { j with aux := ctr })).commitBusy { j with aux := ctr } c = s.commitBusy j c := by
  rw [commitBusy, commitBusy, modJob, List.any_map]
  refine congrArg (fun p => s.jobs.any p) (funext fun x => ?_)
  by_cases hx : x.id = j.id
  · simp [hx]
  · simp [hx]

/-- A counter 64 or more below the mark is a replay (R148). -/
theorem openCommit_of_old {j : Job} {c : Ctx} {v : Nat} {out : List Byte} (hbusy : s.commitBusy j c = false)
    (hdoubt : (s.vslot (s.slotOf c.dom c.idx)).doubt = false) (hold : v + 63 < (s.vslot (s.slotOf c.dom c.idx)).rx) :
    s.openCommit j c v out = s.failJob j St.REPLAY 6 0 0x012D ((s.vslot (s.slotOf c.dom c.idx)).rx % 2 ^ 32) := by
  simp only [openCommit, hbusy, hdoubt, Bool.false_eq_true, false_and, if_false, hold, or_true, if_true]

/-- A value below the durable reservation less half its interval is used at once, without a checkpoint (R150). -/
theorem reserve_of_durable {n v : Nat} (hopen : s.vault.closed = false) (hv : v < (s.vslot n).rxD + (s.vslot n).rxI / 2) :
    s.reserve false n v = (s, .ok) := by
  have hin : ¬ v ≥ (s.vslot n).rxD + (s.vslot n).rxI := by omega
  have hhalf : ¬ v ≥ (s.vslot n).rxD + (s.vslot n).rxI / 2 := by omega
  simp only [reserve, hopen, Bool.false_eq_true, if_false, hin, hhalf, and_false]

/-- The state in which a counter above the mark has become the mark. -/
def marked (s : State) (c : Ctx) (v : Nat) : State :=
  let n := s.slotOf c.dom c.idx
  let t := s.setVslot n { s.vslot n with rx := v, doubt := false }
  { t with ctxs := t.ctxs.map (fun y => if y.dom == c.dom && y.idx == c.idx then
      { y with map := (c.map <<< (v - (s.vslot n).rx)) ||| 1#64 } else y) }

theorem marked_vslot (s : State) (c : Ctx) (v : Nat) : (s.marked c v).vslot (s.slotOf c.dom c.idx) =
    { s.vslot (s.slotOf c.dom c.idx) with rx := v, doubt := false } := Tbl.get_set_self ..

theorem marked_vslot_ne (s : State) (c : Ctx) (v : Nat) {m : Nat} (h : m ≠ s.slotOf c.dom c.idx) :
    (s.marked c v).vslot m = s.vslot m := Tbl.get_set_ne _ _ _ h

/-- A counter above the mark within the durable reservation raises the mark and delivers (R148, R150). -/
theorem openCommit_of_new {j : Job} {c : Ctx} {v : Nat} {out : List Byte} (hbusy : s.commitBusy j c = false)
    (hdoubt : (s.vslot (s.slotOf c.dom c.idx)).doubt = false) (hnew : (s.vslot (s.slotOf c.dom c.idx)).rx < v)
    (hopen : s.vault.closed = false)
    (hv : v < (s.vslot (s.slotOf c.dom c.idx)).rxD + (s.vslot (s.slotOf c.dom c.idx)).rxI / 2) :
    s.openCommit j c v out = (s.marked c v).deliver j out 0 := by
  have hold : ¬ (v = 0 ∨ v + 63 < (s.vslot (s.slotOf c.dom c.idx)).rx) := by omega
  have hseen : ¬ (v ≤ (s.vslot (s.slotOf c.dom c.idx)).rx ∧
      c.map.getLsbD ((s.vslot (s.slotOf c.dom c.idx)).rx - v) = true) := by omega
  simp only [openCommit, hbusy, hdoubt, Bool.false_eq_true, false_and, if_false, hold, hseen, reserve_of_durable hopen hv,
    gt_iff_lt, hnew, if_true]
  rfl

end Sys2Proof.Machine.State

open Sys2Proof Sys2Proof.Machine

/-- Settles O40: the tag decides after a good header; the commit then judges the counter against the mark. -/
theorem fieldFramesAreSealedAndOpened : Obligations.FieldFramesAreSealedAndOpened := by
  intro s id n j c t f ctr plen pt good v x w hctx
  refine ⟨fun hj hf => ?sealing, fun hj hf h1 h2 h3 h4 h5 h6 h7 h8 h9 => ?opening⟩
  case sealing =>
    simp only [exec, execSealFrame, hj, hctx, State.onLane_of_fits _ _ _ _ hf]
    rfl
  case opening =>
    have hhead : State.frameHeaderOk j c := ⟨h1, h2, h3, h4, h5, h6, h7, h8, h9⟩
    have hrun : exec (.openFrame id) s = .next (if ¬good then w.failJob j St.AUTH_FAIL 6 0 0 0 else
        (w.modJob j.id (fun j => { j with aux := ctr })).openCommit { j with aux := ctr } c ctr pt) := by
      simp only [exec, execOpenFrame, hj, hctx]
      exact congrArg Host.Outcome.next ((State.onLane_of_fits _ _ _ _ hf).trans (State.openFrame_of_header hhead w))
    refine ⟨fun hbad => hrun.trans (congrArg _ (if_pos hbad)), fun hgood hdoubt hbusy => ?_⟩
    rw [if_neg (not_not_intro hgood)] at hrun
    have hbusy' : (w.modJob j.id (fun j => { j with aux := ctr })).commitBusy { j with aux := ctr } c = false :=
      (w.commitBusy_modJob_aux j c ctr).trans hbusy
    obtain ⟨u, hu, hvslots, hbinds, hctxs, hclosed, hmem⟩ : ∃ u : State, w.modJob j.id (fun j => { j with aux := ctr }) = u ∧
        u.vslots = s.vslots ∧ u.binds = s.binds ∧ u.ctxs = s.ctxs ∧ u.vault = s.vault ∧ u.mem = s.mem :=
      ⟨_, rfl, rfl, rfl, rfl, rfl, rfl⟩
    rw [hu] at hrun hbusy'
    have hv : u.slotOf c.dom c.idx = v := by rw [State.slotOf, State.bind, hbinds]; rfl
    have hx : u.vslot (u.slotOf c.dom c.idx) = x := by rw [hv, State.vslot, hvslots]; rfl
    refine ⟨fun hold => ⟨u, ?_, hvslots, hctxs, hmem⟩, fun hnew hroom hopen => ⟨u.marked c ctr, ?_, ?_, fun m hm => ?_, hmem⟩⟩
    · rw [hrun, State.openCommit_of_old hbusy' (hx ▸ hdoubt) (hx ▸ hold), hx]
    · rw [hrun, State.openCommit_of_new hbusy' (hx ▸ hdoubt) (hx ▸ hnew) (hclosed ▸ hopen) (hx ▸ hroom)]
    · rw [← hv]
      exact congrArg VSlot.rx (u.marked_vslot c ctr)
    · rw [u.marked_vslot_ne c ctr (hv ▸ hm), State.vslot, hvslots]
      rfl
end

section
/-! SUPPORT. The reader protocol of the tag (R346-R350). -/

namespace Sys2Proof.Machine.State

variable {s : State}

/-- With no clock awaited a frame of the lower layers is sent (R443). -/
theorem sendFrame_of_clock (h : s.clk.waiting = false) (f : List Byte) : s.sendFrame f = { s with tag := { s.tag with tx := f } } := by
  simp [sendFrame, h]

/-- With nobody waiting for the store nothing is served. -/
theorem tagServe_of_none (hheld : s.tag.held = none) (hhost : s.tag.hostQ = []) (hcred : s.tag.credOp = none) :
    s.tagServe = s := by
  simp only [tagServe, tagNext, hheld, hhost, hcred]
  split
  · rfl
  · rfl

/-- An event of the tag changes its header alone. -/
theorem tagEvent_keeps (s : State) (n : Nat) : (s.tagEvent n).tag = s.tag ∧ (s.tagEvent n).mem = s.mem ∧
    (s.tagEvent n).jobs = s.jobs ∧ (s.tagEvent n).clk = s.clk ∧ (s.tagEvent n).slots = s.slots := by
  unfold tagEvent
  split
  · exact ⟨rfl, rfl, rfl, rfl, rfl⟩
  · exact ⟨rfl, rfl, rfl, rfl, rfl⟩

/-- On main power an event is counted in the header. -/
theorem tagEvent_of_main (h : s.fieldPower = false) (n : Nat) : s.tagEvent n = s.event Blk.TAG 0 n := by
  simp [tagEvent, h]

theorem tagEvent_of_field (h : s.fieldPower = true) (n : Nat) : s.tagEvent n = s := by simp [tagEvent, h]

theorem mode_ne_backup_of_main (h : s.fieldPower = false) : s.mode ≠ .backup := by
  intro hm
  simp [fieldPower, hm] at h

/-- The field's loss erases everything volatile of the tag (R349). -/
theorem tagOff_lost (s : State) : s.tagOff.tag.field = false ∧ s.tagOff.tag.proto = 0 ∧
    s.tagOff.tag.access = 0 ∧ s.tagOff.tag.held = none ∧ s.tagOff.tag.ksEnc = [] ∧ s.tagOff.tag.ksMac = [] ∧
    s.tagOff.tag.rndB = none ∧ s.tagOff.tag.ctr = none ∧ s.tagOff.tag.tx = [] ∧ s.tagOff.tag.hostQ = s.tag.hostQ ∧
    s.tagOff.tag.credOp = s.tag.credOp ∧ s.tagOff.mem = s.mem ∧ s.tagOff.jobs = s.jobs :=
  ⟨rfl, rfl, rfl, rfl, rfl, rfl, rfl, rfl, rfl, rfl, rfl, rfl, rfl⟩

end Sys2Proof.Machine.State

open Sys2Proof Sys2Proof.Machine

/-- Settles O53: each frame by the state that expects it; the field's loss by what `tagOff` erases. -/
theorem tagProtocolStates : Obligations.TagProtocolStates := by
  intro s cl2 n v dr ds
  dsimp only
  refine ⟨fun hoff hmain => ?on, fun hoff hmode => ?backup, fun hon hcommit hhost hcred => ?lost, fun hp => ?guardEnd,
    fun hclk => ⟨fun hp => ?reqa, fun hp => ?wupa, fun hp hl => ⟨fun hv => ?bits, fun hv => ?silent, ?cascade⟩,
      fun hp hl4 => ?rats, fun hl4 hpps hdr hds => ?pps, fun hl4 => ?deselect⟩,
    fun hp hl4 => ?hlta, fun hp => ?bad, fun hp => ?halted⟩
  case on =>
    have hfield : ({ s with tag := { s.tag with field := true, proto := 1 } } : State).fieldPower = false := hmain
    simp only [exec, execFieldOn, hoff, Bool.false_eq_true, if_false,
      if_neg (State.mode_ne_backup_of_main hmain)]
    exact congrArg Host.Outcome.next (State.tagEvent_of_main hfield 2)
  case backup =>
    simp only [exec, execFieldOn, hoff, Bool.false_eq_true, if_false, hmode, if_true]
    exact congrArg Host.Outcome.next (State.tagEvent_of_field rfl 2)
  case lost =>
    obtain ⟨h1, h2, h3, h4, h5, h6, h7, h8, h9, h10, h11, h12, h13⟩ := s.tagOff_lost
    obtain ⟨htag, hmem, hjobs, -, -⟩ := s.tagOff.tagEvent_keeps 3
    refine ⟨{ s.tagOff.tagEvent 3 with mode := if (s.tagOff.tagEvent 3).mode = .field then .backup else (s.tagOff.tagEvent 3).mode },
      ?_, ?_, ?_, ?_, ?_, ?_, ?_, ?_, ?_, ?_, hmem.trans h12, hjobs.trans h13⟩
    case refine_1 =>
      simp only [exec, execFieldLost, hon, Bool.not_true, Bool.false_eq_true, if_false]
      refine congrArg Host.Outcome.next (State.tagServe_of_none ?_ ?_ ?_)
      · rw [htag]; exact h4
      · rw [htag]; exact h10.trans hhost
      · rw [htag]; exact h11.trans hcred
    all_goals rw [htag]; assumption
  case guardEnd => simp only [exec, execGuardEnd, hp, if_true]
  case reqa =>
    simp only [exec, execReqa, hp, if_true, State.tagReady]
    exact congrArg Host.Outcome.next (State.sendFrame_of_clock (by exact hclk) _)
  case wupa =>
    simp only [exec, execWupa, hp, or_true, if_true, State.tagReady]
    exact congrArg Host.Outcome.next (State.sendFrame_of_clock (by exact hclk) _)
  case bits =>
    simp only [exec, execAnticollision, hp, hl, and_self, if_true,
      if_pos hv, State.sendFrame_of_clock hclk]
  case silent =>
    simp only [exec, execAnticollision, hp, hl, and_self, if_true,
      if_neg hv]
  case cascade =>
    simp only [exec, execSelectCascade, hp, hl, and_self, if_true]
    cases cl2 with
    | true => exact congrArg Host.Outcome.next (State.sendFrame_of_clock (by exact hclk) _)
    | false => exact congrArg Host.Outcome.next (State.sendFrame_of_clock (by exact hclk) _)
  case rats =>
    simp only [exec, execRats, hp, hl4, Bool.not_false, and_self, if_true]
    exact congrArg Host.Outcome.next (State.sendFrame_of_clock (by exact hclk) _)
  case pps =>
    simp only [exec, execPps, hl4, hpps, hdr, hds, and_self, if_true]
    exact congrArg Host.Outcome.next (State.sendFrame_of_clock (by exact hclk) _)
  case deselect =>
    refine ⟨{ s.tagIdle with tag := { s.tagIdle.tag with proto := 5, tx := [0xC2] } }, ?_, rfl, rfl, rfl, rfl, rfl, rfl⟩
    simp only [exec, execDeselect, hl4, if_true]
    exact congrArg Host.Outcome.next (State.sendFrame_of_clock (by exact hclk) _)
  case hlta => simp only [exec, execHlta, hp, hl4, Bool.not_false, and_self,
    if_true]
  case bad => simp only [exec, execTagBadFrame, State.tagDrop, hp, true_or, if_true]
  case halted =>
    simp [exec, execReqa, State.tagDrop, hp]
end

section
/-! SUPPORT. APDUs of the reader (R352-R358): the bar that applies, the answer, the commit. -/

namespace Sys2Proof.Machine.State

/-- The state an APDU finds: PPS is no longer accepted. -/
def noPps (s : State) : State := { s with tag := { s.tag with pps := false } }

section
variable (s : State)

@[simp] theorem bytes_noPps (a n : Nat) : s.noPps.bytes a n = s.bytes a n := by
  induction n generalizing a with
  | zero => rfl
  | succ n ih => exact congrArg (s.byte a :: ·) (ih (a + 1))
@[simp] theorem curAddr_noPps (r : Nat) : s.noPps.curAddr r = s.curAddr r := rfl
@[simp] theorem cred_noPps (o n : Nat) : s.noPps.cred o n = s.cred o n := by simp only [cred, curAddr_noPps, bytes_noPps]
@[simp] theorem record_noPps (r : Nat) : s.noPps.record r = s.record r := by simp only [record, curAddr_noPps, bytes_noPps]
@[simp] theorem credBlank_noPps : s.noPps.credBlank = s.credBlank := by simp only [credBlank, cred_noPps]
@[simp] theorem kTag_noPps : s.noPps.kTag = s.kTag := by simp only [kTag, curAddr_noPps, bytes_noPps, credBlank_noPps]
@[simp] theorem mirList_noPps : s.noPps.mirList = s.mirList := rfl
@[simp] theorem uid_noPps : s.noPps.uid = s.uid := by simp only [uid, serial, bytes_noPps]
@[simp] theorem storeBytes_noPps (o n : Nat) : s.noPps.storeBytes o n = s.storeBytes o n := rfl
@[simp] theorem writeRecs_noPps (o : Nat) (d : List Byte) : s.noPps.writeRecs o d = s.writeRecs o d := by
  simp only [writeRecs, record_noPps]
@[simp] theorem ticketLen_noPps : s.noPps.ticketLen = s.ticketLen := by 
  simp only [ticketLen, curAddr_noPps, bytes_noPps]
@[simp] theorem fieldPower_noPps : s.noPps.fieldPower = s.fieldPower := rfl
@[simp] theorem statusBytes_noPps : s.noPps.statusBytes = s.statusBytes := by
  simp only [statusBytes, ticketLen_noPps]
  rfl
@[simp] theorem identityNow_noPps : s.noPps.identityNow = s.identityNow := by
  simp only [identityNow, serial, bytes_noPps]
  rfl

@[simp] theorem apduBar_noPps (a : Apdu) : s.noPps.apduBar a = s.apduBar a := by
  simp only [apduBar, cred_noPps, credBlank_noPps, kTag_noPps, mirList_noPps]
  rfl

/-- A command the tag takes in the plain: none of the protected classes. -/
def plainCla (cla ins : Nat) : Prop :=
  (cla = 0 ∧ (ins = 0xA4 ∨ ins = 0xB0 ∨ ins = 0xD6)) ∨ (cla = 0x80 ∧ ins ≠ 0xA4 ∧ ins ≠ 0xB0 ∧ ins ≠ 0xD6) ∨
    (cla = 0x90 ∧ ins = 0xE0)

theorem claOk_of_plain {a : Apdu} (h : plainCla a.cla a.ins) : s.claOk a = true := by
  rcases h with ⟨hc, hi | hi | hi⟩ | ⟨hc, h1, h2, h3⟩ | ⟨hc, hi⟩
  all_goals simp [claOk, *]

variable (hl4 : s.tagL4 = true) (hcommit : s.tag.commit = none)

include hl4 hcommit in
/-- An APDU that layer 4 may take runs at once while nobody has the store. -/
theorem apduIn_of_free (a : Apdu) : s.apduIn a = s.noPps.apduRun a := by
  have hno : s.tag.commit.isSome = false := by simp [hcommit]
  simp only [apduIn, hl4, if_true, hno, Bool.false_eq_true, if_false]
  rfl

variable (hacc : s.tag.access ≠ 3) (hclk : s.clk.waiting = false) (hfield : s.tag.field = true)

include hl4 hcommit hacc in
/-- A plain command that nothing of R354 bars is done. -/
theorem apduIn_of_unbarred {a : Apdu} (hins : tagIns a.ins = true) (hcla : plainCla a.cla a.ins) (hbar : s.apduBar a = 0) :
    s.apduIn a = s.noPps.apduDo a := by
  have hacc' : s.noPps.tag.access ≠ 3 := hacc
  simp [s.apduIn_of_free hl4 hcommit, apduRun, hins, claOk_of_plain _ hcla, hbar, unwrapApdu, hacc']

include hacc hclk hfield in
/-- Outside a session an answer is its data and status word, in the clear (R357). -/
theorem answer_plain (sw : Nat) (data : List Byte) :
    s.answer sw data = { s with tag := { s.tag with tx := data ++ beBytes 2 sw } } := by
  simp [answer, hacc, hclk, hfield]

/-- From `s` to `t` the reader was answered with `l` and nothing else happened outside the tag. -/
structure Sent (s t : State) (l : List Byte) : Prop where
  tx : t.tag.tx = l
  commit : t.tag.commit = none
  mem : t.mem = s.mem
  jobs : t.jobs = s.jobs
  slots : t.slots = s.slots

/-- An answer in a state that keeps what the reader cannot change. -/
theorem sent_of_answer_of {u : State} (hu : u.tag.commit = none) (ha : u.tag.access ≠ 3) (hc : u.clk.waiting = false)
    (hf : u.tag.field = true) (hmem : u.mem = s.mem) (hjobs : u.jobs = s.jobs) (hslots : u.slots = s.slots) (sw : Nat)
    (data : List Byte) : Sent s (u.answer sw data) (data ++ beBytes 2 sw) := by
  rw [answer_plain u ha hc hf]
  exact ⟨rfl, hu, hmem, hjobs, hslots⟩

include hcommit hacc hclk hfield in
/-- The plain answer of a command. -/
theorem sent_of_answer (sw : Nat) (data : List Byte) : Sent s (s.noPps.answer sw data) (data ++ beBytes 2 sw) :=
  s.sent_of_answer_of (u := s.noPps) hcommit hacc hclk hfield rfl rfl rfl sw data

include hl4 hcommit in
/-- A SELECT of an application that is not offered is answered so (R352). -/
theorem apduIn_of_noApp {a : Apdu} (hins : a.ins = 0xA4) (hcla : a.cla = 0) (hbar : s.apduBar a = 0x6A82) :
    s.apduIn a = s.noPps.answer 0x6A82 [] := by
  simp [s.apduIn_of_free hl4 hcommit, apduRun, hins, tagIns, s.noPps.claOk_of_plain (a := a) (.inl ⟨hcla, .inl hins⟩), hcla, hbar]

include hl4 hcommit hacc in
/-- A barred GET STATUS is answered with the status word that applies first (R354). -/
theorem apduIn_of_barred {a : Apdu} (hins : a.ins = 0x12) (hcla : a.cla = 0x80) (hbar : s.apduBar a ≠ 0) :
    s.apduIn a = ({ s.noPps with tag := { s.noPps.tag with
      chain := if s.apduBar a = 0x6883 then none else s.noPps.tag.chain } } : State).answer (s.apduBar a) [] := by
  have hacc' : s.noPps.tag.access ≠ 3 := hacc
  have hplain : s.noPps.claOk a = true := s.noPps.claOk_of_plain (.inr (.inl ⟨hcla, by omega, by omega, by omega⟩))
  have hrun : s.apduIn a = (if s.apduBar a = 0x6883 then { s.noPps with tag := { s.noPps.tag with chain := none } }
      else s.noPps).answer (s.apduBar a) [] := by
    simp [s.apduIn_of_free hl4 hcommit, apduRun, hins, tagIns, hplain, hbar, unwrapApdu, hacc']
  rw [hrun]
  (repeat' split) <;> rfl

/-- The host job that has the store once a commit of `w` is begun. -/
def commitHost (w : TagWho) : Option Nat :=
  match w with
  | .host id => some id
  | _ => s.tag.hostOn

theorem startCommit_eq (w : TagWho) (l : List (Nat × List Byte)) : s.startCommit w l =
    if l.isEmpty then (s.afterCommit w).1
    else if s.fieldPower && !s.tag.cfld then ({ s with tag := { s.tag with
      commit := some ⟨w, l, s.fieldPower && !s.tag.cfld⟩, hostOn := s.commitHost w } } : State).sendFrame tagWtx
    else { s with tag := { s.tag with commit := some ⟨w, l, s.fieldPower && !s.tag.cfld⟩, hostOn := s.commitHost w } } := rfl

/-- A commit that changes a byte is begun, or waits for its energy (R362). -/
theorem startCommit_of_some (w : TagWho) {l : List (Nat × List Byte)} (hl : l ≠ []) :
    (s.startCommit w l).tag.commit = some ⟨w, l, s.fieldPower && !s.tag.cfld⟩ ∧ (s.startCommit w l).mem = s.mem ∧
      (s.startCommit w l).jobs = s.jobs := by
  have hsome : ¬ l.isEmpty = true := by simpa using hl
  have hframe (u : State) : (u.sendFrame tagWtx).tag.commit = u.tag.commit ∧ (u.sendFrame tagWtx).mem = u.mem ∧
      (u.sendFrame tagWtx).jobs = u.jobs := by
    unfold sendFrame
    split
    · exact ⟨rfl, rfl, rfl⟩
    · exact ⟨rfl, rfl, rfl⟩
  have hu : ({ s with tag := { s.tag with
      commit := some ⟨w, l, s.fieldPower && !s.tag.cfld⟩, hostOn := s.commitHost w } } : State).tag.commit =
      some ⟨w, l, s.fieldPower && !s.tag.cfld⟩ := rfl
  rw [startCommit_eq, if_neg hsome]
  generalize hv : ({ s with tag := { s.tag with
      commit := some ⟨w, l, s.fieldPower && !s.tag.cfld⟩, hostOn := s.commitHost w } } : State) = u at *
  have hmem : u.mem = s.mem := by rw [← hv]
  have hjobs : u.jobs = s.jobs := by rw [← hv]
  split
  · obtain ⟨h1, h2, h3⟩ := hframe u
    exact ⟨h1.trans hu, h2.trans hmem, h3.trans hjobs⟩
  · exact ⟨hu, hmem, hjobs⟩

/-- The state in which a ticket's commands no longer gather (R365). -/
def noChain : State := { s.noPps with tag := { s.noPps.tag with chain := none } }

theorem writeRecs_noChain (o : Nat) (d : List Byte) : s.noChain.writeRecs o d = s.writeRecs o d := by
  have hbytes (a n : Nat) : s.noChain.bytes a n = s.bytes a n := by
    induction n generalizing a with
    | zero => rfl
    | succ n ih => exact congrArg (s.byte a :: ·) (ih (a + 1))
  have hrecord (r : Nat) : s.noChain.record r = s.record r := by
    rw [record, hbytes]
    rfl
  simp only [writeRecs, hrecord]

theorem apduDo_auth1 {a : Apdu} {k : List Byte} (hins : a.ins = 0xA0) (hk : s.kTag = some k) : s.apduDo a = s.auth1 k := by
  simp [apduDo, hins, hk]

theorem apduDo_auth2 {a : Apdu} {k b : List Byte} (hins : a.ins = 0xA2) (hk : s.kTag = some k) (hb : s.tag.rndB = some b) :
    s.apduDo a = s.auth2 k b a.data := by
  simp [apduDo, hins, hk, hb]

include hacc hclk hfield in
/-- A proof that matches opens an authenticated session under derived keys (R356). -/
theorem auth2_of_match {k b d : List Byte} (hm : d.drop 16 = cmac k ([0x52] ++ s.uid ++ b ++ d.take 16)) :
    s.auth2 k b d = { s with tag := { s.tag with
      rndB := none, tx := cmac k ([0x54] ++ s.uid ++ d.take 16 ++ b) ++ beBytes 2 0x9000, access := 3, cc := 0
      ksEnc := kdf k "ESN-TAG-ENC" (d.take 16 ++ b) 16, ksMac := kdf k "ESN-TAG-MAC" (d.take 16 ++ b) 16 } } := by
  have hno : ¬ (d.drop 16 ≠ cmac k ([0x52] ++ s.uid ++ b ++ d.take 16)) := not_not_intro hm
  have hanswer := answer_plain { s with tag := { s.tag with rndB := none } } hacc hclk hfield 0x9000
    (cmac k ([0x54] ++ s.uid ++ d.take 16 ++ b))
  simp only [auth2]
  rw [if_neg hno, hanswer]

include hacc hclk hfield in
/-- A proof that does not match is answered 63 00 and the challenge is gone (R356). -/
theorem auth2_of_wrong {k b d : List Byte} (hm : d.drop 16 ≠ cmac k ([0x52] ++ s.uid ++ b ++ d.take 16)) :
    ∃ t, s.auth2 k b d = t ∧ t.tag.tx = [0x63, 0x00] ∧ t.tag.rndB = none ∧ t.tag.access = s.tag.access ∧ t.mem = s.mem := by
  obtain ⟨u, hu, htag, hmem, hclk'⟩ : ∃ u : State, (({ s with tag := { s.tag with rndB := none } } : State).count R.TAG_AFAIL 15 0) = u ∧
      u.tag = { s.tag with rndB := none } ∧ u.mem = s.mem ∧ u.clk = s.clk := ⟨_, rfl, rfl, rfl, rfl⟩
  obtain ⟨hetag, hemem, -, heclk, -⟩ := u.tagEvent_keeps 6
  have hanswer := answer_plain (u.tagEvent 6) (by rw [hetag, htag]; exact hacc) (by rw [heclk, hclk']; exact hclk)
    (by rw [hetag, htag]; exact hfield) 0x6300 []
  refine ⟨_, rfl, ?_⟩
  simp only [auth2]
  rw [if_pos hm, hu, hanswer]
  exact ⟨rfl, (congrArg Tag.rndB (hetag.trans htag)).trans rfl, (congrArg Tag.access (hetag.trans htag)).trans rfl, hemem.trans hmem⟩

include hl4 hcommit hclk in
/-- An instruction the tag does not know is answered 6D 00 (R354). -/
theorem badIns_of_unknown {a : Apdu} (hcla : a.cla = 0x80) (hins : tagIns a.ins = false) :
    s.badIns a = { s.noPps with tag := { s.noPps.tag with chain := none, tx := [0x6D, 0x00] } } := by
  have hgo : s.badIns a = s.apduIn a := by simp [badIns, hins]
  rw [hgo, s.apduIn_of_free hl4 hcommit]
  simp only [apduRun, hins, hcla]
  exact sendFrame_of_clock (by exact hclk) _

include hl4 hcommit hclk in
/-- In a session a command too short for its MAC ends the session (R357). -/
theorem apduIn_of_short {a : Apdu} (hacc : s.tag.access = 3) (hins : a.ins = 0x12) (hcla : a.cla = 0x84)
    (hd : a.data.length < 8) : s.apduIn a = { s.noPps.tagUnkey with tag := { s.noPps.tagUnkey.tag with tx := [0x69, 0x88] } } := by
  have hacc' : s.noPps.tag.access = 3 := hacc
  have hrun : s.noPps.apduRun a = s.noPps.tagUnkey.sendFrame [0x69, 0x88] := by
    simp [apduRun, hins, tagIns, claOk, hcla, hacc', unwrapApdu, hd]
  rw [s.apduIn_of_free hl4 hcommit, hrun]
  exact sendFrame_of_clock (by exact hclk) _

/-- The state in which AUTH1 has drawn its challenge (R356). -/
def challenged (k : List Byte) : State :=
  { s with tag := { s.tag with
    ctr := some (s.tag.ctr.getD (s.cred 28 8) + 1)
    rndB := some (aesEnc k (beBytes 16 (s.tag.ctr.getD (s.cred 28 8)))) } }

theorem auth1_of_reserved (k : List Byte) (h : s.tag.ctr.getD (s.cred 28 8) + 512 < s.cred 28 8) :
    s.auth1 k = (s.challenged k).answer 0x9000 (aesEnc k (beBytes 16 (s.tag.ctr.getD (s.cred 28 8)))) := by
  rw [auth1]
  exact if_neg (by omega)

theorem auth1_of_used (k : List Byte) (h : s.cred 28 8 ≤ s.tag.ctr.getD (s.cred 28 8) + 512) :
    s.auth1 k = (s.challenged k).startCommit .auth1
      [(15, overlay (s.record 15) (leBytes 8 (s.cred 28 8 + 1024)) 28)] := by
  have hbytes (a n : Nat) : (s.challenged k).bytes a n = s.bytes a n := by
    induction n generalizing a with
    | zero => rfl
    | succ n ih => exact congrArg (s.byte a :: ·) (ih (a + 1))
  have hrecord : (s.challenged k).record 15 = s.record 15 := by
    rw [record, hbytes]
    rfl
  rw [auth1, ← hrecord]
  exact if_pos h

/-- READ TAMPER of entries asks at least one whole entry. -/
theorem le_ne_zero_of_readTamper {cla p : Nat} {d : List Byte} {le : Nat} (hp : p ≠ 0)
    (hbar : s.apduBar ⟨cla, 0x14, p, d, le⟩ = 0) : le ≠ 0 := by
  rintro rfl
  revert hbar
  unfold apduBar
  simp [hp]
  (repeat' split) <;> simp

end

end Sys2Proof.Machine.State

open Sys2Proof Sys2Proof.Machine

/-- Settles O54: a command that nothing bars is done as its instruction says; the bar's status word answers any other. -/
theorem tagApplicationCommands : Obligations.TagApplicationCommands := by
  intro s p d k b le r g n sent ok bar commits c ra hl4 hcommit hclk hfield hchain
  have hsent (i : Instr) (t : State) (l : List Byte) (hrun : exec i s = .next t) (h : State.Sent s t l) : sent i l :=
    ⟨t, hrun, h.tx, h.commit, h.mem, h.jobs, h.slots⟩
  have hdo (i : Instr) (cla : Byte) (ins : Nat) (hrun : exec i s = .next (s.apduIn ⟨cla.toNat, ins, p.toNat, d, le⟩))
      (hins : tagIns ins = true) (hcla : State.plainCla cla.toNat ins) (hacc : s.tag.access ≠ 3)
      (hb : s.apduBar ⟨cla.toNat, ins, p.toNat, d, le⟩ = 0) :
      exec i s = .next (s.noPps.apduDo ⟨cla.toNat, ins, p.toNat, d, le⟩) :=
    hrun.trans (congrArg _ (s.apduIn_of_unbarred hl4 hcommit hacc hins hcla hb))
  refine ⟨fun hacc => ⟨fun hb => ?select, fun hb => ?noApp, fun hb hp => ?identity, fun hb hp => ?fieldIdentity, fun hb => ?status,
    fun hb => ?barred, fun hb hp => ?summary, fun hb hp => ?mirror, fun hb => ?read, fun hb hw => ?same, fun hb hw => ?update,
    fun hb => ?chain, fun hb hw => ?ticket, fun hb => ?password, fun hb hk => ⟨fun hc => ?challenge, fun hc => ?reserve⟩,
    fun hb hk hr => ⟨fun hm => ?proof, fun hm => ?wrong⟩, fun hb hr => ?faults, fun ins hins => ?unsupported⟩,
    fun hacc hd => ?protect⟩
  case select =>
    refine ⟨_, hdo _ 0 0xA4 rfl rfl (by simp [State.plainCla]) hacc hb, ?_⟩
    simp only [State.apduDo, State.answer_plain s.noPps hacc hclk hfield, if_true]
    exact ⟨rfl, rfl, rfl, rfl, rfl, rfl⟩
  case noApp =>
    exact hsent _ _ _ (congrArg Host.Outcome.next (s.apduIn_of_noApp hl4 hcommit rfl rfl hb))
      (s.sent_of_answer hcommit hacc hclk hfield 0x6A82 [])
  case identity =>
    refine hsent _ _ _ (hdo _ 0x80 0x10 rfl rfl (by simp [State.plainCla]) hacc hb) ?_
    simp only [State.apduDo, State.fieldPower_noPps, hp]
    exact s.sent_of_answer hcommit hacc hclk hfield 0x9000 _
  case fieldIdentity =>
    refine hsent _ _ _ (hdo _ 0x80 0x10 rfl rfl (by simp [State.plainCla]) hacc hb) ?_
    simp only [State.apduDo, State.fieldPower_noPps, hp]
    exact s.sent_of_answer hcommit hacc hclk hfield 0x9000 _
  case status =>
    refine hsent _ _ _ (hdo _ 0x80 0x12 rfl rfl (by simp [State.plainCla]) hacc hb) ?_
    simp only [State.apduDo, State.statusBytes_noPps]
    exact s.sent_of_answer hcommit hacc hclk hfield 0x9000 _
  case barred =>
    exact hsent _ _ _ (congrArg Host.Outcome.next (s.apduIn_of_barred hl4 hcommit hacc rfl rfl hb))
      (by
        refine s.sent_of_answer_of ?_ ?_ ?_ ?_ ?_ ?_ ?_ _ []
        · exact hcommit
        · exact hacc
        · exact hclk
        · exact hfield
        all_goals rfl)
  case summary =>
    refine hsent _ _ _ (hdo _ 0x80 0x14 rfl rfl (by simp [State.plainCla]) hacc hb) ?_
    have hp0 : p.toNat = 0 := by rw [hp]; rfl
    simp only [State.apduDo, hp0]
    have hsummary (u : State) (t : Nat) (hu : u = { s.noPps with fresh := s.fresh + 1, rtc := t }) :
        State.Sent s (u.answer 0x9000 (u.tamperSummary t)) (u.tamperSummary t ++ beBytes 2 0x9000) := by
      subst hu
      refine s.sent_of_answer_of ?_ ?_ ?_ ?_ ?_ ?_ ?_ 0x9000 _
      · exact hcommit
      · exact hacc
      · exact hclk
      · exact hfield
      all_goals rfl
    exact hsummary _ _ rfl
  case mirror =>
    refine hsent _ _ _ (hdo _ 0x80 0x14 rfl rfl (by simp [State.plainCla]) hacc hb) ?_
    have hp0 : p.toNat ≠ 0 := fun h => hp (BitVec.eq_of_toNat_eq h)
    have hn : n = le.val := if_neg (s.le_ne_zero_of_readTamper hp0 hb)
    simp only [State.apduDo, hp0, State.mirList_noPps, State.bytes_noPps, hn]
    exact s.sent_of_answer hcommit hacc hclk hfield 0x9000 _
  case read =>
    refine hsent _ _ _ (hdo _ 0 0xB0 rfl rfl (by simp [State.plainCla]) hacc hb) ?_
    simp only [State.apduDo, State.storeBytes_noPps]
    exact s.sent_of_answer hcommit hacc hclk hfield 0x9000 _
  case same =>
    refine hsent _ _ _ (hdo _ 0 0xD6 rfl rfl (by simp [State.plainCla]) hacc hb) ?_
    simp only [State.apduDo, State.writeRecs_noPps, hw]
    exact s.sent_of_answer hcommit hacc hclk hfield 0x9000 _
  case update =>
    have hrun := hdo (.updateBinary 0 p d le) 0 0xD6 rfl rfl (by simp [State.plainCla]) hacc hb
    simp only [State.apduDo, State.writeRecs_noPps] at hrun
    obtain ⟨h1, h2, h3⟩ := s.noPps.startCommit_of_some .update hw
    exact ⟨_, hrun, h1, h2, h3⟩
  case chain =>
    have hrun := hdo (.putTicket 0x90 p d le) 0x90 0xE0 rfl rfl (by simp [State.plainCla]) hacc hb
    have hnone : s.noPps.tag.chain = none := hchain
    simp [State.apduDo, hnone] at hrun
    refine ⟨_, hrun, ?_⟩
    rw [State.answer_plain _ (by exact hacc) (by exact hclk) (by exact hfield)]
    exact ⟨rfl, rfl, rfl⟩
  case ticket =>
    have hrun := hdo (.putTicket 0x80 p d le) 0x80 0xE0 rfl rfl (by simp [State.plainCla]) hacc hb
    have hnone : s.noPps.tag.chain = none := hchain
    have hdone : s.noPps.apduDo ⟨(0x80 : Byte).toNat, 0xE0, p.toNat, d, le⟩ = s.noChain.startCommit .ticket
        (s.writeRecs 14336 (leBytes 2 d.length ++ d)) := by
      rw [← s.writeRecs_noChain]
      simp [State.apduDo, hnone]
      rfl
    rw [hdone] at hrun
    obtain ⟨h1, h2, h3⟩ := s.noChain.startCommit_of_some .ticket hw
    exact ⟨_, hrun, h1, h2, h3⟩
  case password =>
    have hrun := hdo (.password 0x80 p d le) 0x80 0x20 rfl rfl (by simp [State.plainCla]) hacc hb
    simp only [State.apduDo, State.bytes_noPps, State.curAddr_noPps, State.record_noPps, State.cred_noPps] at hrun
    obtain ⟨h1, h2, h3⟩ := s.noPps.startCommit_of_some (.pwTry (d == s.bytes (s.curAddr 15 + 4) 8))
      (l := [(15, overlay (s.record 15) [BitVec.ofNat 8 (s.cred 2 1 + 1)] 2)]) (by simp)
    exact ⟨_, hrun, h1, h2, h3⟩
  case challenge =>
    have hrun := hdo (.auth1 0x80 p d le) 0x80 0xA0 rfl rfl (by simp [State.plainCla]) hacc hb
    rw [s.noPps.apduDo_auth1 rfl ((s.kTag_noPps).trans hk)] at hrun
    have hctr : s.noPps.tag.ctr.getD (s.noPps.cred 28 8) = c := congrArg s.tag.ctr.getD (s.cred_noPps 28 8)
    have hlow : s.noPps.tag.ctr.getD (s.noPps.cred 28 8) + 512 < s.noPps.cred 28 8 := by rw [hctr, State.cred_noPps]; exact hc
    refine ⟨_, hrun.trans (congrArg Host.Outcome.next (s.noPps.auth1_of_reserved k hlow)), ?_⟩
    rw [State.answer_plain _ (by exact hacc) (by exact hclk) (by exact hfield), hctr]
    exact ⟨congrArg (fun n => some (n + 1)) hctr, congrArg (fun n => some (aesEnc k (beBytes 16 n))) hctr, rfl, hcommit, rfl⟩
  case reserve =>
    have hrun := hdo (.auth1 0x80 p d le) 0x80 0xA0 rfl rfl (by simp [State.plainCla]) hacc hb
    rw [s.noPps.apduDo_auth1 rfl ((s.kTag_noPps).trans hk)] at hrun
    have hctr : s.noPps.tag.ctr.getD (s.noPps.cred 28 8) = c := congrArg s.tag.ctr.getD (s.cred_noPps 28 8)
    have hused : s.noPps.cred 28 8 ≤ s.noPps.tag.ctr.getD (s.noPps.cred 28 8) + 512 := by rw [hctr, State.cred_noPps]; exact hc
    rw [s.noPps.auth1_of_used k hused, State.record_noPps, State.cred_noPps] at hrun
    obtain ⟨h1, h2, h3⟩ := (s.noPps.challenged k).startCommit_of_some .auth1
      (l := [(15, overlay (s.record 15) (leBytes 8 (s.cred 28 8 + 1024)) 28)]) (by simp)
    exact ⟨_, hrun, h1, h2, h3⟩
  case proof =>
    have hrun := hdo (.auth2 0x80 p d le) 0x80 0xA2 rfl rfl (by simp [State.plainCla]) hacc hb
    rw [s.noPps.apduDo_auth2 rfl ((s.kTag_noPps).trans hk) hr, s.noPps.auth2_of_match hacc hclk hfield (by rw [State.uid_noPps]; exact hm),
      State.uid_noPps] at hrun
    exact ⟨_, hrun, rfl, rfl, rfl, rfl, rfl, rfl, rfl⟩
  case wrong =>
    have hrun := hdo (.auth2 0x80 p d le) 0x80 0xA2 rfl rfl (by simp [State.plainCla]) hacc hb
    rw [s.noPps.apduDo_auth2 rfl ((s.kTag_noPps).trans hk) hr] at hrun
    obtain ⟨t, ht, htx, hrnd, haccess, hmem⟩ :=
      s.noPps.auth2_of_wrong (k := k) (b := b) (d := d) hacc hclk hfield (by rw [State.uid_noPps]; exact hm)
    exact ⟨t, hrun.trans (congrArg _ ht), htx, hrnd, haccess, hmem⟩
  case faults =>
    refine hsent _ _ _ (hdo _ 0x80 0x16 rfl rfl (by simp [State.plainCla]) hacc hb) ?_
    have hr' : s.noPps.skm.ring[p.toNat]? = some r := hr
    simp only [State.apduDo, hr']
    exact s.sent_of_answer hcommit hacc hclk hfield 0x9000 _
  case unsupported =>
    refine hsent _ _ _ (congrArg Host.Outcome.next (s.badIns_of_unknown hl4 hcommit hclk rfl hins)) ?_
    exact ⟨rfl, hcommit, rfl, rfl, rfl⟩
  case protect =>
    refine ⟨_, congrArg Host.Outcome.next (s.apduIn_of_short hl4 hcommit hclk hacc rfl rfl hd), rfl, ?_, rfl, rfl, rfl⟩
    exact congrArg (min · 1) hacc
end

section
/-! SUPPORT. The tag store (R359-R364): records and their copies, what writing a commit changes, and who waits for it. -/

namespace Sys2Proof.Machine

/-- Setting a clear bit of a number leaves every other bit. -/
theorem add_pow_div_mod {m q r : Nat} (hq : m / 2 ^ q % 2 = 0) (hr : r ≠ q) : (m + 2 ^ q) / 2 ^ r % 2 = m / 2 ^ r % 2 := by
  rcases Nat.lt_or_gt_of_ne hr with h | h
  · obtain ⟨k, rfl⟩ : ∃ k, q = r + (k + 1) := ⟨q - r - 1, by omega⟩
    rw [Nat.pow_add, Nat.add_mul_div_left _ _ (Nat.two_pow_pos _), Nat.pow_succ]
    omega
  · obtain ⟨k, rfl⟩ : ∃ k, r = q + (k + 1) := ⟨r - q - 1, by omega⟩
    rw [Nat.pow_add, ← Nat.div_div_eq_div_mul, ← Nat.div_div_eq_div_mul, Nat.add_div_right _ (Nat.two_pow_pos _), Nat.pow_succ',
      ← Nat.div_div_eq_div_mul, ← Nat.div_div_eq_div_mul]
    congr 2
    omega

/-- Setting a clear bit sets it. -/
theorem add_pow_div_mod_self {m q : Nat} (hq : m / 2 ^ q % 2 = 0) : (m + 2 ^ q) / 2 ^ q % 2 = 1 := by
  rw [Nat.add_div_right _ (Nat.two_pow_pos _)]
  omega

/-- The map of the copies with that of record `r` turned over. -/
def turnCopy (m r : Nat) : Nat := if m / 2 ^ r % 2 = 1 then m - 2 ^ r else m + 2 ^ r

theorem turnCopy_other (m : Nat) {q r : Nat} (hr : r ≠ q) : turnCopy m q / 2 ^ r % 2 = m / 2 ^ r % 2 := by
  unfold turnCopy
  split
  next h =>
    have hle : 2 ^ q ≤ m := by
      refine Decidable.byContradiction fun hlt => ?_
      rw [Nat.div_eq_of_lt (by omega)] at h
      omega
    obtain ⟨k, rfl⟩ : ∃ k, m = k + 2 ^ q := ⟨m - 2 ^ q, by omega⟩
    have hk : k / 2 ^ q % 2 = 0 := by
      rw [Nat.add_div_right _ (Nat.two_pow_pos _)] at h
      omega
    rw [Nat.add_sub_cancel, add_pow_div_mod hk hr]
  next h =>
    exact add_pow_div_mod (by omega) hr

theorem turnCopy_self (m q : Nat) : turnCopy m q / 2 ^ q % 2 = 1 ↔ ¬ m / 2 ^ q % 2 = 1 := by
  unfold turnCopy
  split
  next h =>
    have hle : 2 ^ q ≤ m := by
      refine Decidable.byContradiction fun hlt => ?_
      rw [Nat.div_eq_of_lt (by omega)] at h
      omega
    obtain ⟨k, rfl⟩ : ∃ k, m = k + 2 ^ q := ⟨m - 2 ^ q, by omega⟩
    rw [Nat.add_div_right _ (Nat.two_pow_pos _)] at h
    rw [Nat.add_sub_cancel, Nat.add_div_right _ (Nat.two_pow_pos _)]
    omega
  next h =>
    rw [add_pow_div_mod_self (by omega)]
    simp [h]

namespace State

/-- Memory that agrees byte by byte reads the same. -/
theorem bytes_congr {s t : State} {a n : Nat} (h : ∀ i < n, t.byte (a + i) = s.byte (a + i)) : t.bytes a n = s.bytes a n := by
  induction n generalizing a with
  | zero => rfl
  | succ n ih =>
    rw [bytes, bytes, show t.byte a = s.byte a from h 0 (by omega)]
    congr 1
    refine ih fun i hi => ?_
    rw [show a + 1 + i = a + (i + 1) by omega]
    exact h (i + 1) (by omega)

/-- Memory that holds a list byte by byte reads it. -/
theorem bytes_eq_of_byte {t : State} {a n : Nat} {l : List Byte} (hl : l.length = n)
    (h : ∀ i (hi : i < l.length), t.byte (a + i) = l[i]) : t.bytes a n = l := by
  induction l generalizing a n with
  | nil =>
    subst hl
    rfl
  | cons b l ih =>
    subst hl
    rw [List.length_cons, bytes, show t.byte a = b from h 0 (by simp)]
    congr 1
    refine ih rfl fun i hi => ?_
    rw [show a + 1 + i = a + (i + 1) by omega]
    exact h (i + 1) (by simpa using hi)

/-- The copy of record `r` that map `m` names. -/
def copyAddr (m r : Nat) : Nat := 0x0C000000 + (if m / 2 ^ r % 2 = 1 then 0x4000 else 0) + r * 0x400

theorem curAddr_eq (s : State) (r : Nat) : s.curAddr r = copyAddr s.tag.map r := rfl

/-- The shadow of a record is the copy that turning the map over makes current. -/
theorem shadowAddr_eq (s : State) (r : Nat) : s.shadowAddr r = copyAddr (turnCopy s.tag.map r) r := by
  have h := turnCopy_self s.tag.map r
  unfold shadowAddr copyAddr
  (repeat' split) <;> simp_all

/-- Copies lie below the markers. -/
theorem copyAddr_le (m : Nat) {r : Nat} (hr : r < 16) : copyAddr m r + 0x400 ≤ 0x0C008000 := by
  unfold copyAddr
  (repeat' split) <;> omega

/-- Copies of different records, and the two copies of one, do not meet. -/
theorem copyAddr_apart (m n : Nat) {q r : Nat} (hq : q < 16) (hr : r < 16)
    (h : r ≠ q ∨ ¬ (m / 2 ^ r % 2 = 1 ↔ n / 2 ^ r % 2 = 1)) :
    copyAddr m r + 0x400 ≤ copyAddr n q ∨ copyAddr n q + 0x400 ≤ copyAddr m r := by
  unfold copyAddr
  rcases Nat.lt_trichotomy r q with hlt | rfl | hgt
  · (repeat' split) <;> omega
  · have hne := h.resolve_left (by simp)
    (repeat' split) <;> simp_all <;> omega
  · (repeat' split) <;> omega

theorem record_eq (s : State) (r : Nat) : s.record r = s.bytes (copyAddr s.tag.map r) 1024 := rfl

/-- A record whose copy and bytes are as they were is as it was. -/
theorem record_congr {s t : State} {r : Nat} (hmap : t.tag.map / 2 ^ r % 2 = s.tag.map / 2 ^ r % 2)
    (hb : ∀ i < 1024, t.byte (copyAddr s.tag.map r + i) = s.byte (copyAddr s.tag.map r + i)) : t.record r = s.record r := by
  have haddr : copyAddr t.tag.map r = copyAddr s.tag.map r := by simp only [copyAddr, hmap]
  rw [record_eq, record_eq, haddr]
  exact bytes_congr hb

/-- Bytes outside a write of list `l` at `a` keep their value. -/
theorem byte_setBytes_of_apart (s : State) {a b : Nat} {l : List Byte} (hl : l.length = 1024)
    (h : b + 0x400 ≤ a ∨ a + 0x400 ≤ b) {i : Nat} (hi : i < 1024) : (s.setBytes a l).byte (b + i) = s.byte (b + i) :=
  s.byte_setBytes_out a l (b + i) (by omega)

/-- The state without what writing copies and markers may change outside memory and the map. -/
def unstored (s : State) : State :=
  { s.unleased with
    mem := [], torn := [], weak := [], flashUsed := [], ris := {}, rtc := 0, fresh := 0, tag := { s.tag with seq := 0, map := 0, page := none } }

end State

/-- From `s` to `t` only copies and markers of the tag store have been written. -/
structure StoreOnly (s t : State) : Prop where
  rest : t.unstored = s.unstored

namespace StoreOnly

variable {s t u : State}

theorem refl (s : State) : StoreOnly s s := ⟨rfl⟩

theorem trans (h : StoreOnly s t) (g : StoreOnly t u) : StoreOnly s u := ⟨g.rest.trans h.rest⟩

/-- What writing the store never touches is as it was. -/
theorem field (h : StoreOnly s t) {α : Type} (f : State → α) (hf : ∀ s, f s.unstored = f s) : f t = f s := by
  rw [← hf t, h.rest, hf]

theorem ofLeave (h : LeaveOnly s t) : StoreOnly s t :=
  ⟨congrArg (fun u : State => { u with
    mem := [], torn := [], weak := [], flashUsed := [], ris := {}, rtc := 0, fresh := 0
    tag := { u.tag with seq := 0, map := 0, page := none } }) h.rest⟩

theorem setBytes (s : State) (a : Nat) (l : List Byte) : StoreOnly s (s.setBytes a l) := by
  rw [State.setBytes_eq]
  exact ⟨rfl⟩

theorem untear (s : State) (b n : Nat) : StoreOnly s (s.untear b n) := by
  unfold State.untear
  dsimp only
  split
  · exact ⟨rfl⟩
  · exact ⟨rfl⟩

theorem remap (s : State) (b n : Nat) : StoreOnly s (s.remap b n) := by
  obtain ⟨v, heq, hv⟩ : ∃ v : State, s.remap b n = v.mapKick ∧ StoreOnly s v := ⟨_, rfl, ⟨rfl⟩⟩
  rw [heq]
  exact hv.trans (ofLeave v.mapKick_leaveOnly)

theorem markNext (s : State) : StoreOnly s s.markNext.1 := by
  have herase (lo hi b n : Nat) : StoreOnly s ((s.forget lo hi).untear b n) := by
    have hforget : StoreOnly s (s.forget lo hi) := ⟨rfl⟩
    exact hforget.trans (untear ..)
  unfold State.markNext
  split
  · exact refl s
  · dsimp only
    split
    · exact refl s
    · exact herase ..

end StoreOnly

namespace State

/-- A sector's marks go without a byte of memory. -/
theorem byte_untear (s : State) (b n x : Nat) : (s.untear b n).byte x = s.byte x := by rw [byte, untear_mem, byte]

theorem byte_remap (s : State) (b n x : Nat) : (s.remap b n).byte x = s.byte x := by rw [byte, remap_mem, byte]

theorem tag_untear (s : State) (b n : Nat) : (s.untear b n).tag = s.tag := by
  unfold untear
  dsimp only
  split <;> rfl

theorem tag_remap (s : State) (b n : Nat) : (s.remap b n).tag = s.tag := by
  obtain ⟨v, heq, hv⟩ : ∃ v : State, s.remap b n = v.mapKick ∧ v.tag = s.tag := ⟨_, rfl, rfl⟩
  rw [heq, v.mapKick_leaveOnly.tag, hv]

theorem markNext_outcome (s : State) : s.markNext.1.tag = s.tag ∧ (∀ x < 0x0C008000, s.markNext.1.byte x = s.byte x) := by
  unfold markNext
  split
  · exact ⟨rfl, fun _ _ => rfl⟩
  · dsimp only
    split
    · exact ⟨rfl, fun _ _ => rfl⟩
    · refine ⟨tag_untear .., fun x hx => ?_⟩
      rw [byte_untear, byte_forget, if_neg (by unfold markAddr; omega)]

/-- A commit of one record writes its shadow and makes it current (R362). -/
theorem commitWrite_outcome (s : State) {q : Nat} {l : List Byte} (hq : q < 16) (hl : l.length = 1024) :
    StoreOnly s (s.commitWrite [(q, l)]) ∧ (s.commitWrite [(q, l)]).record q = l ∧
      (∀ m < 16, m ≠ q → (s.commitWrite [(q, l)]).record m = s.record m) ∧
      (s.commitWrite [(q, l)]).tag.seq = s.tag.seq + 1 := by
  obtain ⟨u, hu, hstore, htag, hbyte⟩ : ∃ u : State, (if s.weak.contains (4, (s.shadowAddr q - 0x0C000000) / 0x400) ∧
      0 < s.spareLeft 4 then s.remap 4 ((s.shadowAddr q - 0x0C000000) / 0x400) else s) = u ∧ StoreOnly s u ∧ u.tag = s.tag ∧
      ∀ x, u.byte x = s.byte x := by
    refine ⟨_, rfl, ?_⟩
    split
    · exact ⟨.remap .., tag_remap .., s.byte_remap 4 _⟩
    · exact ⟨.refl s, rfl, fun _ => rfl⟩
  obtain ⟨v, hv⟩ : ∃ v : State, v = (u.setBytes (s.shadowAddr q) l).untear 4 ((s.shadowAddr q - 0x0C000000) / 0x400) := ⟨_, rfl⟩
  have hvstore : StoreOnly s v := hv ▸ hstore.trans ((StoreOnly.setBytes ..).trans (.untear ..))
  have hvtag : v.tag = s.tag := by rw [hv, tag_untear, setBytes_eq]; exact htag
  have hvbyte (x : Nat) : v.byte x = (u.setBytes (s.shadowAddr q) l).byte x := by rw [hv, byte_untear]
  obtain ⟨hmtag, hmbyte⟩ := v.markNext_outcome
  obtain ⟨w, hw⟩ : ∃ w : State, w = v.markNext.1.setBytes (markAddr v.markNext.2)
      (markBytes (v.markNext.1.tag.seq + 1) (turnCopy s.tag.map q)) := ⟨_, rfl⟩
  have hwtag : w.tag = s.tag := by rw [hw, setBytes_eq]; exact hmtag.trans hvtag
  have hwbyte (x : Nat) (hx : x < 0x0C008000) : w.byte x = (u.setBytes (s.shadowAddr q) l).byte x := by
    rw [hw, byte_setBytes_out _ _ _ _ (.inl (by unfold markAddr; omega)), hmbyte x hx, hvbyte]
  have hwstore : StoreOnly s w := hw ▸ hvstore.trans ((StoreOnly.markNext v).trans (.setBytes ..))
  have hcommit : s.commitWrite [(q, l)] = { w with tag := { w.tag with
      seq := w.tag.seq + 1, map := turnCopy s.tag.map q, page := some v.markNext.2 } } := by
    unfold commitWrite
    simp only [List.foldl_cons, List.foldl_nil]
    rw [hu, ← hv, hvtag, show (if s.tag.map / 2 ^ q % 2 = 1 then s.tag.map - 2 ^ q else s.tag.map + 2 ^ q) =
      turnCopy s.tag.map q from rfl, ← hw]
  rw [hcommit]
  have hshadow := s.shadowAddr_eq q
  have hbelow := copyAddr_le (turnCopy s.tag.map q) hq
  refine ⟨hwstore.trans ⟨rfl⟩, ?_, fun m hm hne => ?_, by rw [hwtag]⟩
  · rw [record_eq]
    refine bytes_eq_of_byte hl fun i hi => ?_
    have hread : w.byte (copyAddr (turnCopy s.tag.map q) q + i) = l[i] := by
      rw [hwbyte _ (by omega), ← hshadow, byte_setBytes_in _ _ _ _ hi]
    exact hread
  · have hmbelow := copyAddr_le s.tag.map hm
    refine record_congr (turnCopy_other _ hne) fun i hi => ?_
    have hread : w.byte (copyAddr s.tag.map m + i) = s.byte (copyAddr s.tag.map m + i) := by
      rw [hwbyte _ (by omega), hshadow, byte_setBytes_of_apart _ hl (copyAddr_apart _ _ hq hm (.inl hne)) hi, hbyte]
    exact hread

end State
end Sys2Proof.Machine
end

section
/-! SUPPORT. How commits of the tag store end, and the credential commands (R362-R370). -/

namespace Sys2Proof.Machine

/-- A field under a mask that keeps it. -/
theorem bits_and_of_kept (w m : Word) {hi lo : Nat} (h : ∀ i ≤ hi, lo ≤ i → m.getLsbD i = true) :
    bits (w &&& m) hi lo = bits w hi lo := by
  apply Nat.eq_of_testBit_eq
  intro i
  rw [testBit_bits, testBit_bits]
  by_cases hi' : i < hi + 1 - lo
  · simp only [BitVec.getLsbD_and, h (lo + i) (by omega) (by omega), Bool.and_true]
  · simp [hi']

/-- A field below a bit that is set. -/
theorem bits_putBit_above (w : Word) {hi lo n : Nat} (h : hi < n) (hlo : lo ≤ hi) :
    bits (putBit w n true) hi lo = bits w hi lo := by
  apply Nat.eq_of_testBit_eq
  intro i
  rw [testBit_bits, testBit_bits]
  by_cases hi' : i < hi + 1 - lo
  · have hne : lo + i < n := by omega
    simp only [putBit, if_true, BitVec.getLsbD_or, BitVec.getLsbD_shiftLeft, hne, decide_true, Bool.not_true, Bool.and_false,
      Bool.false_and, Bool.or_false]
  · simp [hi']

/-- The word a GO of TAG_CRED_CMD with operation `op` leaves in the register. -/
def credCmd (op : Nat) (v : Word) : Word := putBit (putField v 27 24 op) 31 true &&& 0x0F0FFFFF

theorem credMask (i : Nat) : (0x0F0FFFFF : Word).getLsbD i = (decide (i < 20) || (decide (24 ≤ i) && decide (i < 28))) := by
  by_cases hi : i < 32
  · revert i
    decide
  · rw [BitVec.getLsbD_of_ge _ _ (by omega)]
    simp
    omega

theorem credCmd_op {op : Nat} (hop : op < 16) (v : Word) : bits (credCmd op v) 27 24 = op := by
  rw [credCmd, bits_and_of_kept _ _ (fun i h1 h2 => by rw [credMask]; simp; omega), bits_putBit_above _ (by decide) (by decide),
    bits_putField _ (by decide) (by decide)]
  omega

theorem credCmd_low (op : Nat) (v : Word) {hi lo : Nat} (hhi : hi < 20) (hlo : lo ≤ hi) :
    bits (credCmd op v) hi lo = bits v hi lo := by
  rw [credCmd, bits_and_of_kept _ _ (fun i h1 h2 => by rw [credMask]; simp; omega), bits_putBit_above _ (by omega) hlo,
    bits_putField_other _ (by decide) (by omega) (by omega)]

namespace State

/-- The state in which a credential command is begun. -/
def credBegun (s : State) (op : Nat) (v : Word) : State :=
  let t := (s.setReg R.TAG_CRED_CMD (credCmd op v)).setReg R.TAG_CRED_STAT 0x80000000
  { t with tag := { t.tag with credOp := none } }

section
variable {s : State} {rq : Rq} {op : Nat} {v : Word} (hw : s.writable rq Blk.TAG 0 R.TAG_CRED_CMD = true)
include hw

/-- A GO while a command runs is refused. -/
theorem credGo_of_busy (hb : bit (s.reg R.TAG_CRED_STAT) 31 = true) : s.credGo rq op v = s.refuse rq R.TAG_CRED_CMD Blk.TAG 0 := by
  have hgo := bit_putBit_self (putField v 27 24 op) (by decide : 31 < 32)
  simp [credGo, s.asWrite_of_writable _ _ hw, credWrite, hgo, hb]

/-- A GO with the store free runs its command at once. -/
theorem credGo_of_idle (hb : bit (s.reg R.TAG_CRED_STAT) 31 = false) (hcommit : s.tag.commit = none) (hheld : s.tag.held = none)
    (hhost : s.tag.hostQ = []) : s.credGo rq op v = ((s.credBegun op v).tagCred (credCmd op v)).tagNext 2 := by
  have hgo := bit_putBit_self (putField v 27 24 op) (by decide : 31 < 32)
  obtain ⟨u, hu, hheld', hhost', hcommit', hcred, hnext⟩ : ∃ u : State, ({ ((s.setReg R.TAG_CRED_CMD (credCmd op v)).setReg
      R.TAG_CRED_STAT 0x80000000) with tag := { s.tag with credOp := some (credCmd op v) } } : State) = u ∧
      u.tag.held = none ∧ u.tag.hostQ = [] ∧ u.tag.commit = none ∧
      u.tag.credOp = some (credCmd op v) ∧ { u with tag := { u.tag with credOp := none } } = s.credBegun op v :=
    ⟨_, rfl, hheld, hhost, hcommit, rfl, rfl⟩
  have hserve : u.tagServe = ((s.credBegun op v).tagCred (credCmd op v)).tagNext 2 := by
    rw [tagServe, hhost', List.length_nil, tagNext, ← hnext]
    simp only [hcommit', hheld', hhost', hcred, Option.isSome_none, Bool.false_eq_true, if_false]
  have hbusy : ¬ bit (s.reg R.TAG_CRED_STAT) 31 = true := by simp [hb]
  have hgo' : ¬ (!bit (putBit (putField v 27 24 op) 31 true) 31) = true := by simp [hgo]
  have hwrite : s.credWrite (putBit (putField v 27 24 op) 31 true) = some u.tagServe := by
    rw [credWrite, if_neg hgo', if_neg hbusy, ← hu]
    rfl
  simp only [credGo, s.asWrite_of_writable _ _ hw, hwrite, Option.getD_some, hserve]

end

/-- A store with a commit begun serves nobody. -/
theorem tagNext_of_commit {s : State} {k : TCommit} (h : s.tag.commit = some k) (fuel : Nat) : s.tagNext fuel = s := by
  cases fuel with
  | zero => rfl
  | succ fuel => rw [tagNext, h]; rfl

theorem tagNext_of_none {s : State} (hheld : s.tag.held = none) (hhost : s.tag.hostQ = []) (hcred : s.tag.credOp = none)
    (fuel : Nat) : s.tagNext fuel = s := by
  cases fuel with
  | zero => rfl
  | succ fuel =>
    simp only [tagNext, hheld, hhost, hcred]
    split
    · rfl
    · rfl

/-- Where a credential command stands once it has drawn its free value. -/
def credDrawn (s : State) (op : Nat) (v : Word) : State := { s.credBegun op v with fresh := s.fresh + 1 }

section
variable (s : State) (op : Nat) (v : Word)

theorem bytes_credDrawn (a n : Nat) : (s.credDrawn op v).bytes a n = s.bytes a n := bytes_congr fun _ _ => rfl

theorem record_credDrawn (r : Nat) : (s.credDrawn op v).record r = s.record r := record_congr rfl fun _ _ => rfl

theorem cred_credDrawn (o n : Nat) : (s.credDrawn op v).cred o n = s.cred o n := congrArg fromLe (s.bytes_credDrawn op v _ n)

theorem credBlank_credDrawn : (s.credDrawn op v).credBlank = s.credBlank := by rw [credBlank, cred_credDrawn, credBlank]

theorem slot_credDrawn (n : Nat) : (s.credDrawn op v).slot n = s.slot n := rfl

theorem slotOwner_credDrawn (n : Nat) : (s.credDrawn op v).slotOwner n = s.slotOwner n := by
  have hreg (d : Nat) (hd : d < 4) : (s.credDrawn op v).reg (R.KST_DOM_SL + d * 4) = s.reg (R.KST_DOM_SL + d * 4) := by
    have h1 : R.KST_DOM_SL + d * 4 ≠ R.TAG_CRED_STAT := by simp only [R.KST_DOM_SL, R.TAG_CRED_STAT]; omega
    have h2 : R.KST_DOM_SL + d * 4 ≠ R.TAG_CRED_CMD := by simp only [R.KST_DOM_SL, R.TAG_CRED_CMD]; omega
    have hregs (a : Nat) : (s.credDrawn op v).reg a =
      ((s.setReg R.TAG_CRED_CMD (credCmd op v)).setReg R.TAG_CRED_STAT 0x80000000).reg a := rfl
    rw [hregs, reg_setReg_ne _ _ h1, reg_setReg_ne _ _ h2]
  unfold slotOwner
  refine congrArg (fun o : Option Nat => o.getD 4) (find?_eq_of_agree fun d hd => ?_)
  simp only [fld, hreg d (List.mem_range.mp hd)]
  rfl

/-- A credential record that is not blank takes the bytes as they are. -/
theorem credWith_credDrawn (hblank : s.credBlank = false) (n o : Nat) (d : List Byte) :
    (s.credDrawn op v).credWith n o d = overlay (s.record 15) d o := by
  simp [credWith, credBlank_credDrawn, hblank, record_credDrawn]

/-- What a credential command that changes a record leaves: its commit begun and nothing else touched. -/
structure CredPut (s t : State) (op n : Nat) (l : List Byte) : Prop where
  commit : t.tag.commit = some ⟨.cred op, [(n, l)], s.fieldPower && !s.tag.cfld⟩
  mem : t.mem = s.mem
  slots : t.slots = s.slots
  jobs : t.jobs = s.jobs

theorem startCommit_slots (s : State) (w : TagWho) {l : List (Nat × List Byte)} (hl : l ≠ []) :
    (s.startCommit w l).slots = s.slots := by
  have hsome : ¬ l.isEmpty = true := by simpa using hl
  have hframe (u : State) : (u.sendFrame tagWtx).slots = u.slots := by
    unfold sendFrame
    split
    · rfl
    · rfl
  rw [startCommit_eq, if_neg hsome]
  split
  · exact hframe _
  · rfl

/-- A record with new content is committed. -/
theorem credPut_of_ne {n : Nat} {l : List Byte} (hne : l ≠ s.record n) :
    CredPut s (((s.credDrawn op v).startCommit (.cred op)
      (if l = (s.credDrawn op v).record n then [] else [(n, l)])).tagNext 2) op n l := by
  rw [record_credDrawn, if_neg hne]
  obtain ⟨hcommit, hmem, hjobs⟩ := (s.credDrawn op v).startCommit_of_some (.cred op) (l := [(n, l)]) (by simp)
  have hslots := (s.credDrawn op v).startCommit_slots (.cred op) (l := [(n, l)]) (by simp)
  rw [tagNext_of_commit hcommit]
  exact ⟨hcommit, hmem, hslots, hjobs⟩

/-- What a credential command refused with RESULT `n` leaves. -/
structure CredRefused (s t : State) (n : Nat) : Prop where
  stat : t.reg R.TAG_CRED_STAT = w32 (0x40000000 + n * 0x1000000)
  commit : t.tag.commit = none
  mem : t.mem = s.mem
  slots : t.slots = s.slots

theorem credRefused_of_none (hcommit : s.tag.commit = none) (hheld : s.tag.held = none) (hhost : s.tag.hostQ = []) (n : Nat) :
    CredRefused s (((s.credDrawn op v).credEnd n).tagNext 2) n := by
  obtain ⟨u, hu, hreg, htag, hmem, hslots⟩ : ∃ u, (s.credDrawn op v).credEnd n = u ∧
      u.reg R.TAG_CRED_STAT = w32 (0x40000000 + n * 0x1000000) ∧ u.tag = { s.tag with credOp := none } ∧ u.mem = s.mem ∧
      u.slots = s.slots := ⟨_, rfl, (s.credDrawn op v).reg_setReg .., rfl, rfl, rfl⟩
  rw [hu, tagNext_of_none (by rw [htag]; exact hheld) (by rw [htag]; exact hhost) (by rw [htag])]
  exact ⟨hreg, by rw [htag]; exact hcommit, hmem, hslots⟩

/-- What a command that changes bytes of the credential record does with its new content. -/
def credGoes (u : State) (op n o : Nat) (d : List Byte) : State :=
  u.startCommit (.cred op) (if u.credWith n o d = u.record 15 then [] else [(15, u.credWith n o d)])

theorem tagCred_password : (s.credBegun 1 v).tagCred (credCmd 1 v) =
    (if (beBytes 4 s.tag.pw0.toNat ++ beBytes 4 s.tag.pw1.toNat).any (fun b => decide (9 < b.toNat % 16) || decide (9 < b.toNat / 16))
      then (s.credDrawn 1 v).credEnd 2
      else (s.credDrawn 1 v).credGoes 1 (Config.free s.fresh) 4 (beBytes 4 s.tag.pw0.toNat ++ beBytes 4 s.tag.pw1.toNat)) := by
  simp only [tagCred, withFree, credCmd_op (by decide : 1 < 16)]
  rfl

theorem tagCred_flags : (s.credBegun 2 v).tagCred (credCmd 2 v) =
    (if bits v 15 12 = 0 then (s.credDrawn 2 v).credEnd 1
      else (s.credDrawn 2 v).credGoes 2 (Config.free s.fresh) 1 [BitVec.ofNat 8 (bits v 19 16),
        BitVec.ofNat 8 ((s.credDrawn 2 v).cred 2 1 % 256 * b2n (!(s.credDrawn 2 v).credBlank)), BitVec.ofNat 8 (bits v 15 12)]) := by
  simp only [tagCred, withFree, credCmd_op (by decide : 2 < 16), credCmd_low 2 v (by decide : 15 < 20) (by decide : 12 ≤ 15),
    credCmd_low 2 v (by decide : 19 < 20) (by decide : 16 ≤ 19)]
  rfl

theorem tagCred_key : (s.credBegun 3 v).tagCred (credCmd 3 v) =
    (if s.life ≠ .commissioned ∨ (s.slot (bits v 11 0)).st ≠ .loaded ∨ (s.slot (bits v 11 0)).typ ≠ 1 ∨
        (s.credDrawn 3 v).slotOwner (bits v 11 0) ≠ 4 ∨ !bit (s.slot (bits v 11 0)).policy 18 then (s.credDrawn 3 v).credEnd 1
      else (s.credDrawn 3 v).credGoes 3 (Config.free s.fresh) 12 ((s.slot (bits v 11 0)).mat.take 16 ++ leBytes 8 1024)) := by
  simp only [tagCred, withFree, credCmd_op (by decide : 3 < 16), credCmd_low 3 v (by decide : 11 < 20) (by decide : 0 ≤ 11)]
  rfl

theorem tagCred_tries : (s.credBegun 4 v).tagCred (credCmd 4 v) =
    (s.credDrawn 4 v).credGoes 4 (Config.free s.fresh) 2 [0] := by
  simp only [tagCred, withFree, credCmd_op (by decide : 4 < 16)]
  rfl

theorem tagCred_erase : (s.credBegun 5 v).tagCred (credCmd 5 v) = (s.credDrawn 5 v).startCommit (.cred 5)
    (if List.replicate 1024 0xFF = (s.credDrawn 5 v).record 15 then [] else [(15, List.replicate 1024 0xFF)]) := by
  simp only [tagCred, withFree, credCmd_op (by decide : 5 < 16)]
  rfl

theorem tagCred_ticket : (s.credBegun 6 v).tagCred (credCmd 6 v) = (s.credDrawn 6 v).startCommit (.cred 6)
    (if List.replicate 1024 0xFF = (s.credDrawn 6 v).record 14 then [] else [(14, List.replicate 1024 0xFF)]) := by
  simp only [tagCred, withFree, credCmd_op (by decide : 6 < 16)]
  rfl

end

/-! ### The end of a commit -/

theorem scramble_outcome (s : State) (a n : Nat) : (s.scramble a n).tag = s.tag ∧ (s.scramble a n).clk = s.clk ∧
    ∀ x, x < a ∨ a + n ≤ x → (s.scramble a n).byte x = s.byte x := by
  have heq : s.scramble a n = ({ s with fresh := s.fresh + 1 } : State).setBytes a ((Config.rnd s.fresh n ++ zeros n).take n) := rfl
  generalize hl : (Config.rnd s.fresh n ++ zeros n).take n = l at heq
  have hlen : l.length = n := by
    rw [← hl]
    simp [zeros]
  rw [heq]
  refine ⟨by rw [setBytes_eq], by rw [setBytes_eq], fun x hx => byte_setBytes_out _ _ _ _ (by omega)⟩

/-- A sector noted as WEAK is reported as FLASH_WEAR. -/
theorem weaken_outcome (s : State) (b n a : Nat) : (s.weaken b n a).tag = s.tag ∧ (s.weaken b n a).clk = s.clk ∧
    (s.weaken b n a).mem = s.mem ∧ ∃ m, m ∈ (s.weaken b n a).inbox ∧ m.kind = Kind.FLASH_WEAR := by
  have hmsg (u : State) : ∃ m, m ∈ ((u.event Blk.FLC 0 4).fault Blk.FLC 0 Kind.FLASH_WEAR a).inbox ∧
      m.kind = Kind.FLASH_WEAR := ⟨_, List.mem_append_right _ (List.mem_singleton_self _), rfl⟩
  unfold weaken
  dsimp only
  split
  · exact ⟨rfl, rfl, rfl, hmsg s⟩
  · exact ⟨rfl, rfl, rfl, hmsg _⟩

/-- The commit in hand is over, and CFLD falls with the power of the field (R362). -/
def dropCommit (s : State) : State :=
  { s with tag := { s.tag with commit := none, cfld := if s.fieldPower then false else s.tag.cfld } }

/-- A shadow at `a`, in sector `n`, that does not verify: it holds anything and its sector is WEAK (R370). -/
def spoil (s : State) (a n : Nat) : State := (s.scramble a 0x400).weaken 4 n a

/-- The last step of a commit whose shadow did not verify. -/
def updateLost (s : State) : State := (if s.tag.toIdle then s.tagIdle else s.answer 0x6581 []).tagServe

theorem commitEnd_spoil (s : State) (q : Nat) (l : List Byte) : ∃ n,
    s.commitEnd ⟨.update, [(q, l)], false⟩ (some 0) = (s.dropCommit.spoil (s.dropCommit.shadowAddr q) n).updateLost := by
  refine ⟨(s.dropCommit.shadowAddr q - 0x0C000000) / 0x400, ?_⟩
  have hd : ({ s with tag := { s.tag with commit := none, cfld := if s.fieldPower then false else s.tag.cfld } } : State) =
    s.dropCommit := rfl
  simp only [commitEnd, spoil, updateLost, List.length_singleton, Nat.mod_one, List.getElem?_cons_zero]
  rw [hd]
  congr 1

/-- A spoilt shadow leaves the tag's state, and every byte outside its sector. -/
theorem spoil_outcome (s : State) (a n : Nat) : (s.spoil a n).tag = s.tag ∧ (s.spoil a n).clk = s.clk ∧
    (∀ b i, i < 1024 → (b + 0x400 ≤ a ∨ a + 0x400 ≤ b) → (s.spoil a n).byte (b + i) = s.byte (b + i)) ∧
    ∃ m, m ∈ (s.spoil a n).inbox ∧ m.kind = Kind.FLASH_WEAR := by
  obtain ⟨hstag, hsclk, hsbyte⟩ := s.scramble_outcome a 0x400
  unfold spoil
  generalize s.scramble a 0x400 = u at hstag hsclk hsbyte ⊢
  obtain ⟨hwtag, hwclk, hwmem, hwin⟩ := u.weaken_outcome 4 n a
  generalize u.weaken 4 n a = w at hwtag hwclk hwmem hwin ⊢
  refine ⟨hwtag.trans hstag, hwclk.trans hsclk, fun b i hi hapart => ?_, hwin⟩
  have hbyte : w.byte (b + i) = u.byte (b + i) := by rw [byte, hwmem, byte]
  rw [hbyte, hsbyte _ (by omega)]

section
variable {s : State} {q : Nat} {l : List Byte} (hq : q < 16) (hl : l.length = 1024) (hidle : s.tag.toIdle = false)
  (hheld : s.tag.held = none) (hhost : s.tag.hostQ = []) (hcred : s.tag.credOp = none) (hfield : s.tag.field = true)
  (hclk : s.clk.waiting = false) (hacc : s.tag.access ≠ 3)

include hheld hhost hcred hfield hclk hacc in
/-- An answer in the plain, with nobody waiting for the store. -/
theorem answer_served (sw : Nat) (data : List Byte) :
    (s.answer sw data).tagServe = { s with tag := { s.tag with tx := data ++ beBytes 2 sw } } := by
  rw [answer_plain s hacc hclk hfield]
  exact tagServe_of_none (by exact hheld) (by exact hhost) (by exact hcred)

include hq hl hidle hheld hhost hcred hfield hclk hacc in
/-- An UPDATE that verifies makes its record current and answers 90 00 (R362). -/
theorem commitEnd_of_good : ∃ t, s.commitEnd ⟨.update, [(q, l)], false⟩ none = t ∧ t.record q = l ∧
    (∀ m < 16, m ≠ q → t.record m = s.record m) ∧ t.tag.seq = s.tag.seq + 1 ∧ t.tag.commit = none ∧
    t.tag.tx = [0x90, 0x00] ∧ t.jobs = s.jobs := by
  obtain ⟨u, hu, hutag, huclk, hujobs, hurecord⟩ : ∃ u : State, ({ s with tag := { s.tag with
      commit := none, cfld := if s.fieldPower then false else s.tag.cfld } } : State) = u ∧
      u.tag = { s.tag with commit := none, cfld := if s.fieldPower then false else s.tag.cfld } ∧ u.clk = s.clk ∧ u.jobs = s.jobs ∧
      ∀ m, u.record m = s.record m := ⟨_, rfl, rfl, rfl, rfl, fun m => record_congr rfl fun _ _ => rfl⟩
  obtain ⟨hstore, hself, hother, hseq⟩ := u.commitWrite_outcome hq hl
  generalize hv : u.commitWrite [(q, l)] = v at hstore hself hother hseq
  obtain ⟨hetag, hemem, hejobs, heclk, -⟩ := v.tagEvent_keeps 4
  obtain ⟨w, hw, hwtag, hwmem, hwjobs, hwclk⟩ : ∃ w : State, (v.tagEvent 4).count R.TAG_CNT 15 0 = w ∧ w.tag = v.tag ∧
      w.mem = v.mem ∧ w.jobs = v.jobs ∧ w.clk = v.clk := ⟨_, rfl, hetag, hemem, hejobs, heclk⟩
  have hwidle : w.tag.toIdle = false := by
    rw [hwtag, hstore.field (fun s => s.tag.toIdle) fun _ => rfl, hutag]; exact hidle
  have hwacc : w.tag.access ≠ 3 := by rw [hwtag, hstore.field (fun s => s.tag.access) fun _ => rfl, hutag]; exact hacc
  have hwfield : w.tag.field = true := by rw [hwtag, hstore.field (fun s => s.tag.field) fun _ => rfl, hutag]; exact hfield
  have hwclk' : w.clk.waiting = false := by rw [hwclk, hstore.field State.clk fun _ => rfl, huclk]; exact hclk
  have hwheld : w.tag.held = none := by rw [hwtag, hstore.field (fun s => s.tag.held) fun _ => rfl, hutag]; exact hheld
  have hwhost : w.tag.hostQ = [] := by rw [hwtag, hstore.field (fun s => s.tag.hostQ) fun _ => rfl, hutag]; exact hhost
  have hwcred : w.tag.credOp = none := by rw [hwtag, hstore.field (fun s => s.tag.credOp) fun _ => rfl, hutag]; exact hcred
  have hwcommit : w.tag.commit = none := by rw [hwtag, hstore.field (fun s => s.tag.commit) fun _ => rfl, hutag]
  have hrecord (m : Nat) : ({ w with tag := { w.tag with tx := [] ++ beBytes 2 0x9000 } } : State).record m = v.record m :=
    record_congr (by rw [hwtag]) fun i _ => congrArg (fun m => Tbl.get memDefault m _) hwmem
  have hend : s.commitEnd ⟨.update, [(q, l)], false⟩ none = (w.answer 0x9000 []).tagServe := by
    simp only [commitEnd]
    rw [hu, hv, if_pos (show TagWho.reader .update = true from rfl), hw]
    simp [hwidle, afterCommit]
  refine ⟨_, hend.trans (answer_served hwheld hwhost hwcred hwfield hwclk' hwacc 0x9000 []), ?_⟩
  refine ⟨(hrecord q).trans hself, fun m hm hne => ((hrecord m).trans (hother m hm hne)).trans (hurecord m), ?_, hwcommit, rfl, ?_⟩
  · exact (congrArg Tag.seq hwtag).trans (hseq.trans (by rw [hutag]))
  · exact hwjobs.trans ((hstore.field State.jobs fun _ => rfl).trans hujobs)

include hq hidle hheld hhost hcred hfield hclk hacc in
/-- An UPDATE whose shadow does not verify leaves every record and is answered 65 81 (R370). -/
theorem commitEnd_of_bad : ∃ t m, s.commitEnd ⟨.update, [(q, l)], false⟩ (some 0) = t ∧
    (∀ m < 16, t.record m = s.record m) ∧ t.tag.seq = s.tag.seq ∧ t.tag.commit = none ∧ t.tag.tx = [0x65, 0x81] ∧
    m ∈ t.inbox ∧ m.kind = Kind.FLASH_WEAR := by
  obtain ⟨n, hend⟩ := s.commitEnd_spoil q l
  have haddr := s.dropCommit.shadowAddr_eq q
  obtain ⟨hvtag, hvclk, hvbyte, m, hm, hkind⟩ := s.dropCommit.spoil_outcome (s.dropCommit.shadowAddr q) n
  generalize hv : s.dropCommit.spoil (s.dropCommit.shadowAddr q) n = v at hvtag hvclk hvbyte hm hend
  have hvt : v.tag = { s.tag with commit := none, cfld := if s.fieldPower then false else s.tag.cfld } := hvtag
  rw [updateLost, if_neg (by rw [hvt, hidle]; exact Bool.false_ne_true)] at hend
  have hserve := answer_served (s := v) (by rw [hvt]; exact hheld) (by rw [hvt]; exact hhost) (by rw [hvt]; exact hcred)
    (by rw [hvt]; exact hfield) (by rw [hvclk]; exact hclk) (by rw [hvt]; exact hacc) 0x6581 []
  refine ⟨_, m, hend.trans hserve, fun r hr => ?_, (congrArg Tag.seq hvt).trans rfl, (congrArg Tag.commit hvt).trans rfl,
    rfl, hm, hkind⟩
  refine record_congr (by rw [hvt]) fun i hi => ?_
  refine (hvbyte _ i hi ?_).trans rfl
  rw [haddr]
  refine copyAddr_apart _ _ hq hr ?_
  have hself := turnCopy_self s.tag.map q
  by_cases hrq : r = q
  · subst hrq
    exact .inr fun h => by rw [show s.dropCommit.tag.map = s.tag.map from rfl, hself] at h; exact iff_not_self h
  · exact .inl hrq

end

/-! ### Other commands of the store -/

/-- The marker sector that is not in use is erased ahead of its turn (R361). -/
theorem exec_markerPreErase {s : State} (hcommit : s.tag.commit = none) (hleft : s.markLeft.length ≤ 4)
    (hblank : (List.range 16).all (fun i => s.markBlank ((1 - s.markSector) * 16 + i)) = false)
    (hwaits : (s.fieldPower && !s.tag.cfld) = false) : ∃ t, exec .markerPreErase s = .next t ∧
    (∀ x, t.byte x = if markAddr ((1 - s.markSector) * 16) ≤ x ∧ x < markAddr ((1 - s.markSector) * 16) + 0x400 then 0xFF
      else s.byte x) ∧ t.tag.seq = s.tag.seq ∧ t.tag.map = s.tag.map := by
  have hstay : ¬ (s.tag.commit.isSome ∨ 4 < s.markLeft.length ∨
      (List.range 16).all (fun i => s.markBlank ((1 - s.markSector) * 16 + i)) ∨ (s.fieldPower ∧ !s.tag.cfld)) := by
    simp only [hcommit, hblank, Option.isSome_none, Bool.false_eq_true, false_or, not_or]
    exact ⟨by omega, by simpa using hwaits⟩
  have htag (a : Nat) : ((s.forget a (a + 0x400)).untear 4 (32 + (1 - s.markSector))).tag = s.tag := tag_untear ..
  refine ⟨_, congrArg Host.Outcome.next (if_neg hstay), fun x => ?_, (congrArg Tag.seq (htag _) :), (congrArg Tag.map (htag _) :)⟩
  refine (byte_untear _ _ _ x).trans ?_
  rw [byte_forget]
  have hrange : markAddr ((1 - s.markSector) * 16) ≤ x ∧ x < markAddr ((1 - s.markSector) * 16) + 0x400 → memDefault x = 0xFF := by
    intro h
    refine if_pos ?_
    simp only [markAddr] at h
    omega
  split
  · next h => exact hrange h
  · rfl

/-- A host write that changes a record starts its commit and waits for it. -/
theorem tagJob_write {s : State} {id : Nat} {j : Job} (hjob : s.job id = some j) (hstage : j.stage = .ready)
    (hcommit : s.tag.commit = none) (hop : j.op = 0x61) (hrecs : s.writeRecs (j.u 32 4) j.input ≠ []) :
    ∃ t, exec (.tagstoreWrite id) s = .next t ∧
      t.tag.commit = some ⟨.host id, s.writeRecs (j.u 32 4) j.input, s.fieldPower && !s.tag.cfld⟩ ∧
      t.job id = some { j with stage := .wait .tag } ∧ t.mem = s.mem := by
  have hid := id_of_job hjob
  obtain ⟨u, hu, huwaits, hujob, humem⟩ : ∃ u, s.modJob id (fun j => { j with stage := .wait .tag }) = u ∧
      (u.fieldPower && !u.tag.cfld) = (s.fieldPower && !s.tag.cfld) ∧ u.job id = some { j with stage := .wait .tag } ∧
      u.mem = s.mem := ⟨_, rfl, rfl, job_modJob hjob fun _ => rfl, rfl⟩
  obtain ⟨htcommit, htmem, htjobs⟩ := u.startCommit_of_some (.host id) hrecs
  refine ⟨u.startCommit (.host id) (s.writeRecs (j.u 32 4) j.input), ?_, by rw [htcommit, huwaits], ?_, htmem.trans humem⟩
  · have hsome : ¬ (s.writeRecs (j.u 32 4) j.input).isEmpty = true := by simpa using hrecs
    show Host.Outcome.next (s.tagJob id 0x61) = _
    simp [tagJob, tagHost, hjob, hop, hstage, hcommit, hrecs, hid, hu]
  · rw [job, htjobs]
    exact hujob

/-- A host read is delivered from the current records. -/
theorem tagJob_read {s : State} {id : Nat} {j : Job} (hjob : s.job id = some j) (hstage : j.stage = .ready)
    (hcommit : s.tag.commit = none) (hop : j.op = 0x60) :
    s.tagJob id 0x60 = s.deliver j (s.storeBytes (j.u 32 4) j.outTotal) (w32 s.tag.seq) := by
  simp [tagJob, tagHost, hjob, hop, hstage, hcommit]

end State
end Sys2Proof.Machine

open Sys2Proof Sys2Proof.Machine

/-- Settles O55: a commit that ends turns its record over or leaves every record, and each credential command is its record's
commit or its RESULT. -/
theorem tagCommitsHostJobsAndCredentials : Obligations.TagCommitsHostJobsAndCredentials := by
  intro s rq v id j q l k
  dsimp only
  refine ⟨fun hfield hcommit => ?_, fun hcommit hwaits hclk => ?_, fun hcommit hwaits hwho hrest hfield hclk hacc => ?_,
    fun hcommit hlen hidle hrest hfield hclk hacc => ?_, fun hcommit hleft hblank hwaits => State.exec_markerPreErase hcommit hleft hblank hwaits,
    fun hjob hstage hcommit => ⟨fun hop => congrArg _ (State.tagJob_read hjob hstage hcommit hop),
      fun hop hrecs => State.tagJob_write hjob hstage hcommit hop hrecs⟩,
    fun hjob hstage haux hq => ?_, fun hw => ⟨fun hb => congrArg _ (State.credGo_of_busy hw hb),
      fun hb hcommit hheld hhost hblank => ?_⟩⟩
  case refine_1 =>
    simp only [exec, execCommitEnergyReady, hfield, hcommit, Bool.not_true, Bool.false_eq_true, if_false, Option.map_some]
  case refine_2 =>
    simp [exec, execWtxResend, hcommit, hwaits, State.sendFrame_of_clock hclk]
  case refine_3 =>
    obtain ⟨hheld, hhost, hcred⟩ := hrest
    obtain ⟨u, hu, hheld', hhost', hcred', hfield', hclk', hacc', hend⟩ : ∃ u : State, ({ s with tag := { s.tag with commit := none } } : State) = u ∧
        u.tag.held = none ∧ u.tag.hostQ = [] ∧ u.tag.credOp = none ∧ u.tag.field = true ∧ u.clk.waiting = false ∧ u.tag.access ≠ 3 ∧
        ({ u with tag := { u.tag with tx := [] ++ beBytes 2 0x6401 } } : State) =
          { s with tag := { s.tag with commit := none, tx := [0x64, 0x01] } } := ⟨_, rfl, hheld, hhost, hcred, hfield, hclk, hacc, rfl⟩
    have hserve := State.answer_served hheld' hhost' hcred' hfield' hclk' hacc' 0x6401 []
    simp only [exec, execCommitEnergyTimeout, hcommit, hwaits, hwho, hu, Bool.not_true, Bool.false_eq_true, if_false, reduceCtorEq]
    rw [hserve, hend]
  case refine_4 =>
    obtain ⟨hheld, hhost, hcred⟩ := hrest
    have hdone (bad : Option (Fin 16)) : exec (.tagCommitDone bad) s =
        .next (s.commitEnd ⟨.update, [(q.val, l)], false⟩ (bad.map (·.val))) := by
      simp [exec, execTagCommitDone, hcommit]
    obtain ⟨t, ht, hrec, hother, hseq, hcom, htx, hjobs⟩ := State.commitEnd_of_good q.isLt hlen hidle hheld hhost hcred hfield hclk hacc
    obtain ⟨u, m, hu, hurec, huseq, hucom, hutx, hin, hkind⟩ := State.commitEnd_of_bad (l := l) q.isLt hidle hheld hhost hcred hfield hclk hacc
    exact ⟨⟨t, (hdone none).trans (congrArg _ ht), hrec, hother, hseq, hcom, htx, hjobs⟩,
      ⟨u, m, (hdone (some 0)).trans (congrArg _ hu), hurec, huseq, hucom, hutx, hin, hkind⟩⟩
  case refine_5 =>
    have hq' : id ∈ s.tag.hostQ := by simpa using hq
    simp [exec, execTagBusyTimeout, hjob, hstage, haux, hq']
  case refine_6 =>
    have hput {op n : Nat} {l : List Byte}
        (htag : (s.credBegun op v).tagCred (credCmd op v) = (s.credDrawn op v).startCommit (.cred op)
          (if l = (s.credDrawn op v).record n then [] else [(n, l)])) (hne : l ≠ s.record n) :
        ∃ t, Host.Outcome.next (s.credGo rq op v) = (.next t : Host.Outcome State Fault Refusal) ∧
          t.tag.commit = some ⟨.cred op, [(n, l)], s.fieldPower && !s.tag.cfld⟩ ∧ t.mem = s.mem ∧ t.slots = s.slots ∧ t.jobs = s.jobs := by
      obtain ⟨hc, hm, hs, hj⟩ := State.credPut_of_ne s op v hne
      exact ⟨_, congrArg _ ((State.credGo_of_idle hw hb hcommit hheld hhost).trans (by rw [htag])), hc, hm, hs, hj⟩
    have hgoes {op o : Nat} {d : List Byte} (n : Nat)
        (htag : (s.credBegun op v).tagCred (credCmd op v) = (s.credDrawn op v).credGoes op n o d) :
        (s.credBegun op v).tagCred (credCmd op v) = (s.credDrawn op v).startCommit (.cred op)
          (if overlay (s.record 15) d o = (s.credDrawn op v).record 15 then [] else [(15, overlay (s.record 15) d o)]) := by
      rw [htag, State.credGoes, State.credWith_credDrawn s op v hblank]
    have hrefused {op n : Nat} (htag : (s.credBegun op v).tagCred (credCmd op v) = (s.credDrawn op v).credEnd n) :
        ∃ t, Host.Outcome.next (s.credGo rq op v) = (.next t : Host.Outcome State Fault Refusal) ∧
          t.reg R.TAG_CRED_STAT = w32 (0x40000000 + n * 0x1000000) ∧ t.tag.commit = none ∧ t.mem = s.mem ∧ t.slots = s.slots := by
      obtain ⟨hr, hc, hm, hs⟩ := State.credRefused_of_none s op v hcommit hheld hhost n
      exact ⟨_, congrArg _ ((State.credGo_of_idle hw hb hcommit hheld hhost).trans (by rw [htag])), hr, hc, hm, hs⟩
    refine ⟨fun hdigits hne => ?_, fun hdigits => ?_, fun hset hne => ?_, fun hset => ?_, fun hlife hst htyp hown hpol hne => ?_,
      fun hlife => ?_, ?_, ?_, ?_⟩
    · refine hput (hgoes (Config.free s.fresh) ((State.tagCred_password s v).trans (if_neg fun hany => ?_))) hne
      obtain ⟨b, hb, hover⟩ := List.any_eq_true.mp hany
      have hfits := List.all_eq_true.mp hdigits b hb
      simp only [Bool.or_eq_true, Bool.and_eq_true, decide_eq_true_eq] at hover hfits
      omega
    · exact hrefused ((State.tagCred_password s v).trans (if_pos hdigits))
    · refine hput (hgoes (Config.free s.fresh) ((State.tagCred_flags s v).trans ((if_neg hset).trans ?_))) hne
      rw [State.cred_credDrawn, State.credBlank_credDrawn, hblank]
      have hbyte (n : Nat) : BitVec.ofNat 8 (n % 256 * b2n (!false)) = BitVec.ofNat 8 n := BitVec.eq_of_toNat_eq (by simp [b2n])
      rw [hbyte]
    · exact hrefused ((State.tagCred_flags s v).trans (if_pos hset))
    · refine hput (hgoes (Config.free s.fresh) ((State.tagCred_key s v).trans (if_neg ?_))) hne
      rw [State.slotOwner_credDrawn, hown]
      simp [hlife, hst, htyp, hpol]
    · exact hrefused ((State.tagCred_key s v).trans (if_pos (.inl hlife)))
    · exact fun hne => hput (hgoes (Config.free s.fresh) (State.tagCred_tries s v)) hne
    · exact fun hne => hput (State.tagCred_erase s v) hne
    · exact fun hne => hput (State.tagCred_ticket s v) hne
end

section
/-! SUPPORT. Input reads, credit periods and dispatch (R103, R116, R122). -/

namespace Sys2Proof.Machine.State

/-- Dispatch moves the rounds of the classes on and nothing else. -/
theorem pickJob_next {s s' : State} {kind : Nat} {j : Job} (h : s.pickJob kind = some (j, s')) : ∃ r, s' = { s with rounds := r } := by
  unfold pickJob at h
  dsimp only at h
  split at h
  · cases h
  · split at h
    · cases h
    · split at h
      · cases h
      · split at h
        · cases h
        · injection h with h
          injection h with _ h
          exact ⟨_, h.symm⟩

/-! ### Credit periods -/

/-- The growth of credit `i` in one period. -/
def growth (s : State) (i : Nat) : Int := ((s.port (i / 2)).share * s.active (i % 2) * 12000 : Nat)

/-- The new shares in force on the first `n` ports. -/
def shareTaken (s : State) (n : Nat) : State :=
  (List.range n).foldl (fun s d => s.modPort d (fun p => { p with share := p.newShare.getD p.share, newShare := none })) s

/-- The first `n` credits grown. -/
def creditGrown (s : State) (n : Nat) : State :=
  (List.range n).foldl (fun s i =>
    let g : Int := ((s.port (i / 2)).share * s.active (i % 2) * 12000 : Nat)
    let c := Tbl.get (fun _ => (0 : Int)) s.credit i
    { s with credit := Tbl.set (fun _ => (0 : Int)) s.credit i (min (c + g) (64 * g)) }) s

theorem creditStep_eq (s : State) : s.creditStep = (s.shareTaken 4).creditGrown 8 := rfl

theorem shareTaken_succ (s : State) (n : Nat) : s.shareTaken (n + 1) =
    (s.shareTaken n).modPort n (fun p => { p with share := p.newShare.getD p.share, newShare := none }) := by
  rw [shareTaken, List.range_succ, List.foldl_append]
  rfl

theorem shareTaken_outcome (s : State) (n : Nat) : (∀ x, (s.shareTaken n).port x = if x < n then
      { s.port x with share := (s.port x).newShare.getD (s.port x).share, newShare := none } else s.port x) ∧
    (s.shareTaken n).credit = s.credit ∧ (∀ e, (s.shareTaken n).active e = s.active e) := by
  induction n with
  | zero => exact ⟨fun x => rfl, rfl, fun _ => rfl⟩
  | succ n ih =>
    obtain ⟨hport, hcredit, hactive⟩ := ih
    rw [shareTaken_succ]
    refine ⟨fun x => ?_, hcredit, hactive⟩
    by_cases hx : x = n
    · subst hx
      rw [modPort, port_setPort, hport, if_neg (Nat.lt_irrefl _), if_pos (Nat.lt_succ_self _)]
    · rw [modPort, (s.shareTaken n).port_setPort_ne _ hx, hport]
      exact ite_congr (propext (by omega)) (fun _ => rfl) fun _ => rfl

/-- One credit grown, up to 64 periods of growth. -/
def growCredit (s : State) (i : Nat) : State :=
  let c := min (Tbl.get (fun _ => (0 : Int)) s.credit i + s.growth i) (64 * s.growth i)
  { s with credit := Tbl.set (fun _ => (0 : Int)) s.credit i c }

theorem creditGrown_succ (s : State) (n : Nat) : s.creditGrown (n + 1) = (s.creditGrown n).growCredit n := by
  rw [creditGrown, List.range_succ, List.foldl_append]
  rfl

theorem creditGrown_outcome (s : State) (n : Nat) : (s.creditGrown n).ports = s.ports ∧ (∀ i, (s.creditGrown n).growth i = s.growth i) ∧
    ∀ i, Tbl.get (fun _ => (0 : Int)) (s.creditGrown n).credit i = if i < n then
      min (Tbl.get (fun _ => (0 : Int)) s.credit i + s.growth i) (64 * s.growth i) else Tbl.get (fun _ => (0 : Int)) s.credit i := by
  induction n with
  | zero => exact ⟨rfl, fun _ => rfl, fun _ => rfl⟩
  | succ n ih =>
    obtain ⟨hports, hgrowth, hcredit⟩ := ih
    rw [creditGrown_succ]
    refine ⟨hports, hgrowth, fun i => ?_⟩
    dsimp only [growCredit]
    by_cases hi : i = n
    · subst hi
      rw [Tbl.get_set_self, hcredit, hgrowth, if_neg (Nat.lt_irrefl _), if_pos (Nat.lt_succ_self _)]
    · rw [Tbl.get_set_ne _ _ _ hi, hcredit]
      exact ite_congr (propext (by omega)) (fun _ => rfl) fun _ => rfl

/-! ### Dispatch -/

/-- A job put in another's place under its id. -/
theorem job_modJob_const {s : State} {id : Nat} {j k : Job} (h : s.job id = some j) (hk : k.id = id) :
    (s.modJob id (fun _ => k)).job id = some k := by
  have hsame : s.modJob id (fun _ => k) = s.modJob id (fun x => if x.id = id then k else x) := by
    refine congrArg (fun l => ({ s with jobs := l } : State)) (List.map_congr_left fun x _ => ?_)
    by_cases hx : x.id = id <;> simp [hx]
  rw [hsame, job_modJob h, if_pos (id_of_job h)]
  intro x
  split
  · next hx => rw [hk, hx]
  · rfl

/-- A job that takes no counter or IV runs on lane `n` at once (R122). -/
theorem toLane_outcome {s : State} {j : Job} (n : Nat) (hjob : s.job j.id = some j) (hop : j.op ∉ [0x02, 0x10, 0x12])
    (hblocks : s.blocksLeft j = none) (hxts : xtsPast j = false) : ∃ t, s.toLane j n = t ∧
    t.lane n = { s.lane n with st := .busy, work := .job j.id, done := 0 } ∧
    t.job j.id = some { j with stage := .running, unit := n, seg := 1 } ∧ t.mem = s.mem ∧ t.staging = s.staging := by
  simp only [List.mem_cons, List.not_mem_nil, or_false, not_or] at hop
  obtain ⟨hseal, henc, hctr⟩ := hop
  have hvalues : s.takeValues j = (s, some j) := by simp [takeValues, hseal, henc, hctr]
  have hblocks' : (s.modJob j.id (fun _ => j)).blocksLeft j = none := hblocks
  have hput : s.toLane j n = ((s.modJob j.id (fun _ => j)).modJob j.id
      (fun x => { x with stage := .running, unit := n, seg := 1 })).modLane n
      (fun l => { l with st := .busy, work := .job j.id, done := 0 }) := by
    simp only [toLane, hvalues, hblocks', hxts, Bool.false_eq_true, if_false]
  exact ⟨_, hput, lane_setLane .., job_modJob (job_modJob_const hjob rfl) fun _ => rfl, rfl, rfl⟩

/-- A job reserved for a unit waits for its leave, its domain charged (R122, R209). -/
theorem reserveUnit_outcome {s : State} (u : Nat) (j : Job) (hbudget : 60 ≤ s.budget - s.variant.standing) :
    ∃ t, s.reserveUnit u false j = t ∧ (t.unit u).st = .leave ∧ (t.unit u).job = some j.id ∧ t.credit = s.credit ∧
      t.leavePend = s.leavePend ++ [⟨Blk.CRU, u, 60, .cru u, false⟩] := by
  obtain ⟨v, hv, hbudget', hunit, hcredit, hpend⟩ : ∃ v, (s.modJob j.id (fun j => { j with stage := .running, unit := u })).modUnit u
      (fun k => { k with st := .leave, job := some j.id, fw := false, out := none, klass := jobClass j }) = v ∧
      ¬ 60 > v.budget - v.variant.standing ∧
      v.unit u = { s.unit u with st := .leave, job := some j.id, fw := false, out := none, klass := jobClass j } ∧
      v.credit = s.credit ∧ v.leavePend = s.leavePend := ⟨_, rfl, Nat.not_lt.mpr hbudget, unit_setUnit .., rfl, rfl⟩
  have hask : s.reserveUnit u false j = { v with leavePend := v.leavePend ++ [⟨Blk.CRU, u, 60, .cru u, false⟩] } := by
    simp only [reserveUnit, Bool.false_eq_true, if_false, hv, askLeave, hbudget']
  refine ⟨_, hask, ?_, ?_, hcredit, by rw [hpend]⟩
  · exact (congrArg CUnit.st hunit :)
  · exact (congrArg CUnit.job hunit :)

end Sys2Proof.Machine.State

open Sys2Proof Sys2Proof.Machine

/-- Settles O37: what an input read brings, a credit period, and the branches of dispatch that take a job. -/
theorem jobsAreReadDispatchedAndCharged : Obligations.JobsAreReadDispatchedAndCharged := by
  intro s s' id off d j
  refine ⟨fun hjob hreading => ⟨fun hstage => ?_, fun hlo hhi hop hstage => ?_⟩, ⟨_, rfl, fun x hx => ?_⟩,
    fun n hmode hidle hinstall hpick hop hblocks hxts hjob => ?_, fun u hfree hfw hpick hrandom hop hbudget => ?_,
    fun hjob hop hstage => ?_⟩
  case refine_1 =>
    simp [exec, execInputReadCompletion, hjob, hreading, State.inputIn, hstage, State.nextChunk]
  case refine_2 =>
    have hin : ¬ (off < j.input.length ∨ j.inTotal ≤ off) := by omega
    have hfail (k : Nat) : s.inputFail j off k = s.failJob j St.HOST_MEM_FAULT 6 0 k off := by
      simp only [State.inputFail, hin, hop, hstage, if_false, Nat.zero_add]
    refine ⟨?_, ?_, ?_⟩ <;> simp [exec, execInputReadCompletion, execLadleReadTimeout, hjob, hreading, hfail]
  case refine_3 =>
    obtain ⟨hport, hcredit, hactive⟩ := s.shareTaken_outcome 4
    obtain ⟨hports, hgrowth, hgrown⟩ := (s.shareTaken 4).creditGrown_outcome 8
    have hport' : (s.creditStep.port x) = { s.port x with share := (s.port x).newShare.getD (s.port x).share, newShare := none } := by
      rw [State.creditStep_eq, State.port, hports, ← State.port, hport, if_pos hx]
    refine ⟨congrArg HPort.share hport', congrArg HPort.newShare hport', fun e he => ?_⟩
    have hgrow : (s.shareTaken 4).growth (2 * x + e) = ((s.creditStep.port x).share * s.active e * 12000 : Nat) := by
      rw [State.growth, hactive, show (2 * x + e) / 2 = x by omega, show (2 * x + e) % 2 = e by omega, hport, if_pos hx, hport']
    rw [State.creditOf, State.creditStep_eq, hgrown, if_pos (by omega), hcredit, hgrow]
    rfl
  case refine_4 =>
    obtain ⟨r, hs'⟩ := State.pickJob_next hpick
    obtain ⟨t, ht, hlane, htjob, hmem, hstaging⟩ := State.toLane_outcome n hjob hop hblocks hxts
    subst hs'
    refine ⟨t, ?_, hlane, htjob, hmem, hstaging⟩
    have hgo : ¬ (s.mode ≠ .service ∧ s.mode ≠ .hold ∧ (!false) = true) := fun ⟨h1, h2, _⟩ => hmode.elim h1 h2
    simp only [exec, execJobDispatch, hgo, if_false, Bool.false_eq_true, State.laneDispatch, hidle, hinstall, hpick, ht]
  case refine_5 =>
    obtain ⟨r, rfl⟩ := State.pickJob_next hpick
    obtain ⟨m, hm⟩ : ∃ m, m = Tbl.set (fun _ => (0 : Int)) s.credit (2 * j.dom + 1) (s.creditOf 1 j.dom - (640 * jobTime j : Nat)) :=
      ⟨_, rfl⟩
    obtain ⟨v, hv, hvbudget, hvcredit, hvpend⟩ : ∃ v : State, ({ s with rounds := r, credit := m } : State) = v ∧ 60 ≤ v.budget - v.variant.standing ∧
        v.creditOf 1 j.dom = s.creditOf 1 j.dom - (640 * jobTime j : Nat) ∧ v.leavePend = s.leavePend :=
      ⟨_, rfl, hbudget, by rw [hm]; exact Tbl.get_set_self .., rfl⟩
    obtain ⟨t, ht, hst, htjob, htcredit, htpend⟩ := State.reserveUnit_outcome u j hvbudget
    refine ⟨t, ?_, hst, htjob, ?_, htpend.trans (by rw [hvpend])⟩
    · have hdispatch : s.cruDispatch = v.reserveUnit u false j := by
        simp only [State.cruDispatch, hfree, hpick, hop, hrandom, false_and, Bool.false_eq_true, if_false]
        split
        · next k hk => rw [hfw] at hk; cases hk
        · rw [← hv, hm]
          rfl
      simp [exec, execJobDispatch, hdispatch, ht]
    · rw [← hvcredit, State.creditOf, htcredit, State.creditOf]
  case refine_6 => simp [exec, execNop, hjob, hop, hstage]
end

section
/-! SUPPORT. Completions and read-aheads (R90-R97, R107). -/

namespace Sys2Proof.Machine

theorem complBytes_ne_nil (ordr early : Bool) (status tag cnt sqHead : Nat) (r d : Word) :
    complBytes ordr early status tag cnt sqHead r d ≠ [] := by
  simp [complBytes]

/-- Reporting keeps C, the slot after those known to be free, and the read-ahead in hand (R91). -/
structure CqKept (q : Nat) (s t : State) : Prop where
  cqN : (t.qp q).cqN = (s.qp q).cqN
  ra : (t.qp q).ra = (s.qp q).ra
  pos : ((t.qp q).w + (t.qp q).free) % 2 ^ (s.qp q).cqN = ((s.qp q).w + (s.qp q).free) % 2 ^ (s.qp q).cqN

namespace CqKept

variable {q : Nat} {s t u : State}

theorem of_qp (hn : (t.qp q).cqN = (s.qp q).cqN) (hra : (t.qp q).ra = (s.qp q).ra) (hw : (t.qp q).w = (s.qp q).w)
    (hfree : (t.qp q).free = (s.qp q).free) : CqKept q s t := ⟨hn, hra, by rw [hw, hfree]⟩

theorem of_qps (h : t.qps = s.qps) : CqKept q s t := by
  have hqp : t.qp q = s.qp q := congrArg (fun m => Tbl.get (fun _ => ({} : QP)) m q) h
  exact of_qp (by rw [hqp]) (by rw [hqp]) (by rw [hqp]) (by rw [hqp])

theorem refl (q : Nat) (s : State) : CqKept q s s := ⟨rfl, rfl, rfl⟩

theorem trans (h : CqKept q s t) (g : CqKept q t u) : CqKept q s u where
  cqN := g.cqN.trans h.cqN
  ra := g.ra.trans h.ra
  pos := by rw [← h.pos, ← h.cqN]; exact g.pos

/-- A change of the queue pair that leaves its place in the CQ. -/
theorem modQp (q : Nat) (s : State) (f : QP → QP)
    (h : ∀ k, (f k).cqN = k.cqN ∧ (f k).ra = k.ra ∧ (f k).w = k.w ∧ (f k).free = k.free) : CqKept q s (s.modQp q f) := by
  have hqp : (s.modQp q f).qp q = f (s.qp q) := s.qp_setQp q _
  obtain ⟨hn, hra, hw, hfree⟩ := h (s.qp q)
  exact of_qp (by rw [hqp, hn]) (by rw [hqp, hra]) (by rw [hqp, hw]) (by rw [hqp, hfree])

theorem post (q : Nat) (s : State) (d a : Nat) (data : List Byte) (output : Bool) : CqKept q s (s.post d a data output) := by
  unfold State.post
  split
  · exact refl q s
  · exact of_qps rfl

theorem ringFault (s : State) (q slot status ring : Nat) : CqKept q s (s.ringFault q slot status ring) := by
  have hcount (u : State) : CqKept q u ((u.count R.TUN_ERR 31 16).event Blk.TUN 0 5) := of_qps rfl
  exact (modQp q s _ (by exact fun _ => ⟨rfl, rfl, rfl, rfl⟩)).trans (hcount _)

theorem faultBy (q : Nat) (s : State) (b i kind addr dom : Nat) : CqKept q s (s.faultBy b i kind addr dom Blk.TUN 0) := of_qps rfl

/-- One slot taken: W moves on, and one slot fewer is known to be free. -/
theorem takeSlot (q : Nat) (s : State) (f : QP → QP) (k : QP) (hk : s.qp q = k) (hfree : k.free ≠ 0) (hn : (f k).cqN = k.cqN)
    (hra : (f k).ra = k.ra) (hw : (f k).w = (k.w + 1) % 2 ^ k.cqN) (hf : (f k).free = k.free - 1) : CqKept q s (s.modQp q f) := by
  have hqp : (s.modQp q f).qp q = f k := by rw [State.modQp, State.qp_setQp, hk]
  refine ⟨by rw [hqp, hn, hk], by rw [hqp, hra, hk], ?_⟩
  rw [hqp, hk, hw, hf, Nat.mod_add_mod]
  congr 1
  omega

/-- A completion written moves W on and takes one free slot. -/
theorem putCompl (s : State) (q n : Nat) (e : List Byte) (hfree : (s.qp q).free ≠ 0) : CqKept q s (s.putCompl q n e).1 := by
  have hpost : ∀ d a, (s.post d a e false).qp q = s.qp q := by
    intro d a
    unfold State.post
    split <;> rfl
  unfold State.putCompl
  dsimp only
  split
  · exact (ringFault ..).trans (faultBy ..)
  · dsimp only
    exact (post q s _ _ e false).trans (takeSlot q _ _ _ (hpost _ _) hfree rfl rfl rfl rfl)

theorem writeCompl (s : State) (q : Nat) (c : Compl) (hfree : (s.qp q).free ≠ 0) : CqKept q s (s.writeCompl q c) := by
  unfold State.writeCompl
  dsimp only
  have hput := putCompl s q c.covers.length
    (complBytes c.ordr c.early c.last.status c.last.tag c.covers.length (s.qp q).h c.last.result c.last.detail) hfree
  have hrelease (u : State) (p : Job → Bool) : CqKept q u { u with jobs := u.jobs.filter p } := of_qps rfl
  split
  · exact hput.trans ((modQp q _ (fun k => { k with frozen := k.frozen.drop 1 }) (by exact fun _ => ⟨rfl, rfl, rfl, rfl⟩)).trans (hrelease _ _))
  · exact hput

theorem complWaits (s : State) (q : Nat) : CqKept q s (s.complWaits q) :=
  modQp q s _ (by exact fun _ => ⟨rfl, rfl, rfl, rfl⟩)

theorem reportRing (s : State) (q : Nat) : CqKept q s (s.reportRing q) := by
  have hclear : CqKept q s (s.modQp q (fun k => { k with ringMsg := none })) :=
    modQp q s _ (by exact fun _ => ⟨rfl, rfl, rfl, rfl⟩)
  unfold State.reportRing
  dsimp only
  split
  · exact refl q s
  · split
    · exact hclear
    split
    next hfree =>
      exact complWaits ..
    next hfree =>
      refine hclear.trans (putCompl _ q _ _ ?_)
      rw [State.modQp, State.qp_setQp]
      exact hfree

theorem report (s : State) (q fuel : Nat) : CqKept q s (s.report q fuel) := by
  induction fuel generalizing s with
  | zero => exact refl q s
  | succ fuel ih =>
    unfold State.report
    dsimp only
    split
    · exact refl q s
    split
    · exact ⟨rfl, rfl, rfl⟩
    split
    · exact modQp q s _ (by exact fun _ => ⟨rfl, rfl, rfl, rfl⟩)
    · split
      · exact complWaits ..
      · next hfree => exact (writeCompl s q _ hfree).trans (ih _)

theorem reportAll (s : State) (q : Nat) : CqKept q s (s.reportAll q) := (reportRing s q).trans (report ..)

end CqKept

/-- The completion owed when the only job of a queue pair has finished and is reported by name. -/
theorem nextCompl_single {j : Job} (hdone : j.isDone = true) (hordr : j.ordr = false) (hname : j.status ≠ 0 ∨ j.cmpl = true)
    (close : Bool) : nextCompl [j] close = some ⟨false, false, j, [j.id]⟩ := by
  have hown : j.ownReport = false := by simp [Job.ownReport, hordr]
  have hreport : (j.failed || j.cmpl) = true := by
    rcases hname with h | h <;> simp [Job.failed, hdone, h]
  have hhead : headJob [j] = some j := by simp [headJob, doneFront, hdone, hordr, hreport]
  have hheat : heatBefore [j] j.id = [] := by simp [heatBefore]
  simp [nextCompl, hown, hhead, headCompl, hheat]

theorem nextCompl_nil (close : Bool) : nextCompl [] close = none := by
  cases close <;> rfl

namespace State

section
variable {s : State} {q : Nat} {j : Job} (hst : (s.qp q).st = .active) (hmsg : (s.qp q).ringMsg = none)
  (hring : (s.qp q).faultRing = 0)

include hmsg in
theorem reportRing_of_none : s.reportRing q = s := by
  unfold reportRing
  simp only [hmsg]

include hst hmsg hring in
/-- A step of reporting on an active queue pair. -/
theorem report_active (fuel : Nat) : s.report q (fuel + 1) = (match nextCompl (s.qjobs q) (s.closeDue q) with
    | none => s.modQp q (fun k => { k with closing := false })
    | some c => if (s.qp q).free = 0 then s.complWaits q else (s.writeCompl q c).report q fuel) := by
  have hstop : ¬ ((s.qp q).st = .absent ∨ (s.qp q).ringMsg.isSome = true) := by simp [hst, hmsg]
  have hring' : ¬ (s.qp q).faultRing = 1 := by omega
  have hdue : s.nextDue q = nextCompl (s.qjobs q) (s.closeDue q) := by simp [nextDue, hst]
  rw [report, if_neg hstop, if_neg hring', hdue]
  cases nextCompl (s.qjobs q) (s.closeDue q) with
  | none => simp [modQp, hst]
  | some c => rfl

end

/-- A read-ahead that returns leaves `free` slots known to be free. -/
def aheadDone (free : Nat) (k : QP) : QP := { k with ra := none, free := free, outst := min k.outst (2 ^ k.cqN - free) }

/-- A read-ahead from C moves C over the run of entries whose OWN reads 0 (R91). -/
theorem readAheadDone_of_cur {s : State} {q c m : Nat} {owns : List Bool} (hra : (s.qp q).ra = some (c, m))
    (hc : c = ((s.qp q).w + (s.qp q).free) % 2 ^ (s.qp q).cqN)
    (hfits : (s.qp q).free + ((owns.take m).takeWhile (fun o => !o)).length ≤ 2 ^ (s.qp q).cqN) : s.readAheadDone q owns =
      (s.modQp q (aheadDone ((s.qp q).free + ((owns.take m).takeWhile (fun o => !o)).length))).reportAll q := by
  simp only [readAheadDone, hra]
  rw [← hc, Nat.add_sub_cancel_left, Nat.mod_self, Nat.sub_zero, Nat.min_eq_right hfits]
  rfl

/-- A completion written into slot W by a queue pair whose slot may be written (R90, R94). -/
structure Written (q : Nat) (s : State) (c : Compl) (t : State) : Prop where
  staging : t.staging = s.staging ++ [⟨(s.qp q).dom, (s.qp q).cqBase + (s.qp q).w * 16, complBytes c.ordr c.early c.last.status
    c.last.tag c.covers.length (s.qp q).h c.last.result c.last.detail, false⟩]
  jobs : t.jobs = s.jobs.filter (fun x => !c.covers.contains x.id)
  st : (t.qp q).st = (s.qp q).st
  ringMsg : (t.qp q).ringMsg = (s.qp q).ringMsg
  faultRing : (t.qp q).faultRing = (s.qp q).faultRing
  w : (t.qp q).w = ((s.qp q).w + 1) % 2 ^ (s.qp q).cqN
  free : (t.qp q).free = (s.qp q).free - 1
  jobsCov : (t.qp q).jobsCov = ((s.qp q).jobsCov + c.covers.length) % 2 ^ 32
  mem : t.mem = s.mem
  regs : t.regs = s.regs

theorem writeCompl_of_granule {s : State} {q : Nat} (c : Compl)
    (hok : s.granuleOk (s.qp q).dom ((s.qp q).cqBase + (s.qp q).w * 16) true = true) : Written q s c (s.writeCompl q c) := by
  have hne := complBytes_ne_nil c.ordr c.early c.last.status c.last.tag c.covers.length (s.qp q).h c.last.result c.last.detail
  obtain ⟨u, hu, hstaging, hjobs, hqp, hmem, hregs⟩ : ∃ u, s.post (s.qp q).dom ((s.qp q).cqBase + (s.qp q).w * 16)
      (complBytes c.ordr c.early c.last.status c.last.tag c.covers.length (s.qp q).h c.last.result c.last.detail) false = u ∧
      u.staging = s.staging ++ [⟨(s.qp q).dom, (s.qp q).cqBase + (s.qp q).w * 16, complBytes c.ordr c.early c.last.status
        c.last.tag c.covers.length (s.qp q).h c.last.result c.last.detail, false⟩] ∧ u.jobs = s.jobs ∧ u.qp q = s.qp q ∧
      u.mem = s.mem ∧ u.regs = s.regs := by
    refine ⟨_, rfl, ?_⟩
    rw [post, if_neg (by simpa using hne)]
    exact ⟨rfl, rfl, rfl, rfl, rfl⟩
  simp only [writeCompl, putCompl, hok, Bool.not_true, Bool.false_eq_true, if_false, if_true, hu]
  have hqp2 (f g : QP → QP) (l : List Job) : ({ (u.modQp q f).modQp q g with jobs := l } : State).qp q = g (f (s.qp q)) := by
    refine (qp_setQp ..).trans ?_
    rw [modQp, qp_setQp, hqp]
  refine ⟨hstaging, congrArg _ hjobs, ?_, ?_, ?_, ?_, ?_, ?_, hmem, hregs⟩ <;> rw [hqp2]

/-- A queue pair whose CQ is lost reports nothing: its ring message is given up and its finished jobs are released (R107). -/
theorem reportAll_of_lost {s : State} {q : Nat} (hst : (s.qp q).st ≠ .absent) (hring : (s.qp q).faultRing = 1) :
    s.reportAll q = { (s.modQp q (fun k => { k with ringMsg := none })) with
      jobs := s.jobs.filter (fun x => !(x.qp == q && x.isDone)) } ∨
    s.reportAll q = { s with jobs := s.jobs.filter (fun x => !(x.qp == q && x.isDone)) } := by
  have hreport {u : State} (fuel : Nat) (hust : (u.qp q).st ≠ .absent) (humsg : (u.qp q).ringMsg = none) (huring : (u.qp q).faultRing = 1) :
      u.report q (fuel + 1) = { u with jobs := u.jobs.filter (fun x => !(x.qp == q && x.isDone)) } := by
    have hgo : ¬ ((u.qp q).st = .absent ∨ (u.qp q).ringMsg.isSome = true) := by simp [hust, humsg]
    rw [report, if_neg hgo, if_pos huring]
  cases hmsg : (s.qp q).ringMsg with
  | none =>
    right
    rw [reportAll, reportRing_of_none hmsg, hreport _ hst hmsg hring]
  | some x =>
    left
    have hclear : s.reportRing q = s.modQp q (fun k => { k with ringMsg := none }) := by
      simp only [reportRing, hmsg, hring, if_true]
    rw [reportAll, hclear, hreport]
    · rfl
    · rw [modQp, qp_setQp]; exact hst
    · rw [modQp, qp_setQp]
    · rw [modQp, qp_setQp]; exact hring

/-- A failed access of the CQ leaves the queue pair FAULTED at the slot, its finished jobs released (R107). -/
theorem cqFault_of_active {s : State} {q slot : Nat} (hst : (s.qp q).st = .active) (status : Nat) : ∃ t, s.cqFault q slot status = t ∧
    (t.qp q).st = .faulted ∧ (t.qp q).faultRing = 1 ∧ (t.qp q).faultSlot = slot ∧
    t.jobs = s.jobs.filter (fun x => !(x.qp == q && x.isDone)) ∧ t.staging = s.staging ∧ t.mem = s.mem := by
  have hfault : ((s.ringFault q slot status 1).qp q).st = .faulted ∧ ((s.ringFault q slot status 1).qp q).faultRing = 1 ∧
      ((s.ringFault q slot status 1).qp q).faultSlot = slot := by
    have hqp : (s.ringFault q slot status 1).qp q = { s.qp q with
        st := if (s.qp q).st = .destroying then .destroying else .faulted, faultSlot := slot, faultStatus := status, faultRing := 1
        fetch := none, reread := none } := s.qp_setQp q _
    rw [hqp]
    exact ⟨if_neg (by simp [hst]), rfl, rfl⟩
  obtain ⟨u, hu, hust, huring, huslot, hujobs, hustaging, humem⟩ : ∃ u : State, s.cqFault q slot status = u.reportAll q ∧
      (u.qp q).st = .faulted ∧ (u.qp q).faultRing = 1 ∧ (u.qp q).faultSlot = slot ∧ u.jobs = s.jobs ∧ u.staging = s.staging ∧
      u.mem = s.mem := by
    obtain ⟨hfst, hfring, hfslot⟩ := hfault
    obtain ⟨kind, addr, hcq⟩ : ∃ kind addr, s.cqFault q slot status = ((((s.ringFault q slot status 1).modQp q
        (fun k => { k with ra := none })).faultBy Blk.TUN 0 kind addr (s.qp q).dom Blk.TUN 0)).reportAll q := ⟨_, _, rfl⟩
    have hfjobs : (s.ringFault q slot status 1).jobs = s.jobs ∧ (s.ringFault q slot status 1).staging = s.staging ∧
        (s.ringFault q slot status 1).mem = s.mem := ⟨rfl, rfl, rfl⟩
    obtain ⟨hjobs, hstaging, hmem⟩ := hfjobs
    rw [hcq]
    generalize s.ringFault q slot status 1 = w at hfst hfring hfslot hjobs hstaging hmem ⊢
    have hqp : ((w.modQp q (fun k => { k with ra := none })).faultBy Blk.TUN 0 kind addr (s.qp q).dom Blk.TUN 0).qp q =
      { w.qp q with ra := none } := w.qp_setQp q _
    exact ⟨_, rfl, (congrArg QP.st hqp).trans hfst, (congrArg QP.faultRing hqp).trans hfring, (congrArg QP.faultSlot hqp).trans hfslot,
      hjobs, hstaging, hmem⟩
  rw [hu, ← hujobs, ← hustaging, ← humem]
  have hqp : (u.modQp q (fun k => { k with ringMsg := none })).qp q = { u.qp q with ringMsg := none } := u.qp_setQp q _
  rcases reportAll_of_lost (by rw [hust]; exact fun h => nomatch h) huring with h | h
  · exact ⟨_, h, (congrArg QP.st hqp).trans hust, (congrArg QP.faultRing hqp).trans huring,
      (congrArg QP.faultSlot hqp).trans huslot, rfl, rfl, rfl⟩
  · exact ⟨_, h, hust, huring, huslot, rfl, rfl, rfl⟩

end State
end Sys2Proof.Machine

open Sys2Proof Sys2Proof.Machine

/-- Settles O35: a completion in slot W and W moved on, reporting that keeps C, and the release by a fault of the CQ. -/
theorem completionsAndReadAhead : Obligations.CompletionsAndReadAhead := by
  intro s q j owns c m
  dsimp only
  refine ⟨fun hst hmsg hring hjobs hdone hordr hname => ⟨fun hfree hok => ?_, fun hfree hwait => ?_⟩,
    fun hst hring hra hfree hjudge hwin => ?_, fun hra hc hw => ⟨fun hfits => ?_, fun hst => ?_⟩⟩
  case refine_1 =>
    obtain ⟨hstaging, htjobs, hwst, hwmsg, hwring, hww, hwfree, hwcov, hmem, hregs⟩ := s.writeCompl_of_granule (q := q) ⟨false, false, j, [j.id]⟩ hok
    have hleft : (s.writeCompl q ⟨false, false, j, [j.id]⟩).qjobs q = [] := by
      rw [State.qjobs, htjobs, List.filter_filter]
      have hall : (s.qjobs q).filter (fun x => !([j.id].contains x.id)) = [] := by simp [hjobs]
      rw [State.qjobs, List.filter_filter] at hall
      simpa [and_comm] using hall
    have hreport : s.reportAll q = (s.writeCompl q ⟨false, false, j, [j.id]⟩).modQp q (fun k => { k with closing := false }) := by
      rw [State.reportAll, State.reportRing_of_none hmsg, State.report_active hst hmsg hring, hjobs, nextCompl_single hdone hordr hname]
      dsimp only
      rw [if_neg hfree]
      rw [State.report_active (hwst.trans hst) (hwmsg.trans hmsg) (hwring.trans hring), hleft, nextCompl_nil]
    have hqp {α : Type} (f : QP → α) (hf : ∀ k : QP, f { k with closing := false } = f k) (w : State) :
        f ((w.modQp q (fun k => { k with closing := false })).qp q) = f (w.qp q) := by
      rw [State.modQp, State.qp_setQp, hf]
    have hcovers : s.jobs.filter (fun x => !([j.id].contains x.id)) = s.jobs.filter (fun x => x.id != j.id) :=
      List.filter_congr fun x _ => by
        by_cases h : x.id = j.id <;> simp [h]
    exact ⟨_, congrArg Host.Outcome.next hreport, hstaging, htjobs.trans hcovers, (hqp QP.w (fun _ => rfl) _).trans hww,
      (hqp QP.free (fun _ => rfl) _).trans hwfree, (hqp QP.jobsCov (fun _ => rfl) _).trans hwcov, hmem, hregs⟩
  case refine_2 =>
    have hreport : s.reportAll q = s.complWaits q := by
      rw [State.reportAll, State.reportRing_of_none hmsg, State.report_active hst hmsg hring, hjobs, nextCompl_single hdone hordr hname]
      exact if_pos hfree
    show Host.Outcome.next (s.reportAll q) = _
    rw [hreport, State.complWaits, State.modQp, hwait]
    rfl
  case refine_3 =>
    have hgo : ¬ (((s.qp q).st ≠ .active ∧ (s.qp q).st ≠ .destroying ∧ (s.qp q).st ≠ .faulted) ∨ (s.qp q).faultRing = 1 ∨
        (s.qp q).ra.isSome = true ∨ 16 ≤ (s.qp q).free ∨ (!((s.qp q).judge || (s.qp q).waiting || (s.qp q).ringMsg.isSome)) = true) := by
      simp [hst, hring, hra, hjudge]
      omega
    refine congrArg Host.Outcome.next ?_
    rw [State.readAheadGo, if_neg hgo, hwin]
    rfl
  case refine_4 =>
    have hdone := State.readAheadDone_of_cur hra hc hfits
    generalize ((owns.take m).takeWhile (fun o => !o)).length = n at hdone ⊢
    obtain ⟨-, hkra, hpos⟩ := CqKept.reportAll (s.modQp q (State.aheadDone ((s.qp q).free + n))) q
    rw [State.modQp, State.qp_setQp] at hkra hpos
    refine ⟨_, congrArg Host.Outcome.next hdone, hkra, hpos.trans ?_⟩
    show ((s.qp q).w + ((s.qp q).free + n)) % 2 ^ (s.qp q).cqN = _
    rw [← Nat.add_assoc, Nat.add_mod, ← hc, Nat.add_mod_mod]
  case refine_5 =>
    obtain ⟨t, ht, hqst, hqring, hqslot, hjobs, hstaging, hmem⟩ := s.cqFault_of_active (slot := c) hst St.HOST_MEM_FAULT
    exact ⟨t, by simp [exec, execCqReadAheadCompletion, hra, ht], hqst, hqring, hqslot, hjobs, hstaging, hmem⟩
end

section
/-! SUPPORT. Fetch turns and the entries they bring (R80-R82, R87, R106). -/

namespace Sys2Proof.Machine.State

/-- Reporting on a queue pair with no free CQ slot changes no more than its waiting (R94). -/
theorem reportAll_of_full_qp {s : State} {q : Nat} (hfree : (s.qp q).free = 0) (hmsg : (s.qp q).ringMsg = none)
    (hring : (s.qp q).faultRing = 0) {α : Type} (f : QP → α)
    (hf : ∀ k c j w n, f { k with closing := c, judge := j, waiting := w, cqWaits := n } = f k) :
    f ((s.reportAll q).qp q) = f (s.qp q) := by
  rw [reportAll, reportRing_of_none hmsg, report]
  simp only [hmsg, hring, hfree, Option.isSome_none, Bool.false_eq_true, or_false, Nat.zero_ne_one, if_false, if_true]
  split
  · rfl
  split
  · rw [modQp, qp_setQp]
    exact hf _ _ _ _ _
  · rw [complWaits, modQp, qp_setQp]
    exact hf _ _ _ _ _

/-- A job that fails before delivery, on a queue pair with no free CQ slot, is finished and posts nothing (R94, R106). -/
theorem failJob_of_full {s : State} {j : Job} (hjob : s.job j.id = some j) (hfree : (s.qp j.qp).free = 0)
    (hmsg : (s.qp j.qp).ringMsg = none) (hring : (s.qp j.qp).faultRing = 0) (status : Nat) {stage : Nat} (hstage : stage < 6)
    (entry cause detail : Nat) : ∃ t x, s.failJob j status stage entry cause detail = t ∧ t.job j.id = some x ∧ x.stage = .done ∧
      x.status = status ∧ x.result = failWord stage entry cause ∧ x.tag = j.tag ∧ t.staging = s.staging ∧
      ∀ {α : Type} (f : QP → α), (∀ k c j w n, f { k with closing := c, judge := j, waiting := w, cqWaits := n } = f k) →
        f (t.qp j.qp) = f (s.qp j.qp) := by
  have hgo := (WorkEnded.countStatus s j status).trans (WorkEnded.letGo _ j false (status == St.AUTH_FAIL))
  obtain ⟨hx, hs⟩ := State.finish_of_full (status := status) (r := failWord stage entry cause) (d := w32 detail)
    hgo.jobs hgo.qps hjob hfree hmsg hring
  have hfail : s.failJob j status stage entry cause detail = ((((s.countStatus j status).letGo j false (status == St.AUTH_FAIL)).markDone
      j.id status (failWord stage entry cause) (w32 detail))).reportAll j.qp := by
    rw [failJob, failQuiet, if_neg (by omega)]
  have hqp : (((s.countStatus j status).letGo j false (status == St.AUTH_FAIL)).markDone j.id status (failWord stage entry cause)
      (w32 detail)).qp j.qp = s.qp j.qp := by
    rw [qp, markDone_qps, hgo.qps, qp]
  refine ⟨_, _, hfail, hx, rfl, rfl, rfl, rfl, hs.trans hgo.staging, fun f hf => ?_⟩
  rw [reportAll_of_full_qp (by rw [hqp]; exact hfree) (by rw [hqp]; exact hmsg) (by rw [hqp]; exact hring) f hf, hqp]

/-- What taking the entry at H does to the queue pair. -/
def pastH (k : QP) : QP :=
  { k with h := (k.h + 1) % 2 ^ k.sqN, inl := Tbl.del k.inl k.h, spilled := k.spilled.filter (fun x => x != k.h) }

/-- The write-back that clears OWN of the entry at H. -/
def ownClear (k : QP) (e : List Byte) : Tlp := ⟨k.dom, k.sqBase + k.h * 64, [BitVec.ofNat 8 (leAt e 0 1 % 128)], false⟩

theorem takeOne_eq (s : State) (q : Nat) (e : List Byte) :
    s.takeOne q e = ({ s with staging := s.staging ++ [ownClear (s.qp q) e] } : State).setQp q (pastH (s.qp q)) := rfl

/-- A read of one entry whose slot may be written takes it, and judges its chain. -/
theorem takeAll_single {s : State} {q : Nat} {e : Ent} (hst : (s.qp q).st = .active)
    (htake : leAt e.bytes 0 1 / 128 = 1 ∨ e.pushed = true)
    (hok : s.granuleOk (s.qp q).dom ((s.qp q).sqBase + (s.qp q).h * 64) true = true) : s.takeAll q [e] =
      (let t := (s.takeOne q e.bytes).chainStep q e.bytes (leAt e.bytes 0 1 / 128 == 1)
       if (t.qp q).st ≠ .active then t else t.settleFetch q) := by
  have hgo : (!(leAt e.bytes 0 1 / 128 == 1) && !e.pushed) = false := by
    rcases htake with h | h <;> simp [h]
  simp [takeAll, hst, takeRun, hgo, hok]

/-- An entry with FIRST and not LAST opens a chain (R87). -/
theorem chainStep_opens {s : State} {q : Nat} {e : List Byte} (hchain : (s.qp q).chain = []) (hfirst : leAt e 0 1 / 64 % 2 = 1)
    (hlast : leAt e 0 1 / 32 % 2 = 0) : s.chainStep q e true = s.modQp q (fun k => { k with chain := [⟨e, true⟩] }) := by
  have hlast' : ¬ leAt e 0 1 / 32 % 2 = 1 := by omega
  simp only [chainStep, hchain, hfirst, hlast', Bool.not_true, Bool.false_eq_true, List.map_nil, List.map_cons, List.isEmpty_nil,
    if_true, if_false]

/-- An entry outside a chain whose OWN reads 0 again is a job that fails (R82). -/
theorem chainStep_unowned {s : State} {q : Nat} {e : List Byte} (hchain : (s.qp q).chain = []) :
    s.chainStep q e false = s.badChain q [e] false St.BAD_ENTRY 1 0 := by
  simp only [chainStep, hchain, Bool.not_false, List.map_nil, List.isEmpty_nil, if_true]

/-- A new job is found under the next id (R87). -/
theorem newJob_outcome {s : State} (q : Nat) (es : List (List Byte)) (ordr : Bool) (hnew : s.job s.nextJob = none) :
    ∃ j t, s.newJob q es ordr = (j, t) ∧ j.id = s.nextJob ∧ j.qp = q ∧ j.tag = leAt (es.headD []) 2 2 ∧
      t.job s.nextJob = some j ∧ t.qps = s.qps ∧ t.staging = s.staging := by
  have hfind (j : Job) (hid : j.id = s.nextJob) : (s.jobs ++ [j]).find? (fun x => x.id == s.nextJob) = some j := by
    have hnone : s.jobs.find? (fun x => x.id == s.nextJob) = none := hnew
    simp [List.find?_append, hnone, hid]
  unfold newJob
  dsimp only
  refine ⟨_, _, rfl, rfl, rfl, rfl, ?_⟩
  split
  · exact ⟨hfind _ rfl, rfl, rfl⟩
  · exact ⟨hfind _ rfl, rfl, rfl⟩

/-- A fetch of entries that may all be read reads as many as are posted and in the ring, at most 16 (R80, R81). -/
theorem issueFetch_of_granules {s : State} {q n : Nat} (hn : ringRun (s.qp q) (s.qp q).h (min 16 (s.room q)) = n) (hpos : 0 < n)
    (hok : ∀ i, i < n → s.granuleOk (s.qp q).dom ((s.qp q).sqBase + ((s.qp q).h + i) * 64) false = true) :
    s.issueFetch q = s.modQp q (fun k => { k with fetch := some ⟨k.h, n, false⟩ }) := by
  have hall : (List.range n).takeWhile (fun i => s.granuleOk (s.qp q).dom ((s.qp q).sqBase + ((s.qp q).h + i) * 64) false) =
      List.range n := by
    have happ := List.takeWhile_append_of_pos (l₂ := []) fun i hi => hok i (List.mem_range.mp hi)
    rwa [List.takeWhile_nil, List.append_nil] at happ
  have hne : n ≠ 0 := by omega
  simp [issueFetch, hn, hall, hne]

/-- A read of the ring that fails leaves the queue pair FAULTED at the slot, its completion waiting for a slot (R106). -/
theorem sqFault_of_full {s : State} {q : Nat} (hst : (s.qp q).st = .active) (hfree : (s.qp q).free = 0) (cause slot a : Nat) :
    ∃ t m, s.sqFault q St.HOST_MEM_FAULT cause slot a = t ∧ (t.qp q).st = .faulted ∧
      (t.qp q).faultSlot = slot ∧ (t.qp q).faultStatus = St.HOST_MEM_FAULT ∧ (t.qp q).fetch = none ∧
      t.inbox = s.inbox ++ [m] ∧ m.kind = Kind.RING_FAULT ∧ m.addr = a % 2 ^ 40 ∧
      (t.qp q).ringMsg = some (St.HOST_MEM_FAULT, cause, slot) ∧ t.jobs = s.jobs ∧ t.staging = s.staging := by
  obtain ⟨u, k, hu, huqp, ⟨hkst, hkslot, hkstatus, hkfetch, hkfree, hkring, hkmsg⟩, ⟨m, hin, hkind, haddr⟩, hjobs, hstaging⟩ :
      ∃ (u : State) (k : QP), s.sqFault q St.HOST_MEM_FAULT cause slot a = u.reportAll q ∧ u.qp q = k ∧
      (k.st = .faulted ∧ k.faultSlot = slot ∧ k.faultStatus = St.HOST_MEM_FAULT ∧ k.fetch = none ∧ k.free = 0 ∧ k.faultRing = 0 ∧
        k.ringMsg = some (St.HOST_MEM_FAULT, cause, slot)) ∧
      (∃ m : Msg, u.inbox = s.inbox ++ [m] ∧ m.kind = Kind.RING_FAULT ∧ m.addr = a % 2 ^ 40) ∧
      u.jobs = s.jobs ∧ u.staging = s.staging := by
    have hqp : (s.ringFault q slot St.HOST_MEM_FAULT 0).qp q = { s.qp q with
        st := if (s.qp q).st = .destroying then .destroying else .faulted, faultSlot := slot, faultStatus := St.HOST_MEM_FAULT
        faultRing := 0, fetch := none, reread := none } := s.qp_setQp q _
    obtain ⟨hin, hjobs, hstaging⟩ : (s.ringFault q slot St.HOST_MEM_FAULT 0).inbox = s.inbox ∧
      (s.ringFault q slot St.HOST_MEM_FAULT 0).jobs = s.jobs ∧ (s.ringFault q slot St.HOST_MEM_FAULT 0).staging = s.staging :=
        ⟨rfl, rfl, rfl⟩
    unfold sqFault
    generalize s.ringFault q slot St.HOST_MEM_FAULT 0 = w at hqp hin hjobs hstaging ⊢
    refine ⟨_, _, rfl, w.qp_setQp q _, ?_⟩
    rw [hqp]
    exact ⟨⟨if_neg (by simp [hst]), rfl, rfl, rfl, hfree, rfl, rfl⟩, ⟨_, congrArg (· ++ [_]) hin, rfl, rfl⟩, hjobs, hstaging⟩
  have hring : u.reportRing q = u.complWaits q := by
    simp only [reportRing, huqp, hkmsg, hkring, hkfree, Nat.zero_ne_one, if_false, if_true]
  have hwait : (u.complWaits q).qp q = { k with
      judge := true, waiting := true, cqWaits := if k.waiting then k.cqWaits else satSucc 0xFFFFFFFF k.cqWaits } := by
    rw [complWaits, modQp, qp_setQp, huqp]
  have hstop : u.reportAll q = u.complWaits q := by
    rw [reportAll, hring, report, if_pos]
    right
    rw [hwait]
    simp only [hkmsg, Option.isSome_some]
  refine ⟨_, m, hu.trans hstop, ?_⟩
  rw [hwait]
  exact ⟨hkst, hkslot, hkstatus, hkfetch, hin, hkind, haddr, hkmsg, hjobs, hstaging⟩

end Sys2Proof.Machine.State

open Sys2Proof Sys2Proof.Machine

/-- Settles O34: a fetch reads the posted run from H, and an entry taken is written back before its chain is judged. -/
theorem entriesAreFetchedAndTaken : Obligations.EntriesAreFetchedAndTaken := by
  intro s p q b f
  dsimp only
  refine ⟨fun c hmode hhold hlive hreset hd3 htun hhpt hpick hinl hrun hok => ?_, fun hst hok hchain hpend => ⟨fun hfetch hown hfirst hlast => ?_,
    fun x hreread hown hfree hring hmsg hjob => ?_⟩, fun n r hst hfetch hn hfree hmsg => ?_⟩
  case refine_1 =>
    obtain ⟨u, hu, hjobs, hqp, hport, hroom, hgranule⟩ : ∃ u, s.modPort p (fun k => { k with rr := Tbl.set (fun _ => 0) k.rr c (q + 1) }) = u ∧
        u.jobs = s.jobs ∧ u.qp q = s.qp q ∧ u.port p = { s.port p with rr := Tbl.set (fun _ => 0) (s.port p).rr c (q + 1) } ∧
        u.room q = s.room q ∧ ∀ d a, u.granuleOk d a false = s.granuleOk d a false :=
      ⟨_, rfl, rfl, rfl, s.port_setPort .., rfl, fun _ _ => rfl⟩
    have hissue := State.issueFetch_of_granules (s := u) (q := q) (by rw [hqp, hroom]) hrun fun i hi => by
      rw [hqp, hgranule]
      exact hok i hi
    have hturn : s.fetchTurn p = u.issueFetch q := by
      simp only [State.fetchTurn, hpick, hu, hqp, hinl, List.any_nil, Bool.false_eq_true, if_false]
    have hexec : exec (.fetchTurn p) s = .next (s.fetchTurn p) := by
      refine congrArg Host.Outcome.next (if_pos ?_)
      simp [hmode, hhold, hlive, hreset, hd3, htun, hhpt]
    refine ⟨_, hexec.trans (congrArg _ (hturn.trans hissue)), hjobs, ?_, hport⟩
    rw [State.modQp, State.qp_setQp, hqp]
  case refine_2 =>
    have hown' : (leAt (slice b 0 64) 0 1 / 128 == 1) = true := by simp [hown]
    obtain ⟨k, hk⟩ : ∃ k, k = ({ s.qp q with fetch := none } : QP) := ⟨_, rfl⟩
    have hentries : s.entriesIn q [b] none = (s.setQp q k).takeAll q [⟨slice b 0 64, (s.qp q).spilled.contains ((s.qp q).h + 0)⟩] := by
      rw [hk]
      simp [State.entriesIn, hfetch, State.modQp]
    have hkqp : (s.setQp q k).qp q = k := s.qp_setQp q k
    have htake := State.takeAll_single (s := s.setQp q k) (e := ⟨slice b 0 64, (s.qp q).spilled.contains ((s.qp q).h + 0)⟩)
      (by rw [hkqp, hk]; exact hst) (.inl hown) (by rw [hkqp, hk]; exact hok)
    obtain ⟨u, hu, huqp, hopen⟩ : ∃ u, (s.setQp q k).takeOne q (slice b 0 64) = u ∧ u.qp q = State.pastH k ∧
        u.setQp q { State.pastH k with chain := [⟨slice b 0 64, true⟩] } =
          ({ s with staging := s.staging ++ [State.ownClear k (slice b 0 64)] } : State).setQp q
            { State.pastH k with chain := [⟨slice b 0 64, true⟩] } := by
      refine ⟨_, rfl, ?_, ?_⟩
      · rw [State.takeOne_eq, State.qp_setQp, hkqp]
      · rw [State.takeOne_eq, State.setQp_setQp, hkqp]
        exact State.setQp_setQp { s with staging := s.staging ++ [State.ownClear k (slice b 0 64)] } q _ _
    have hstep : u.chainStep q (slice b 0 64) true = u.setQp q { State.pastH k with chain := [⟨slice b 0 64, true⟩] } := by
      rw [State.chainStep_opens (by rw [huqp, hk]; exact hchain) hfirst hlast, State.modQp, huqp]
    have hpend' : ∀ v : State, v.qp q = { State.pastH k with chain := [⟨slice b 0 64, true⟩] } → v.settleFetch q = v := by
      intro v hv
      have hnone : (v.qp q).pend = none := by rw [hv, hk]; exact hpend
      simp only [State.settleFetch, hnone]
    dsimp only at htake
    rw [hown', hu, hstep, if_neg (by rw [State.qp_setQp, hk]; exact not_not_intro hst), hpend' _ (State.qp_setQp ..), hopen] at htake
    refine congrArg Host.Outcome.next ((hentries.trans htake).trans ?_)
    rw [hk]
    rfl
  case refine_3 =>
    have hown' : (leAt (slice b 0 64) 0 1 / 128 == 1) = false := by simpa using hown
    obtain ⟨k, hk⟩ : ∃ k, k = ({ s.qp q with reread := none } : QP) := ⟨_, rfl⟩
    have hkqp : (s.setQp q k).qp q = k := s.qp_setQp q k
    have hexec : exec (.ownReread q b) s = .next ((s.setQp q k).takeAll q [⟨slice b 0 64, true⟩]) := by
      rw [hk]
      simp [exec, execOwnReread, hreread, State.modQp]
    have htake := State.takeAll_single (s := s.setQp q k) (e := ⟨slice b 0 64, true⟩)
      (by rw [hkqp, hk]; exact hst) (.inr rfl) (by rw [hkqp, hk]; exact hok)
    obtain ⟨u, hu, huqp, hunext, hujob, hustaging⟩ : ∃ u, (s.setQp q k).takeOne q (slice b 0 64) = u ∧ u.qp q = State.pastH k ∧
        u.nextJob = s.nextJob ∧ u.job s.nextJob = s.job s.nextJob ∧ u.staging = s.staging ++ [State.ownClear k (slice b 0 64)] := by
      refine ⟨_, rfl, ?_, rfl, rfl, ?_⟩
      · rw [State.takeOne_eq, State.qp_setQp, hkqp]
      · rw [State.takeOne_eq, hkqp]
        rfl
    obtain ⟨j, v, hv, hjid, hjqp, hjtag, hvjob, hvqps, hvstaging⟩ := State.newJob_outcome (s := u) q [slice b 0 64] false
      (by rw [hunext, hujob]; exact hjob)
    have hvqp : v.qp j.qp = State.pastH k := by rw [hjqp, State.qp, hvqps, ← State.qp, huqp]
    obtain ⟨t, y, ht, hyjob, hydone, hystatus, hyresult, hytag, htstaging, htqp⟩ := State.failJob_of_full (s := v) (j := j)
      (by rw [hjid]; exact hvjob) (by rw [hvqp, hk]; exact hfree) (by rw [hvqp, hk]; exact hmsg) (by rw [hvqp, hk]; exact hring)
      St.BAD_ENTRY (by decide : 2 < 6) 0 1 0
    rw [hjqp] at htqp hvqp
    have hstep : u.chainStep q (slice b 0 64) false = t := by
      rw [State.chainStep_unowned (by rw [huqp, hk]; exact hchain), State.badChain, hv]
      exact ht
    have hsettle : t.settleFetch q = t := by
      have hnone : (t.qp q).pend = none := by rw [htqp QP.pend fun _ _ _ _ _ => rfl, hvqp, hk]; exact hpend
      simp only [State.settleFetch, hnone]
    dsimp only at htake
    rw [hown', hu, hstep, hsettle, ite_self] at htake
    refine ⟨t, y, hexec.trans (congrArg _ htake), by rw [← hunext, ← hjid]; exact hyjob, hydone, hystatus, hyresult,
      hytag.trans hjtag, ?_, ?_, ?_⟩
    · rw [htqp QP.reread fun _ _ _ _ _ => rfl, hvqp, hk]
      rfl
    · rw [htqp QP.h fun _ _ _ _ _ => rfl, hvqp, hk]
      rfl
    · rw [htstaging, hvstaging, hustaging, hk]
      exact List.mem_append_right _ (List.mem_singleton_self _)
  case refine_4 =>
    obtain ⟨u, hu, huqp, hin, hjobs, hstaging⟩ : ∃ u, s.modQp q (fun k => { k with fetch := none, pend := some (St.HOST_MEM_FAULT, 10 + f.val, (s.qp q).h,
        k.sqBase + (s.qp q).h * 64) }) = u ∧ u.qp q = { s.qp q with
          fetch := none, pend := some (St.HOST_MEM_FAULT, 10 + f.val, (s.qp q).h, (s.qp q).sqBase + (s.qp q).h * 64) } ∧
        u.inbox = s.inbox ∧ u.jobs = s.jobs ∧ u.staging = s.staging := ⟨_, rfl, s.qp_setQp q _, rfl, rfl, rfl⟩
    have hentries : s.entriesIn q [] (some (10 + f.val)) =
        u.sqFault q St.HOST_MEM_FAULT (10 + f.val) (s.qp q).h ((s.qp q).sqBase + (s.qp q).h * 64) := by
      have hn' : ¬ 0 = n := by omega
      simp only [State.entriesIn, hfetch, List.length_nil, Option.isNone_some, Option.isSome_some, hn', Bool.false_eq_true, false_and,
        and_false, or_self, Nat.not_lt_zero, gt_iff_lt, if_false, Nat.add_zero]
      rw [hu]
      simp only [State.takeAll, huqp, hst, ne_eq, not_true,
        List.range_zero, List.map_nil, State.takeRun, List.foldl_nil, State.settleFetch,
        List.length_nil, Nat.lt_irrefl, false_and, or_self, if_false]
    obtain ⟨t, m, ht, hfst, hfslot, hfstatus, hffetch, htin, hkind, haddr, htmsg, htjobs, htstaging⟩ :=
      State.sqFault_of_full (s := u) (q := q) (by rw [huqp]; exact hst) (by rw [huqp]; exact hfree) (10 + f.val) (s.qp q).h
        ((s.qp q).sqBase + (s.qp q).h * 64)
    exact ⟨t, m, congrArg Host.Outcome.next (hentries.trans ht), hfst, hfslot, hfstatus, hffetch, htin.trans (by rw [hin]), hkind, haddr,
      htmsg, htjobs.trans hjobs, htstaging.trans hstaging⟩
end

section
/-! SUPPORT. Sources, the seed buffer and the ends of waiting (R220-R237). -/

namespace Sys2Proof.Machine

/-- What the cutting of the seed path no longer touches: the sources, and a buffer that is empty. -/
structure SeedKept (s t : State) : Prop where
  srcs : t.rng.srcs = s.rng.srcs
  buf : t.rng.buf = s.rng.buf
  internal : t.rng.internal = s.rng.internal
  st : t.rng.st = s.rng.st
  inbox : s.inbox <+: t.inbox

namespace SeedKept

variable {s t u : State}

theorem refl (s : State) : SeedKept s s := ⟨rfl, rfl, rfl, rfl, List.prefix_refl _⟩

theorem trans (h : SeedKept s t) (g : SeedKept t u) : SeedKept s u :=
  ⟨g.srcs.trans h.srcs, g.buf.trans h.buf, g.internal.trans h.internal, g.st.trans h.st, h.inbox.trans g.inbox⟩

theorem of_rng (h : t.rng = s.rng) (hin : s.inbox <+: t.inbox) : SeedKept s t := by
  refine ⟨?_, ?_, ?_, ?_, hin⟩ <;> rw [h]

theorem of_eq (h : t.rng = s.rng) (hin : t.inbox = s.inbox) : SeedKept s t := of_rng h (hin ▸ List.prefix_refl _)

theorem of_ended (h : JobEnded s t) : SeedKept s t := of_rng (h.field State.rng fun _ => rfl) h.inbox

theorem of_leave (h : LeaveOnly s t) : SeedKept s t := of_rng (h.field State.rng fun _ => rfl) h.inbox

theorem foldl {α : Type} {f : State → α → State} (hf : ∀ s a, SeedKept s (f s a)) (s : State) (l : List α) :
    SeedKept s (l.foldl f s) := by
  induction l generalizing s with
  | nil => exact refl s
  | cons a l ih => exact (hf s a).trans (ih _)

theorem uninstantiate (s : State) (d : Nat) : SeedKept s (s.uninstantiate d) := ⟨rfl, rfl, rfl, rfl, List.prefix_refl _⟩

theorem laneSeedLost (s : State) (n : Nat) : SeedKept s (s.laneSeedLost n) := by
  unfold State.laneSeedLost
  cases (s.lane n).st <;> exact of_eq rfl rfl

theorem dropMaterial (s : State) (u : Nat) : SeedKept s (s.dropMaterial u) := by
  have hfree : SeedKept s (s.freeUnit u .idle) := by
    have hunit : SeedKept s (s.modUnit u (fun k => { k with st := .idle, job := none, fw := false, out := none, klass := 0 })) :=
      of_eq rfl rfl
    exact hunit.trans (of_leave (.releaseLeave ..))
  unfold State.dropMaterial
  dsimp only
  split
  · exact refl s
  · split
    · exact refl s
    · have hcount : SeedKept s ((s.freeUnit u .idle).count R.CRU_RNDW 15 0) := hfree.trans (of_eq rfl rfl)
      split
      · exact hcount.trans (of_eq rfl rfl)
      · exact hcount.trans (of_eq rfl rfl)

theorem event (s : State) (b i n : Nat) : SeedKept s (s.event b i n) := of_eq rfl rfl

/-- With the RNG failed every job that waits for words ends (R230). -/
theorem rngServe (fuel : Nat) (s : State) (hst : s.rng.st = .failed) : SeedKept s (s.rngServe fuel) := by
  have hdrop (u : State) (q : List Nat) : SeedKept u { u with rng := { u.rng with waitQ := q } } :=
    ⟨rfl, rfl, rfl, rfl, List.prefix_refl _⟩
  induction fuel generalizing s with
  | zero => exact refl s
  | succ fuel ih =>
    unfold State.rngServe
    split
    · exact refl s
    · next q _ =>
      dsimp only
      split
      · exact (hdrop ..).trans (ih _ hst)
      · split
        · exact (hdrop ..).trans (ih _ hst)
        · next j _ _ =>
          have htry : s.rngTry j = some (s.failJob j St.RNG_FAIL 6 0 0x0174 0) := if_pos hst
          rw [htry]
          dsimp only
          have hend : SeedKept s (s.failJob j St.RNG_FAIL 6 0 0x0174 0) := of_ended (.failJob ..)
          generalize s.failJob j St.RNG_FAIL 6 0 0x0174 0 = u at hend
          have hwait : SeedKept u u.waitEnds := of_eq rfl rfl
          have hall := hend.trans (hwait.trans (hdrop _ q))
          exact hall.trans (ih _ (hall.st.trans hst))

end SeedKept

namespace State

/-- Enough words in the buffer, with enough sources serving, go to a DRBG (R221). -/
theorem takeWords_of_enough {s : State} {n : Nat} (inst : Nat) (hserve : s.minSrc ≤ s.servingSrcs) (hbuf : n ≤ s.rng.buf.length) :
    ∃ t, s.takeWords n inst = some t ∧ t.rng.buf = s.rng.buf.drop n ∧ t.jobs = s.jobs ∧ t.mem = s.mem ∧ t.rng.st = s.rng.st ∧
      t.rng.waitQ = s.rng.waitQ ∧ t.regs = s.regs := by
  rw [takeWords, if_neg (by omega)]
  exact ⟨_, rfl, rfl, rfl, rfl, rfl, rfl, rfl⟩

theorem takeWords_of_short {s : State} {n : Nat} (inst : Nat) (h : s.rng.buf.length < n ∨ s.servingSrcs < s.minSrc) :
    s.takeWords n inst = none := if_pos h

theorem rngDrain_of_none {s : State} (h : s.rng.waitQ = []) : s.rngDrain = s := by
  rw [rngDrain, rngServe, h]

/-- Crucible jobs that waited for random material are ready again (R210). -/
theorem cruMaterial_outcome (s : State) : s.cruMaterial.rng = s.rng ∧
    s.cruMaterial.jobs = s.jobs.map (fun j => if j.kind = 1 ∧ j.stage = .wait .rng then { j with stage := .ready } else j) ∧
    s.cruMaterial.mem = s.mem := by
  unfold cruMaterial
  dsimp only
  split
  · split <;> exact ⟨rfl, rfl, rfl⟩
  · exact ⟨rfl, rfl, rfl⟩

theorem mapAdd_rng (s : State) (typ pool unit spare kind : Nat) : (s.mapAdd typ pool unit spare kind).rng = s.rng := by
  obtain ⟨u, heq, hrng⟩ : ∃ u : State, s.mapAdd typ pool unit spare kind = u.mapKick ∧ u.rng = s.rng := ⟨_, rfl, rfl⟩
  rw [heq, u.mapKick_leaveOnly.field State.rng fun _ => rfl, hrng]

theorem setFence_rng (s : State) (b i n : Nat) : (s.setFence b i n).rng = s.rng := by
  unfold setFence
  dsimp only
  split <;> rfl

/-- A source that fails is fenced with the test that failed, with one message (R223). -/
theorem srcFail_outcome (s : State) {n test : Nat} (hn : n < 10) (htest : test < 16) :
    (∃ l, (s.srcFail n test).rng = { s.rng with srcs := l } ∧ Tbl.get (fun _ => {}) l n = { s.src n with st := .fenced, last := test }) ∧
    ∃ x, x ∈ (s.srcFail n test).inbox ∧ x.kind = Kind.RNG_HEALTH ∧ x.blk = Blk.RNG ∧ x.addr = test * 16 + n := by
  have haddr : (test * 16 + n) % 2 ^ 40 = test * 16 + n := Nat.mod_eq_of_lt (by omega)
  have hfault (u : State) : (((u.fault Blk.RNG 0 Kind.RNG_HEALTH (test * 16 + n)).event Blk.RNG 0 3).count R.RNG_FAILS 31 16).rng = u.rng ∧
      ∃ x, x ∈ (((u.fault Blk.RNG 0 Kind.RNG_HEALTH (test * 16 + n)).event Blk.RNG 0 3).count R.RNG_FAILS 31 16).inbox ∧
        x.kind = Kind.RNG_HEALTH ∧ x.blk = Blk.RNG ∧ x.addr = test * 16 + n :=
    ⟨rfl, _, List.mem_append_right _ (List.mem_singleton_self _), rfl, rfl, haddr⟩
  have hnote (k : State) (serving : Bool) : (k.oweSpare 3 n serving).rng = k.rng := by
    unfold oweSpare
    split
    · rfl
    · cases serving <;> rfl
  obtain ⟨u, hu, hsrc⟩ : ∃ u : State, s.srcFail n test = ((u.fault Blk.RNG 0 Kind.RNG_HEALTH (test * 16 + n)).event Blk.RNG 0 3).count R.RNG_FAILS 31 16 ∧
      u.rng = { s.rng with srcs := Tbl.set (fun _ => {}) s.rng.srcs n { s.src n with st := .fenced, last := test } } := by
    refine ⟨_, by rw [srcFail, if_pos hn], ?_⟩
    rw [setFence_rng]
    have hrng : (s.noteFence 3 n ((s.src n).st == .serving) (some Kind.RNG_HEALTH)).rng = s.rng :=
      (hnote (s.mapAdd 1 3 n 0xFFFF Kind.RNG_HEALTH) _).trans (s.mapAdd_rng ..)
    rw [setSrc, hrng]
  obtain ⟨hrng, hin⟩ := hfault u
  rw [← hu] at hrng hin
  exact ⟨⟨_, hrng.trans hsrc, Tbl.get_set_self ..⟩, hin⟩

/-- A cut of the seed path empties the buffer and leaves the RNG in recovery, or failed (R231). -/
theorem rngCut_outcome (s : State) (n first : Nat) : (s.rngCut n first).rng.srcs = s.rng.srcs ∧ (s.rngCut n first).rng.buf = [] ∧
    (s.rngCut n first).rng.internal = false ∧ ((s.rngCut n first).rng.st = .recover ∨ (s.rngCut n first).rng.st = .failed) ∧
    s.inbox <+: (s.rngCut n first).inbox := by
  unfold rngCut
  extract_lets hit rng s1 s2 ends s3 s4 s5
  have h2 : SeedKept s1 s2 := SeedKept.foldl (fun t d => by
    split
    · exact .uninstantiate t d
    · exact .refl t) s1 _
  have h5 : SeedKept s1 s5 := h2.trans ((SeedKept.of_ended (.failAll ..)).trans
    ((SeedKept.foldl (fun t n => .laneSeedLost t n) s3 _).trans (SeedKept.foldl (fun t u => .dropMaterial t u) s4 _)))
  obtain ⟨hsrcs, hbuf, hinternal, hst, hin⟩ : s1.rng.srcs = s.rng.srcs ∧ s1.rng.buf = [] ∧ s1.rng.internal = false ∧
      s1.rng.st = .recover ∧ s1.inbox = s.inbox := ⟨rfl, rfl, rfl, rfl, rfl⟩
  clear_value s5 s4 s3 ends s2 s1
  split
  · have hfail : SeedKept { (s5.event Blk.RNG 0 5) with rng := { (s5.event Blk.RNG 0 5).rng with st := .failed, internal := false, buf := [] } }
      (s5.event Blk.RNG 0 5).rngFailed := .rngServe _ _ rfl
    exact ⟨hfail.srcs.trans (h5.srcs.trans hsrcs), hfail.buf, hfail.internal, .inr hfail.st, hin ▸ h5.inbox.trans hfail.inbox⟩
  · exact ⟨h5.srcs.trans hsrcs, h5.buf.trans hbuf, h5.internal.trans hinternal, .inl (h5.st.trans hst), hin ▸ h5.inbox⟩

end State
end Sys2Proof.Machine

open Sys2Proof Sys2Proof.Machine

/-- Settles O49: each command by the branch its hypotheses choose; a cut keeps the sources and leaves the buffer empty. -/
theorem randomNumbersSourcesAndSeeds : Obligations.RandomNumbersSourcesAndSeeds := by
  intro s rq v id j n first
  dsimp only
  refine ⟨fun hjob hready hwait => ⟨fun hop hrun hinst hpr hreqs => ?_, fun hop hrun hinst => ?_, fun hop hrun hinst hserve hbuf => ?_,
    fun hop hrun hinst hshort => ?_⟩, fun hjob hwaits => ?_, fun hoff hfailed hserve hdue hwait => ?_, fun hst => ?_,
    fun m test hm htest hst hrun => ?_, fun hst hserve hbuf hwait => ?_, fun hrun hserve hbuf => ?_, fun hrun hshort => ?_,
    fun hw => ?_, fun hlive hbar hbusy => ⟨fun hready => ?_, fun hready => ?_⟩, fun hw hen => ⟨fun hf hv => ?_,
    fun hlife hidle hsrc hfence => ?_⟩⟩
  case refine_1 =>
    have hdue : ¬ Tbl.get (fun _ => 0) s.rng.reqs j.dom + 1 > 2 ^ s.fld R.RNG_CFG 20 16 := by omega
    have hpr' : ¬ j.u 32 1 % 2 = 1 := by omega
    have htry : s.rngTry j = some (s.generate j) := by
      simp [State.rngTry, hrun, hop, hinst, hdue, hpr']
    have hexec : exec (.random id) s = .next (s.rngJob j) := by simp [exec, execRandom, hjob, hop, hready]
    rw [hexec, State.rngJob_of_none_waiting hwait, htry]
    rfl
  case refine_2 =>
    have hinst' : (s.port j.dom).drbg = false := hinst
    have htry : s.rngTry j = some (s.failJob j St.RNG_FAIL 6 0 0x0170 0) := by
      simp [State.rngTry, hrun, hop, hinst']
    have hexec : exec (.random id) s = .next (s.rngJob j) := by simp [exec, execRandom, hjob, hop, hready]
    rw [hexec, State.rngJob_of_none_waiting hwait, htry]
    rfl
  case refine_3 =>
    obtain ⟨u, hu, hubuf, hujobs, humem, -⟩ := State.takeWords_of_enough (n := 2) j.dom hserve hbuf
    have htry : s.rngTry j = some ((u.seeded j.dom).succeed j 0 0) := by
      simp [State.rngTry, hrun, hop, hinst, State.hostWords, hu]
    have hexec : exec (.reseed id) s = .next (s.rngJob j) := by simp [exec, execReseed, hjob, hop, hready]
    refine ⟨u.seeded j.dom, ?_, hubuf, Tbl.get_set_self (fun _ => 0) u.rng.reqs j.dom 0, hujobs, humem⟩
    rw [hexec, State.rngJob_of_none_waiting hwait, htry]
    rfl
  case refine_4 =>
    have htry : s.rngTry j = none := by
      simp [State.rngTry, hrun, hop, hinst, State.hostWords, State.takeWords_of_short (n := 2) j.dom hshort]
    have hexec : exec (.reseed id) s = .next (s.rngJob j) := by simp [exec, execReseed, hjob, hop, hready]
    have hid := State.id_of_job hjob
    refine ⟨s.rngWait j, ?_, ?_, ?_⟩
    · rw [hexec, State.rngJob_of_none_waiting hwait, htry]
      rfl
    · have hjobs : (s.rngWait j).job id = (s.modJob id (fun j => { j with stage := .wait .rng })).job id := by
        simp only [State.rngWait, hop, Nat.reduceEqDiff, false_and, if_false, hid]
        rfl
      rw [hjobs]
      exact State.job_modJob (f := fun j => { j with stage := .wait .rng }) hjob fun _ => rfl
    · simp only [State.rngWait, hop, Nat.reduceEqDiff, false_and, if_false, hid]
      exact congrArg (fun q => ({ s.rng with waitQ := q ++ [id] } : Rng)) hwait
  case refine_5 => simp only [exec, execRngWaitTimeout, hjob, hwaits, if_true]
  case refine_6 =>
    have hgo : ¬ (s.rng.st = .off ∨ s.rng.st = .failed ∨ s.servingSrcs = 0) := by simp [hoff, hfailed]; omega
    obtain ⟨u, hu, hudue, huwait⟩ : ∃ u : State, ({ s with rng := { s.rng with word := s.rng.word + 1
                                                                               buf := if s.rng.buf.length < 16 then s.rng.buf ++ [s.rng.word] else s.rng.buf } } : State) = u ∧
        u.rng.due = false ∧ u.rng.waitQ = [] := ⟨_, rfl, hdue, hwait⟩
    have hdrain : u.rngDrain = u := State.rngDrain_of_none huwait
    have hexec : exec .seedWordReady s = .next (if (if u.rng.due then u.reseedInternal else u).rng.due
        then (if u.rng.due then u.reseedInternal else u) else (if u.rng.due then u.reseedInternal else u).rngDrain) := by
      rw [← hu]
      exact congrArg Host.Outcome.next (if_neg hgo)
    rw [hexec, hu]
    simp only [hudue, Bool.false_eq_true, if_false, hdrain]
  case refine_7 => exact congrArg Host.Outcome.next (if_pos hst)
  case refine_8 =>
    have hfail : exec (.rngHealthFail m test first) s = .next ((s.srcFail n test).rngCut n first) := by
      have hstart : ¬ (test = 5 ∧ m = 15 ∧ s.rng.st = .startup) := by simp [hrun]
      have hm10 : ¬ m.val ≥ 10 := by omega
      have hhit : (test = 1 ∨ test = 2) ∧ (s.src m).st = .serving ∧ s.rng.st ≠ .off := ⟨htest, hm ▸ hst, by simp [hrun]⟩
      refine congrArg Host.Outcome.next ?_
      dsimp only
      rw [if_neg hstart, if_neg hm10, if_pos hhit, if_pos (.inl hrun), hm]
    obtain ⟨⟨l, hrng, hl⟩, x, hx, hkind, hblk, haddr⟩ := s.srcFail_outcome n.isLt test.isLt
    obtain ⟨hsrcs, hbuf, hinternal, hcut, hin⟩ := (s.srcFail n test).rngCut_outcome n first
    refine ⟨_, x, hfail, ?_, hbuf, hinternal, hcut, hin.subset hx, hkind, hblk, haddr⟩
    rw [State.src, hsrcs, hrng]
    exact hl
  case refine_9 =>
    obtain ⟨u, hu, hubuf, hujobs, humem, -, huwait, -⟩ := State.takeWords_of_enough (n := 3) 4 hserve hbuf
    have hgo : ¬ ((s.rng.st ≠ .startup ∧ s.rng.st ≠ .recover) ∨ s.servingSrcs < s.minSrc) := by
      rcases hst with h | h <;> simp [h] <;> omega
    obtain ⟨e, hexec⟩ : ∃ e, exec .rngRun s = .next
        (({ u with rng := { u.rng with st := .run, internal := true } } : State).event Blk.RNG 0 e).cruMaterial.rngDrain := by
      refine ⟨if s.rng.st = .startup then 2 else 4, congrArg Host.Outcome.next ?_⟩
      rw [if_neg hgo, hu]
    obtain ⟨w, hw, hwrng, hwjobs, hwmem⟩ : ∃ w : State, ({ u with rng := { u.rng with st := .run, internal := true } } : State).event
        Blk.RNG 0 e = w ∧ w.rng = { u.rng with st := .run, internal := true } ∧ w.jobs = u.jobs ∧ w.mem = u.mem := ⟨_, rfl, rfl, rfl, rfl⟩
    obtain ⟨hcrng, hcjobs, hcmem⟩ := w.cruMaterial_outcome
    have hdrain : w.cruMaterial.rngDrain = w.cruMaterial := State.rngDrain_of_none (by rw [hcrng, hwrng]; exact huwait.trans hwait)
    rw [hw, hdrain] at hexec
    refine ⟨_, hexec, ?_, ?_, ?_, hcmem.trans (hwmem.trans humem), ?_⟩
    · rw [hcrng, hwrng]
    · rw [hcrng, hwrng]
    · rw [hcrng, hwrng]; exact hubuf
    · rw [hcjobs, hwjobs, hujobs]
  case refine_10 =>
    obtain ⟨u, hu, hubuf, hujobs, humem, hust, -, huregs⟩ := State.takeWords_of_enough (n := 2) 4 hserve hbuf
    refine ⟨_, rfl, ?_⟩
    simp only [State.reseedInternal, hrun, ne_eq, not_true, if_false, hu]
    exact ⟨hubuf, trivial, hust.trans hrun, hujobs, huregs, humem⟩
  case refine_11 =>
    have hnone := State.takeWords_of_short (s := s) (n := 2) 4 hshort
    simp only [exec, execInternalReseed, State.reseedInternal, hrun, ne_eq, not_true, if_false, hnone]
  case refine_12 =>
    simp only [exec, execReseedInt, execInternalReseed, s.asWrite_of_writable _ _ hw]
    cases bit v 0 <;> rfl
  case refine_13 =>
    have hread : exec (.rngFwrndRead rq) s = .next s.fwrndRead := by
      simp [exec, execRngFwrndRead, State.asRead, hlive, hbar, hbusy]
    rw [hread, State.fwrndRead, if_pos hready]
    rfl
  case refine_14 =>
    have hread : exec (.rngFwrndRead rq) s = .next s.fwrndRead := by
      simp [exec, execRngFwrndRead, State.asRead, hlive, hbar, hbusy]
    rw [hread, State.fwrndRead, if_neg (by simp [hready])]
  case refine_15 =>
    have hbar : s.captWrite v = none := by simp [State.captWrite, hen, hf, hv]
    simp only [exec, execRngCapture, s.asWrite_of_writable _ _ hw, hbar, Option.getD_none]
  case refine_16 =>
    obtain ⟨u, hu, husrc, hujobs, humem⟩ : ∃ u, s.setReg R.RNG_CAPT (w32 (b2n true * 0x80000000 + n.val * 0x10000)) = u ∧
        u.src n = s.src n ∧ u.jobs = s.jobs ∧ u.mem = s.mem := ⟨_, rfl, rfl, rfl, rfl⟩
    have hcapt : s.captWrite v = some { (u.setSrc n { s.src n with st := .capture }) with
        rng := { (u.setSrc n { s.src n with st := .capture }).rng with capSrc := some n.val, capWords := [] } } := by
      have hlife' : (true && s.life != .foundry && s.life != .vendor) = false := by
        rcases hlife with h | h <;> simp [h]
      have hfence' : ¬ (s.src n).st = .fenced := hfence
      simp only [State.captWrite, hlife', hidle, hsrc, Bool.false_eq_true, if_false, hu, husrc, hen, Bool.not_false, and_self, if_true,
        n.isLt, hfence', ne_eq, not_false_eq_true]
    have hself : (u.setSrc n { s.src n with st := .capture }).src n = { s.src n with st := .capture } := by
      rw [State.src, State.setSrc]
      exact Tbl.get_set_self (fun _ => ({} : Src)) u.rng.srcs n.val { s.src n with st := .capture }
    refine ⟨{ (u.setSrc n { s.src n with st := .capture }) with
      rng := { (u.setSrc n { s.src n with st := .capture }).rng with capSrc := some n.val, capWords := [] } }, ?_, hself, rfl, rfl,
      hujobs, humem⟩
    simp only [exec, execRngCapture, s.asWrite_of_writable _ _ hw, hcapt, Option.getD_some]
end

section
/-! SUPPORT. Lanes at rest and the leave they hold (R166-R171). -/

namespace Sys2Proof.Machine

/-- A lane without work is left alone from `s` to `t`. -/
structure RestKept (n : Nat) (s t : State) : Prop where
  lane : (s.lane n).work = .none → t.lane n = s.lane n

namespace RestKept

variable {n : Nat} {s t u : State}

theorem refl (n : Nat) (s : State) : RestKept n s s := ⟨fun _ => rfl⟩

theorem trans (h : RestKept n s t) (g : RestKept n t u) : RestKept n s u := ⟨fun hw => by
  have ht := h.lane hw
  rw [g.lane (by rw [ht]; exact hw), ht]⟩

theorem of_lanes (h : t.lanes = s.lanes) : RestKept n s t := ⟨fun _ => by rw [State.lane, h, State.lane]⟩

theorem foldl {α : Type} {f : State → α → State} (hf : ∀ s a, RestKept n s (f s a)) (s : State) (l : List α) :
    RestKept n s (l.foldl f s) := by
  induction l generalizing s with
  | nil => exact refl n s
  | cons a l ih => exact (hf s a).trans (ih _)

theorem of_reported {q : Nat} (h : Reported q s t) : RestKept n s t := of_lanes (h.field State.lanes fun _ => rfl)

/-- The lane of a job that ends is one that works on it. -/
theorem letGo (s : State) (j : Job) (ok auth : Bool) : RestKept n s (s.letGo j ok auth) := by
  have hlane : RestKept n s (s.letLane j ok auth) := by
    unfold State.letLane
    split
    · exact refl n s
    · next m hm =>
      refine ⟨fun hw => ?_⟩
      have hjob : (s.lane m).work = .job j.id := by simpa using List.find?_some hm
      have hne : n ≠ m := by
        rintro rfl
        rw [hw] at hjob
        cases hjob
      have hset (v : Lane) : (s.setLane m v).lane n = s.lane n := Tbl.get_set_ne _ _ _ hne
      unfold State.laneEnd
      dsimp only
      split
      · exact hset _
      · exact hset _
      · exact hset _
  have hslot (u : State) : RestKept n u (u.letSlot j ok) := by
    unfold State.letSlot
    split
    · split <;> exact of_lanes rfl
    · exact refl n u
  have hstream (u : State) : RestKept n u (u.letStream j ok) := by
    unfold State.letStream
    split
    · split <;> exact of_lanes rfl
    · exact refl n u
  rw [State.letGo_eq]
  exact hlane.trans ((hslot _).trans (hstream _))

theorem scatter (s : State) (d : Nat) (l : List (Nat × Nat × Nat)) (data : List Byte) : RestKept n s (s.scatter d l data) := by
  induction l generalizing s data with
  | nil => exact refl n s
  | cons x l ih => exact (of_reported (.post 0 s ..)).trans (ih ..)

theorem failJob (s : State) (j : Job) (status stage entry cause detail : Nat) :
    RestKept n s (s.failJob j status stage entry cause detail) := by
  have hzero (u : State) : RestKept n u (u.zeroOutput j) := by
    unfold State.zeroOutput
    dsimp only
    split
    · split
      · exact (scatter ..).trans (of_lanes rfl)
      · exact scatter ..
    · split
      · exact of_lanes rfl
      · exact refl n u
  have hcount (u : State) : RestKept n u (u.countStatus j status) := by
    unfold State.countStatus
    (repeat' split) <;> exact of_lanes rfl
  have hmark (u : State) (r d : Word) : RestKept n u (u.markDone j.id status r d) := of_lanes rfl
  have hend (u : State) : RestKept n u ((((u.countStatus j status).letGo j false (status == St.AUTH_FAIL)).markDone j.id status
      (failWord stage entry cause) (w32 detail)).reportAll j.qp) :=
    (hcount u).trans ((letGo ..).trans ((hmark ..).trans (of_reported (.reportAll ..))))
  unfold State.failJob State.failQuiet
  dsimp only
  split
  · exact (hzero s).trans (hend _)
  · exact hend s

theorem failAll (s : State) (l : List Job) (status stage cause detail : Nat) : RestKept n s (s.failAll l status stage cause detail) :=
  foldl (fun _ _ => failJob ..) s l

/-! ### Jobs that pass key resolution -/

theorem appendCk (s : State) (w : CkWord) : RestKept n s (s.appendCk w) := by
  have hflush (u : State) : RestKept n u u.flushLog := of_lanes (u.flushLog_only.1.field State.lanes fun _ => rfl)
  unfold State.appendCk
  extract_lets v ckl u
  have hu : RestKept n s u := of_lanes rfl
  split
  · exact hu.trans (hflush u)
  · exact hu

theorem reserve (s : State) (tx : Bool) (m v : Nat) : RestKept n s (s.reserve tx m v).1 := by
  have hflush (u : State) : RestKept n u u.flushLog := of_lanes (u.flushLog_only.1.field State.lanes fun _ => rfl)
  have hqueue (u : State) (p : VPage) : RestKept n u (u.queuePage p) := of_lanes ((u.queuePage_only p).field State.lanes fun _ => rfl)
  unfold State.reserve
  extract_lets x d id p i b put w
  have hput (u : State) : RestKept n u (put u) := by
    have hset (y : VSlot) : RestKept n u (u.setVslot m y) := of_lanes rfl
    exact (hset _).trans (appendCk ..)
  have hany (q : Option Nat) : RestKept n s (match q with
      | none => put s
      | some q => if v ≥ q + i then put s else s) := by
    cases q with
    | none => exact hput s
    | some q =>
      dsimp only
      split
      · exact hput s
      · exact refl n s
  have hw : RestKept n s w := hany p
  have hcount : RestKept n w.flushLog (w.flushLog.count R.CTX_WAITS 15 0) := of_lanes rfl
  split
  · split
    · exact refl n s
    · split
      · exact refl n s
      · exact hqueue ..
  · split
    · split
      · exact refl n s
      · exact hw.trans ((hflush w).trans hcount)
    · split
      · exact hput s
      · exact refl n s

theorem modJob (s : State) (id : Nat) (f : Job → Job) : RestKept n s (s.modJob id f) := of_lanes rfl

theorem makeReady (s : State) (j : Job) : RestKept n s (s.makeReady j) := by
  have hahead : RestKept n s (s.reserveAhead j) := by
    unfold State.reserveAhead
    extract_lets m k v ready
    have hres := reserve (n := n) s true m v
    split
    · exact modJob ..
    · generalize s.reserve true m v = r at hres
      obtain ⟨t, r⟩ := r
      cases r with
      | stalled => exact hres.trans (failJob ..)
      | wait => exact hres.trans (modJob ..)
      | ok => exact hres.trans (modJob ..)
  unfold State.makeReady
  split
  · exact failJob ..
  split
  · exact failJob ..
  split
  · exact hahead
  · exact modJob ..

theorem passKey (s : State) (j : Job) (k : KeyRef) (fill : Option Nat) : RestKept n s (s.passKey j k fill) := by
  unfold State.passKey
  extract_lets str u blank w kek k' v
  have hu : RestKept n s u := by
    cases fill with
    | none => exact refl n s
    | some m => exact of_lanes rfl
  have hw : RestKept n u w := by
    show RestKept n u (if 0x10 ≤ j.op ∧ j.op ≤ 0x15 ∧ j.stateOut ∧ !j.stateIn then _ else u)
    split
    · exact of_lanes rfl
    · exact refl n u
  have hv : RestKept n s v := (hu.trans hw).trans (modJob ..)
  split
  · exact hv.trans (modJob ..)
  · exact hv.trans (makeReady ..)

theorem parkJob (s : State) (j : Job) (i : Nat) : RestKept n s (s.parkJob j i) := by
  unfold State.parkJob
  split
  · exact failJob ..
  · split
    · dsimp only
      split <;> exact of_lanes rfl
    · exact of_lanes rfl

theorem resolve (s : State) (j : Job) : RestKept n s (s.resolve j) := by
  have hlook (r : Res) : RestKept n s (s.countLookup j r) := by
    unfold State.countLookup
    split
    · exact of_lanes rfl
    · exact of_lanes rfl
    · split
      · exact of_lanes rfl
      · split <;> exact of_lanes rfl
    · exact refl n s
  unfold State.resolve
  extract_lets r u
  have hu : RestKept n s u := by
    show RestKept n s (if j.op = 0x01 ∨ j.op = 0x02 then s.countLookup j r else s)
    split
    · exact hlook r
    · exact refl n s
  clear_value u
  cases r with
  | pass k => exact hu.trans (passKey ..)
  | fill k m => exact hu.trans (passKey ..)
  | fail st c d => exact hu.trans (failJob ..)
  | miss i => exact hu.trans (parkJob ..)

theorem unpark (s : State) (d fuel : Nat) : RestKept n s (s.unpark d fuel) := by
  induction fuel generalizing s with
  | zero => exact refl n s
  | succ fuel ih =>
    unfold State.unpark
    split
    · exact refl n s
    · next id q _ =>
      split
      · have hport : RestKept n s (s.modPort d (fun p => { p with parkQ := q })) := of_lanes rfl
        refine hport.trans ?_
        generalize s.modPort d (fun p => { p with parkQ := q }) = u
        refine RestKept.trans ?_ (ih _)
        split
        · split
          · exact resolve ..
          · exact refl n u
        · exact refl n u
      · exact refl n s

theorem endInstall (s : State) (d i status stage cause detail : Nat) : RestKept n s (s.endInstall d i status stage cause detail) := by
  have hdrop : RestKept n s { s with installs := s.installs.filter (fun x => !(x.dom == d && x.idx == i)) } := of_lanes rfl
  exact hdrop.trans ((failAll ..).trans (unpark ..))

theorem endWaiters (s : State) (p : Job → Bool) (stage cause : Nat) : RestKept n s (s.endWaiters p stage cause) := by
  unfold State.endWaiters
  split
  · exact (failAll ..).trans (foldl (fun _ _ => endInstall ..) _ _)
  · exact refl n s

end RestKept

namespace State

theorem lane_modLane (s : State) (n : Nat) (f : Lane → Lane) : (s.modLane n f).lane n = f (s.lane n) := s.lane_setLane ..

theorem lane_modLane_ne (s : State) {m n : Nat} (f : Lane → Lane) (h : m ≠ n) : (s.modLane n f).lane m = s.lane m :=
  Tbl.get_set_ne _ _ _ h

theorem lane_event (s : State) (b i k n : Nat) : (s.event b i k).lane n = s.lane n := rfl

theorem lane_setReg (s : State) (a : Nat) (v : Word) (n : Nat) : (s.setReg a v).lane n = s.lane n := rfl

theorem lane_setFld (s : State) (a hi lo v n : Nat) : (s.setFld a hi lo v).lane n = s.lane n := rfl

theorem lane_countPause (s : State) (m n : Nat) : (s.countPause m).lane n = s.lane n := rfl

theorem lane_loadSeed (s : State) (n : Nat) : (s.loadSeed n).lane n = { s.lane n with seed := some s.fresh, next := none, since := 0 } := by
  show (s.modLane n (fun l => { l with seed := some s.fresh, next := none, since := 0 })).lane n = _
  rw [lane_modLane]

/-- An event bit raised reads 1. -/
theorem evt_event (s : State) (b i : Nat) {n : Nat} (hn : n < 32) : bit ((s.event b i n).hdr b i).evt n = true := by
  rw [event, hdr_setHdr]
  exact bit_putBit_self _ hn

/-- A bank that takes its next operation asks for leave and returns none. -/
theorem flashNext_leaveHeld (s : State) (b fuel : Nat) : (s.flashNext b fuel).leaveHeld = s.leaveHeld := by
  have hresume (u : State) : (u.flashResume .flash).leaveHeld = u.leaveHeld := by
    unfold flashResume
    split <;> rfl
  have htake (u : State) (r : FReq) : (u.flashTake r).leaveHeld = u.leaveHeld := by
    unfold flashTake
    dsimp only
    split <;> rfl
  have hrefused (u : State) (what : Purpose) : (u.clientRefused what).leaveHeld = u.leaveHeld := by
    unfold clientRefused
    split <;> rfl
  induction fuel generalizing s with
  | zero => rfl
  | succ fuel ih =>
    unfold flashNext
    split
    · rfl
    split
    · split
      · exact hresume s
      · rfl
    split
    · exact hresume s
    dsimp only
    split
    · exact htake ..
    · rw [ih]
      split
      · split <;> rfl
      · rw [hrefused]
        split <;> rfl

/-- Leave returned is held no longer (R448). -/
theorem not_held_releaseLeave (s : State) (what : Purpose) : ∀ x ∈ (s.releaseLeave what).leaveHeld, x.what ≠ what := by
  have hleft : (s.releaseLeave what).leaveHeld = s.leaveHeld.filter (fun l => l.what != what) := by
    unfold releaseLeave
    dsimp only
    split
    · exact flashNext_leaveHeld ..
    · rfl
  intro x hx
  rw [hleft] at hx
  simpa using (List.mem_filter.mp hx).2

theorem noteFence_lanes (s : State) (pool unit : Nat) (serving : Bool) (kind : Nat) :
    (s.noteFence pool unit serving (some kind)).lanes = s.lanes := by
  obtain ⟨u, heq, hlanes⟩ : ∃ u : State, s.mapAdd 1 pool unit 0xFFFF kind = u.mapKick ∧ u.lanes = s.lanes := ⟨_, rfl, rfl⟩
  have hadd : (s.mapAdd 1 pool unit 0xFFFF kind).lanes = s.lanes := by rw [heq, u.mapKick_leaveOnly.lanes, hlanes]
  have howe (k : State) : (k.oweSpare pool unit serving).lanes = k.lanes := by
    unfold oweSpare
    split
    · rfl
    · cases serving <;> rfl
  exact (howe _).trans hadd

/-- A lane without work that is fenced holds its fence bit, and no job ends on it (R132). -/
theorem fenceLane_outcome {s : State} {n : Nat} (hn : n < 9) (hserve : (s.lane n).serving = true) (hwork : (s.lane n).work = .none) :
    ((s.fenceLane n).lane n).st = .fenced ∧ (s.fenceLane n).isFenced Blk.SYM n 0 = true ∧ s.inbox <+: (s.fenceLane n).inbox := by
  have hstop : s.laneStop n 0x0155 = s := by simp only [laneStop, hwork]
  obtain ⟨u, hu, hlane, hin⟩ : ∃ u, s.modLane n (fun l => { l with
      st := .fenced, work := .none, done := 0, seed := none, next := none }) = u ∧
      u.lane n = { s.lane n with st := .fenced, work := .none, done := 0, seed := none, next := none } ∧ u.inbox = s.inbox :=
    ⟨_, rfl, s.lane_modLane .., rfl⟩
  have hleave := LeaveOnly.releaseLeave u (.lane n)
  have hfence : s.fenceLane n = ((u.releaseLeave (.lane n)).setFence Blk.SYM n 0).noLanes := by
    simp only [fenceLane, hserve, hstop, hu, Bool.not_true, Bool.false_eq_true, if_false]
  have hset : ∀ w : State, (w.setFence Blk.SYM n 0).lanes = w.lanes ∧ (w.setFence Blk.SYM n 0).inbox = w.inbox := by
    intro w
    unfold setFence
    dsimp only
    split <;> exact ⟨rfl, rfl⟩
  have hbit := (u.releaseLeave (.lane n)).isFenced_setFence Blk.SYM n (by decide : 0 < 32)
  obtain ⟨hlanes, hfin⟩ := hset (u.releaseLeave (.lane n))
  have hvlane : ((u.releaseLeave (.lane n)).setFence Blk.SYM n 0).lane n = u.lane n := by
    rw [lane, hlanes, hleave.lanes, lane]
  have hvin : s.inbox <+: ((u.releaseLeave (.lane n)).setFence Blk.SYM n 0).inbox := by
    rw [hfin, ← hin]
    exact hleave.inbox
  rw [hfence]
  generalize (u.releaseLeave (.lane n)).setFence Blk.SYM n 0 = v at hbit hvlane hvin
  have hv : (v.lane n).st = .fenced ∧ (v.lane n).work = .none := by
    rw [hvlane, hlane]
    exact ⟨rfl, rfl⟩
  obtain ⟨hvst, hvwork⟩ := hv
  unfold noLanes
  split
  · exact ⟨hvst, hbit, hvin⟩
  · have hended := JobEnded.failAll { v with installs := [] } (State.laneWaiters { v with installs := [] }) St.ENGINE_UNAVAILABLE 5 0x0110 0
    have hrest := (RestKept.failAll (n := n) { v with installs := [] } (State.laneWaiters { v with installs := [] }) St.ENGINE_UNAVAILABLE
      5 0x0110 0).lane hvwork
    refine ⟨?_, ?_, hvin.trans hended.inbox⟩
    · rw [hrest]
      exact hvst
    · rw [isFenced, hended.hdr Blk.SYM n (by simp only [Blk.SYM, Blk.TUN]; omega)]
      exact hbit

end State
end Sys2Proof.Machine

open Sys2Proof Sys2Proof.Machine

/-- Settles O43: each event of a lane changes that lane alone, and the jobs that end leave a lane without work as it is. -/
theorem lanesWakeSeedAndRest : Obligations.LanesWakeSeedAndRest := by
  intro s n waited late
  dsimp only
  refine ⟨fun hst hseed hheld => ⟨?_, fun hwork => ?_⟩, fun hst hcfg hmin => ?_, fun hready => ⟨fun hst => ?_, fun hst => ?_⟩,
    fun hst hwork => ?_⟩
  case refine_1 =>
    have hgo : ¬ ((s.lane n).st ≠ .waking ∨ (s.lane n).seed.isNone ∨ (!s.leaveHeld.any (fun x => x.what == .lane n)) = true) := by
      rw [Option.isNone_iff_eq_none, ← Option.not_isSome_iff_eq_none]
      simp only [hst, hseed, hheld, ne_eq, not_true, Bool.not_true, Bool.false_eq_true, or_self, not_false_eq_true]
    refine ⟨_, congrArg Host.Outcome.next ((if_neg hgo).trans (if_pos rfl)), ?_, State.evt_event _ _ _ (by decide), fun m hm => ?_,
      rfl, rfl⟩
    · dsimp only
      rw [State.lane_event, State.lane_setFld, State.lane_modLane]
    · dsimp only
      rw [State.lane_event, State.lane_setFld, State.lane_modLane_ne _ _ hm]
  case refine_2 =>
    have hgo : ¬ ((s.lane n).st ≠ .waking ∨ (s.lane n).seed.isNone ∨ (!s.leaveHeld.any (fun x => x.what == .lane n)) = true) := by
      rw [Option.isNone_iff_eq_none, ← Option.not_isSome_iff_eq_none]
      simp only [hst, hseed, hheld, ne_eq, not_true, Bool.not_true, Bool.false_eq_true, or_self, not_false_eq_true]
    obtain ⟨u, m, hu, hlanes, hm, hkind, hblk, hinst⟩ : ∃ (u : State) (m : Msg), s.laneKatFail n =
        (u.noteFence 0 n (u.lane n).serving (some Kind.LANE_SELFTEST)).fenceLane n ∧ u.lanes = s.lanes ∧ m ∈ u.inbox ∧
        m.kind = Kind.LANE_SELFTEST ∧ m.blk = Blk.SYM ∧ m.inst = n.val :=
      ⟨_, _, rfl, rfl, List.mem_append_right _ (List.mem_singleton_self _), rfl, rfl, rfl⟩
    have hlane : (u.noteFence 0 n (u.lane n).serving (some Kind.LANE_SELFTEST)).lane n = s.lane n := by
      rw [State.lane, State.noteFence_lanes, hlanes, State.lane]
    have hnote := (UnitKept.noteFence (u := 0) (by decide) u 0 n (u.lane n).serving (some Kind.LANE_SELFTEST)).inbox
    obtain ⟨hfst, hfbit, hfin⟩ := State.fenceLane_outcome (s := u.noteFence 0 n (u.lane n).serving (some Kind.LANE_SELFTEST)) n.isLt
      (by rw [hlane]; simp [Lane.serving, hst]) (by rw [hlane]; exact hwork)
    rw [← hu] at hfst hfbit hfin
    exact ⟨_, m, congrArg Host.Outcome.next ((if_neg hgo).trans (if_neg Bool.false_ne_true)), hfst, hfbit, (hnote.trans hfin).subset hm, hkind,
      hblk, hinst⟩
  case refine_3 =>
    have hexec : exec (.laneIdleTimeout n) s = .next ((s.laneDormant n).event Blk.SYM n 3) :=
      congrArg Host.Outcome.next (if_pos ⟨hst, hcfg, hmin⟩)
    obtain ⟨u, hu, hlane, hjobs⟩ : ∃ u, s.modLane n (fun l => { l with
        st := .dormant, work := .none, done := 0, since := 0, seed := none, next := none }) = u ∧
        u.lane n = { s.lane n with st := .dormant, work := .none, done := 0, since := 0, seed := none, next := none } ∧
        u.jobs = s.jobs := ⟨_, rfl, s.lane_modLane .., rfl⟩
    have hleave := LeaveOnly.releaseLeave u (.lane n)
    have hdormant : s.laneDormant n = u.releaseLeave (.lane n) := congrArg (fun u : State => u.releaseLeave (.lane n)) hu
    rw [hdormant] at hexec
    refine ⟨_, hexec, ?_, u.not_held_releaseLeave (.lane n), State.evt_event _ _ _ (by decide), hleave.jobs.trans hjobs⟩
    rw [State.lane_event, State.lane, hleave.lanes, ← State.lane, hlane]
  case refine_4 =>
    refine ⟨(((s.loadSeed n).setFld (symReg R.SYM_PAUSE n) 15 0 (max ((s.loadSeed n).fld (symReg R.SYM_PAUSE n) 15 0)
      (min 0xFFFF waited))).modLane n (fun l => { l with st := .busy })).event Blk.SYM n 4, ?_, ?_, State.evt_event _ _ _ (by decide), rfl⟩
    · simp only [exec, execLaneSeedArrival, hready, Bool.not_true, Bool.false_eq_true, if_false, hst]
    · rw [State.lane_event, State.lane_modLane, State.lane_setFld, State.lane_loadSeed]
  case refine_5 =>
    refine ⟨((s.loadSeed n).setFld (symReg R.SYM_PAUSE n) 15 0 (max ((s.loadSeed n).fld (symReg R.SYM_PAUSE n) 15 0)
      (min 0xFFFF waited))).modLane n (fun l => { l with st := .idle }), ?_, ?_, rfl⟩
    · simp only [exec, execLaneSeedArrival, hready, Bool.not_true, Bool.false_eq_true, if_false, hst]
    · rw [State.lane_modLane, State.lane_setFld, State.lane_loadSeed]
  case refine_6 =>
    have hgo : ¬ ((s.lane n).st ≠ .waking ∧ (s.lane n).st ≠ .paused) := by
      rcases hst with h | h <;> simp [h]
    obtain ⟨u, hu, hlane, hmem⟩ : ∃ u, (s.modLane n (fun l => { l with
        st := .unseeded, work := .none, done := 0, seed := none, next := none })).countPause n = u ∧
        u.lane n = { s.lane n with st := .unseeded, work := .none, done := 0, seed := none, next := none } ∧ u.mem = s.mem :=
      ⟨_, rfl, (State.lane_countPause ..).trans (s.lane_modLane ..), rfl⟩
    have hexec : exec (.laneSeedTimeout n late) s = .next (u.endWaiters (fun j => late.contains j.id) 6 0x0154) := by
      simp only [exec, execLaneSeedTimeout, hgo, if_false, hwork, hu]
    have hrest := (RestKept.endWaiters (n := n) u (fun j => late.contains j.id) 6 0x0154).lane (by rw [hlane])
    refine ⟨_, hexec, ?_, ?_, (State.endWaiters_mem ..).trans hmem⟩
    · rw [hrest, hlane]
    · rw [hrest, hlane]
end

section
/-! SUPPORT. Installs, enrolment and the context cache (R143-R146, R158-R163). -/

namespace Sys2Proof.Machine.State

/-- A context with no job parked on it takes a free entry (R143, R145). -/
theorem placeCtx_of_room {s : State} {c : Ctx} (hroom : s.ctxs.length < s.variant.contexts) (hparked : s.parkedOn c.dom c.idx = [])
    (hport : (s.port c.dom).parkQ = []) : s.placeCtx c = { s with
      ctxs := s.ctxs ++ [c], installs := s.installs.filter (fun i => !(i.dom == c.dom && i.idx == c.idx)) } := by
  unfold placeCtx
  dsimp only
  rw [if_pos hroom, hparked]
  exact unparkAll_of_none hport

/-- A record that passes its checks is installed with the frame key of R174 and a bitmap of ones (R143, R174). -/
theorem judgeInstall_of_good {s : State} {d idx : Nat} {rec p : List Byte} (hkey : s.tableKey d = true)
    (hret : (s.vslot (s.slotOf d idx)).status ≠ 2)
    (hjudge : judgeRecord (s.bind d).kwrap (s.bind d).kmac rec idx (s.vslot (s.slotOf d idx)) = .inl p) : ∃ k : Ctx,
      s.judgeInstall d idx rec = s.placeCtx k ∧ k.dom = d ∧ k.idx = idx ∧
      k.fkey = kdf (slice p 8 32) "ESN-FRAME" (beBytes 3 idx ++ beBytes 1 (leAt p 5 1) ++ beBytes 1 (leAt p 4 1))
        (if suiteGcm (leAt p 4 1) then 32 else 16) ∧ k.map = BitVec.allOnes 64 := by
  refine ⟨{ dom := d, idx := idx, suite := leAt p 4 1, kep := leAt p 5 1, policy := leAt p 6 2, root := slice p 8 32
            fkey := kdf (slice p 8 32) "ESN-FRAME" (beBytes 3 idx ++ beBytes 1 (leAt p 5 1) ++ beBytes 1 (leAt p 4 1))
              (if suiteGcm (leAt p 4 1) then 32 else 16)
            pub := slice p 40 32, map := BitVec.allOnes 64 }, ?_, rfl, rfl, rfl, rfl⟩
  simp only [judgeInstall, hkey, hret, hjudge, Bool.not_true, Bool.false_eq_true, if_false]

theorem laneRun_of_fits {s : State} {n b : Nat} (h : s.fits n b) :
    ∃ f : Lane → Lane, s.laneRun n b = (s.modLane n f, true) ∧ ∀ l, (f l).st = l.st := by
  have hrun : b - (s.lane n).done ≤ 65536 - (s.lane n).since := h
  exact ⟨_, if_pos hrun, fun _ => rfl⟩

/-- A lane that has run an install within its seed is idle again, and nothing but lanes, credit and counters has changed. -/
theorem installRun_outcome {s : State} {n d : Nat} (hst : (s.lane n).st = .busy) (hfits : s.fits n 99) : ∃ u : State,
    s.laneRun n 99 = (u, true) ∧ (((u.chargeLane d 9600).laneEnd n none).lane n).st = .idle ∧
    ∃ regs lanes credit, (u.chargeLane d 9600).laneEnd n none = { s with regs := regs, lanes := lanes, credit := credit } := by
  obtain ⟨f, hrun, hf⟩ := laneRun_of_fits hfits
  have hcharge (u : State) : ∃ c, u.chargeLane d 9600 = { u with credit := c } := ⟨_, rfl⟩
  have hend (u : State) : ∃ r l, u.laneEnd n none = { u with regs := r, lanes := l } := ⟨_, _, rfl⟩
  obtain ⟨credit, hcredit⟩ := hcharge (s.modLane n f)
  obtain ⟨regs, lanes, hlanes⟩ := hend ((s.modLane n f).chargeLane d 9600)
  refine ⟨_, hrun, ?_, regs, lanes, credit, by rw [hlanes, hcredit]; rfl⟩
  obtain ⟨w, hw, hwlane⟩ : ∃ w, (s.modLane n f).chargeLane d 9600 = w ∧ w.lane n = f (s.lane n) := ⟨_, rfl, s.lane_modLane ..⟩
  obtain ⟨g, hg, hgst⟩ : ∃ g : Lane → Lane, w.laneEnd n none = (w.modLane n g).countWrap (symReg R.SYM_JOBS n) 31 0 ∧
      (g (w.lane n)).st = .idle := by
    refine ⟨_, rfl, ?_⟩
    simp [hwlane, hf, hst]
  have hcount (v : State) : (v.countWrap (symReg R.SYM_JOBS n) 31 0).lane n = v.lane n := rfl
  rw [hw, hg, hcount, lane_modLane, hgst]

theorem ctx_evictIdx (s : State) (d i : Nat) : (s.evictIdx d i).ctx d i = none := by
  simp only [ctx, evictIdx, evict, List.find?_eq_none, List.mem_filter]
  rintro c ⟨-, hc⟩ hself
  simp [hself] at hc

/-- The group page of a slot holds the slot's new state (R160, R162). -/
theorem mem_groupStates_with (s : State) (e : Nat) (x : VSlot) :
    (e, x) ∈ (s.groupStates (e / 20)).map (fun y => if y.1 = e then (e, x) else y) := by
  have hmem : (e, s.vslot e) ∈ s.groupStates (e / 20) := by
    refine List.mem_map.mpr ⟨e % 20, List.mem_range.mpr (Nat.mod_lt _ (by decide)), ?_⟩
    rw [Nat.div_add_mod]
  exact List.mem_map.mpr ⟨_, hmem, if_pos rfl⟩

/-- A group page with the slot's new state is queued, and the job waits for it (R160, R162). -/
theorem groupWrite_outcome {s : State} (hstall : s.vault.stalled = false) (j : Job) (e : Nat) (x : VSlot) (out : List Byte)
    (result detail : Nat) : ∃ t l, s.groupWrite j e x out result detail = t ∧ VPage.group (e / 20) false l (some j.id) ∈ t.vault.pages ∧
      (e, x) ∈ l ∧ t.ctxs = s.ctxs ∧ t.vslots = s.vslots ∧ t.staging = s.staging := by
  obtain ⟨u, hu, hctxs, hvslots, hstaging⟩ : ∃ u : State, s.groupWrite j e x out result detail = u.flushLog.queuePage (.group (e / 20) false
      ((u.groupStates (e / 20)).map (fun y => if y.1 = e then (e, x) else y)) (some j.id)) ∧ u.ctxs = s.ctxs ∧ u.vslots = s.vslots ∧
      u.staging = s.staging := by
    have hmod (v : State) (f : Job → Job) : (v.modJob j.id f).ctxs = v.ctxs ∧ (v.modJob j.id f).vslots = v.vslots ∧
        (v.modJob j.id f).staging = v.staging := ⟨rfl, rfl, rfl⟩
    unfold groupWrite
    rw [hstall, if_neg Bool.false_ne_true]
    split
    · next m _ =>
      have hend := WorkEnded.laneEnd s m none
      refine ⟨_, rfl, ?_⟩
      rw [(hmod _ _).1, (hmod _ _).2.1, (hmod _ _).2.2]
      exact ⟨hend.field State.ctxs fun _ => rfl, hend.field State.vslots fun _ => rfl, hend.staging⟩
    · exact ⟨_, rfl, rfl, rfl, rfl⟩
  obtain ⟨hflush, -⟩ := u.flushLog_only
  have hqueue := u.flushLog.queuePage_only (.group (e / 20) false
    ((u.groupStates (e / 20)).map (fun y => if y.1 = e then (e, x) else y)) (some j.id))
  refine ⟨_, _, hu, mem_queuePage_pages .., mem_groupStates_with .., ?_, ?_, ?_⟩
  · exact hqueue.ctxs.trans (hflush.ctxs.trans hctxs)
  · exact hqueue.vslots.trans (hflush.vslots.trans hvslots)
  · exact (hqueue.field State.staging fun _ => rfl).trans ((hflush.field State.staging fun _ => rfl).trans hstaging)

end Sys2Proof.Machine.State

open Sys2Proof Sys2Proof.Machine

/-- Settles O44: an install that passes takes a free entry; enrolment evicts the context and queues the group page. -/
theorem contextsAreInstalledAndEnrolled : Obligations.ContextsAreInstalledAndEnrolled := by
  intro s d idx id n x c rec p j
  dsimp only
  refine ⟨fun hx => ⟨fun hst => ?_, fun hst => ?_⟩, fun hx hrec => ⟨?_, ?_⟩,
    fun hwork hst hx hrec hfits hkey hret hjudge hroom hparked hport => ?_, fun hx hready hroom hparked hport => ?_,
    fun hlane hnew hfits hstall hep => ?_, fun hjob hop hready hturn hstall => ?_, fun hjob hop hready hall hdur hpin => ?_⟩
  case refine_1 => simp [exec, execVaultTableReadReturn, hx, hst]
  case refine_2 => simp [exec, execVaultTableReadReturn, hx, hst]
  case refine_3 => simp [exec, execRecordFetchCompletion, hx, hrec]
  case refine_4 => simp [exec, execRecordFetchCompletion, hx, hrec]
  case refine_5 =>
    obtain ⟨u, hrun, hlane, regs, lanes, credit, hu⟩ := State.installRun_outcome (d := d) hst hfits
    have hbusy : ¬ (s.lane n).st ≠ .busy := not_not_intro hst
    obtain ⟨v, hv, hvkey, hvret, hvjudge, hvroom, hvparked, hvport, hvctxs, hvinst, hvslots⟩ : ∃ v : State,
        ({ s with regs := regs, lanes := lanes, credit := credit } : State) = v ∧ v.tableKey d = true ∧
        (v.vslot (v.slotOf d idx)).status ≠ 2 ∧
        judgeRecord (v.bind d).kwrap (v.bind d).kmac rec idx (v.vslot (v.slotOf d idx)) = .inl p ∧
        v.ctxs.length < v.variant.contexts ∧ v.parkedOn d idx = [] ∧ (v.port d).parkQ = [] ∧ v.ctxs = s.ctxs ∧
        v.installs = s.installs ∧ v.vslots = s.vslots := ⟨_, rfl, hkey, hret, hjudge, hroom, hparked, hport, rfl, rfl, rfl⟩
    rw [hv] at hu
    obtain ⟨k, hk, hkdom, hkidx, hkkey, hkmap⟩ := State.judgeInstall_of_good hvkey hvret hvjudge
    have hplace := State.placeCtx_of_room (c := k) hvroom (by rw [hkdom, hkidx]; exact hvparked) (by rw [hkdom]; exact hvport)
    have hexec : exec (.installDone n) s = .next (v.placeCtx k) := by
      simp only [exec, execInstallDone, hwork, hbusy, hx, hrec, if_false, Option.bind_some, hrun, if_true, hu, hk]
    refine ⟨_, k, hexec.trans (congrArg _ hplace), congrArg (· ++ [k]) hvctxs, hkdom, hkidx, hkkey, hkmap, ?_, ?_, hvslots⟩
    · rw [hu] at hlane
      exact hlane
    · rw [← hvinst, hkdom, hkidx]
  case refine_6 =>
    simp only [exec, execInstallEntryFree, hx, Option.bind_some, hready, State.placeCtx_of_room hroom hparked hport]
  case refine_7 =>
    have hop := State.op_of_laneJob hlane
    have hexec : exec (.enrolPut id) s = .next ((s.worked j n 97 10600).enrolNew j) := by
      simp only [exec, execEnrolPut, hlane, hnew, if_true, State.onLane_of_fits _ _ _ _ hfits]
    obtain ⟨w, hw, hwstall, hwslot, hwbind, hwvslot, hwctxs, hwvslots, hwstaging⟩ : ∃ w, s.worked j n 97 10600 = w ∧
        w.vault.stalled = false ∧ w.slotOf j.dom j.devIdx = s.slotOf j.dom j.devIdx ∧ w.bind j.dom = s.bind j.dom ∧
        (∀ m, w.vslot m = s.vslot m) ∧ w.ctxs = s.ctxs ∧ w.vslots = s.vslots ∧ w.staging = s.staging :=
      ⟨_, rfl, hstall, rfl, rfl, fun _ => rfl, rfl, rfl, rfl⟩
    rw [hw] at hexec
    have hep' : ¬ ((s.vslot (s.slotOf j.dom j.devIdx)).status ≠ 0 ∧ (s.vslot (s.slotOf j.dom j.devIdx)).epoch = 255) := by omega
    have hwrite : ∃ out, w.enrolNew j = (w.evictIdx j.dom j.devIdx).groupWrite j (s.slotOf j.dom j.devIdx)
        { status := 1, epoch := if (s.vslot (s.slotOf j.dom j.devIdx)).status = 0 then 0 else (s.vslot (s.slotOf j.dom j.devIdx)).epoch + 1
          rxExact := true } out 128
        (if (s.vslot (s.slotOf j.dom j.devIdx)).status = 0 then 0 else (s.vslot (s.slotOf j.dom j.devIdx)).epoch + 1) := by
      unfold State.enrolNew
      dsimp only
      rw [hwslot, hwvslot, if_neg hep']
      exact ⟨_, rfl⟩
    obtain ⟨out, hwrite⟩ := hwrite
    obtain ⟨t, l, ht, hpage, hl, hctxs, hvslots, hstaging⟩ := State.groupWrite_outcome (s := w.evictIdx j.dom j.devIdx) hwstall j
      (s.slotOf j.dom j.devIdx) { status := 1, epoch := if (s.vslot (s.slotOf j.dom j.devIdx)).status = 0 then 0
        else (s.vslot (s.slotOf j.dom j.devIdx)).epoch + 1, rxExact := true } out 128
      (if (s.vslot (s.slotOf j.dom j.devIdx)).status = 0 then 0 else (s.vslot (s.slotOf j.dom j.devIdx)).epoch + 1)
    refine ⟨t, l, hexec.trans (congrArg _ (hwrite.trans ht)), hpage, hl, ?_, hvslots.trans hwvslots, hstaging.trans hwstaging⟩
    rw [State.ctx, hctxs]
    exact State.ctx_evictIdx ..
  case refine_8 =>
    obtain ⟨t, l, ht, hpage, hl, hctxs, hvslots, -⟩ := State.groupWrite_outcome (s := s.evictIdx j.dom j.devIdx) hstall j
      (s.slotOf j.dom j.devIdx) { s.vslot (s.slotOf j.dom j.devIdx) with status := 2 } [] 0 (s.vslot (s.slotOf j.dom j.devIdx)).epoch
    refine ⟨t, l, ?_, hpage, hl, ?_, hvslots⟩
    · simp [exec, execEnrolRetire, hjob, hop, hready, hturn, ht]
    · rw [State.ctx, hctxs]
      exact State.ctx_evictIdx ..
  case refine_9 =>
    have hpin' : (s.ctxs.filter (fun c => c.dom == j.dom)).any (fun c => s.pinned c.dom c.idx) = false := by
      rw [List.any_filter]
      exact hpin
    have hdur' : ¬ j.u 32 1 % 2 = 1 := by omega
    refine ⟨s.evict (fun c => (s.ctxs.filter (fun c => c.dom == j.dom)).contains c), ?_, ?_, rfl, rfl⟩
    · simp [exec, execCtxFlush, hjob, hop, hready, hall, hpin', State.flushDo, hdur']
    · refine List.filter_congr fun c hc => ?_
      by_cases h : c.dom = j.dom <;> simp [hc, h]
end

section
/-! SUPPORT. Vault pages that become durable, compaction and stalls (R151-R153, R156). -/

namespace Sys2Proof.Machine.State

theorem setBinds_eq (f : State → Nat → Bind) (l : List Nat) (s : State) :
    ∃ b, l.foldl (fun s d => s.setBind d (f s d)) s = { s with binds := b } := by
  induction l generalizing s with
  | nil => exact ⟨s.binds, rfl⟩
  | cons d l ih =>
    obtain ⟨b, hb⟩ := ih (s.setBind d (f s d))
    exact ⟨b, hb⟩

/-- The vault once page `q` stands in flash (R151). -/
def pageSettled (s : State) (q : Nat) : Vault :=
  { s.vault with seq := q, pages := s.vault.pages.drop 1, prog := false, stalled := false, refused := false }

/-- A LOG word writes its vault slot alone (R151). -/
def ckSlot (s : State) (ckl q : Nat) (w : CkWord) : VSlot :=
  let x := s.vslot w.slot
  if w.tx then { x with txD := w.basis, txI := 2 ^ ckl, txAt := q, txP := if x.txP = some w.basis then none else x.txP }
  else { x with rxD := w.basis, rxI := 2 ^ ckl, rxAt := q, rxExact := false, rxP := if x.rxP = some w.basis then none else x.rxP }

theorem ckDurable_vslots (s : State) (ckl q : Nat) (w : CkWord) :
    s.ckDurable ckl q w = s.setVslot w.slot (s.ckSlot ckl q w) := by
  unfold ckDurable ckSlot
  split
  · rfl
  · rfl

/-- What a LOG page holds depends on its own words alone (R150). -/
theorem pageBytes_log (s t : State) (rtc rtc' q ckl : Nat) (ws : List CkWord) :
    s.pageBytes rtc q (.log ckl ws) = t.pageBytes rtc' q (.log ckl ws) := by
  simp only [pageBytes, pageBody]

/-- Page `q` in flash, memory now `m`, with nothing else done yet (R151). -/
def pageWritten (s : State) (q : Nat) (m : Tbl Byte) : State := { s with mem := m, vault := s.pageSettled q }

/-- Memory with page `q` written. -/
def pageMem (s : State) (rtc q : Nat) (p : VPage) : Tbl Byte := (s.setBytes (pageAddr q) (s.pageBytes rtc q p)).mem

theorem pageDurable_log_eq (s : State) (rtc ckl : Nat) (w : CkWord) : s.pageDurable rtc (.log ckl [w]) =
    (s.pageWritten (s.vault.seq + 1) (s.pageMem rtc (s.vault.seq + 1) (.log ckl [w]))).ckDurable ckl (s.vault.seq + 1) w := by
  unfold pageDurable pageMem
  dsimp only
  rw [setBytes_eq]
  generalize (s.setBytes (pageAddr (s.vault.seq + 1)) (s.pageBytes rtc (s.vault.seq + 1) (.log ckl [w]))).mem = m
  rfl

theorem pageMem_log (s : State) (rtc q ckl : Nat) (w : CkWord) : s.pageMem rtc q (.log ckl [w]) = s.pageMem 0 q (.log ckl [w]) := by
  unfold pageMem
  rw [s.pageBytes_log s rtc 0]

/-- A LOG word in a page just written touches its vault slot alone. -/
theorem pageWritten_ckDurable (s : State) (ckl q : Nat) (w : CkWord) (m : Tbl Byte) :
    ((s.pageWritten q m).ckDurable ckl q w).vault = s.pageSettled q ∧ ((s.pageWritten q m).ckDurable ckl q w).jobs = s.jobs ∧
    ((s.pageWritten q m).ckDurable ckl q w).mem = m ∧
    ((s.pageWritten q m).ckDurable ckl q w).vslots = (s.setVslot w.slot (s.ckSlot ckl q w)).vslots := by
  rw [ckDurable_vslots]
  exact ⟨rfl, rfl, rfl, rfl⟩

/-- A LOG page of one word stands in flash and its word is a base (R150, R151). -/
theorem pageDurable_log (s : State) (rtc ckl : Nat) (w : CkWord) :
    (s.pageDurable rtc (.log ckl [w])).vault = s.pageSettled (s.vault.seq + 1) ∧
    (s.pageDurable rtc (.log ckl [w])).jobs = s.jobs ∧
    (s.pageDurable rtc (.log ckl [w])).mem = s.pageMem 0 (s.vault.seq + 1) (.log ckl [w]) ∧
    (s.pageDurable rtc (.log ckl [w])).vslots = (s.setVslot w.slot (s.ckSlot ckl (s.vault.seq + 1) w)).vslots := by
  rw [pageDurable_log_eq, pageMem_log]
  exact s.pageWritten_ckDurable ..

/-- A CLOSE MARK that stands in flash closes the vault (R156). -/
theorem pageDurable_close (s : State) (rtc : Nat) :
    (s.pageDurable rtc (.mark 2 none none none)).vault = { s.pageSettled (s.vault.seq + 1) with
      markAt := s.vault.seq + 1, closed := true, closing := false, opened := false } ∧
    (s.pageDurable rtc (.mark 2 none none none)).jobs = s.jobs := by
  unfold pageDurable
  dsimp only
  rw [setBytes_eq]
  generalize (s.setBytes (pageAddr (s.vault.seq + 1)) (s.pageBytes rtc (s.vault.seq + 1) (.mark 2 none none none))).mem = m
  dsimp only
  generalize hu : ({ s with mem := m, vault := { s.vault with
    seq := s.vault.seq + 1, pages := s.vault.pages.drop 1, prog := false, stalled := false, refused := false } } : State) = u
  obtain ⟨b, hb⟩ := setBinds_eq (fun s d => (s.bind d).record d none none) (List.range 4) u
  rw [hb]
  have hvault : u.vault = s.pageSettled (s.vault.seq + 1) := hu ▸ rfl
  have hjobs : u.jobs = s.jobs := hu ▸ rfl
  have htwo : (2 : Nat) ≠ 1 := by decide
  simp only [Option.isSome_none, Bool.false_eq_true, if_false, if_true, htwo, hvault, hjobs, and_self]

theorem ckptRetry_of_none {s : State} (h : s.jobs.any (fun j => j.stage == .wait .ckpt) = false) : s.ckptRetry = s := by
  have hnone : s.jobs.filter (fun j => j.stage == .wait .ckpt) = [] := by simpa [List.filter_eq_nil_iff] using h
  rw [ckptRetry, hnone]
  rfl

/-- A page no job waits for, with no job waiting for a checkpoint, has its effect and the next page asks leave (R151). -/
theorem firstDurable_of_idle {s : State} {p : VPage} (hck : s.jobs.any (fun j => j.stage == .wait .ckpt) = false)
    (hp : (∃ ckl ws, p = .log ckl ws) ∨ p = .mark 2 none none none)
    (hjobs : ∀ (u : State) (rtc : Nat), (u.pageDurable rtc p).jobs = u.jobs) :
    ∃ (u : State) (rtc : Nat), LeaveOnly (u.pageDurable rtc p) (s.firstDurable p) ∧
      u.vault = s.vault ∧ u.mem = s.mem ∧ u.vslots = s.vslots := by
  obtain ⟨u, rtc, hfirst, hsame, hu⟩ : ∃ (u : State) (rtc : Nat), s.firstDurable p =
      ((u.pageDurable rtc p).releaseLeave .vaultPage).ckptRetry.vaultKick ∧ u.jobs = s.jobs ∧
      u.vault = s.vault ∧ u.mem = s.mem ∧ u.vslots = s.vslots := by
    unfold firstDurable rtcNow withFree
    dsimp only
    generalize (s.rtc + Config.free s.fresh) % 2 ^ 48 = rtc
    refine ⟨{ s with fresh := s.fresh + 1, rtc := rtc }, rtc, ?_, rfl, rfl, rfl, rfl⟩
    rcases hp with ⟨ckl, ws, rfl⟩ | rfl
    · rfl
    · rfl
  have hleave := LeaveOnly.releaseLeave (u.pageDurable rtc p) .vaultPage
  rw [ckptRetry_of_none (by rw [hleave.jobs, hjobs, hsame]; exact hck)] at hfirst
  rw [hfirst]
  exact ⟨u, rtc, hleave.trans (.vaultKick _), hu⟩

/-- What a LOG page of one word that becomes durable leaves, with no job waiting for a checkpoint (R150, R151). -/
theorem firstDurable_log {s : State} {ckl : Nat} {w : CkWord} (hck : s.jobs.any (fun j => j.stage == .wait .ckpt) = false) :
    ((s.firstDurable (.log ckl [w])).vault.seq = s.vault.seq + 1 ∧
      (s.firstDurable (.log ckl [w])).vault.pages = s.vault.pages.drop 1 ∧
      (s.firstDurable (.log ckl [w])).vault.stalled = false) ∧
    (s.firstDurable (.log ckl [w])).mem = s.pageMem 0 (s.vault.seq + 1) (.log ckl [w]) ∧
    (s.firstDurable (.log ckl [w])).vslots = (s.setVslot w.slot (s.ckSlot ckl (s.vault.seq + 1) w)).vslots := by
  obtain ⟨u, rtc, hleave, huv, hum, hus⟩ := firstDurable_of_idle (p := .log ckl [w]) hck (.inl ⟨ckl, [w], rfl⟩)
    fun u rtc => (u.pageDurable_log rtc ckl w).2.1
  obtain ⟨hvault, -, hmem, hslots⟩ := u.pageDurable_log rtc ckl w
  have hck (q : Nat) : u.ckSlot ckl q w = s.ckSlot ckl q w := by rw [ckSlot, ckSlot, vslot, vslot, hus]
  refine ⟨?_, hleave.mem.trans (hmem.trans ?_), hleave.vslots.trans (hslots.trans ?_)⟩
  · rw [hleave.vault, hvault, ← huv]
    exact ⟨rfl, rfl, rfl⟩
  · rw [huv, pageMem, pageMem, u.pageBytes_log s 0 0]
    exact setBytes_mem_congr s _ _ hum
  · rw [huv, setVslot, setVslot, hus, hck]

/-- A CLOSE MARK that becomes durable closes the vault, with no job waiting for a checkpoint (R156). -/
theorem firstDurable_close {s : State} (hck : s.jobs.any (fun j => j.stage == .wait .ckpt) = false) :
    (s.firstDurable (.mark 2 none none none)).vault.closed ∧
    (s.firstDurable (.mark 2 none none none)).vault.closing = false ∧
    (s.firstDurable (.mark 2 none none none)).vault.seq = s.vault.seq + 1 := by
  obtain ⟨u, rtc, hleave, huv, -, -⟩ := firstDurable_of_idle hck (.inr rfl) fun u rtc => (u.pageDurable_close rtc).2
  rw [hleave.vault, (u.pageDurable_close rtc).1, ← huv]
  exact ⟨rfl, rfl, rfl⟩

/-- The jobs that wait for a page. -/
def stalledJobs (s : State) : List Job := s.jobs.filter (fun j => j.stage == .wait .ckpt || j.stage == .wait .mark)

/-- The stall noted, the pages that jobs wait for given up. -/
def stallNoted (s : State) : State :=
  (({ s with vault := { s.vault with
    stalled := true, rangeBusy := s.vault.rangeBusy
    pages := s.vault.pages.filter (fun p => match p with
      | .group _ _ _ (some _) => false
      | .mark _ _ _ (some _) => false
      | _ => true) } } : State).event Blk.CTX 0 3).fault Blk.CTX 0 Kind.VAULT_STALL 0

theorem stallNoted_evt (s : State) : bit (s.stallNoted.hdr Blk.CTX 0).evt 3 := by
  unfold stallNoted
  exact evt_fault_of_bit _ _ _ (evt_event_self _ Blk.CTX 0 (by decide))

/-- Asking leave for a page the budget allows is not refused. -/
theorem vaultKick_refused (s : State) (hpages : s.vault.pages ≠ []) (hprog : s.vault.prog = false)
    (hleave : s.hasLeave .vaultPage = false) (hmode : s.mode ≠ .lockdown) (hbudget : 4 ≤ s.budget - s.variant.standing) :
    s.vaultKick.vault.refused = false := by
  have hask (r : FReq) (hr : r.tok = 4) : (s.askFlash r).2 = false := by
    rw [askFlash, if_neg (by omega)]
  unfold vaultKick
  rw [if_neg (by simp [hpages, hprog, hleave, hmode])]
  exact hask _ rfl

/-- Once a job has failed, every job of its number is finished. -/
theorem failJob_stage {s : State} {j x : Job} {status stage entry cause detail : Nat}
    (hx : x ∈ (s.failJob j status stage entry cause detail).jobs) (hid : x.id = j.id) : x.stage = .done := by
  have hquiet : x ∈ (s.failQuiet j status stage entry cause detail).jobs := (Reported.reportAll ..).jobs.subset hx
  unfold failQuiet at hquiet
  dsimp only at hquiet
  rw [markDone_jobs] at hquiet
  obtain ⟨y, -, hyx⟩ := List.mem_map.mp hquiet
  rw [← hyx]
  by_cases hy : y.id = j.id
  · rw [if_pos hy]
    rfl
  · rw [if_neg hy] at hyx
    exact absurd (hyx ▸ hid) hy

/-- Jobs fail one after another, each kept as finished (R94). -/
theorem failEach_outcome (stageOf : Job → Nat) (status cause : Nat) (l : List Job) (s : State) :
    JobEnded s (l.foldl (fun s j => s.failJob j status (stageOf j) 0 cause 0) s) ∧
    ∀ x ∈ (l.foldl (fun s j => s.failJob j status (stageOf j) 0 cause 0) s).jobs, ∀ j ∈ l, x.id = j.id → x.stage = .done := by
  induction l generalizing s with
  | nil => exact ⟨.refl s, fun _ _ _ hj => absurd hj List.not_mem_nil⟩
  | cons j l ih =>
    obtain ⟨hended, hdone⟩ := ih (s.failJob j status (stageOf j) 0 cause 0)
    refine ⟨(JobEnded.failJob ..).trans hended, fun x hx y hy hid => ?_⟩
    rcases List.mem_cons.mp hy with rfl | hy
    · exact (hended.jobs x hx).elim (fun h => failJob_stage h hid) id
    · exact hdone x hx y hy hid

/-- Group `g` has a page to program. -/
def groupQueued (s : State) (g : Nat) : Prop := ∃ ex ls who, VPage.group g ex ls who ∈ s.vault.pages

theorem groupQueued_mono {s t : State} (h : s.vault.pages <+: t.vault.pages) {g : Nat} (hg : s.groupQueued g) :
    t.groupQueued g := by
  obtain ⟨ex, ls, who, hmem⟩ := hg
  exact ⟨ex, ls, who, h.subset hmem⟩

theorem groupQueued_queueGroup (s : State) (g : Nat) (exact : Bool) : (s.queueGroup (20 * g) exact).groupQueued g := by
  refine ⟨exact, s.groupStates g, none, ?_⟩
  have hdiv : 20 * g / 20 = g := Nat.mul_div_cancel_left g (by decide)
  unfold queueGroup
  rw [hdiv]
  exact mem_queuePage_pages ..

theorem groupQueued_queueGroups (l : List Nat) (exact : Bool) (s : State) :
    ∀ g ∈ l, (l.foldl (fun s g => s.queueGroup (20 * g) exact) s).groupQueued g := by
  induction l generalizing s with
  | nil => exact fun _ hg => absurd hg List.not_mem_nil
  | cons h l ih =>
    intro g hg
    rcases List.mem_cons.mp hg with rfl | hg
    · exact groupQueued_mono (queueGroups_only _ exact l).pages (groupQueued_queueGroup s g exact)
    · exact ih _ g hg

/-- The groups alive in the oldest sector that have no page to program yet (R153). -/
def groupsLeft (s : State) : List Nat :=
  s.liveGroups.filter (fun g => !s.vault.pages.any (fun p => match p with
    | .group h _ _ _ => h == g
    | _ => false))

theorem groupQueued_or_left {s : State} {g : Nat} (hg : g ∈ s.liveGroups) : s.groupQueued g ∨ g ∈ s.groupsLeft := by
  rw [groupsLeft, List.mem_filter]
  rcases hb : s.vault.pages.any (fun p => match p with
    | .group h _ _ _ => h == g
    | _ => false) with _ | _
  · exact .inr ⟨hg, rfl⟩
  · obtain ⟨p, hp, hpg⟩ := List.any_eq_true.mp hb
    refine .inl ?_
    cases p with
    | group h ex ls who => exact ⟨ex, ls, who, (beq_iff_eq.mp hpg) ▸ hp⟩
    | log ckl ws => exact absurd hpg Bool.false_ne_true
    | mark kind ep rg who => exact absurd hpg Bool.false_ne_true

/-- The state that compacts. -/
def compactOn (s : State) : State := { s with vault := { s.vault with compacting := true } }

/-- The newest MARK page stands in the oldest sector. -/
def oldMark (s : State) : Bool := decide (s.vault.tail < s.vault.markAt) && decide (s.vault.markAt ≤ s.vault.tail + 16)

theorem compact_eq (s : State) : s.compact =
    if s.oldMark ∧ !s.vault.pages.contains (.mark 4 none none none) then
      (s.groupsLeft.foldl (fun s g => s.queueGroup (20 * g) false) s.compactOn).queuePage (.mark 4 none none none)
    else if !s.groupsLeft.isEmpty then s.groupsLeft.foldl (fun s g => s.queueGroup (20 * g) false) s.compactOn
    else if s.compactOn.liveGroups.isEmpty ∧ !s.oldMark ∧ !s.compactOn.hasLeave .vaultErase ∧
        s.compactOn.vault.tail + 16 ≤ s.compactOn.vault.seq then
      (s.compactOn.askFlash ⟨2, 5, 2, s.vault.tail / 16 % 2048, Blk.CTX, 12, .vaultErase⟩).1
    else s.compactOn := rfl

/-- Compaction only adds pages, one for each group alive that had none (R153). -/
theorem compact_outcome (s : State) : PagesOnly s.compactOn s.compact ∧
    ∀ g ∈ s.liveGroups, s.compact.groupQueued g := by
  have hcase {u : State} (hu : PagesOnly s.compactOn u) (hleft : ∀ g ∈ s.groupsLeft, u.groupQueued g) :
      PagesOnly s.compactOn u ∧ ∀ g ∈ s.liveGroups, u.groupQueued g :=
    ⟨hu, fun g hg => (groupQueued_or_left hg).elim (groupQueued_mono (s := s) hu.pages) (hleft g)⟩
  have hnone (h : s.groupsLeft = []) (u : State) : ∀ g ∈ s.groupsLeft, u.groupQueued g :=
    fun g hg => absurd (h ▸ hg) List.not_mem_nil
  have hqueued := groupQueued_queueGroups s.groupsLeft false s.compactOn
  have honly := queueGroups_only s.compactOn false s.groupsLeft
  rw [compact_eq]
  split
  next hmark =>
    exact hcase (honly.trans (queuePage_only ..)) fun g hg => groupQueued_mono (queuePage_only ..).pages (hqueued g hg)
  split
  next hleft =>
    exact hcase honly hqueued
  next hleft =>
    split
    · exact hcase (.ofLeave (.askFlash ..)) (hnone (by simpa using hleft) _)
    · exact hcase (.refl _) (hnone (by simpa using hleft) _)

end Sys2Proof.Machine.State

open Sys2Proof Sys2Proof.Machine

/-- Settles O45: a page that becomes durable settles the vault, compaction adds a page per group left, and a stall fails the
jobs that wait for a page. -/
theorem vaultPagesBecomeDurable : Obligations.VaultPagesBecomeDurable := by
  intro s l ckl w
  dsimp only
  refine ⟨fun hmode hws hopen => ?_, fun hpages hprog hck => ?_, fun hpages hprog hck => ?_, fun hfree hmode => ?_, fun hmode => ?_,
    fun hmode hpages => ?_, fun hrefused hpages hprog hleave hmode hbudget => ?_⟩
  · have hempty : s.vault.logWs.isEmpty = false := by simpa using hws
    have hflush : s.flushLog = ({ s with vault := { s.vault with logWs := [] } } : State).queuePage
        (.log s.vault.logCkl s.vault.logWs) := by
      rw [State.flushLog, if_neg (by rw [hempty]; decide)]
    have hpre : ({ s with vault := { s.vault with logWs := [] } } : State).openFirst (.log s.vault.logCkl s.vault.logWs) = [] :=
      if_neg fun h => absurd (hopen ▸ h.1) (by decide)
    obtain ⟨honly, hlog⟩ := s.flushLog_only
    refine ⟨s.flushLog, congrArg Host.Outcome.next (if_neg hmode), hlog, ?_, honly.vslots, honly.mem⟩
    rw [hflush, State.queuePage_pages, hpre, List.append_nil]
  · have hexec : exec .vaultPageDurable s = .next (s.firstDurable (.log ckl [w])) := by
      refine congrArg Host.Outcome.next ?_
      rw [hpages]
      exact if_neg (by simp [hprog])
    obtain ⟨⟨hseq, hleft, hstall⟩, hmem, hslots⟩ := State.firstDurable_log (w := w) (ckl := ckl) hck
    generalize s.firstDurable (.log ckl [w]) = t at hexec hseq hleft hstall hmem hslots
    have hself : t.vslot w.slot = s.ckSlot ckl (s.vault.seq + 1) w :=
      (congrArg (fun v => Tbl.get (fun _ => ({} : VSlot)) v w.slot) hslots).trans
        (Tbl.get_set_self (fun _ => ({} : VSlot)) s.vslots w.slot _)
    have hother (m : Nat) (hm : m ≠ w.slot) : t.vslot m = s.vslot m :=
      (congrArg (fun v => Tbl.get (fun _ => ({} : VSlot)) v m) hslots).trans
        (Tbl.get_set_ne (fun _ => ({} : VSlot)) s.vslots _ hm)
    refine ⟨t, hexec, hseq, ?_, hstall, hmem,
      fun htx => ?_, fun htx => ?_, hother⟩
    · rw [hleft, hpages, List.drop_one, List.tail_cons]
    · rw [hself, State.ckSlot, if_pos htx]
      exact ⟨rfl, rfl⟩
    · rw [hself, State.ckSlot, if_neg (by simp [htx])]
      exact ⟨rfl, rfl⟩
  · have hexec : exec .vaultCloseComplete s = .next ((s.firstDurable (.mark 2 none none none)).event Blk.CTX 0 5) := by
      refine congrArg Host.Outcome.next ?_
      rw [hpages]
      exact if_pos ⟨hprog, rfl⟩
    obtain ⟨hclosed, hclosing, hseq⟩ := State.firstDurable_close hck
    generalize s.firstDurable (.mark 2 none none none) = t at hexec hclosed hclosing hseq
    exact ⟨_, hexec, hclosed, hclosing, hseq, t.evt_event Blk.CTX 0 (by decide)⟩
  · obtain ⟨honly, hqueued⟩ := s.compact_outcome
    exact ⟨s.compact, congrArg Host.Outcome.next (if_pos ⟨.inl hfree, hmode⟩),
      honly.field (fun s => s.vault.compacting) fun _ => rfl, hqueued, honly.vslots, honly.mem⟩
  · exact ⟨_, congrArg Host.Outcome.next (if_neg hmode), State.mem_queuePage_pages .., (State.queuePage_only ..).vslots,
      (State.queuePage_only ..).mem⟩
  · have hpending : ¬(s.mode = .lockdown ∨ s.vault.pages.isEmpty = true) := by simp [hmode, hpages]
    have hexec : exec .vaultStall s = .next (s.stalledJobs.foldl (fun s j =>
        s.failJob j St.ENGINE_UNAVAILABLE (if j.op = 0x84 then 4 else 6) 0 0x0132 0) s.stallNoted) :=
      congrArg Host.Outcome.next (if_neg hpending)
    obtain ⟨hended, hdone⟩ := State.failEach_outcome (fun j => if j.op = 0x84 then 4 else 6) St.ENGINE_UNAVAILABLE 0x0132
      s.stalledJobs s.stallNoted
    generalize s.stalledJobs.foldl (fun s j =>
        s.failJob j St.ENGINE_UNAVAILABLE (if j.op = 0x84 then 4 else 6) 0 0x0132 0) s.stallNoted = t at hexec hended hdone
    refine ⟨t, ⟨Blk.CTX, 0, Kind.VAULT_STALL, kindSev Kind.VAULT_STALL, 0, 4⟩, hexec,
      hended.field (fun s => s.vault.stalled) fun _ => rfl, fun j hj => ?_, hended.inbox.subset ?_, rfl, rfl, ?_,
      hended.field State.vslots fun _ => rfl⟩
    · have hwaits (hw : j.stage = .wait .ckpt ∨ j.stage = .wait .mark) : False := by
        have hne : j.stage ≠ .done := by
          rcases hw with hw | hw <;> rw [hw] <;> decide
        have hjs : j ∈ s.jobs := (hended.jobs j hj).resolve_right hne
        exact hne (hdone j hj j (List.mem_filter.mpr ⟨hjs, by simpa using hw⟩) rfl)
      exact ⟨fun h => hwaits (.inl h), fun h => hwaits (.inr h)⟩
    · exact List.mem_append_right _ (List.mem_singleton_self _)
    · rw [hended.hdr _ _ (by decide)]
      exact s.stallNoted_evt
  · have hkick : exec .vaultLeaveRetry s = .next s.vaultKick := congrArg Host.Outcome.next (if_pos hrefused)
    refine ⟨_, hkick, s.vaultKick_refused hpages hprog hleave hmode hbudget, ?_, (LeaveOnly.vaultKick s).mem⟩
    rw [(LeaveOnly.vaultKick s).vault]
end

section
/-! SUPPORT. What work that is cut short leaves alone (R61, R267, R443, R451): stops, fences, aborts, ceremonies and tickets
that end, and the entry of Lockdown, change engines, jobs, leave and the banks; the modes, the fault records and the held
secrets stay. -/

namespace Sys2Proof.Machine

/-- The state without what cutting work short may change. -/
def State.cutCore (s : State) : State :=
  { s with fresh := 0, regs := [], mem := [], hdrs := [], pairs := [], inbox := [], ports := [], qps := [], jobs := []
           nextJob := 0, nextFin := 0, staging := [], leavePend := [], leaveHeld := [], ctxs := [], installs := []
           closedIdx := [], vault := { ready := s.vault.ready }, lanes := [], streams := [], units := [], fwJob := none, fwWait := none, rng := {}
           slots := [], kst := { s.kst with queue := [], cer := {} }, rtc := 0, flashQ := [], flashOn := [], torn := []
           ris := { evalDone := s.ris.evalDone }, tag := {}, crd := {}, clk := { s.clk with doms := [] }, dbg := {} }

/-- From `s` to `t` work has only been cut short: messages join the inbox, and no key slot is filled. -/
structure Cut (s t : State) : Prop where
  rest : t.cutCore = s.cutCore
  inbox : s.inbox <+: t.inbox
  slots : s.slots = [] → t.slots = []

namespace Cut

variable {s t u : State}

theorem refl (s : State) : Cut s s := ⟨rfl, List.prefix_refl _, id⟩

/-- Neither the inbox nor a key slot has changed. -/
theorem plain (hrest : t.cutCore = s.cutCore) (hinbox : t.inbox = s.inbox) (hslots : t.slots = s.slots) : Cut s t :=
  ⟨hrest, hinbox ▸ List.prefix_refl _, fun hs => hslots.trans hs⟩

theorem trans (h : Cut s t) (g : Cut t u) : Cut s u :=
  ⟨g.rest.trans h.rest, h.inbox.trans g.inbox, g.slots ∘ h.slots⟩

theorem foldl {α : Type} {f : State → α → State} (hf : ∀ s a, Cut s (f s a)) (l : List α) (s : State) : Cut s (l.foldl f s) := by
  induction l generalizing s with
  | nil => exact refl s
  | cons a l ih => exact (hf s a).trans (ih _)

theorem ite {c : Prop} [Decidable c] (ht : Cut s t) (hu : Cut s u) : Cut s (if c then t else u) := by
  split
  · exact ht
  · exact hu

section
variable (h : Cut s t)
include h

/-- What cutting work short never touches is as it was. -/
theorem field {α : Type} (f : State → α) (hf : ∀ s, f s.cutCore = f s) : f t = f s := by
  rw [← hf t, h.rest, hf]

theorem mode : t.mode = s.mode := h.field State.mode fun _ => rfl
theorem life : t.life = s.life := h.field State.life fun _ => rfl
theorem vslots : t.vslots = s.vslots := h.field State.vslots fun _ => rfl
theorem skm : t.skm = s.skm := h.field State.skm fun _ => rfl
theorem flk : t.flk = s.flk := h.field State.flk fun _ => rfl
theorem flags : t.flags = s.flags := h.field State.flags fun _ => rfl
theorem sys : t.sys = s.sys := h.field State.sys fun _ => rfl
theorem kseal : t.kst.kseal = s.kst.kseal := h.field (fun s => s.kst.kseal) fun _ => rfl
theorem waiting : t.clk.waiting = s.clk.waiting := h.field (fun s => s.clk.waiting) fun _ => rfl
theorem evalDone : t.ris.evalDone = s.ris.evalDone := h.field (fun s => s.ris.evalDone) fun _ => rfl
theorem ready : t.vault.ready = s.vault.ready := h.field (fun s => s.vault.ready) fun _ => rfl

end

theorem ofLeave (h : LeaveOnly s t) : Cut s t where
  rest := by
    have hc := congrArg State.cutCore h.rest
    exact hc
  inbox := h.inbox
  slots hs := h.slots.trans hs

theorem setReg (s : State) (a : Nat) (v : Word) : Cut s (s.setReg a v) := plain rfl rfl rfl
theorem setHdr (s : State) (b i : Nat) (h : Hdr) : Cut s (s.setHdr b i h) := plain rfl rfl rfl
theorem event (s : State) (b i n : Nat) : Cut s (s.event b i n) := setHdr ..
theorem setFence (s : State) (b i n : Nat) : Cut s (s.setFence b i n) := by
  unfold State.setFence
  exact ite (refl s) (setHdr ..)
theorem fault (s : State) (b i kind addr : Nat) : Cut s (s.fault b i kind addr) := ⟨rfl, List.prefix_append _ _, id⟩
theorem faultFree (s : State) (b i kind : Nat) : Cut s (s.faultFree b i kind) := ⟨rfl, List.prefix_append _ _, id⟩
theorem modLane (s : State) (n : Nat) (f : Lane → Lane) : Cut s (s.modLane n f) := plain rfl rfl rfl
theorem modUnit (s : State) (n : Nat) (f : CUnit → CUnit) : Cut s (s.modUnit n f) := plain rfl rfl rfl
theorem modPair (s : State) (n : Nat) (f : KPair → KPair) : Cut s (s.modPair n f) := plain rfl rfl rfl
theorem setSrc (s : State) (n : Nat) (v : Src) : Cut s (s.setSrc n v) := plain rfl rfl rfl
theorem setBytes (s : State) (a : Nat) (l : List Byte) : Cut s (s.setBytes a l) := by
  rw [State.setBytes_eq]
  exact plain rfl rfl rfl
theorem scramble (s : State) (a n : Nat) : Cut s (s.scramble a n) := by
  unfold State.scramble State.drawBytes
  have hfresh : Cut s { s with fresh := s.fresh + 1 } := plain rfl rfl rfl
  exact hfresh.trans (setBytes ..)

/-- A slot emptied leaves none filled that was not. -/
theorem emptySlot (s : State) (n : Nat) : Cut s (s.setSlot n {}) := by
  refine ⟨rfl, List.prefix_refl _, fun hs => ?_⟩
  rw [State.setSlot, hs]
  rfl

theorem dropRecord (s : State) (id n : Nat) : Cut s (s.dropRecord id n) := plain rfl rfl rfl
theorem count (s : State) (a hi lo : Nat) : Cut s (s.count a hi lo) := setReg ..
theorem setFld (s : State) (a hi lo v : Nat) : Cut s (s.setFld a hi lo v) := setReg ..

/-! ### Jobs that end -/

theorem laneEnd (s : State) (n : Nat) (fail : Option Bool) : Cut s (s.laneEnd n fail) := by
  unfold State.laneEnd
  dsimp only
  split
  · exact (modLane ..).trans (setReg ..)
  · exact (modLane ..).trans ((setReg ..).trans (count ..))
  · exact (modLane ..).trans ((setReg ..).trans (count ..))

theorem letGo (s : State) (j : Job) (ok auth : Bool) : Cut s (s.letGo j ok auth) := by
  have hlane : Cut s (s.letLane j ok auth) := by
    unfold State.letLane
    split
    · exact refl s
    · exact laneEnd ..
  have hslot (u : State) : Cut u (u.letSlot j ok) := by
    unfold State.letSlot
    split
    · exact ite (refl u) ((dropRecord ..).trans (emptySlot ..))
    · exact refl u
  have hstream (u : State) : Cut u (u.letStream j ok) := by
    unfold State.letStream
    split
    · exact ite (refl u) (plain rfl rfl rfl)
    · exact refl u
  rw [State.letGo_eq]
  exact hlane.trans ((hslot _).trans (hstream _))

theorem ofReported {q : Nat} (h : Reported q s t) : Cut s t where
  rest := by
    have hc := congrArg State.cutCore h.rest
    exact hc
  inbox := h.inbox
  slots hs := (h.field State.slots fun _ => rfl).trans hs

theorem scatter (s : State) (d : Nat) (l : List (Nat × Nat × Nat)) (data : List Byte) : Cut s (s.scatter d l data) := by
  induction l generalizing s data with
  | nil => exact refl s
  | cons x l ih => exact (ofReported (.post 0 ..)).trans (ih ..)

theorem zeroOutput (s : State) (j : Job) : Cut s (s.zeroOutput j) := by
  unfold State.zeroOutput
  dsimp only
  split
  · split
    · exact (scatter ..).trans (count ..)
    · exact scatter ..
  · split
    · exact count ..
    · exact refl s

theorem failJob (s : State) (j : Job) (status stage entry cause detail : Nat) :
    Cut s (s.failJob j status stage entry cause detail) := by
  have hcount (u : State) : Cut u (u.countStatus j status) := by
    unfold State.countStatus
    split
    · exact count ..
    · split
      · exact ite (count ..) (count ..)
      · exact refl u
  have hdone (u : State) (r d : Word) : Cut u (u.markDone j.id status r d) := plain rfl rfl rfl
  unfold State.failJob State.failQuiet
  exact (ite (zeroOutput ..) (refl s)).trans ((hcount _).trans ((letGo ..).trans ((hdone ..).trans (ofReported (.reportAll ..)))))

theorem failAll (s : State) (l : List Job) (status stage cause detail : Nat) : Cut s (s.failAll l status stage cause detail) :=
  foldl (fun _ _ => failJob ..) l s

/-! ### The port's job -/

theorem ticketRefuse (s : State) (r : Nat) : Cut s (s.ticketRefuse r) := by
  have hdbg : Cut s { s with dbg := { s.dbg with verify := none, verdict := none } } := plain rfl rfl rfl
  exact hdbg.trans ((setReg ..).trans ((event ..).trans ((count ..).trans (fault ..))))

theorem fwNext (s : State) (id : Nat) : Cut s (s.fwNext id) := by
  have hport (a b : Option Job) (n : Nat) : Cut s { s with nextJob := n, fwJob := a, fwWait := b } := plain rfl rfl rfl
  unfold State.fwNext
  refine ite ?_ (hport s.fwJob none s.nextJob)
  split
  · exact hport _ none s.nextJob
  · split
    · exact ite (hport _ s.fwWait _) (hport none s.fwWait s.nextJob)
    · exact hport none s.fwWait s.nextJob

theorem ticketChecked (s : State) (j : Job) (status : Nat) : Cut s (s.ticketChecked j status) := by
  unfold State.ticketChecked
  split
  · exact fwNext ..
  · split
    · exact fwNext ..
    split
    · have hdbg : Cut s { s with dbg := { s.dbg with verdict := some (status == St.OK) } } := plain rfl rfl rfl
      exact hdbg.trans (fwNext ..)
    split
    · exact plain rfl rfl rfl
    · exact (ticketRefuse ..).trans (fwNext ..)

theorem fwEnd (s : State) (j : Job) (status cause result : Nat) : Cut s (s.fwEnd j status cause result) := by
  unfold State.fwEnd
  split
  · exact ticketChecked ..
  · dsimp only
    have hfill : Cut s (match j.fill with
        | some n => if (s.slot n).st = SlotSt.reserved then s.setSlot n {} else s
        | none => s) := by
      split
      · exact ite (emptySlot ..) (refl s)
      · exact refl s
    exact hfill.trans ((setReg ..).trans ((setReg ..).trans ((fwNext ..).trans (event ..))))

theorem fwFail (s : State) (j : Job) (status stage cause : Nat) : Cut s (s.fwFail j status stage cause) := by
  unfold State.fwFail
  exact (ite (count ..) (refl s)).trans (fwEnd ..)

/-! ### Units and lanes -/

theorem releaseLeave (s : State) (what : Purpose) : Cut s (s.releaseLeave what) := ofLeave (.releaseLeave ..)

theorem freeUnit (s : State) (u : Nat) (st : UnitSt) : Cut s (s.freeUnit u st) := (modUnit ..).trans (releaseLeave ..)

theorem cruFail (s : State) (fw : Bool) (j : Job) (status stage cause detail : Nat) :
    Cut s (s.cruFail fw j status stage cause detail) := ite (fwFail ..) (failJob ..)

theorem cruAbort (s : State) (u status cause detail : Nat) : Cut s (s.cruAbort u status cause detail) := by
  unfold State.cruAbort
  dsimp only
  split
  · split
    · exact freeUnit ..
    · exact (freeUnit ..).trans (cruFail ..)
  split
  · exact modUnit ..
  · exact refl s

theorem noUnits (s : State) : Cut s s.noUnits := by
  have hport (u : State) : Cut u (match u.fwJob with
      | some j => if j.stage = .ready ∨ j.stage = .wait .rng then u.fwFail j St.ENGINE_UNAVAILABLE 5 0x016A else u
      | none => u) := by
    split
    · exact ite (fwFail ..) (refl u)
    · exact refl u
  unfold State.noUnits
  exact ite (refl s) ((failAll ..).trans ((hport _).trans (hport _)))

theorem noLanes (s : State) : Cut s s.noLanes := by
  have hnone : Cut s { s with installs := [] } := plain rfl rfl rfl
  unfold State.noLanes
  exact ite (refl s) (hnone.trans (failAll ..))

theorem laneStop (s : State) (n cause : Nat) : Cut s (s.laneStop n cause) := by
  unfold State.laneStop
  split
  · exact refl s
  · split
    · exact refl s
    · exact failJob ..
  · exact plain rfl rfl rfl

theorem fenceLane (s : State) (n : Nat) : Cut s (s.fenceLane n) := by
  unfold State.fenceLane
  exact ite (setFence ..)
    ((laneStop ..).trans ((modLane ..).trans ((releaseLeave ..).trans ((setFence ..).trans (noLanes _)))))

theorem fenceUnit (s : State) (u : Nat) : Cut s (s.fenceUnit u) := by
  have hend : Cut s (match s.unitJob u with
      | some j => ((s.freeUnit u .fenced).setFence Blk.CRU u 0).cruFail (s.unit u).fw j St.ENGINE_UNAVAILABLE 6 0x016C u
      | none => (s.freeUnit u .fenced).setFence Blk.CRU u 0) := by
    have hfree : Cut s ((s.freeUnit u .fenced).setFence Blk.CRU u 0) := (freeUnit ..).trans (setFence ..)
    split
    · exact hfree.trans (cruFail ..)
    · exact hfree
  unfold State.fenceUnit
  exact ite (setFence ..) (hend.trans (noUnits _))

/-! ### Fences -/

theorem mapAdd (s : State) (typ pool unit spare kind : Nat) : Cut s (s.mapAdd typ pool unit spare kind) := by
  have hents (l : List MapEnt) (t n : Nat) : Cut s { s with fresh := n, rtc := t, ris := { s.ris with ents := l } } :=
    plain rfl rfl rfl
  exact (hents ..).trans (ofLeave (State.mapKick_leaveOnly _))

theorem setRis (s : State) {r : Ris} (hr : r.evalDone = s.ris.evalDone) : Cut s { s with ris := r } :=
  plain (congrArg (fun b => { s.cutCore with ris := { evalDone := b } }) hr) rfl rfl

theorem noteFence (s : State) (pool unit : Nat) (serving : Bool) (kind : Option Nat) :
    Cut s (s.noteFence pool unit serving kind) := by
  have howe (u : State) : Cut u (u.oweSpare pool unit serving) := by
    unfold State.oweSpare
    split
    · exact setRis u (by exact rfl)
    · exact ite (setRis u (by exact rfl)) (refl u)
  unfold State.noteFence
  refine .trans ?_ (howe _)
  split
  · exact mapAdd ..
  · exact refl s

theorem fenceOff (s : State) (pool n : Nat) : Cut s (s.fenceOff pool n) := by
  have hhalt : Cut s (s.haltEvents n) := by
    unfold State.haltEvents
    exact foldl (fun _ _ => ite (modPair ..) (refl _)) _ s
  unfold State.fenceOff
  exact ite ((fenceLane ..).trans (modLane ..)) (ite ((fenceUnit ..).trans (modUnit ..))
    (ite (hhalt.trans (modPair ..)) ((setSrc ..).trans (setFence ..))))

theorem fence (s : State) (pool n : Nat) (kind : Option Nat) : Cut s (s.fence pool n kind) :=
  ite (refl s) ((noteFence ..).trans (fenceOff ..))

theorem fenceFor (s : State) (m : Msg) : Cut s (s.fenceFor m) :=
  ite (fence ..) (ite (fence ..) (ite (fence ..) (ite (fence ..) (refl s))))

/-! ### Ceremonies, tickets and leave -/

theorem ccDeact (s : State) (i : Nat) : Cut s (s.ccDeact i) := by
  have hcard (c : CSlot) : Cut s (s.setCslot i c) := plain rfl rfl rfl
  exact (hcard _).trans (releaseLeave ..)

theorem cerEnd (s : State) (st fail : Nat) : Cut s (s.cerEnd st fail) := by
  have hcer (c : Cer) : Cut s { s with kst := { s.kst with cer := c } } := plain rfl rfl rfl
  exact (hcer _).trans ((event ..).trans ((faultFree ..).trans ((ccDeact ..).trans (ccDeact ..))))

theorem injEnd (s : State) (r : Nat) : Cut s (s.injEnd r) := by
  have hdbg (u : State) : Cut u { u with dbg := { u.dbg with injOn := false } } := plain rfl rfl rfl
  exact (setReg ..).trans (hdbg _)

theorem cerFail (s : State) (fail : Nat) : Cut s (s.cerFail fail) := by
  unfold State.cerFail
  exact ite ((cerEnd ..).trans (ite (injEnd ..) (refl _))) (refl s)

theorem ticketEnd (s : State) (code : Nat) : Cut s (s.ticketEnd code) := by
  have hdbg : Cut s { s with dbg := { s.dbg with st := 0, scope := 0, minutes := 0 } } := plain rfl rfl rfl
  have hpairs (u : State) : Cut u ((List.range 3).foldl (fun s p =>
      s.modPair p (fun k => { k with run := if k.run = .debugHalt then .running else k.run })) u) :=
    foldl (fun _ _ => modPair ..) _ u
  unfold State.ticketEnd
  exact ite (refl s) (hdbg.trans ((hpairs _).trans ((event ..).trans (ite (refl _) (fault ..)))))

theorem withdraw (s : State) (what : Purpose) : Cut s (s.withdraw what) := ite (refl s) (releaseLeave ..)

theorem dbgModeEnd (s : State) : Cut s s.dbgModeEnd := by
  unfold State.dbgModeEnd
  exact (ite (ticketRefuse ..) (refl s)).trans (ite (injEnd ..) (refl _))

/-! ### The entry of Lockdown -/

theorem lockJob (s : State) (id : Nat) : Cut s (s.lockJob id) := by
  unfold State.lockJob
  split
  · exact refl s
  · refine ite (refl s) ?_
    dsimp only
    split
    · exact cruAbort ..
    · exact failJob ..

theorem lockPort (s : State) : Cut s s.lockPort := by
  have hwait : Cut s (match s.fwWait with
      | some j => if s.sys.start.isSome then s
        else s.fwFail j (if State.keyed j then St.KEY_DENIED else St.MODE_DENIED) 6 (if State.keyed j then 0x0150 else 4)
      | none => s) := by
    split
    · exact ite (refl s) (fwFail ..)
    · exact refl s
  have hport (u : State) : Cut u (match u.fwJob with
      | none => u
      | some j =>
        if u.sys.start.isSome then u
        else match (List.range 3).find? (fun n => (u.unit n).fw) with
          | some n => u.cruAbort n (if State.keyed j then St.KEY_DENIED else St.MODE_DENIED) (if State.keyed j then 0x0150 else 4) 0
          | none => u.fwFail j (if State.keyed j then St.KEY_DENIED else St.MODE_DENIED) 6 (if State.keyed j then 0x0150 else 4)) := by
    split
    · exact refl u
    · refine ite (refl u) ?_
      split
      · exact cruAbort ..
      · exact fwFail ..
  exact hwait.trans (hport _)

theorem uninstantiate (s : State) (d : Nat) : Cut s (s.uninstantiate d) := plain rfl rfl rfl

theorem laneDormant (s : State) (n : Nat) : Cut s (s.laneDormant n) := (modLane ..).trans (releaseLeave ..)

theorem tagCut (s : State) : Cut s s.tagCut := by
  have htag (u : State) : Cut u { u with tag := { u.tag with commit := none } } := plain rfl rfl rfl
  unfold State.tagCut
  split
  · exact refl s
  · exact (ite (refl s) (foldl (fun _ _ => scramble ..) _ s)).trans (htag _)

theorem tagHostCut (s : State) : Cut s s.tagHostCut := by
  have htag (u : State) : Cut u { u with tag := { u.tag with hostQ := [], hostOn := none } } := plain rfl rfl rfl
  unfold State.tagHostCut
  refine .trans ?_ (htag _)
  split
  · exact ite (tagCut s) (refl s)
  · exact refl s

theorem lockRest (s : State) : Cut s s.lockRest := by
  have hcard : Cut s (if s.crd.op ≠ 0 then s.custEnd St.MODE_DENIED 4 else s) := by
    have hop (u : State) : Cut u { u with crd := { u.crd with op := 0 } } := plain rfl rfl rfl
    exact ite ((setReg ..).trans (hop _)) (refl s)
  have hcrd (u : State) (c : Crd) : Cut u { u with crd := c } := plain rfl rfl rfl
  have hvault (u : State) (p : List VPage) (l : List CkWord) : Cut u { u with vault := { u.vault with pages := p, logWs := l } } :=
    plain rfl rfl rfl
  have hpairs (u : State) : Cut u ((List.range 3).foldl (fun s p =>
      if (s.pair p).role = 2 ∧ ((s.pair p).run = .running ∨ (s.pair p).run = .waiting) then
        s.modPair p (fun k => { k with run := .halted })
      else s) u) := foldl (fun _ _ => ite (modPair ..) (refl _)) _ u
  have hinst (u : State) : Cut u ((List.range 4).foldl State.uninstantiate u) := foldl uninstantiate _ u
  have hrng (u : State) (r : Rng) : Cut u { u with rng := r } := plain rfl rfl rfl
  have hlanes (u : State) : Cut u ((List.range 9).foldl (fun s n => if (s.lane n).leave then s.laneDormant n else s) u) :=
    foldl (fun _ _ => ite (laneDormant ..) (refl _)) _ u
  have hports (u : State) (l : Tbl HPort) : Cut u { u with ports := l } := plain rfl rfl rfl
  have hwithdraw (u : State) (p q : Purpose) : Cut u ((u.withdraw p).withdraw q) := (withdraw ..).trans (withdraw ..)
  have hdeact (u : State) : Cut u ((u.ccDeact 0).ccDeact 1) := (ccDeact ..).trans (ccDeact ..)
  unfold State.lockRest
  exact hcard.trans ((hcrd ..).trans ((hwithdraw ..).trans ((hdeact _).trans ((hwithdraw ..).trans ((hvault ..).trans
    ((hpairs _).trans ((hinst _).trans ((hrng ..).trans ((tagHostCut _).trans ((hlanes _).trans (hports ..)))))))))))

theorem gateEng (s : State) : Cut s s.gateEng := ite (refl s) (plain rfl rfl rfl)

theorem tagUnkey (s : State) : Cut s s.tagUnkey := plain rfl rfl rfl

theorem tagApp (s : State) (old new : Mode) : Cut s (s.tagApp old new) :=
  ite (refl s) (ite (plain rfl rfl rfl) (plain rfl rfl rfl))

theorem stopFetch (s : State) : Cut s s.stopFetch := plain rfl rfl rfl

/-! ### A safe state, and a Start -/

theorem abandon (s : State) (j : Job) : Cut s (s.abandon j) := by
  have hlane : Cut s (s.abandonLane j) := by
    unfold State.abandonLane
    split
    · exact modLane ..
    · exact refl s
  have hunit (u : State) : Cut u (u.abandonUnit j) := by
    unfold State.abandonUnit
    split
    · exact ite (freeUnit ..) (modUnit ..)
    · exact refl u
  have hfill (u : State) : Cut u (u.abandonFill j) := by
    unfold State.abandonFill
    split
    · exact ite (refl u) ((dropRecord ..).trans (emptySlot ..))
    · exact refl u
  rw [State.abandon_eq]
  exact hlane.trans ((hunit _).trans (hfill _))

theorem flashCut (s : State) : Cut s s.flashCut := by
  have htear (u : State) (b n : Nat) : Cut u (u.tear b n) := ite (refl u) (plain rfl rfl rfl)
  have hfresh (u : State) : Cut u { u with fresh := u.fresh + 1 } := plain rfl rfl rfl
  have hcut (u : State) (o : FOp) : Cut u (
      if o.rq.op = 2 ∧ (o.granted ∨ o.susp ≠ 0) then
        u.withFree (fun n s => if o.susp = 0 ∧ n % 2 = 0 then s else s.tear o.rq.bank o.rq.sector)
      else if o.granted ∧ o.rq.what = .flash ∧ o.rq.op = 1 then u.scramble u.flcAddr 256
      else if o.granted ∧ o.rq.op = 7 then u.scramble u.flcAddr 8
      else u) :=
    ite ((hfresh u).trans (ite (refl _) (htear ..))) (ite (scramble ..) (ite (scramble ..) (refl u)))
  have hqueues (u : State) : Cut u { u with flashOn := [], flashQ := [] } := plain rfl rfl rfl
  exact (foldl hcut s.flashOn s).trans (hqueues _)

theorem quenchImage (s : State) : Cut s s.quenchImage := by
  have hqueue (l : List ImgRec) : Cut s { s with kst := { s.kst with queue := l } } := plain rfl rfl rfl
  have hend (u : State) (c : Nat) : Cut u (u.kstFwEnd c) := (setReg ..).trans (event ..)
  unfold State.quenchImage
  exact (hqueue _).trans ((withdraw ..).trans ((withdraw ..).trans (ite (hend ..) (refl _))))

end Cut

/-- The greatest of a list and 0 is at most `k` when each of the list is. -/
theorem foldl_max_le_iff {l : List Nat} {k : Nat} : l.foldl max 0 ≤ k ↔ ∀ x ∈ l, x ≤ k := by
  have hmax : (0 :: l).max? = some (l.foldl max 0) := List.max?_cons'
  rw [List.max?_le_iff hmax]
  simp

theorem le_foldl_max {l : List Nat} {x : Nat} (hx : x ∈ l) : x ≤ l.foldl max 0 :=
  foldl_max_le_iff.mp (Nat.le_refl _) x hx

theorem foldl_max_le {l : List Nat} {k : Nat} (hl : ∀ x ∈ l, x ≤ k) : l.foldl max 0 ≤ k := foldl_max_le_iff.mpr hl

namespace State

/-- Every volatile secret gone, and the backup key with them when `kbb` says so (R267). -/
def quenched (s : State) (kbb : Bool) : State :=
  { s with
    slots := [], ctxs := [], installs := [], closedIdx := [], streams := []
    kst := { s.kst with unsealed := false, imgOk := false, restore := false, kseal := none, keph := none, kcust := none }
    flk := { s.flk with kbb := if kbb then none else s.flk.kbb } }

/-- In Lockdown for `reason` (R453). -/
def lockedFor (s : State) (reason : Nat) : State :=
  { s with mode := .lockdown, sys := { s.sys with reason := reason, holdPend := false } }

theorem cut_lockedFor {s t : State} (h : Cut s t) (reason : Nat) : Cut (s.lockedFor reason) (t.lockedFor reason) where
  rest := by
    have hc := congrArg (fun u : State => u.lockedFor reason) h.rest
    exact hc
  inbox := h.inbox
  slots := h.slots

/-- A quench ends what uses the secrets and erases them (R267). -/
theorem quench_cut (s : State) (kbb : Bool) : ∃ u, Cut s u ∧ Cut (u.quenched kbb) (s.quench kbb) :=
  ⟨_, (Cut.cerFail s 4).trans (.quenchImage _), .event ..⟩

/-- The entry of Lockdown cuts work short, quenches, and cuts the rest short (R453). -/
theorem lockdown_cut {s : State} (reason : Nat) (kbb : Bool) (hmode : s.mode ≠ .lockdown) (hrun : s.clk.waiting = false) :
    ∃ u, Cut s u ∧ Cut ((u.quenched kbb).lockedFor reason) (s.lockdown reason kbb) ∧
      bit ((s.lockdown reason kbb).hdr Blk.SYS 0).evt 2 := by
  have hwait : ¬s.clk.waiting = true := by simp [hrun]
  rw [lockdown, if_neg hmode, if_neg hwait]
  extract_lets old s1 s2 s3 sys s4 s5 s6
  have h1 : Cut s s1 := .ite (.ticketRefuse ..) (.refl s)
  have h2 : Cut s1 s2 := (Cut.stopFetch s1).trans ((Cut.foldl .lockJob _ _).trans (.lockPort _))
  obtain ⟨u, hu, hq⟩ := quench_cut s2 kbb
  have h3 : Cut (u.quenched kbb) s3 := hq.trans (.dbgModeEnd _)
  have h5 : Cut s4 s5 := (Cut.ticketEnd ..).trans (.lockRest _)
  have h6 : Cut s5 s6 := (Cut.gateEng _).trans ((Cut.tagUnkey _).trans (.tagApp ..))
  exact ⟨u, h1.trans (h2.trans hu), (cut_lockedFor h3 reason).trans (h5.trans (h6.trans (.event ..))),
    evt_event_self _ Blk.SYS 0 (by decide)⟩

end State

end Sys2Proof.Machine

open Sys2Proof Sys2Proof.Machine

/-- Settles O22: the highest reaction is the largest of the reactions, and what a Lockdown and the fences after it cut short
leaves the mode, its reason and the list of messages. -/
theorem skimmerPassReacts : Obligations.SkimmerPassReacts := by
  intro s
  refine ⟨fun hnone => ?_, fun ⟨m, hm, hlock⟩ hmax hmode hrun => ?_⟩
  · have htop : (s.skm.react.map s.reaction).foldl max 0 = 0 :=
      Nat.le_zero.mp (foldl_max_le fun x hx => by
        obtain ⟨m, hm, rfl⟩ := List.mem_map.mp hx
        exact Nat.le_zero.mpr (hnone m hm))
    have hfences : s.skm.react.filter (fun m => decide (1 ≤ s.reaction m)) = [] :=
      List.filter_eq_nil_iff.mpr fun m hm => by simp [hnone m hm]
    refine congrArg Host.Outcome.next ?_
    rw [State.skmPass, htop, hfences]
    rfl
  · have htop : (s.skm.react.map s.reaction).foldl max 0 = 2 := by
      refine Nat.le_antisymm (foldl_max_le fun x hx => ?_) (hlock ▸ le_foldl_max (List.mem_map_of_mem hm))
      obtain ⟨m, hm, rfl⟩ := List.mem_map.mp hx
      exact hmax m hm
    obtain ⟨u, hu, hlocked, -⟩ := State.lockdown_cut (s := { s with skm := { s.skm with react := [] } }) 2 false hmode hrun
    have hpass : s.skmPass = (s.skm.react.filter (fun m => decide (1 ≤ s.reaction m))).foldl State.fenceFor
        (({ s with skm := { s.skm with react := [] } } : State).lockdown 2 false) := by
      rw [State.skmPass, htop]
      rfl
    have hcut := hlocked.trans (.foldl .fenceFor (s.skm.react.filter (fun m => decide (1 ≤ s.reaction m))) _)
    rw [← hpass] at hcut
    refine ⟨s.skmPass, rfl, hcut.mode, congrArg Sys.reason hcut.sys, ?_⟩
    exact (congrArg Skm.react hcut.skm).trans (congrArg Skm.react hu.skm)
end

section
/-! SUPPORT. What a Start and a safe state clear (R443, R451, R456). -/

namespace Sys2Proof.Machine

/-- From `s` to `t` no job of the hosts or of the port and no key slot has changed. -/
structure WorkKept (s t : State) : Prop where
  jobs : t.jobs = s.jobs
  fwJob : t.fwJob = s.fwJob
  fwWait : t.fwWait = s.fwWait
  slots : t.slots = s.slots

namespace WorkKept

variable {s t u : State}

theorem refl (s : State) : WorkKept s s := ⟨rfl, rfl, rfl, rfl⟩

theorem trans (h : WorkKept s t) (g : WorkKept t u) : WorkKept s u :=
  ⟨g.jobs.trans h.jobs, g.fwJob.trans h.fwJob, g.fwWait.trans h.fwWait, g.slots.trans h.slots⟩

theorem ite {c : Prop} [Decidable c] (ht : WorkKept s t) (hu : WorkKept s u) : WorkKept s (if c then t else u) := by
  split
  · exact ht
  · exact hu

theorem foldl {α : Type} {f : State → α → State} (hf : ∀ s a, WorkKept s (f s a)) (l : List α) (s : State) :
    WorkKept s (l.foldl f s) := by
  induction l generalizing s with
  | nil => exact refl s
  | cons a l ih => exact (hf s a).trans (ih _)

theorem ofLeave (h : LeaveOnly s t) : WorkKept s t :=
  ⟨h.jobs, h.field State.fwJob fun _ => rfl, h.field State.fwWait fun _ => rfl, h.slots⟩

theorem ccDeact (s : State) (i : Nat) : WorkKept s (s.ccDeact i) := by
  have hcard (c : CSlot) : WorkKept s (s.setCslot i c) := ⟨rfl, rfl, rfl, rfl⟩
  exact (hcard _).trans (ofLeave (.releaseLeave ..))

theorem cerFail (s : State) (fail : Nat) : WorkKept s (s.cerFail fail) := by
  have hend : WorkKept s (s.cerEnd 6 fail) := by
    have hcer (c : Cer) : WorkKept s { s with kst := { s.kst with cer := c } } := ⟨rfl, rfl, rfl, rfl⟩
    have hevent (u : State) : WorkKept u ((u.event Blk.KST 0 4).faultFree Blk.KST 0 Kind.CEREMONY) := ⟨rfl, rfl, rfl, rfl⟩
    exact (hcer _).trans ((hevent _).trans ((ccDeact ..).trans (ccDeact ..)))
  have hinj (u : State) : WorkKept u (u.injEnd 4) := ⟨rfl, rfl, rfl, rfl⟩
  unfold State.cerFail
  exact ite (hend.trans (ite (hinj _) (refl _))) (refl s)

theorem ticketEnd (s : State) (code : Nat) : WorkKept s (s.ticketEnd code) := by
  have hdbg : WorkKept s { s with dbg := { s.dbg with st := 0, scope := 0, minutes := 0 } } := ⟨rfl, rfl, rfl, rfl⟩
  have hpairs (u : State) : WorkKept u ((List.range 3).foldl (fun s p =>
      s.modPair p (fun k => { k with run := if k.run = .debugHalt then .running else k.run })) u) :=
    foldl (by exact fun _ _ => ⟨rfl, rfl, rfl, rfl⟩) _ u
  have hevent (u : State) : WorkKept u (u.event Blk.DBG 0 3) := ⟨rfl, rfl, rfl, rfl⟩
  have hfault (u : State) (n : Nat) : WorkKept u (u.fault Blk.DBG 0 Kind.CEREMONY n) := ⟨rfl, rfl, rfl, rfl⟩
  unfold State.ticketEnd
  exact ite (refl s) (hdbg.trans ((hpairs _).trans ((hevent _).trans (ite (refl _) (hfault ..)))))

theorem scramble (s : State) (a n : Nat) : WorkKept s (s.scramble a n) := by
  unfold State.scramble State.drawBytes
  dsimp only
  rw [State.setBytes_eq]
  exact ⟨rfl, rfl, rfl, rfl⟩

theorem flashCut (s : State) : WorkKept s s.flashCut := by
  have htear (u : State) (b n : Nat) : WorkKept u (u.tear b n) := ite (refl u) ⟨rfl, rfl, rfl, rfl⟩
  have hfresh (u : State) : WorkKept u { u with fresh := u.fresh + 1 } := ⟨rfl, rfl, rfl, rfl⟩
  have hcut (u : State) (o : FOp) : WorkKept u (
      if o.rq.op = 2 ∧ (o.granted ∨ o.susp ≠ 0) then
        u.withFree (fun n s => if o.susp = 0 ∧ n % 2 = 0 then s else s.tear o.rq.bank o.rq.sector)
      else if o.granted ∧ o.rq.what = .flash ∧ o.rq.op = 1 then u.scramble u.flcAddr 256
      else if o.granted ∧ o.rq.op = 7 then u.scramble u.flcAddr 8
      else u) :=
    ite ((hfresh u).trans (ite (refl _) (htear ..))) (ite (scramble ..) (ite (scramble ..) (refl u)))
  have hqueues (u : State) : WorkKept u { u with flashOn := [], flashQ := [] } := ⟨rfl, rfl, rfl, rfl⟩
  exact (foldl hcut s.flashOn s).trans (hqueues _)

end WorkKept

namespace State

/-- Every job abandoned and the flash cut off. -/
def allCut (s : State) : State := ((s.jobs ++ s.fwJob.toList ++ s.fwWait.toList).foldl abandon s).flashCut

theorem allCut_cut (s : State) : Cut s s.allCut := (Cut.foldl .abandon _ _).trans (.flashCut _)

theorem allCut_slots {s : State} (hjobs : s.jobs = []) (hport : s.fwJob = none) (hwait : s.fwWait = none) :
    s.allCut.slots = s.slots := by
  rw [allCut, hjobs, hport, hwait]
  exact (WorkKept.flashCut s).slots

theorem setHdrs_eq (c : Nat → Bool) (f : State → Nat → Hdr) (l : List Nat) (s : State) :
    ∃ h, l.foldl (fun s i => if c i then s.setHdr i 0 (f s i) else s) s = { s with hdrs := h } := by
  induction l generalizing s with
  | nil => exact ⟨s.hdrs, rfl⟩
  | cons i l ih =>
    rw [List.foldl_cons]
    split
    · obtain ⟨h, hh⟩ := ih (s.setHdr i 0 (f s i))
      exact ⟨h, hh⟩
    · exact ih s

/-- What every Start leaves cleared. -/
structure Cleared (t : State) : Prop where
  jobs : t.jobs = []
  qps : t.qps = []
  ctxs : t.ctxs = []
  leaveHeld : t.leaveHeld = []
  waiting : t.clk.waiting = false

theorem dropAll_cleared (s : State) (warm : Bool) : Cleared (s.dropAll warm) := ⟨rfl, rfl, rfl, rfl, rfl⟩

/-- A warm Start clears the work and keeps the key store (R456). -/
theorem warmClear_outcome (s : State) : Cleared s.warmClear ∧ s.warmClear.slots = s.allCut.slots ∧
    s.warmClear.kst.kseal = s.kst.kseal ∧ s.warmClear.clk.hrefOff = s.clk.hrefOff := by
  have hkseal := (allCut_cut s).kseal
  have hhref : s.allCut.clk.hrefOff = s.clk.hrefOff := (allCut_cut s).field (fun s => s.clk.hrefOff) fun _ => rfl
  have hdrop : (s.dropAll true).slots = s.allCut.slots ∧ (s.dropAll true).kst.kseal = s.allCut.kst.kseal ∧
      (s.dropAll true).clk.hrefOff = s.allCut.clk.hrefOff := ⟨rfl, rfl, rfl⟩
  have hcleared := s.dropAll_cleared true
  unfold warmClear
  generalize s.dropAll true = u at hdrop hcleared
  extract_lets u b keep v w x
  obtain ⟨h, hw⟩ := setHdrs_eq (fun i => keep (i * 32)) (fun s i => { s.hdr i 0 with lock := false }) (List.range 32) v
  replace hw : w = { v with hdrs := h } := hw
  clear_value w
  subst hw
  exact ⟨⟨hcleared.jobs, hcleared.qps, hcleared.ctxs, hcleared.leaveHeld, hcleared.waiting⟩, hdrop.1, hdrop.2.1.trans hkseal,
    hdrop.2.2.trans hhref⟩

theorem forget_clears (s : State) (a b : Nat) (h : Cleared s) : Cleared (s.forget a b) :=
  ⟨h.jobs, h.qps, h.ctxs, h.leaveHeld, h.waiting⟩

theorem coldClear_outcome (s : State) : Cleared s.coldClear ∧ s.coldClear.slots = [] ∧ s.coldClear.kst.kseal = none := by
  have hcleared := forget_clears _ 0x10000000 0x10800000 (s.dropAll_cleared false)
  unfold coldClear
  generalize (s.dropAll false).forget 0x10000000 0x10800000 = u at hcleared
  exact ⟨⟨hcleared.jobs, hcleared.qps, hcleared.ctxs, hcleared.leaveHeld, rfl⟩, rfl, rfl⟩

/-- What changes only the RNG and the ports one step after another changes only them. -/
theorem foldl_rng_eq {α : Type} {f : State → α → State} (hf : ∀ s a, ∃ r p, f s a = { s with rng := r, ports := p }) (l : List α)
    (s : State) : ∃ r p, l.foldl f s = { s with rng := r, ports := p } := by
  induction l generalizing s with
  | nil => exact ⟨s.rng, s.ports, rfl⟩
  | cons a l ih =>
    obtain ⟨r, p, ha⟩ := hf s a
    obtain ⟨r', p', hl⟩ := ih (f s a)
    exact ⟨r', p', by rw [List.foldl_cons, hl, ha]⟩

theorem rngStart_eq (s : State) : ∃ r p, s.rngStart = { s with rng := r, ports := p } := by
  unfold rngStart
  extract_lets u v
  obtain ⟨r, p, hu⟩ : ∃ r p, u = { s with rng := r, ports := p } := by
    refine foldl_rng_eq (fun s n => ?_) (List.range 10) s
    dsimp only
    split
    · exact ⟨_, s.ports, rfl⟩
    · exact ⟨s.rng, s.ports, rfl⟩
  obtain ⟨r', p', hv⟩ : ∃ r p, v = { u with rng := r, ports := p } :=
    foldl_rng_eq (f := uninstantiate) (fun s d => ⟨_, _, rfl⟩) (List.range 4) u
  clear_value v
  subst hv
  clear_value u
  subst hu
  exact ⟨_, p', rfl⟩

/-- Sources and instances at the beginning of a Start, and the tag's application, are set alone. -/
theorem startTail_eq (s : State) (old : Mode) : ∃ r p g, s.startRng.tagApp old .start = { s with rng := r, ports := p, tag := g } := by
  obtain ⟨r, p, hstart⟩ := s.rngStart_eq
  obtain ⟨r', p', hsrc⟩ : ∃ r p, s.startRng = { s.rngStart with rng := r, ports := p } := by
    refine foldl_rng_eq (fun s n => ?_) (List.range 10) s.rngStart
    split
    · exact ⟨_, s.ports, rfl⟩
    · exact ⟨s.rng, s.ports, rfl⟩
  have htag (u : State) : ∃ g, u.tagApp old .start = { u with tag := g } := by
    unfold tagApp
    split
    · exact ⟨u.tag, rfl⟩
    split
    · exact ⟨_, rfl⟩
    · exact ⟨_, rfl⟩
  obtain ⟨g, hg⟩ := htag s.startRng
  exact ⟨r', p', g, by rw [hg, hsrc, hstart]⟩

/-- What the beginning of a Start leaves (R451, R456). -/
theorem startBegin_outcome (s : State) (warm : Bool) (cause lock : Nat) : Cleared (s.startBegin warm cause lock) ∧
    (s.startBegin warm cause lock).mode = .start ∧ (s.startBegin warm cause lock).sys.start = some ⟨warm, cause, lock⟩ ∧
    (warm = false → (s.startBegin warm cause lock).slots = [] ∧ (s.startBegin warm cause lock).kst.kseal = none) ∧
    (warm → (s.startBegin warm cause lock).kst.kseal = s.kst.kseal ∧
      (s.startBegin warm cause lock).clk.hrefOff = s.clk.hrefOff ∧
      (s.jobs = [] → s.fwJob = none → s.fwWait = none → (s.startBegin warm cause lock).slots = s.slots)) := by
  unfold startBegin
  extract_lets old s1 s2 rc rv s3 s4
  have hcut : Cut s s2 := (Cut.cerFail ..).trans (.ticketEnd ..)
  have hwork : WorkKept s s2 := (WorkKept.cerFail ..).trans (.ticketEnd ..)
  clear_value s2
  have h3 : Cleared s3 ∧ (warm = false → s3.slots = [] ∧ s3.kst.kseal = none) ∧
      (warm → s3.kst.kseal = s.kst.kseal ∧ s3.clk.hrefOff = s.clk.hrefOff ∧
        (s.jobs = [] → s.fwJob = none → s.fwWait = none → s3.slots = s.slots)) := by
    rcases warm with _ | _
    · obtain ⟨hcleared, hslots, hkseal⟩ := s2.coldClear_outcome
      exact ⟨hcleared, fun _ => ⟨hslots, hkseal⟩, fun h => absurd h Bool.false_ne_true⟩
    · obtain ⟨hcleared, hslots, hkseal, hhref⟩ := s2.warmClear_outcome
      refine ⟨hcleared, fun h => absurd h (by decide), fun _ => ⟨hkseal.trans hcut.kseal,
        hhref.trans (hcut.field (fun s => s.clk.hrefOff) fun _ => rfl), fun hjobs hport hwait => hslots.trans ?_⟩⟩
      exact (allCut_slots (hwork.jobs.trans hjobs) (hwork.fwJob.trans hport) (hwork.fwWait.trans hwait)).trans hwork.slots
  clear_value s3
  obtain ⟨hcleared, hcold, hwarm⟩ := h3
  obtain ⟨r, p, g, htail⟩ := startTail_eq _ old
  rw [htail]
  exact ⟨⟨hcleared.jobs, hcleared.qps, hcleared.ctxs, hcleared.leaveHeld, hcleared.waiting⟩, rfl, rfl, hcold, hwarm⟩

end State
end Sys2Proof.Machine
end

section
/-! SUPPORT. Clocks that fail and return, ramps, and the leave arbiter (R437-R448). -/

namespace Sys2Proof.Machine.State

/-- A table mapped entry by entry, defaults staying defaults. -/
theorem get_map_values {α : Type} {d : α} {f : α → α} (hf : f d = d) (t : Tbl α) (k : Nat) :
    Tbl.get (fun _ => d) (t.map (fun e => (e.1, f e.2))) k = f (Tbl.get (fun _ => d) t k) := by
  induction t with
  | nil => exact hf.symm
  | cons e t ih =>
    simp only [List.map_cons, Tbl.get]
    split
    · rfl
    · exact ih

/-- A pair stops where it stands. -/
def pairHalted (k : KPair) : KPair :=
  if k.run = .running ∨ k.run = .waiting ∨ k.run = .debugHalt then { k with run := .halted } else k

theorem pairHalted_run (k : KPair) : (pairHalted k).run ≠ .running := by
  unfold pairHalted
  split
  next h =>
    exact PRun.noConfusion
  next h =>
    exact fun hr => h (.inl hr)

/-- A safe state empties the work and stops the pairs; vault slots stay, and messages only join the inbox (R443). -/
theorem safeState_outcome (s : State) : s.safeState.vslots = s.vslots ∧ s.inbox <+: s.safeState.inbox ∧
    s.safeState.jobs = [] ∧ s.safeState.leaveHeld = [] ∧ ∀ p, (s.safeState.pair p).run ≠ .running := by
  unfold safeState
  extract_lets s1 s2 hush halt fetch
  have hcut : Cut s s2 := (allCut_cut s).trans ((Cut.ccDeact ..).trans (.ccDeact ..))
  clear_value s2
  have hpair (p : Nat) : Tbl.get (fun _ => ({} : KPair)) (s2.pairs.map (fun e => (e.1, pairHalted e.2))) p =
      pairHalted (s2.pair p) := get_map_values rfl s2.pairs p
  refine ⟨hcut.vslots, hcut.inbox, rfl, rfl, fun p => ?_⟩
  exact fun hrun => pairHalted_run _ ((congrArg KPair.run (hpair p)).symm.trans hrun)

theorem lossOf_kept (ramp mode : Nat) (s : State) (c : Nat) : (lossOf ramp mode s c).vslots = s.vslots ∧
    (lossOf ramp mode s c).mode = s.mode ∧ (lossOf ramp mode s c).clk.waiting = s.clk.waiting ∧
    ∃ m ∈ (lossOf ramp mode s c).inbox, m.kind = Kind.CLOCK_LOSS ∧ m.blk = Blk.CLK ∧ m.addr % 256 = c % 256 := by
  refine ⟨rfl, rfl, rfl, _, List.mem_append_right _ (List.mem_singleton_self _), rfl, rfl, ?_⟩
  change (c + ramp * 0x100 + mode * 0x200) % 2 ^ 40 % 256 = c % 256
  omega

/-- The failure of one source puts Esnan in a safe state (R443). -/
theorem clockFail_outcome {s : State} {c : Nat} (hfail : s.canFail c) (hc : c < 20) (hrun : s.clk.waiting = false) :
    ∃ u : State, s.clockFail [c] = { u.safeState with
        mode := .start, clk := { u.safeState.clk with waiting := true, before := s.mode, doms := [] } } ∧
      u.vslots = s.vslots ∧ ∃ m ∈ u.inbox, m.kind = Kind.CLOCK_LOSS ∧ m.blk = Blk.CLK ∧ m.addr % 256 = c := by
  have hlist : (List.range 20).filter (fun x => [c].contains x && s.canFail x) = [c] := by
    have hone : ∀ x ∈ List.range 20, ([c].contains x && s.canFail x) = (x == c) := fun x _ => by
      by_cases hx : x = c
      · simp [hx, hfail]
      · simp [hx]
    rw [List.filter_congr hone, List.filter_beq, List.count_range, if_pos hc]
    rfl
  obtain ⟨hslots, hmode, hwaiting, m, hm, hmsg⟩ := lossOf_kept (b2n s.ramping) s.sysMode s c
  rw [Nat.mod_eq_of_lt (by omega : c < 256)] at hmsg
  obtain ⟨u, hu, hus, hui, hum, huw⟩ : ∃ u, u = (if [c].contains 1 = true then (lossOf (b2n s.ramping) s.sysMode s c).xRestart
      else lossOf (b2n s.ramping) s.sysMode s c) ∧ u.vslots = (lossOf (b2n s.ramping) s.sysMode s c).vslots ∧
      u.inbox = (lossOf (b2n s.ramping) s.sysMode s c).inbox ∧ u.mode = (lossOf (b2n s.ramping) s.sysMode s c).mode ∧
      u.clk.waiting = (lossOf (b2n s.ramping) s.sysMode s c).clk.waiting := by
    refine ⟨_, rfl, ?_⟩
    split
    · exact ⟨rfl, rfl, rfl, rfl⟩
    · exact ⟨rfl, rfl, rfl, rfl⟩
  refine ⟨u, ?_, hus.trans hslots, m, hui ▸ hm, hmsg⟩
  unfold clockFail
  extract_lets l ramp mode w v before x
  have hl : l = [c] := hlist
  clear_value l
  subst hl
  rw [if_neg (show ¬[c].isEmpty = true from Bool.false_ne_true)]
  have hv : v = u := hu.symm
  clear_value v
  subst hv
  rw [if_neg (by rw [huw, hwaiting, hrun]; decide)]
  have hbefore : before = s.mode := hum.trans hmode
  rw [hbefore]

theorem pdom_setPdom (s : State) (k : Nat) (d : PDom) : (s.setPdom k d).pdom k = d :=
  Tbl.get_set_self (fun _ => ({} : PDom)) s.clk.doms k d

theorem pdom_setPdom_ne (s : State) {j k : Nat} (d : PDom) (h : j ≠ k) : (s.setPdom k d).pdom j = s.pdom j :=
  Tbl.get_set_ne (fun _ => ({} : PDom)) s.clk.doms d h

/-- A running domain aims at its lowest clock (R440). -/
def aimLow (s : State) (k : Nat) : State := if (s.pdom k).div = 0xFF then s else s.setPdom k { s.pdom k with aim := 2 }

theorem aimLow_outcome (s : State) (k : Nat) : (s.aimLow k).mem = s.mem ∧ (s.aimLow k).regs = s.regs ∧
    (s.aimLow k).pdom k = (if (s.pdom k).div = 0xFF then s.pdom k else { s.pdom k with aim := 2 }) ∧
    ∀ j, j ≠ k → (s.aimLow k).pdom j = s.pdom j := by
  unfold aimLow
  split
  · exact ⟨rfl, rfl, rfl, fun _ _ => rfl⟩
  · exact ⟨rfl, rfl, s.pdom_setPdom .., fun _ hj => s.pdom_setPdom_ne _ hj⟩

theorem foldl_aimLow_outcome (l : List Nat) (hl : l.Nodup) (s : State) : (l.foldl aimLow s).mem = s.mem ∧
    (l.foldl aimLow s).regs = s.regs ∧ (∀ k ∈ l, (l.foldl aimLow s).pdom k =
      if (s.pdom k).div = 0xFF then s.pdom k else { s.pdom k with aim := 2 }) ∧
    ∀ j ∉ l, (l.foldl aimLow s).pdom j = s.pdom j := by
  induction l generalizing s with
  | nil => exact ⟨rfl, rfl, fun _ hk => absurd hk List.not_mem_nil, fun _ _ => rfl⟩
  | cons i l ih =>
    obtain ⟨hi, hl⟩ := List.nodup_cons.mp hl
    obtain ⟨hmem, hregs, hself, hother⟩ := s.aimLow_outcome i
    obtain ⟨hmem', hregs', hin, hout⟩ := ih hl (s.aimLow i)
    refine ⟨hmem'.trans hmem, hregs'.trans hregs, fun k hk => ?_, fun j hj => ?_⟩
    · by_cases hki : k = i
      · rw [hki]
        exact (hout i hi).trans hself
      · have hkl : k ∈ l := (List.mem_cons.mp hk).resolve_left hki
        exact (hin k hkl).trans (by rw [hother k hki])
    · obtain ⟨hji, hjl⟩ := not_or.mp fun h => hj (List.mem_cons.mpr h)
      exact (hout j hjl).trans (hother j hji)

/-- Of the clock unit, the crystal's step of the Start self-test changes nothing. -/
theorem xtalStep_kept (s : State) : s.xtalStep.clk = s.clk ∧ s.xtalStep.hdr Blk.CLK 0 = s.hdr Blk.CLK 0 ∧ s.xtalStep.mem = s.mem := by
  have hdone (u : State) : u.smsDone.clk = u.clk ∧ u.smsDone.hdr Blk.CLK 0 = u.hdr Blk.CLK 0 ∧ u.smsDone.mem = u.mem := by
    unfold smsDone
    split
    · exact ⟨rfl, hdr_setHdr_ne _ _ (by decide), rfl⟩
    · exact ⟨rfl, rfl, rfl⟩
  unfold xtalStep
  split
  · exact hdone _
  · exact ⟨rfl, rfl, rfl⟩

/-- A request noted as a long wait (R448). -/
def waitNoted (s : State) (i : Nat) (l : Leave) (w : Nat) : State :=
  ((({ s with leavePend := s.leavePend.set i { l with waited := true } } : State).count R.PWR_WAITS 15 0).setFld
    R.PWR_WAITS 31 16 (max (s.fld R.PWR_WAITS 31 16) w)).event Blk.CLK 0 4

theorem waitNoted_fld (s : State) (i : Nat) (l : Leave) {w : Nat} (hw : w < 65536) :
    (s.waitNoted i l w).fld R.PWR_WAITS 31 16 = max (s.fld R.PWR_WAITS 31 16) w := by
  have hold : s.fld R.PWR_WAITS 31 16 < 2 ^ (31 + 1 - 16) := Nat.mod_lt _ (Nat.two_pow_pos _)
  have hevent (u : State) (b i n a hi lo : Nat) : (u.event b i n).fld a hi lo = u.fld a hi lo := rfl
  rw [waitNoted, hevent, fld_setFld _ _ (by decide) (by decide)]
  exact Nat.mod_eq_of_lt (Nat.max_lt.mpr ⟨hold, hw⟩)

/-- A grant that no bank waits for makes its unit busy (R447). -/
theorem granted_cru {s : State} {l : Leave} {k : Nat} (hwhat : l.what = .cru k) (hbanks : s.flashOn = [])
    (hunit : (s.unit k).st = .leave) : s.granted l = s.modUnit k (fun u => { u with st := .busy }) := by
  have hsame : ({ s with flashOn := [] } : State) = s := by rw [← hbanks]
  simp only [granted, hwhat, hbanks, List.map_nil, hsame]
  exact if_pos hunit

/-- A budget that no request and no page waits for is written (R448). -/
theorem budgetWrite_of_fits {s : State} {v : Word} (hn : ¬(bits v 9 0 < s.variant.standing ∨ 950 < bits v 9 0))
    (hrefused : s.vault.refused = false) (hfits : ∀ x ∈ s.leavePend, x.tok ≤ bits v 9 0 - s.variant.standing) :
    s.budgetWrite v = some (s.setReg R.PWR_BUDGET (w32 (bits v 9 0))) := by
  have hbad (u : State) (hpend : u.leavePend = s.leavePend) (hvar : u.variant = s.variant) :
      u.leavePend.filter (fun l => decide (l.tok > bits v 9 0 - u.variant.standing)) = [] := by
    rw [hpend, hvar]
    exact List.filter_eq_nil_iff.mpr fun x hx => by simpa using hfits x hx
  have hrefused' (u : State) (hu : u.vault = s.vault) : ¬u.vault.refused = true := by
    rw [hu, hrefused]
    decide
  rw [budgetWrite, if_neg hn]
  dsimp only
  rw [hbad (s.setReg R.PWR_BUDGET (w32 (bits v 9 0))) rfl rfl, List.foldl_nil,
    if_neg (hrefused' (s.setReg R.PWR_BUDGET (w32 (bits v 9 0))) rfl)]

end Sys2Proof.Machine.State

open Sys2Proof Sys2Proof.Machine

/-- Settles O59: each clock and leave command takes the branch its hypotheses name, and a returning source begins a Start. -/
theorem clocksFailAndReturnAndLeaveIsGranted : Obligations.ClocksFailAndReturnAndLeaveIsGranted := by
  intro s rq edges k c i w v l q
  dsimp only
  refine ⟨fun hpower hjudged => ?window, fun hpower hjudged hreached => ?judged,
    fun hjudged hcrystal heval hrun hpower hstill => ?change, fun haim hdiv => ?rampUp, fun haim hdiv => ?rampEnd,
    fun haim hdiv hzero => ?rampDown, fun hfail hc hrun => ?loss, fun hwaits hback hwarm => ⟨?back, fun hfailed => ?timeout⟩,
    fun hrun hpower hen hqueue => ⟨fun hfits hwhat hunit hbanks => ?grant, fun hbig => ?noGrant⟩,
    fun hhead hwaited => ?waits, fun hw => ⟨fun hlo hhi hrefused hfits => ?budget, fun hbad => ?noBudget⟩⟩
  case window =>
    have hjudged' (u : State) (h : u.clk.judged = false) (x y : State) : (if u.clk.judged then x else y) = y :=
      if_neg (by rw [h]; decide)
    refine congrArg Host.Outcome.next ((if_neg (by rw [hpower]; decide)).trans ?_)
    exact if_neg (by rw [State.setFld, State.setFld]; exact fun h => absurd (hjudged ▸ h) Bool.false_ne_true)
  case judged =>
    exact congrArg Host.Outcome.next (if_pos ⟨by rw [State.judging, hpower, hjudged]; rfl, hreached⟩)
  case change =>
    have hready : ¬((!s.clk.judged) = true ∨ s.clk.refX = true ∨ (!s.ris.evalDone) = true ∨ s.clk.waiting = true ∨
        s.fieldPower = true ∨ s.ramping = true) := by
      simp [hjudged, hcrystal, heval, hrun, hpower, hstill]
    obtain ⟨hmem, hregs, hin, -⟩ := State.foldl_aimLow_outcome (List.range 4) List.nodup_range s
    exact ⟨_, congrArg Host.Outcome.next (if_neg hready), hmem, hregs, hin k (List.mem_range.mpr k.isLt)⟩
  case rampUp =>
    refine congrArg Host.Outcome.next ?_
    have hdiv0 : (s.pdom k).div ≠ 0 := by omega
    rw [State.rampStep, haim, if_neg (by decide), if_pos rfl, if_neg hdiv0, if_neg (by omega)]
  case rampEnd =>
    have hdiv0 : (s.pdom k).div ≠ 0 := by omega
    have hexec : exec (.rampStep k) s = .next (s.setPdom k { div := 1, aim := 0 }).rampDone := by
      refine congrArg Host.Outcome.next ?_
      rw [State.rampStep, haim, if_neg (by decide), if_pos rfl, if_neg hdiv0, if_pos (by omega)]
    obtain ⟨hclk, hhdr, hmem⟩ := ((s.setPdom k { div := 1, aim := 0 }).event Blk.CLK 0 3).xtalStep_kept
    refine ⟨_, hexec, ?_, ?_, hmem⟩
    · exact (congrArg (fun c : Clk => Tbl.get (fun _ => ({} : PDom)) c.doms k) hclk).trans (s.pdom_setPdom k _)
    · rw [State.rampDone, hhdr]
      exact State.evt_event_self _ Blk.CLK 0 (by decide)
  case rampDown =>
    refine congrArg Host.Outcome.next ?_
    rw [State.rampStep, if_neg (by omega), if_neg (by omega), if_neg hdiv, if_pos hzero]
  case loss =>
    obtain ⟨u, hu, hslots, m, hm, hmsg⟩ := State.clockFail_outcome hfail hc hrun
    obtain ⟨hsv, hsi, hsj, hsl, hsp⟩ := u.safeState_outcome
    have hagain : s.judgeAgain [c] = s := if_neg fun h => absurd (hrun ▸ h.1) Bool.false_ne_true
    have hexec : exec (.clockLoss [c]) s = .next (s.clockFail [c]) := by
      refine congrArg Host.Outcome.next ?_
      rw [hagain]
    rw [hu] at hexec
    exact ⟨_, m, hexec, rfl, rfl, rfl, hsj, hsl, hsi.subset hm, hmsg.1, hmsg.2.1, hmsg.2.2, fun p => hsp p, hsv.trans hslots⟩
  case back =>
    have hreturn : exec .sourceReturn s = .next (({ s with clk := { s.clk with refX := true } } : State).startBegin true 4
        (if s.clk.before = .lockdown then s.sys.reason else (s.sys.start.map (·.lock)).getD 0)) := by
      refine congrArg Host.Outcome.next ((if_pos ⟨hwaits, hback⟩).trans ?_)
      exact if_neg fun h => absurd (hwarm ▸ h) Bool.false_ne_true
    obtain ⟨hcleared, hmode, hstart, -, hwarmed⟩ := State.startBegin_outcome ({ s with clk := { s.clk with refX := true } } : State)
      true 4 (if s.clk.before = .lockdown then s.sys.reason else (s.sys.start.map (·.lock)).getD 0)
    exact ⟨_, hreturn, hcleared.waiting, hmode, hstart, (hwarmed rfl).1⟩
  case timeout =>
    have hoff (u : State) (hu : u = { s with clk := { s.clk with hrefOff := s.clk.hrefOff ||| (s.clkFailed / 256 % 16) } }) :
        u.returnStart = ({ u with clk := { u.clk with refX := true } } : State).startBegin true 4
          (if s.clk.before = .lockdown then s.sys.reason else (s.sys.start.map (·.lock)).getD 0) := by
      subst hu
      exact if_neg fun h => absurd (hwarm ▸ h) Bool.false_ne_true
    obtain ⟨u, hu⟩ : ∃ u : State, u = { s with clk := { s.clk with hrefOff := s.clk.hrefOff ||| (s.clkFailed / 256 % 16) } } :=
      ⟨_, rfl⟩
    have hexec : exec .hrefclkReturnTimeout s = .next u.returnStart :=
      hu ▸ congrArg Host.Outcome.next (if_pos ⟨hwaits, hback, hfailed⟩)
    obtain ⟨hcleared, -, hstart, -, hwarmed⟩ := State.startBegin_outcome ({ u with clk := { u.clk with refX := true } } : State)
      true 4 (if s.clk.before = .lockdown then s.sys.reason else (s.sys.start.map (·.lock)).getD 0)
    rw [hoff u hu] at hexec
    exact ⟨_, hexec, hcleared.waiting, hstart, (hwarmed rfl).2.1.trans (hu ▸ rfl)⟩
  case grant =>
    have hfree : ¬(s.clk.waiting = true ∨ s.fieldPower = true ∨ (!(s.hdr Blk.CLK 0).en) = true) := by
      simp [hrun, hpower, hen]
    have hhead : s.headFits = some l := by
      rw [State.headFits, hqueue]
      exact if_pos hfits
    refine congrArg Host.Outcome.next ((if_neg hfree).trans ?_)
    rw [hhead]
    have hpend : s.grantHead l = { s with leavePend := q, leaveHeld := s.leaveHeld ++ [l] } := by
      rw [State.grantHead, hqueue]
      rfl
    rw [← hpend]
    exact State.granted_cru hwhat hbanks hunit
  case noGrant =>
    have hhead : s.headFits = none := by
      rw [State.headFits, hqueue]
      exact if_neg (by omega)
    refine congrArg Host.Outcome.next ?_
    rw [hhead]
    split
    · rfl
    · rfl
  case waits =>
    have hexec : exec (.leaveWait i w) s = .next (s.waitNoted i l w) := by
      refine congrArg Host.Outcome.next ?_
      rw [hhead]
      exact if_neg (by rw [hwaited]; decide)
    exact ⟨_, hexec, rfl, State.evt_event_self _ Blk.CLK 0 (by decide), rfl, s.waitNoted_fld i l w.isLt⟩
  case budget =>
    have hn : ¬(bits v 9 0 < s.variant.standing ∨ 950 < bits v 9 0) := by omega
    refine congrArg Host.Outcome.next ((s.asWrite_of_writable _ _ hw).trans ?_)
    rw [State.budgetWrite_of_fits hn hrefused hfits]
    rfl
  case noBudget =>
    refine congrArg Host.Outcome.next ((s.asWrite_of_writable _ _ hw).trans ?_)
    rw [State.budgetWrite, if_pos hbad]
    rfl
end

section
/-! SUPPORT. Flask alarms, the flags' clearing, the RTC and the mirror (R393-R407). -/

namespace Sys2Proof.Machine.State

/-- From `s` to `t` an alarm's message and mirror entry have only been noted (R398, R406). -/
structure Noted (s t : State) : Prop where
  flags : t.flags = s.flags
  cnt : t.flk.cnt = s.flk.cnt
  kbb : t.flk.kbb = s.flk.kbb
  mode : t.mode = s.mode
  sys : t.sys = s.sys
  slots : t.slots = s.slots
  jobs : t.jobs = s.jobs
  mem : t.mem = s.mem
  inbox : s.inbox <+: t.inbox
  evt : bit (s.hdr Blk.FLK 0).evt 2 = true → bit (t.hdr Blk.FLK 0).evt 2 = true

namespace Noted

variable {s t u : State}

theorem refl (s : State) : Noted s s := ⟨rfl, rfl, rfl, rfl, rfl, rfl, rfl, rfl, List.prefix_refl _, id⟩

theorem trans (h : Noted s t) (g : Noted t u) : Noted s u :=
  ⟨g.flags.trans h.flags, g.cnt.trans h.cnt, g.kbb.trans h.kbb, g.mode.trans h.mode, g.sys.trans h.sys, g.slots.trans h.slots,
    g.jobs.trans h.jobs, g.mem.trans h.mem, h.inbox.trans g.inbox, g.evt ∘ h.evt⟩

theorem tamperMsg (s : State) (i resp time : Nat) (deferred : Bool) : Noted s (s.tamperMsg i resp time deferred) :=
  ⟨rfl, rfl, rfl, rfl, rfl, rfl, rfl, rfl, List.prefix_append _ _, fun h => by
    rw [State.tamperMsg, show (State.send s _ Blk.FLK 0).hdr Blk.FLK 0 = _ from s.hdr_setHdr Blk.FLK 0 _]
    exact bit_putBit_of_bit _ 0 h⟩

theorem mirPush (s : State) (e : MirE) : Noted s (s.mirPush e) := by
  unfold State.mirPush
  split
  · exact ⟨rfl, rfl, rfl, rfl, rfl, rfl, rfl, rfl, List.prefix_refl _, id⟩
  · exact ⟨rfl, rfl, rfl, rfl, rfl, rfl, rfl, rfl, List.prefix_refl _, evt_event_of_bit (s.count R.FLK_MCNT 31 16) 4⟩

theorem flkNote (s : State) (t mode i : Nat) : Noted s (s.flkNote t mode i) := by
  have hsent : Noted s { s with flk := { s.flk with sent := Tbl.set (fun _ => 0) s.flk.sent i (t + 1) } } :=
    ⟨rfl, rfl, rfl, rfl, rfl, rfl, rfl, rfl, List.prefix_refl _, id⟩
  unfold State.flkNote
  dsimp only
  split
  · exact refl s
  split
  · exact hsent.trans ((tamperMsg ..).trans (mirPush ..))
  · exact hsent.trans (mirPush ..)

end Noted

/-- An alert not sent lately is sent (R397, R398). -/
theorem flkNote_alert {s : State} {t mode i : Nat} (hresp : s.flkTaken i = 1) (hsent : Tbl.get (fun _ => 0) s.flk.sent i = 0) :
    ∃ m ∈ (s.flkNote t mode i).inbox, m.kind = Kind.TAMPER ∧ m.sev = 2 := by
  unfold flkNote
  dsimp only
  rw [hsent, hresp, if_neg (fun h => h.1 rfl), if_pos (Nat.le_refl 1)]
  refine ⟨_, (Noted.mirPush _ _).inbox.subset (List.mem_append_right _ (List.mem_singleton_self _)), rfl, rfl⟩

/-- The state in which source `i` alone alarms. -/
theorem flkSample_sole {s : State} {t checked live i : Nat}
    (hsole : (sourcesOf checked).filter (fun j => live / 2 ^ j % 2 == 1) = [i]) (hen : s.flkEnabled i)
    (hnew : s.flk.live / 2 ^ i % 2 = 0) : ∃ a b c, s.flkSample t checked live =
      ({ s with flk := { s.flk with live := a, cleared := b, vbat := c } } : State).flkAlarms t [i] := by
  have hon : (sourcesOf checked).filter (fun j => live / 2 ^ j % 2 == 1 && s.flkEnabled j) = [i] := by
    have hand := List.filter_filter (p := s.flkEnabled) (q := fun j => live / 2 ^ j % 2 == 1) (l := sourcesOf checked)
    rw [hsole, List.filter_cons_of_pos hen, List.filter_nil] at hand
    simp only [Bool.and_comm] at hand ⊢
    exact hand.symm
  have hfirst : [i].filter (fun j => s.flk.live / 2 ^ j % 2 == 0 || s.flk.cleared / 2 ^ j % 2 == 1) = [i] := by
    simp [hnew]
  unfold flkSample
  dsimp only
  rw [hon, hfirst]
  exact ⟨_, _, _, rfl⟩

/-- A sample that finds nothing raises nothing. -/
theorem flkSample_none (s : State) (t checked : Nat) : ∃ a b c, s.flkSample t checked 0 =
    { s with flk := { s.flk with live := a, cleared := b, vbat := c } } := by
  have hon : (sourcesOf checked).filter (fun j => 0 / 2 ^ j % 2 == 1 && s.flkEnabled j) = [] :=
    List.filter_eq_nil_iff.mpr fun j _ => by simp
  unfold flkSample
  dsimp only
  rw [hon]
  exact ⟨_, _, _, rfl⟩

/-- An alarm of source `i` raises its flag and counts (R397). -/
theorem flkMark_outcome (s : State) (t i : Nat) : (s.flkMark t i).flags = setBit s.flags i ∧
    (s.flkMark t i).flkCount i = satSucc 255 (s.flkCount i) ∧ ∀ m, m ≠ i → (s.flkMark t i).flkCount m = s.flkCount m :=
  ⟨rfl, Tbl.get_set_self (fun _ => 0) s.flk.cnt i _, fun _ hm => Tbl.get_set_ne (fun _ => 0) s.flk.cnt _ hm⟩

theorem flkAlarms_sole (s : State) (t i : Nat) : s.flkAlarms t [i] =
    if s.fieldPower then
      ({ s.flkMark t i with flk := { (s.flkMark t i).flk with
        pend := setBit s.flk.pend i
        pendLock := s.flk.pendLock || decide (2 ≤ s.flkTaken i)
        kbb := if s.flkTaken i = 3 then none else s.flk.kbb } } : State)
    else
      ((if s.flkTaken i = 3 then (s.flkMark t i).quenchLock 1 true else if s.flkTaken i = 2 then (s.flkMark t i).lockdown 1 false
        else s.flkMark t i).event Blk.FLK 0 2).flkNote t s.modeCode i := by
  unfold flkAlarms
  extract_lets mode u top
  have htop : top = s.flkTaken i := Nat.zero_max _
  clear_value top
  subst htop
  rfl

/-- An alarm on the cell alone takes the backup key and leaves the rest pending (R403). -/
theorem flkAlarms_cell (s : State) (t i : Nat) (hpower : s.fieldPower = true) : s.flkAlarms t [i] =
    { s.flkMark t i with flk := { (s.flkMark t i).flk with
      pend := setBit s.flk.pend i
      pendLock := s.flk.pendLock || decide (2 ≤ s.flkTaken i)
      kbb := if s.flkTaken i = 3 then none else s.flk.kbb } } := by
  rw [flkAlarms_sole, if_pos hpower]

/-- An alert, with main power: the flag is raised and the alert noted (R397, R401). -/
theorem flkAlarms_alert {s : State} (t : Nat) {i : Nat} (hpower : s.fieldPower = false) (hresp : s.flkTaken i ≤ 1) :
    Noted ((s.flkMark t i).event Blk.FLK 0 2) (s.flkAlarms t [i]) ∧
    (s.flkTaken i = 1 → Tbl.get (fun _ => 0) s.flk.sent i = 0 → ∃ m ∈ (s.flkAlarms t [i]).inbox, m.kind = Kind.TAMPER ∧ m.sev = 2) := by
  rw [flkAlarms_sole, if_neg (by rw [hpower]; decide), if_neg (by omega), if_neg (by omega)]
  exact ⟨.flkNote .., fun hone hsent => flkNote_alert hone hsent⟩

/-- An alarm that locks down or quenches, with main power (R401, R402). -/
theorem flkAlarms_lock {s : State} (t : Nat) {i : Nat} (hpower : s.fieldPower = false) (hresp : s.flkTaken i = 2 ∨ s.flkTaken i = 3)
    (hmode : s.mode ≠ .lockdown) (hrun : s.clk.waiting = false) :
    (s.flkAlarms t [i]).flags = setBit s.flags i ∧ (s.flkAlarms t [i]).flk.cnt = (s.flkMark t i).flk.cnt ∧
    (s.flkAlarms t [i]).mode = .lockdown ∧ (s.flkAlarms t [i]).sys.reason = 1 ∧ (s.flkAlarms t [i]).slots = [] ∧
    (s.flkAlarms t [i]).flk.kbb = if s.flkTaken i = 3 then none else s.flk.kbb := by
  have hlocked (kbb : Bool) (v : State) (hv : Noted (((s.flkMark t i).lockdown 1 kbb).event Blk.FLK 0 2) v) :
      v.flags = setBit s.flags i ∧ v.flk.cnt = (s.flkMark t i).flk.cnt ∧ v.mode = .lockdown ∧ v.sys.reason = 1 ∧ v.slots = [] ∧
      v.flk.kbb = if kbb then none else s.flk.kbb := by
    obtain ⟨u, hu, hcut, -⟩ := lockdown_cut (s := s.flkMark t i) 1 kbb hmode hrun
    refine ⟨hv.flags.trans (hcut.flags.trans hu.flags), hv.cnt.trans ?_, hv.mode.trans hcut.mode, ?_, hv.slots.trans (hcut.slots rfl),
      hv.kbb.trans ?_⟩
    · exact (congrArg Flk.cnt hcut.flk).trans (show u.flk.cnt = _ from congrArg Flk.cnt hu.flk)
    · exact (congrArg Sys.reason hv.sys).trans (congrArg Sys.reason hcut.sys)
    · refine (congrArg Flk.kbb hcut.flk).trans ?_
      have hkbb : u.flk.kbb = (s.flkMark t i).flk.kbb := congrArg Flk.kbb hu.flk
      exact congrArg (fun b : Option (List Byte) => if kbb then none else b) hkbb
  have hquench : (s.flkMark t i).quenchLock 1 true = (s.flkMark t i).lockdown 1 true := if_neg hmode
  rw [flkAlarms_sole, if_neg (by rw [hpower]; decide)]
  rcases hresp with h | h
  · rw [h, if_neg (by decide), if_pos rfl, if_neg (by decide)]
    exact hlocked false _ (.flkNote ..)
  · rw [h, if_pos rfl, hquench, if_pos rfl]
    exact hlocked true _ (.flkNote ..)

/-- Flag `i` and its count cleared by a write at a free reading of the RTC (R400). -/
def flagCleared (s : State) (i : Nat) : State :=
  { s with
    fresh := s.fresh + 1, rtc := (s.rtc + Config.free s.fresh) % 2 ^ 48, flags := clearBit s.flags i
    flk := { s.flk with
      cnt := Tbl.set (fun _ => 0) s.flk.cnt i 0
      clrMiss := false
      cleared := setBit s.flk.cleared i
      light := if i = 11 then 0 else s.flk.light } }

theorem mirPush_clrMiss (s : State) (e : MirE) : (s.mirPush e).flk.clrMiss = s.flk.clrMiss := by
  unfold mirPush
  split
  · rfl
  · rfl

/-- A mirror entry joins the queue while there is room (R407). -/
theorem mirPush_mq {s : State} (e : MirE) (hroom : s.flk.mq.length < 16) : (s.mirPush e).flk.mq = s.flk.mq ++ [e] := by
  rw [mirPush, if_pos hroom]

/-- `s` once the sources have been sampled: a free reading of the RTC, and what the sample found. -/
def sampled (s : State) (n r a b c : Nat) (v : Bool) : State :=
  { s with fresh := n, rtc := r, flk := { s.flk with live := a, cleared := b, light := c, vbat := v } }

/-- Source `i` alone has alarmed: its flag is raised and it counts (R397). -/
def Raised (s t : State) (i : Nat) : Prop :=
  t.flags = setBit s.flags i ∧ t.flkCount i = satSucc 255 (s.flkCount i) ∧ ∀ m : Nat, m ≠ i → t.flkCount m = s.flkCount m

theorem raised_of {s t u : State} {r i : Nat} (hflags : t.flags = setBit s.flags i) (hu : u.flk.cnt = s.flk.cnt)
    (hcnt : t.flk.cnt = (u.flkMark r i).flk.cnt) : s.Raised t i := by
  obtain ⟨-, hself, hother⟩ := u.flkMark_outcome r i
  have hcount (m : Nat) : t.flkCount m = (u.flkMark r i).flkCount m := congrArg (fun c => Tbl.get (fun _ => 0) c m) hcnt
  have hsame (m : Nat) : u.flkCount m = s.flkCount m := congrArg (fun c => Tbl.get (fun _ => 0) c m) hu
  exact ⟨hflags, (hcount i).trans (hself.trans (by rw [hsame])), fun m hm => (hcount m).trans ((hother m hm).trans (hsame m))⟩

/-- What a powered sample that newly finds source `i` alone does, by the response taken (R397, R401, R402). -/
theorem alarm_outcome {s u : State} {n r a b c t i : Nat} {v : Bool} (hu : u = (s.sampled n r a b c v).flkAlarms t [i])
    (hpower : s.fieldPower = false) :
    (s.flkTaken i ≤ 1 → s.Raised u i ∧ u.mode = s.mode ∧ u.slots = s.slots ∧ u.jobs = s.jobs ∧
      bit (u.hdr Blk.FLK 0).evt 2 ∧ u.mem = s.mem ∧
      (s.flkTaken i = 1 → Tbl.get (fun _ => 0) s.flk.sent i = 0 → ∃ m ∈ u.inbox, m.kind = Kind.TAMPER ∧ m.sev = 2)) ∧
    (s.flkTaken i = 2 ∨ s.flkTaken i = 3 → s.mode ≠ .lockdown → s.clk.waiting = false → s.Raised u i ∧
      u.mode = .lockdown ∧ u.sys.reason = 1 ∧ u.slots = [] ∧ u.flk.kbb = if s.flkTaken i = 3 then none else s.flk.kbb) := by
  subst hu
  refine ⟨fun hresp => ?_, fun hresp hmode hrun => ?_⟩
  · obtain ⟨hnoted, halert⟩ := flkAlarms_alert (s := s.sampled n r a b c v) t hpower hresp
    exact ⟨raised_of (u := s.sampled n r a b c v) hnoted.flags rfl hnoted.cnt, hnoted.mode, hnoted.slots, hnoted.jobs,
      hnoted.evt (evt_event_self _ Blk.FLK 0 (by decide)), hnoted.mem, halert⟩
  · obtain ⟨hflags, hcnt, hlocked⟩ := flkAlarms_lock (s := s.sampled n r a b c v) t hpower hresp hmode hrun
    exact ⟨raised_of (u := s.sampled n r a b c v) hflags rfl hcnt, hlocked⟩

end Sys2Proof.Machine.State

open Sys2Proof Sys2Proof.Machine

/-- Settles O57: an alarm marks its flag and takes its response, whose note and Lockdown leave the flag and count; each write
takes the branch its hypotheses name. -/
theorem flaskAlarmsRtcAndMirror : Obligations.FlaskAlarmsRtcAndMirror := by
  intro s rq i k v err e q
  dsimp only
  have halarm (x : Instr) {n r a b c t : Nat} {vb : Bool} (hpower : s.fieldPower = false)
      (hexec : exec x s = .next ((s.sampled n r a b c vb).flkAlarms t [i.val])) :
      (s.flkTaken i ≤ 1 → ∃ t, exec x s = .next t ∧ s.Raised t i ∧ t.mode = s.mode ∧ t.slots = s.slots ∧ t.jobs = s.jobs ∧
        bit (t.hdr Blk.FLK 0).evt 2 ∧ t.mem = s.mem ∧
        (s.flkTaken i = 1 → Tbl.get (fun _ => 0) s.flk.sent i = 0 → ∃ m ∈ t.inbox, m.kind = Kind.TAMPER ∧ m.sev = 2)) ∧
      (s.flkTaken i = 2 → s.mode ≠ .lockdown → s.clk.waiting = false → ∃ t, exec x s = .next t ∧ s.Raised t i ∧
        t.mode = .lockdown ∧ t.sys.reason = 1 ∧ t.slots = [] ∧ t.flk.kbb = s.flk.kbb) ∧
      (s.flkTaken i = 3 → s.mode ≠ .lockdown → s.clk.waiting = false → ∃ t, exec x s = .next t ∧ s.Raised t i ∧
        t.mode = .lockdown ∧ t.sys.reason = 1 ∧ t.slots = [] ∧ t.flk.kbb = none) := by
    obtain ⟨halert, hlock⟩ := State.alarm_outcome rfl hpower
    refine ⟨fun hresp => ⟨_, hexec, halert hresp⟩, fun hresp hmode hrun => ⟨_, hexec, ?_⟩, fun hresp hmode hrun => ⟨_, hexec, ?_⟩⟩
    · have h := hlock (.inl hresp) hmode hrun
      rwa [hresp, if_neg (by decide)] at h
    · have h := hlock (.inr hresp) hmode hrun
      rwa [hresp, if_pos rfl] at h
  refine ⟨fun hpower => ⟨fun h6 h7 h8 h11 hnew => ?sample, fun hcont hnew => ?trip, ?quiet⟩, fun hpower h6 h7 h8 hnew => ?window,
    fun hw => ⟨fun hmode hsup hkey hsrc => ⟨fun hcnt => ?clear, fun hcnt => ?miss⟩, fun hbad => ?noClear⟩,
    fun hw t ht => ⟨fun hle => ?rtc, fun hlt => ?noRtc⟩, fun hw => ⟨fun hmode => ?meas, fun hmode => ?noMeas⟩,
    fun hmeas => ?measDone, fun hqueue hpower hcommit hpos => ?mirror, fun hpower => ?vbat⟩
  case sample =>
    have hsole : ∀ i : Fin 14, i.val ≠ 6 → i.val ≠ 7 → i.val ≠ 8 → i.val ≠ 11 →
        (sourcesOf (BitVec.ofNat 14 (2 ^ i.val) &&& 0x363F#14).toNat).filter
          (fun j => (BitVec.ofNat 14 (2 ^ i.val)).toNat / 2 ^ j % 2 == 1) = [i.val] := by decide
    obtain ⟨a, b, c, hs⟩ := State.flkSample_sole
      (s := { s with fresh := s.fresh + 1, rtc := (s.rtc + Config.free s.fresh) % 2 ^ 48 })
      (t := (s.rtc + Config.free s.fresh) % 2 ^ 48) (hsole i h6 h7 h8 h11) hnew.1 hnew.2
    exact halarm _ hpower (congrArg Host.Outcome.next ((if_neg (by rw [hpower]; decide)).trans hs))
  case trip =>
    have hsole : ∀ i : Fin 14, i.val = 6 ∨ i.val = 7 ∨ i.val = 8 ∨ i.val = 11 →
        (sourcesOf 0x09C0).filter (fun j => (BitVec.ofNat 14 (2 ^ i.val)).toNat / 2 ^ j % 2 == 1) = [i.val] := by decide
    obtain ⟨a, b, c, hs⟩ := State.flkSample_sole
      (s := ({ s with fresh := s.fresh + 1, rtc := (s.rtc + Config.free s.fresh) % 2 ^ 48 } : State).flkLight 0)
      (t := (s.rtc + Config.free s.fresh) % 2 ^ 48) (hsole i hcont) hnew.1 hnew.2
    exact halarm _ hpower (congrArg Host.Outcome.next ((if_neg (by rw [hpower]; decide)).trans hs))
  case quiet =>
    obtain ⟨a, b, c, hs⟩ := ({ s with fresh := s.fresh + 1, rtc := (s.rtc + Config.free s.fresh) % 2 ^ 48 } : State).flkSample_none
      ((s.rtc + Config.free s.fresh) % 2 ^ 48) (BitVec.ofNat 14 (2 ^ i.val) &&& 0x363F#14).toNat
    exact ⟨_, congrArg Host.Outcome.next ((if_neg (by rw [hpower]; decide)).trans hs), rfl, rfl, rfl, rfl, rfl⟩
  case window =>
    have hsole : ∀ i : Fin 14, i.val ≠ 6 → i.val ≠ 7 → i.val ≠ 8 →
        (sourcesOf 0x3E3F).filter (fun j => (BitVec.ofNat 14 (2 ^ i.val)).toNat / 2 ^ j % 2 == 1) = [i.val] := by decide
    obtain ⟨r, hr⟩ : ∃ r, r = (s.rtc / max 1 (s.fld R.FLK_CFG 10 0) + 1 + k) * max 1 (s.fld R.FLK_CFG 10 0) % 2 ^ 48 := ⟨_, rfl⟩
    obtain ⟨a, b, c, hs⟩ := State.flkSample_sole (s := ({ s with rtc := r } : State).flkLight 0) (t := r) (hsole i h6 h7 h8)
      hnew.1 hnew.2
    have hexec : exec (.flaskWindow k (BitVec.ofNat 14 (2 ^ i.val)) 0) s =
        .next ((({ s with rtc := r } : State).flkLight 0).flkSample r 0x3E3F (BitVec.ofNat 14 (2 ^ i.val)).toNat) := by
      rw [hr]
      exact congrArg Host.Outcome.next (if_neg (by rw [hpower]; decide))
    rw [hs, State.flkAlarms_cell _ _ _ (by exact hpower)] at hexec
    exact ⟨_, hexec, State.raised_of (r := r) (u := s.sampled s.fresh r a b 0 c) rfl rfl rfl, hr, rfl, rfl, rfl, rfl, rfl⟩
  case clear =>
    have hgood : ¬(s.mode ≠ .service ∨ (!s.isSup rq) = true ∨ bits v 31 16 ≠ 0x434C ∨ 13 < bits v 4 0) := by
      have hi := i.isLt
      simp [hmode, hsup, hkey, hsrc]
      omega
    have hcode : s.modeCode = 1 := by rw [State.modeCode, hmode]
    have hexec : exec (.flagClear rq v) s = .next ((s.flagCleared i).mirPush
        ⟨(s.rtc + Config.free s.fresh) % 2 ^ 48, i, State.mirEvent (s.flkResp i) 1 false true, 0⟩) := by
      refine congrArg Host.Outcome.next ((s.asWrite_of_writable _ _ hw).trans ?_)
      rw [State.flkClrWrite]
      dsimp only
      rw [if_neg hgood, hsrc, if_neg (not_not_intro hcnt), ← hcode]
      rfl
    have hnoted := State.Noted.mirPush (s.flagCleared i)
      ⟨(s.rtc + Config.free s.fresh) % 2 ^ 48, i, State.mirEvent (s.flkResp i) 1 false true, 0⟩
    refine ⟨_, hexec, hnoted.flags, ?_, State.mirPush_clrMiss .., hnoted.mode, hnoted.mem, fun hroom => ?_⟩
    · exact (congrArg (fun c => Tbl.get (fun _ => 0) c i.val) hnoted.cnt).trans
        (Tbl.get_set_self (fun _ => 0) s.flk.cnt i.val 0)
    · exact State.mirPush_mq (s := s.flagCleared i) _ hroom
  case miss =>
    have hgood : ¬(s.mode ≠ .service ∨ (!s.isSup rq) = true ∨ bits v 31 16 ≠ 0x434C ∨ 13 < bits v 4 0) := by
      have hi := i.isLt
      simp [hmode, hsup, hkey, hsrc]
      omega
    refine congrArg Host.Outcome.next ((s.asWrite_of_writable _ _ hw).trans ?_)
    rw [State.flkClrWrite]
    dsimp only
    rw [if_neg hgood, hsrc, if_pos hcnt]
    rfl
  case noClear =>
    have hbad' : s.mode ≠ .service ∨ (!s.isSup rq) = true ∨ bits v 31 16 ≠ 0x434C ∨ 13 < bits v 4 0 := by simpa using hbad
    refine congrArg Host.Outcome.next ((s.asWrite_of_writable _ _ hw).trans ?_)
    rw [State.flkClrWrite]
    dsimp only
    rw [if_pos hbad']
    rfl
  case rtc =>
    refine congrArg Host.Outcome.next ((s.asWrite_of_writable _ _ hw).trans ?_)
    subst ht
    rw [State.rtcSetWrite]
    dsimp only
    rw [if_neg (Nat.not_lt.mpr hle)]
    rfl
  case noRtc =>
    refine congrArg Host.Outcome.next ((s.asWrite_of_writable _ _ hw).trans ?_)
    subst ht
    rw [State.rtcSetWrite]
    dsimp only
    rw [if_pos hlt]
    rfl
  case meas =>
    refine congrArg Host.Outcome.next ((s.asWrite_of_writable _ _ hw).trans ?_)
    exact if_pos ⟨by decide, hmode⟩
  case noMeas =>
    refine congrArg Host.Outcome.next ((s.asWrite_of_writable _ _ hw).trans ?_)
    exact if_neg fun h => hmode h.2
  case measDone =>
    have hexec : exec (.rtcMeasureDone err) s = .next (({ s with flk := { s.flk with meas := false } }.setReg R.FLK_RTC_MEAS
        (w32 (0x40000000 + err.toNat))).event Blk.FLK 0 5) :=
      congrArg Host.Outcome.next (if_neg (by rw [hmeas]; decide))
    refine ⟨_, hexec, rfl, ?_, State.evt_event_self _ Blk.FLK 0 (by decide), rfl⟩
    exact State.reg_setReg ..
  case mirror =>
    have hready : ¬(s.fieldPower = true ∨ s.tag.commit.isSome = true) := by simp [hpower, hcommit]
    have hexec (l : List Byte) (a : Nat) (f : Flk → Flk) : ({ s.setBytes a l with flk := f (s.setBytes a l).flk } : State) =
        { s.setBytes a l with flk := f s.flk } := by
      rw [State.setBytes_eq]
    refine congrArg Host.Outcome.next ?_
    rw [hqueue]
    dsimp only
    rw [if_neg hready, if_neg hpos]
    exact hexec _ _ fun f => { f with mq := q, mpos := f.mpos + 1, mseq := f.mseq + 1 }
  case vbat =>
    refine ⟨_, congrArg Host.Outcome.next (if_pos hpower), rfl, rfl, rfl, rfl, rfl, ?_, rfl⟩
    exact (Tbl.get_clear regReset (fun a => a == R.FLK_CFG || a == R.FLK_RESP || a == R.FLK_RTC_TRIM) s.regs R.FLK_RESP).trans
      (if_pos (by decide))
end

section
/-! SUPPORT. The custody card, its journal and the custodian slots (R374-R391). -/

namespace Sys2Proof.Machine.State

theorem jKick_leaveOnly (s : State) : LeaveOnly s s.jKick := by
  unfold jKick
  split
  · exact .refl s
  · exact .askFlash ..

/-- From `s` to `t` records have only joined the journal's queue, and leave been asked for the first of them. -/
def Journalled (s t : State) (l : List JRec) : Prop := LeaveOnly { s with crd := { s.crd with jq := s.crd.jq ++ l } } t

theorem jAppend_journalled (s : State) (r : JRec) : s.Journalled (s.jAppend r) [r] := jKick_leaveOnly _

theorem cslot_setCslot (s : State) (i : Nat) (c : CSlot) : (s.setCslot i c).cslot i = c :=
  Tbl.get_set_self (fun _ => ({} : CSlot)) s.crd.slots i c

/-- The journal's compaction only queues records (R380). -/
theorem jCompact_kept (s : State) : s.jCompact.crd = { s.crd with jq := s.jCompact.crd.jq } ∧ s.jCompact.mem = s.mem := by
  have hfold (l : List JRec) (u : State) : (l.foldl jAppend u).crd = { u.crd with jq := (l.foldl jAppend u).crd.jq } ∧
      (l.foldl jAppend u).mem = u.mem := by
    induction l generalizing u with
    | nil => exact ⟨rfl, rfl⟩
    | cons r l ih =>
      obtain ⟨hcrd, hmem⟩ := ih (u.jAppend r)
      have hr := u.jAppend_journalled r
      refine ⟨?_, hmem.trans hr.mem⟩
      rw [List.foldl_cons, hcrd, hr.crd]
  unfold jCompact
  split
  · exact ⟨rfl, rfl⟩
  · split
    · have hask := LeaveOnly.askFlash s ⟨3, 5, 2, 1792 + s.crd.jtail / 16 % 128, Blk.CRD, 12, .journalErase⟩
      exact ⟨by rw [hask.crd], hask.mem⟩
    · exact hfold ..

/-- Custody command `op` accepted: it runs (R381). -/
def custBegun (s : State) (op : Nat) : State :=
  { (s.setReg R.CRD_CUST_CMD (w32 op)).setReg R.CRD_CUST_STAT 0x80000000 with crd := { s.crd with op := op } }

/-- The answer of a custody command in its status register (R381). -/
theorem custEnd_reg (s : State) (status cause : Nat) :
    (s.custEnd status cause).reg R.CRD_CUST_STAT = w32 (0x40000000 + status * 0x10000 + cause) := reg_setReg ..

/-- What a generation number above every one known is. -/
def nextGen (s : State) : Nat := (s.crd.hdrs.map (·.2.gen) ++ s.crd.log.map (·.gen)).foldl max 0 + 1

/-- The generation that begins: above every one known, in the area the current one leaves (R381). -/
def genRun (s : State) (f : Nat) (todo : List (Nat × List Byte)) : GenRun :=
  { gen := s.nextGen
    area := match s.curGen with
      | some h => 1 - h.1
      | none => f % 2
    snap := s.slots.filter (·.2.dirty), todo := todo }

theorem genBegin_eq (s : State) : ∃ n t f todo, s.genBegin =
    ({ s with fresh := n, rtc := t, crd := { s.crd with run := some (s.genRun f todo) } } : State).jAppend
      { typ := 3, seq := 0, card := s.crd.card, gen := s.nextGen, area := (s.genRun f todo).area } := ⟨_, _, _, _, rfl⟩

/-- A generation begins with its snapshot, and GEN_START is asked (R381). -/
theorem genBegin_outcome (s : State) : ∃ g : GenRun, s.genBegin.crd = { s.crd with run := some g, jq := s.crd.jq ++
      [{ typ := 3, seq := 0, card := s.crd.card, gen := s.nextGen, area := g.area }] } ∧ s.genBegin.slots = s.slots ∧
    s.genBegin.mem = s.mem ∧ g.gen = s.nextGen ∧ g.stage = .start ∧ ∀ h, s.curGen = some h → g.area = 1 - h.1 := by
  obtain ⟨n, t, f, todo, hbegin⟩ := s.genBegin_eq
  rw [hbegin]
  have hj := jAppend_journalled ({ s with fresh := n, rtc := t, crd := { s.crd with run := some (s.genRun f todo) } } : State)
    { typ := 3, seq := 0, card := s.crd.card, gen := s.nextGen, area := (s.genRun f todo).area }
  refine ⟨s.genRun f todo, hj.crd, hj.slots, hj.mem, rfl, rfl, fun h hh => ?_⟩
  rw [genRun, hh]

/-- A card already awake is resolved at most (R384). -/
theorem tryResolve_eq {s : State} (hst : s.crd.st = 4) : ∃ b, s.tryResolve = { s with crd := { s.crd with resolving := b } } := by
  unfold tryResolve
  split
  · exact ⟨s.crd.resolving, rfl⟩
  · refine ⟨true, ?_⟩
    rw [cardWake, if_pos (.inl (by rw [hst]; decide))]

/-- A generation that fails ends its command (R381). -/
theorem genFail_outcome {s : State} (status cause : Nat) (hst : s.crd.st = 4) (hop : s.crd.op = 1) :
    (s.genFail status cause).crd.run = none ∧ (s.genFail status cause).crd.op = 0 ∧
    (s.genFail status cause).reg R.CRD_CUST_STAT = w32 (0x40000000 + status * 0x10000 + cause) ∧
    (s.genFail status cause).mem = s.mem := by
  unfold genFail
  extract_lets c u v
  have hleave : LeaveOnly u v := by
    show LeaveOnly u (u.withdraw .journal)
    unfold withdraw
    split
    · exact .refl u
    · exact .releaseLeave ..
  have hvop : v.crd.op = 1 := (congrArg Crd.op hleave.crd).trans hop
  have hvst : v.crd.st = 4 := (congrArg Crd.st hleave.crd).trans hst
  have hvrun : v.crd.run = none := congrArg Crd.run hleave.crd
  have hvmem : v.mem = s.mem := hleave.mem
  clear_value v
  rw [if_pos hvop]
  obtain ⟨b, hb⟩ := tryResolve_eq (s := v.custEnd status cause) hvst
  rw [hb]
  exact ⟨hvrun, rfl, v.custEnd_reg status cause, hvmem⟩

/-- What an accepted custody command runs (R381). -/
def custRun (s : State) (op : Nat) : State :=
  if op = 1 then
    match s.genBar with
    | some e => s.custEnd e.1 e.2
    | none => s.genBegin
  else if op = 2 then
    if s.mode ≠ .service ∧ s.mode ≠ .hold then s.custEnd St.MODE_DENIED 1
    else if !s.cardReady then s.custEnd St.ENGINE_UNAVAILABLE 0x01B0
    else if s.crd.tooSmall then s.custEnd St.ENGINE_UNAVAILABLE 0x01B1
    else s.verifyBegin
  else if op = 3 then
    if s.mode ≠ .service then s.custEnd St.MODE_DENIED 1
    else s.jAppend { typ := 6, seq := 0, card := s.crd.card, gen := 0 }
  else s.custEnd St.OK 0

theorem custWrite_eq {s : State} {v : Word} {op : Nat} (hgo : bit v 31 = true) (hop : bits v 3 0 = op)
    (hidle : bit (s.reg R.CRD_CUST_STAT) 31 = false) : s.custWrite v = some ((s.custBegun op).custRun op) := by
  subst hop
  unfold custWrite
  dsimp only
  rw [if_neg (by rw [hgo]; decide), if_neg (by rw [hidle]; decide)]
  rfl

/-- With no ceremony on the cards none is asked for. -/
theorem ccKick_of_none {s : State} (hcer : s.cerCards = false) : s.ccKick = s := by
  have hstep (l : List Nat) : l.foldl (fun s i =>
      let c := s.cslot i
      if s.cerCards ∧ c.st = 2 ∧ !c.used ∧ !s.hasLeave (.cc i) then (s.setCslot i { c with used := true }).ccAsk i else s) s = s := by
    induction l with
    | nil => rfl
    | cons i l ih => rw [List.foldl_cons]; simp only [hcer, Bool.false_eq_true, false_and, if_false] at ih ⊢; exact ih
  exact hstep _

/-- Leave the budget allows is asked for (R446). -/
theorem askLeave_of_room {s : State} {tok : Nat} (hroom : tok ≤ s.budget - s.variant.standing) (b i : Nat) (what : Purpose) :
    s.askLeave b i tok what = ({ s with leavePend := s.leavePend ++ [⟨b, i, tok, what, false⟩] }, false) :=
  if_neg (by omega)

theorem ccAsk_of_room {s : State} (hroom : 25 ≤ s.budget - s.variant.standing) (i : Nat) :
    s.ccAsk i = { s with leavePend := s.leavePend ++ [⟨Blk.CRD, 0, 25, .cc i, false⟩] } := by
  rw [ccAsk, askLeave_of_room hroom]
  rfl

/-- The card slot once its card has gone (R376). -/
def cardLeft (s : State) : State :=
  { s with crd := { s.crd with
    st := 0, present := false, tooSmall := false, wp := false, ccs := 0, wide := false, hs := false, card := [], hdrs := []
    bad := false, resolving := false } }

/-- The header found in area `a`, if it is valid. -/
def hdrAt (a : Nat) (b : List Byte) : List (Nat × CHdr) :=
  match hdrRead b with
  | some h => [(a, h)]
  | none => []

/-- The card that the debounce finds seated (R376). -/
def cardSeated (s : State) (fail : Fin 3) (cid : List Byte) (blocks : Nat) (ccs : Fin 4) (wp : Bool) (hdrs : List (Nat × CHdr)) :
    State :=
  { s with crd := { s.crd with
    st := 2, present := true, wp := wp, bad := fail ≠ 0, tooSmall := fail = 0 ∧ blocks < 73728, ccs := ccs, wide := false
    hs := false, card := (sha256 cid).take 8, hdrs := hdrs } }

/-- A slot whose card is deactivated keeps the card (R389). -/
def ccIdle (c : CSlot) : CSlot := { st := if c.st = 3 ∨ c.st = 4 ∨ c.st = 6 then 2 else c.st, used := c.used }

/-- Deactivation leaves the slot with its card, without its leave (R389). -/
theorem ccDeact_outcome (s : State) (i : Nat) : LeaveOnly (s.setCslot i (ccIdle (s.cslot i))) (s.ccDeact i) ∧
    ∀ x ∈ (s.ccDeact i).leaveHeld, x.what ≠ .cc i := ⟨.releaseLeave .., not_held_releaseLeave _ _⟩

theorem cslot_ccDeact (s : State) (i : Nat) : (s.ccDeact i).cslot i = ccIdle (s.cslot i) :=
  (congrArg (fun c : Crd => Tbl.get (fun _ => ({} : CSlot)) c.slots i) (s.ccDeact_outcome i).1.crd).trans (s.cslot_setCslot i _)

/-- A card that fails is counted, and the ceremony that reads it is told (R389). -/
theorem cardFail_outcome (s : State) (i : Nat) : (∀ x ∈ (s.cardFail i).leaveHeld, x.what ≠ .cc i) ∧
    (s.cardFail i).mem = s.mem ∧ (s.cerCards = false → (s.cardFail i).kst = s.kst) ∧
    (s.cerCards → (s.cardFail i).kst.cer.last = 1) := by
  obtain ⟨hleave, hheld⟩ := s.ccDeact_outcome i
  have hcer : ((s.ccDeact i).count (R.CRD_CC_ERR + i * 0x10) 15 0).cerCards = s.cerCards :=
    congrArg (fun k : Kst => k.cer.st == 1 || k.cer.st == 2) hleave.kst
  unfold cardFail
  dsimp only
  rw [hcer]
  split
  next h =>
    exact ⟨hheld, hleave.mem, fun hn => absurd (h.symm.trans hn) (by decide), fun _ => rfl⟩
  next h =>
    exact ⟨hheld, hleave.mem, fun _ => hleave.kst, fun hn => absurd hn h⟩

/-- What a VERIFY answers (R382). -/
theorem verifyEnd_outcome (s : State) : s.verifyEnd.crd.op = 0 ∧ s.verifyEnd.reg R.CRD_CUST_STAT =
    (if s.crd.ver = 0 then w32 (0x40000000 + St.OK * 0x10000 + 0)
      else if s.crd.ver = 1 then w32 (0x40000000 + St.AUTH_FAIL * 0x10000 + 0x01B8)
      else w32 (0x40000000 + St.ENGINE_UNAVAILABLE * 0x10000 + 0x01B2)) ∧ s.verifyEnd.mem = s.mem := by
  unfold verifyEnd
  split
  · exact ⟨rfl, s.custEnd_reg .., rfl⟩
  split
  · exact ⟨rfl, s.custEnd_reg .., rfl⟩
  · exact ⟨rfl, (s.count R.CRD_SD_ERR 31 16).custEnd_reg .., rfl⟩

theorem jAnswer_of_done {s : State} {r : JRec} (htyp : r.typ = 2) (hrun : s.crd.run = none) (wp : Bool) : s.jAnswer r wp = s := by
  simp [jAnswer, htyp, hrun]

theorem not_leaveReg_custStat : ¬leaveReg R.CRD_CUST_STAT := by
  simp [leaveReg, R.CRD_CUST_STAT, R.PWR_REFUSED, R.FLC_STATUS, R.FLC_SUSPCNT]
  omega

/-- A journal record that becomes durable takes the next SEQ and stands at its page (R380). -/
theorem jDurable_outcome (s : State) {r done : JRec} (hseq : r.seq = 0)
    (hdone : done = { r with seq := s.crd.jseq + 1, page := s.crd.jpage }) :
    (s.jDurable r).crd.log = s.crd.log.filter (fun x => x.seq != s.crd.jseq + 1) ++ [done] ∧
    (s.jDurable r).crd.jpage = s.crd.jpage + 1 ∧ (s.jDurable r).crd.jprog = false ∧ (s.jDurable r).crd.run = s.crd.run ∧
    (s.jDurable r).mem = (s.setBytes (0x09F00000 + s.crd.jpage % 2048 * 256) done.bytes).mem := by
  have hset (a : Nat) (bytes : List Byte) : (s.setBytes a bytes).crd = s.crd := by rw [setBytes_eq]
  have haddr (k : Nat) : 0x09800000 + 1792 * 0x1000 + k = 0x09F00000 + k := by omega
  have hpage : done.page = s.crd.jpage := by rw [hdone]
  unfold jDurable
  extract_lets q e u crd
  have hcrd : crd = s.crd := hset _ _
  have hq : q = s.crd.jseq + 1 := if_pos hseq
  have he : e = done := by rw [hdone, ← hq]
  clear_value q e
  subst hq he
  have hu : u = s.setBytes (0x09F00000 + s.crd.jpage % 2048 * 256) e.bytes := by rw [← haddr, ← hpage]
  clear_value u crd
  subst hu hcrd
  generalize 0x09F00000 + s.crd.jpage % 2048 * 256 = a
  exact ⟨by rw [hset], by rw [hpage], rfl, rfl, rfl⟩

/-- The budget is read from its own register. -/
theorem budget_count (s : State) (hi lo n : Nat) : ((s.count R.CRD_SD_ERR hi lo).event Blk.CRD 0 n).budget -
    s.variant.standing = s.budget - s.variant.standing := by
  have hreg : ((s.count R.CRD_SD_ERR hi lo).event Blk.CRD 0 n).reg R.PWR_BUDGET = s.reg R.PWR_BUDGET :=
    reg_setReg_ne _ _ (by decide)
  rw [budget, budget, fld, fld, hreg]

end Sys2Proof.Machine.State

open Sys2Proof Sys2Proof.Machine

/-- Settles O56: card commands change the card's record, and what the journal, leave and the banks do besides leaves it. -/
theorem cardsJournalAndCustodianSlots : Obligations.CardsJournalAndCustodianSlots := by
  intro s rq i fail cid blocks ccs wp h0 h1 r l g ta
  dsimp only
  refine ⟨fun hst hpower hpins => ?detect, fun hst hbudget => ?debounce, fun hst hrun hop => ?removal,
    fun hst hrun hres hop hcfg => ?idle, fun hw hidle => ⟨fun hbar => ?write, fun e hbar => ?barred,
      fun hmode hst hsmall => ?verify, fun hmode => ?discard, fun hmode => ?noDiscard⟩,
    fun hq hprog hseq htyp hrun => ?durable, fun hq hop htyp => ?timeout, fun hrun hstage hst => ⟨?written, fun hop => ?error,
      fun hop => ?busy⟩, fun hres hst hmode hkey hpend hopen => ⟨?commit, fun hq => ?abandon⟩,
    fun hst hpower hrun hpins hcer => ?present, fun hst hcer => ?removed, fun hst hklass hpps hta => ?atr,
    fun hst hklass hcfg => ?atrTimeout, fun hst hagain hcer hbudget => ?retry, fun hst => ?overcurrent⟩
  case detect => exact congrArg Host.Outcome.next (if_pos ⟨hst, by rw [hpower]; rfl, by rw [hpins]; rfl⟩)
  case debounce =>
    obtain ⟨hdrs, hhdrs⟩ : ∃ hdrs, hdrs = if fail = 0 ∧ blocks < 73728 then [] else State.hdrAt 0 h0 ++ State.hdrAt 1 h1 := ⟨_, rfl⟩
    obtain ⟨u, hu, hcrd, hpend, hmem, hroom⟩ : ∃ u : State, u = (if fail = 2 then
          (s.cardSeated fail cid blocks ccs wp hdrs).count R.CRD_SD_ERR 15 0
        else s.cardSeated fail cid blocks ccs wp hdrs).event Blk.CRD 0 2 ∧
        u.crd = (s.cardSeated fail cid blocks ccs wp hdrs).crd ∧ u.leavePend = s.leavePend ∧ u.mem = s.mem ∧
        u.budget - u.variant.standing = s.budget - s.variant.standing := by
      refine ⟨_, rfl, ?_⟩
      split
      · exact ⟨rfl, rfl, rfl, (s.cardSeated fail cid blocks ccs wp hdrs).budget_count ..⟩
      · exact ⟨rfl, rfl, rfl, rfl⟩
    have hexec : exec (.sdDebounceDone fail cid blocks ccs false false wp h0 h1) s =
        .next (if (u.askLeave Blk.CRD 0 15 .sd).2 then
            { (u.askLeave Blk.CRD 0 15 .sd).1 with crd := { (u.askLeave Blk.CRD 0 15 .sd).1.crd with st := 6, hdrs := [] } }
          else (u.askLeave Blk.CRD 0 15 .sd).1) := by
      rw [hu, hhdrs]
      exact congrArg Host.Outcome.next (if_neg (not_not_intro hst))
    rw [State.askLeave_of_room (by rw [hroom]; exact hbudget)] at hexec
    replace hexec := hexec.trans (congrArg Host.Outcome.next (if_neg Bool.false_ne_true))
    refine ⟨_, hexec, congrArg Crd.st hcrd, congrArg Crd.present hcrd, congrArg Crd.wp hcrd, congrArg Crd.card hcrd, ?_, ?_, hmem⟩
    · rw [show State.crd _ = u.crd from rfl, hcrd]
      exact decide_eq_true_iff
    · rw [hpend]
  case removal =>
    have hcust : ¬s.crd.op = 2 := hop
    have hleave := LeaveOnly.releaseLeave s.cardLeft .sd
    obtain ⟨u, hu⟩ : ∃ u, u = s.cardLeft.releaseLeave .sd := ⟨_, rfl⟩
    rw [← hu] at hleave
    have hgone : s.cardGone = u.showGen := by
      rw [hu, State.cardGone, if_neg hcust]
      dsimp only
      rw [if_neg (by rw [hrun]; decide)]
      rfl
    have hexec : exec .sdRemoval s = .next (if s.crd.present then u.showGen.event Blk.CRD 0 3 else u.showGen) := by
      refine congrArg Host.Outcome.next ((if_neg hst).trans ?_)
      rw [hgone]
    obtain ⟨w, hw, hcrd, hevt, hmem⟩ : ∃ w, w = (if s.crd.present then u.showGen.event Blk.CRD 0 3 else u.showGen) ∧
        w.crd = s.cardLeft.crd ∧ (s.crd.present → bit (w.hdr Blk.CRD 0).evt 3) ∧ w.mem = s.mem := by
      refine ⟨_, rfl, ?_⟩
      split
      next hwas =>
        exact ⟨hleave.crd, fun _ => State.evt_event_self _ Blk.CRD 0 (by decide), hleave.mem⟩
      next hwas =>
        exact ⟨hleave.crd, fun h => absurd h hwas, hleave.mem⟩
    rw [← hw] at hexec
    exact ⟨w, hexec, by rw [hcrd]; rfl, by rw [hcrd]; rfl, by rw [hcrd]; rfl, hevt, by rw [hcrd]; rfl, hmem⟩
  case idle =>
    have hready : s.crd.st = 4 ∧ s.crd.run.isNone = true ∧ (!s.crd.resolving) = true ∧ s.crd.op ≠ 2 ∧
        s.fld R.CRD_SD_CFG 15 0 ≠ 0 := ⟨hst, by rw [hrun]; rfl, by rw [hres]; rfl, hop, hcfg⟩
    have hleave := LeaveOnly.releaseLeave { s with crd := { s.crd with st := 3 } } .sd
    exact ⟨_, congrArg Host.Outcome.next (if_pos hready), hleave.crd, fun x hx => State.not_held_releaseLeave _ _ x hx, hleave.mem⟩
  case write =>
    have hexec : exec (.writeGen rq) s = .next (s.custBegun 1).genBegin := by
      refine congrArg Host.Outcome.next ((s.asWrite_of_writable _ _ hw).trans ?_)
      rw [State.custWrite_eq (by decide) (by decide : _ = 1) hidle, State.custRun, if_pos rfl,
        show (s.custBegun 1).genBar = none from hbar]
      rfl
    obtain ⟨g, hcrd, hslots, hmem, hgen, hstage, harea⟩ := (s.custBegun 1).genBegin_outcome
    exact ⟨_, g, hexec, congrArg Crd.run hcrd, hgen, hstage, harea, congrArg Crd.jq hcrd, hslots, hmem⟩
  case barred =>
    refine ⟨(s.custBegun 1).custEnd e.1 e.2, ?_, State.custEnd_reg .., rfl, rfl⟩
    refine congrArg Host.Outcome.next ((s.asWrite_of_writable _ _ hw).trans ?_)
    rw [State.custWrite_eq (by decide) (by decide : _ = 1) hidle, State.custRun, if_pos rfl,
      show (s.custBegun 1).genBar = some e from hbar]
    rfl
  case verify =>
    have hready : (s.custBegun 2).cardReady = true := by rw [State.cardReady]; simp [State.custBegun, hst]
    have hexec : exec (.verify rq) s = .next (s.custBegun 2).verifyBegin := by
      refine congrArg Host.Outcome.next ((s.asWrite_of_writable _ _ hw).trans ?_)
      rw [State.custWrite_eq (by decide) (by decide : _ = 2) hidle, State.custRun, if_neg (by decide), if_pos rfl,
        if_neg (fun h => h.1 hmode), if_neg (by rw [hready]; decide),
        if_neg (show ¬(s.custBegun 2).crd.tooSmall = true from by rw [show (s.custBegun 2).crd.tooSmall = false from hsmall]; decide)]
      rfl
    have hend : (s.custBegun 2).verifyBegin = ({ s.custBegun 2 with fresh := s.fresh + 1, crd := { (s.custBegun 2).crd with
        ver := Config.free s.fresh % 3 } } : State).verifyEnd := if_pos hst
    rw [hend] at hexec
    obtain ⟨hvop, hvreg, hvmem⟩ := State.verifyEnd_outcome ({ s.custBegun 2 with fresh := s.fresh + 1, crd :=
      { (s.custBegun 2).crd with ver := Config.free s.fresh % 3 } } : State)
    exact ⟨_, hexec, hvop, hvreg, hvmem⟩
  case discard =>
    have hexec : exec (.discardJournal rq) s =
        .next ((s.custBegun 3).jAppend { typ := 6, seq := 0, card := s.crd.card, gen := 0 }) := by
      refine congrArg Host.Outcome.next ((s.asWrite_of_writable _ _ hw).trans ?_)
      rw [State.custWrite_eq (by decide) (by decide : _ = 3) hidle, State.custRun, if_neg (by decide), if_neg (by decide), if_pos rfl,
        if_neg (not_not_intro (show (s.custBegun 3).mode = .service from hmode))]
      rfl
    have hj := (s.custBegun 3).jAppend_journalled { typ := 6, seq := 0, card := s.crd.card, gen := 0 }
    exact ⟨_, hexec, congrArg Crd.jq hj.crd, congrArg Crd.op hj.crd, hj.mem⟩
  case noDiscard =>
    refine ⟨(s.custBegun 3).custEnd St.MODE_DENIED 1, ?_, State.custEnd_reg .., rfl, rfl⟩
    refine congrArg Host.Outcome.next ((s.asWrite_of_writable _ _ hw).trans ?_)
    rw [State.custWrite_eq (by decide) (by decide : _ = 3) hidle, State.custRun, if_neg (by decide), if_neg (by decide), if_pos rfl,
      if_pos (show (s.custBegun 3).mode ≠ .service from hmode)]
    rfl
  case durable =>
    obtain ⟨u, hu⟩ : ∃ u, u = s.releaseLeave .journal := ⟨_, rfl⟩
    have hleave : LeaveOnly s u := hu ▸ .releaseLeave ..
    have hexec : exec (.journalRecordDurable wp) s = .next
        (((u.jDurable r).jAnswer { r with seq := if r.seq = 0 then (u.jDurable r).crd.jseq else r.seq } wp).jKick).jCompact := by
      refine congrArg Host.Outcome.next ?_
      rw [hq, hu]
      exact if_neg (by rw [hprog]; decide)
    have hdone : ({ r with seq := s.crd.jseq + 1, page := s.crd.jpage } : JRec) = { r with seq := u.crd.jseq + 1, page := u.crd.jpage } := by
      rw [hleave.crd]
    obtain ⟨hlog, hpage, hjprog, hjrun, hmem⟩ := u.jDurable_outcome hseq hdone
    rw [State.jAnswer_of_done (by exact htyp) (hjrun.trans ((congrArg Crd.run hleave.crd).trans hrun))] at hexec
    generalize u.jDurable r = v at *
    have hkick := v.jKick_leaveOnly
    obtain ⟨hcrd, hcmem⟩ := v.jKick.jCompact_kept
    refine ⟨_, hexec, ?_, ?_, ?_, ?_⟩
    · rw [hcrd]
      exact (congrArg Crd.log hkick.crd).trans (hlog.trans (by rw [hleave.crd]))
    · rw [hcrd]
      exact (congrArg Crd.jpage hkick.crd).trans (hpage.trans (by rw [hleave.crd]))
    · rw [hcrd]
      exact (congrArg Crd.jprog hkick.crd).trans hjprog
    · rw [hcmem, hkick.mem, hmem, hleave.crd]
      exact State.setBytes_mem_congr s _ _ hleave.mem
  case timeout =>
    obtain ⟨u, hu⟩ : ∃ u, u = ({ s with crd := { s.crd with jq := l, jprog := false } } : State).releaseLeave .journal := ⟨_, rfl⟩
    have hleave : LeaveOnly { s with crd := { s.crd with jq := l, jprog := false } } u := hu ▸ .releaseLeave ..
    have huop : u.crd.op = 3 := (congrArg Crd.op hleave.crd).trans hop
    have hexec : exec .journalTimeout s = .next (u.custEnd St.ENGINE_UNAVAILABLE 0x01B5).jKick := by
      refine congrArg Host.Outcome.next ?_
      rw [hq]
      dsimp only
      rw [← hu]
      exact if_pos ⟨huop, htyp⟩
    have hkick := (u.custEnd St.ENGINE_UNAVAILABLE 0x01B5).jKick_leaveOnly
    have hcrd : ((u.custEnd St.ENGINE_UNAVAILABLE 0x01B5).jKick).crd = { s.crd with jq := l, jprog := false, op := 0 } :=
      hkick.crd.trans (congrArg (fun c : Crd => { c with op := 0 }) hleave.crd)
    refine ⟨_, hexec, congrArg Crd.jq hcrd, ?_, congrArg Crd.op hcrd, by rw [hcrd], hkick.mem.trans hleave.mem⟩
    rw [hkick.reg _ State.not_leaveReg_custStat]
    exact u.custEnd_reg ..
  case written =>
    have hexec : exec (.cardWriteDone 0) s = .next (({ s with crd := { s.crd with run := some { g with stage := .closing } } }
        : State).jAppend { typ := 2, seq := 0, card := s.crd.card, gen := g.gen
                           ref := ((s.crd.log.reverse.find? (fun e => e.typ == 1 && e.gen == g.gen)).map (·.seq)).getD 0 }) := by
      refine congrArg Host.Outcome.next ?_
      rw [hrun]
      exact if_neg (by rw [hstage, hst]; decide)
    obtain ⟨n, hn⟩ : ∃ n, n = ((s.crd.log.reverse.find? (fun e => e.typ == 1 && e.gen == g.gen)).map (·.seq)).getD 0 := ⟨_, rfl⟩
    rw [← hn] at hexec
    have hj := State.jAppend_journalled ({ s with crd := { s.crd with run := some { g with stage := .closing } } } : State)
      { typ := 2, seq := 0, card := s.crd.card, gen := g.gen, ref := n }
    exact ⟨_, n, hexec, congrArg Crd.run hj.crd, congrArg Crd.jq hj.crd, hj.mem⟩
  case error =>
    have hexec : exec (.cardWriteDone 2) s = .next (s.genFail St.ENGINE_UNAVAILABLE 0x01B2) := by
      refine congrArg Host.Outcome.next ?_
      rw [hrun]
      exact if_neg (by rw [hstage, hst]; decide)
    exact ⟨_, hexec, State.genFail_outcome _ _ hst hop⟩
  case busy =>
    have hexec : exec .cardBusyTimeout s = .next ((s.count R.CRD_SD_ERR 15 0).genFail St.ENGINE_UNAVAILABLE 0x01B2) := by
      refine congrArg Host.Outcome.next ?_
      rw [hrun]
      exact if_neg (by rw [hstage, hst]; decide)
    exact ⟨_, hexec, State.genFail_outcome (s := s.count R.CRD_SD_ERR 15 0) _ _ hst hop⟩
  case commit =>
    have hj := s.jAppend_journalled { typ := 2, seq := 0, card := r.card, gen := r.gen, ref := r.seq }
    generalize hu : s.jAppend { typ := 2, seq := 0, card := r.card, gen := r.gen, ref := r.seq } = u at hj
    have hresolve : s.jResolve wp [0] = { u with crd := { u.crd with resolving := false, wp := wp } } := by
      rw [State.jResolve, hpend, hopen, ← hu]
      rfl
    refine ⟨_, (congrArg Host.Outcome.next (if_pos ⟨hres, hst, hmode, hkey⟩)).trans (congrArg Host.Outcome.next hresolve), rfl,
      congrArg Crd.jq hj.crd, hj.mem⟩
  case abandon =>
    have hj := s.jAppend_journalled { typ := 5, seq := 0, card := r.card, gen := r.gen }
    generalize hu : s.jAppend { typ := 5, seq := 0, card := r.card, gen := r.gen } = u at hj
    have hjudge : s.judgeEntry r 2 wp = ((u.event Blk.CRD 0 5).fault Blk.CRD 0 Kind.CARD_JOURNAL r.first, false) := by
      rw [State.judgeEntry, hq, ← hu]
      rfl
    have hresolve : s.jResolve wp [2] = (let v := (u.event Blk.CRD 0 5).fault Blk.CRD 0 Kind.CARD_JOURNAL r.first
        { v with crd := { v.crd with resolving := false, wp := wp } }) := by
      have hval : ([2] : List (Fin 3)).map (·.val) = [2] := rfl
      rw [State.jResolve, hpend, hopen, hval]
      simp only [List.cons_append, List.zip_cons_cons, List.zip_nil_left, List.foldl_cons, List.foldl_nil, hjudge]
    refine ⟨_, ⟨Blk.CRD, 0, Kind.CARD_JOURNAL, kindSev Kind.CARD_JOURNAL, r.first % 2 ^ 40, 4⟩,
      (congrArg Host.Outcome.next (if_pos ⟨hres, hst, hmode, hkey⟩)).trans (congrArg Host.Outcome.next hresolve), rfl,
      (congrArg Crd.jq hj.crd).trans ?_, ?_, rfl, rfl, hj.mem⟩
    · show s.crd.jq ++ _ = _
      rw [hq, List.nil_append]
    · exact List.mem_append_right _ (List.mem_singleton_self _)
  case present =>
    have hready : ¬((s.cslot i).st > 1 ∨ s.fieldPower = true ∨ s.clk.waiting = true ∨ s.dbg.pins = true) := by
      simp [hpower, hrun, hpins]
      omega
    refine congrArg Host.Outcome.next ((if_neg hready).trans ?_)
    exact State.ccKick_of_none hcer
  case removed =>
    obtain ⟨hleave, -⟩ := s.ccDeact_outcome i
    obtain ⟨-, hmem, hkst, -⟩ := s.cardFail_outcome i
    obtain ⟨u, hu, huk, hum⟩ : ∃ u, u = (if (s.cslot i).st = 3 ∨ (s.cslot i).st = 4 then s.cardFail i else s.ccDeact i) ∧
        u.kst = s.kst ∧ u.mem = s.mem := by
      refine ⟨_, rfl, ?_⟩
      split
      · exact ⟨hkst hcer, hmem⟩
      · exact ⟨hleave.kst, hleave.mem⟩
    have hexec : exec (.ccRemoved i) s = .next ((u.setCslot i {}).event Blk.CRD 0 7) := by
      refine congrArg Host.Outcome.next ((if_neg hst).trans ?_)
      rw [hu]
    exact ⟨_, hexec, u.cslot_setCslot i {}, State.evt_event_self _ Blk.CRD 0 (by decide), huk, hum⟩
  case atr =>
    have hclass : ¬((s.cslot i).klass = 2 ∧ (!true) = true) := by simp
    have huse : (taOk ta.toNat && !(s.cslot i).nopps) = true := by rw [hta, hpps]; rfl
    refine congrArg Host.Outcome.next ((if_neg (not_not_intro hst)).trans ((if_neg hclass).trans ((if_neg (by decide)).trans ?_)))
    dsimp only
    rw [huse]
    rfl
  case atrTimeout =>
    obtain ⟨hleave, -⟩ := s.ccDeact_outcome i
    have hexec : exec (.ccAtrTimeout i true) s =
        .next ((s.ccDeact i).setCslot i { (s.ccDeact i).cslot i with again := true }) :=
      congrArg Host.Outcome.next ((if_pos hst).trans (if_pos ⟨hklass, rfl, hcfg⟩))
    refine ⟨_, hexec, ?_, hleave.kst, hleave.mem⟩
    rw [State.cslot_setCslot, s.cslot_ccDeact, State.ccIdle, if_pos (.inl hst)]
  case retry =>
    have hask : (s.setCslot i { s.cslot i with again := false, clsA := true }).ccAsk i =
        { (s.setCslot i { s.cslot i with again := false, clsA := true }) with
          leavePend := s.leavePend ++ [⟨Blk.CRD, 0, 25, .cc i, false⟩] } := by
      exact State.ccAsk_of_room (s := s.setCslot i { s.cslot i with again := false, clsA := true }) hbudget i
    exact congrArg Host.Outcome.next ((if_pos ⟨hst, hagain, hcer⟩).trans hask)
  case overcurrent =>
    have hactive : ¬((s.cslot i).st ≠ 3 ∧ (s.cslot i).st ≠ 4) := by omega
    obtain ⟨hheld, hmem, -, hlast⟩ := s.cardFail_outcome i
    exact ⟨_, congrArg Host.Outcome.next (if_neg hactive), State.cslot_setCslot .., hlast, hheld, hmem⟩
end

section
/-! SUPPORT. Custodian ceremonies and the firmware quench (R261-R266): what the cards, the records and the end of a ceremony
leave of it. -/

namespace Sys2Proof.Machine

/-- From `s` to `t` cards have only been let go or asked for: of the key store the ceremony's LAST alone may change. -/
structure CardsOnly (s t : State) : Prop where
  kst : ∃ n, t.kst = { s.kst with cer := { s.kst.cer with last := n } }
  mem : t.mem = s.mem
  slots : t.slots = s.slots
  inbox : s.inbox <+: t.inbox

namespace CardsOnly

variable {s t u : State}

theorem plain (hkst : t.kst = s.kst) (hmem : t.mem = s.mem) (hslots : t.slots = s.slots) (hinbox : s.inbox <+: t.inbox) :
    CardsOnly s t := ⟨⟨_, hkst⟩, hmem, hslots, hinbox⟩

theorem refl (s : State) : CardsOnly s s := plain rfl rfl rfl (List.prefix_refl _)

theorem trans (h : CardsOnly s t) (g : CardsOnly t u) : CardsOnly s u := by
  obtain ⟨n, hn⟩ := h.kst
  obtain ⟨m, hm⟩ := g.kst
  exact ⟨⟨m, by rw [hm, hn]⟩, g.mem.trans h.mem, g.slots.trans h.slots, h.inbox.trans g.inbox⟩

theorem ofLeave (h : LeaveOnly s t) : CardsOnly s t := plain h.kst h.mem h.slots h.inbox

theorem foldl {f : State → Nat → State} (hf : ∀ s i, CardsOnly s (f s i)) (l : List Nat) (s : State) :
    CardsOnly s (l.foldl f s) := by
  induction l generalizing s with
  | nil => exact refl s
  | cons i l ih => exact (hf s i).trans (ih _)

theorem setCslot (s : State) (i : Nat) (c : CSlot) : CardsOnly s (s.setCslot i c) :=
  plain rfl rfl rfl (List.prefix_refl _)

theorem cerResult (s : State) (code : Nat) : CardsOnly s (s.cerResult code) :=
  ⟨⟨code, rfl⟩, rfl, rfl, List.prefix_append _ _⟩

theorem ccDeact (s : State) (i : Nat) : CardsOnly s (s.ccDeact i) :=
  (setCslot ..).trans (ofLeave (s.ccDeact_outcome i).1)

theorem cardFail (s : State) (i : Nat) : CardsOnly s (s.cardFail i) := by
  have hcount (u : State) : CardsOnly u (u.count (R.CRD_CC_ERR + i * 0x10) 15 0) := plain rfl rfl rfl (List.prefix_refl _)
  unfold State.cardFail
  dsimp only
  split
  · exact (ccDeact s i).trans ((hcount _).trans (cerResult ..))
  · exact (ccDeact s i).trans (hcount _)

theorem ccAsk (s : State) (i : Nat) : CardsOnly s (s.ccAsk i) := by
  have hask := ofLeave (LeaveOnly.askLeave s Blk.CRD 0 25 (.cc i))
  unfold State.ccAsk
  dsimp only
  split
  · exact hask.trans (cardFail ..)
  · exact hask

theorem ccKick (s : State) : CardsOnly s s.ccKick := by
  refine foldl (fun s i => ?_) _ s
  dsimp only
  split
  · exact (setCslot ..).trans (ccAsk ..)
  · exact refl s

/-- The ceremony of the cards, but for LAST. -/
theorem cer (h : CardsOnly s t) : ∃ n, t.kst.cer = { s.kst.cer with last := n } := by
  obtain ⟨n, hn⟩ := h.kst
  exact ⟨n, congrArg Kst.cer hn⟩

end CardsOnly

namespace State

/-! ### Ceremonies that begin and end -/

/-- A ceremony that begins is recorded, and the cards seated are asked for (R262). -/
theorem cerStart_outcome (s : State) (c : Cer) : ∃ n, (s.cerStart c).kst.cer = { c with last := n } ∧
    (s.cerStart c).slots = s.slots ∧ (s.cerStart c).mem = s.mem ∧
    ∃ e ∈ (s.cerStart c).inbox, e.kind = Kind.CEREMONY := by
  have hcards := CardsOnly.ccKick (({ s with kst := { s.kst with cer := c } }).faultFree Blk.KST 0 Kind.CEREMONY)
  obtain ⟨n, hn⟩ := hcards.cer
  exact ⟨n, hn, hcards.slots, hcards.mem, _, hcards.inbox.subset (List.mem_append_right _ (List.mem_singleton_self _)), rfl⟩

/-- A ceremony that has ended as `st` for cause `fail`: its secrets are erased. -/
def cerOver (c : Cer) (st fail : Nat) : Cer := { c with st := st, fail := fail, secret := [], shares := [], kcv := [] }

theorem cerEnd_outcome (s : State) (st fail : Nat) : (s.cerEnd st fail).kst = { s.kst with cer := cerOver s.kst.cer st fail } ∧
    (s.cerEnd st fail).mem = s.mem ∧ (s.cerEnd st fail).slots = s.slots := by
  unfold cerEnd
  dsimp only
  generalize hu : ((({ s with kst := { s.kst with cer := cerOver s.kst.cer st fail } } : State).event Blk.KST 0 4).faultFree
    Blk.KST 0 Kind.CEREMONY) = u
  have h0 := (u.ccDeact_outcome 0).1
  have h1 := ((u.ccDeact 0).ccDeact_outcome 1).1
  have hkst : u.kst = { s.kst with cer := cerOver s.kst.cer st fail } := hu ▸ rfl
  have hmem : u.mem = s.mem := hu ▸ rfl
  have hslots : u.slots = s.slots := hu ▸ rfl
  have hends : ((u.ccDeact 0).ccDeact 1).kst = u.kst ∧ ((u.ccDeact 0).ccDeact 1).mem = u.mem ∧
      ((u.ccDeact 0).ccDeact 1).slots = u.slots :=
    ⟨h1.kst.trans h0.kst, h1.mem.trans h0.mem, h1.slots.trans h0.slots⟩
  rw [hkst, hmem, hslots] at hends
  rw [← hu] at hends
  exact hends

theorem cerRuns_iff {s : State} : s.cerRuns ↔ 1 ≤ s.kst.cer.st ∧ s.kst.cer.st ≤ 4 := by
  simp [cerRuns]

/-- A ceremony that runs fails with its secrets erased (R262). -/
theorem cerFail_outcome {s : State} (hruns : s.cerRuns) (fail : Nat) :
    (s.cerFail fail).kst.cer = cerOver s.kst.cer 6 fail ∧ (s.cerFail fail).mem = s.mem ∧ (s.cerFail fail).slots = s.slots := by
  obtain ⟨hkst, hmem, hslots⟩ := s.cerEnd_outcome 6 fail
  rw [cerFail, if_pos (cerRuns_iff.mp hruns)]
  dsimp only
  split
  · exact ⟨congrArg Kst.cer hkst, hmem, hslots⟩
  · exact ⟨congrArg Kst.cer hkst, hmem, hslots⟩

theorem cerFail_of_idle {s : State} (hidle : s.cerRuns = false) (fail : Nat) : s.cerFail fail = s :=
  if_neg fun h => absurd (cerRuns_iff.mpr h) (by simp [hidle])

/-! ### The word that opens and aborts -/

theorem cerCmdWrite_open {s : State} {kind m n : Nat} (hk : kind < 5) (hm : m < 16) (hn : n < 16) :
    s.cerCmdWrite (cerWord kind m n) = if s.cerRuns ∨ !s.cerMay kind m n then none
      else some ((s.setReg R.KST_CER_CMD (cerWord kind m n &&& 0xFFF)).cerOpen kind m n) := by
  have hword : (cerWord kind m n).toNat = 0x80000000 + m * 0x100 + n * 0x10 + kind := by
    simp only [cerWord, w32, BitVec.toNat_ofNat]
    omega
  have hkind : bits (cerWord kind m n) 3 0 = kind := by rw [bits, hword]; omega
  have hhi : bits (cerWord kind m n) 11 8 = m := by rw [bits, hword]; omega
  have hlo : bits (cerWord kind m n) 7 4 = n := by rw [bits, hword]; omega
  have hgo : bit (cerWord kind m n) 31 = true := by
    rw [bit, BitVec.getLsbD, hword, Nat.testBit_eq_decide_div_mod_eq, decide_eq_true_iff]
    omega
  have habort : bit (cerWord kind m n) 30 = false := by
    rw [bit, BitVec.getLsbD, hword, Nat.testBit_eq_decide_div_mod_eq, decide_eq_false_iff_not]
    omega
  simp only [cerCmdWrite, hkind, hhi, hlo, hgo, habort, true_and, if_true, Bool.false_eq_true, if_false]

theorem cerCmdWrite_abort (s : State) : s.cerCmdWrite 0x40000000 = some ((s.setReg R.KST_CER_CMD 0).cerFail 2) := by
  have hgo : bit (0x40000000 : Word) 31 = false := by decide
  have habort : bit (0x40000000 : Word) 30 = true := by decide
  simp only [cerCmdWrite, hgo, habort, Bool.false_eq_true, false_and, if_true, if_false]
  rfl

/-- The secret `k` drawn for a set and the shares made of it (R262). -/
def newCer (kind m n : Nat) (k setId cs : List Byte) : Cer :=
  { st := 1, kind := kind, m := m, n := n, setId := setId, secret := k, kcv := kcvOf k
    shares := (List.range n).map (fun i =>
      (i + 1, shareAt k ((List.range (m - 1)).map (fun i => slice cs (32 * i) 32)) (i + 1))) }

theorem newCer_kcv (kind m n : Nat) (k setId cs : List Byte) : (newCer kind m n k setId cs).kcv = kcvOf k := rfl

theorem newCer_shares (kind m n : Nat) (k setId cs : List Byte) : (newCer kind m n k setId cs).shares =
    (List.range n).map (fun i => (i + 1, shareAt k ((List.range (m - 1)).map (fun i => slice cs (32 * i) 32)) (i + 1))) := rfl

theorem cerWrite_eq (s : State) (kind m n : Nat) : s.cerWrite kind m n = ({ s with fresh := s.fresh + 1 + 1 + 1 } : State).cerStart
    (newCer kind m n (slice (Config.rnd s.fresh 32) 0 32) (slice (Config.rnd (s.fresh + 1) 8) 0 8)
      (Config.rnd (s.fresh + 1 + 1) 256)) := rfl

/-! ### Cards of a ceremony (R263) -/

theorem judgeShare_congr {s t : State} (hkst : t.kst = s.kst) (hmem : t.mem = s.mem) (o : List Byte) :
    t.judgeShare o = s.judgeShare o := by
  have hbytes : t.bytes 0x0C801000 32 = s.bytes 0x0C801000 32 :=
    bytes_congr fun i _ => congrArg (fun l => Tbl.get memDefault l (0x0C801000 + i)) hmem
  have hkey (id : List Byte) : t.shareKey id = s.shareKey id := congrArg (fun b => kdf b "ESN-SHARE" id 32) hbytes
  simp only [judgeShare, hkst, hkey]

/-- A card written in WRITE: N of them lead to COLLECT (R262). -/
theorem cerPut_outcome (s : State) :
    (s.kst.cer.acc * 2 + 2 ≠ 2 ^ s.kst.cer.n → (s.cerPut none true).kst.cer =
      { s.kst.cer with acc := s.kst.cer.acc * 2 + 1, last := 0 }) ∧
    (s.kst.cer.acc * 2 + 2 = 2 ^ s.kst.cer.n → (s.cerPut none true).kst.cer =
      { s.kst.cer with acc := 0, last := 0, st := 2, shares := [], secret := [] }) ∧ (s.cerPut none true).mem = s.mem := by
  unfold cerPut
  simp only [Bool.not_true, Bool.false_eq_true, if_false]
  refine ⟨fun hn => ?_, fun hn => ?_, ?_⟩
  · rw [if_neg (by omega)]
    rfl
  · rw [if_pos (by omega)]
    rfl
  · (repeat' split) <;> rfl

/-- The shares of a ceremony with one more accepted (R263). -/
def cerTaken (c : Cer) (x m n : Nat) (y : List Byte) : Cer :=
  { c with m := m, n := n, acc := setBit c.acc (x - 1) % 256, shares := c.shares ++ [(x, y)], last := 0 }

/-- A card in COLLECT that is refused is counted by its code; M accepted lead to COMBINE (R263). -/
theorem cerTake_eq (s : State) (o : List Byte) {code x m n : Nat} {y : List Byte} (hjudge : s.judgeShare o = (code, x, m, n, y)) :
    (code ≠ 0 → s.cerTake (some o) = s.cerResult code) ∧
    (code = 0 → ∃ u : State, s.cerTake (some o) = (if m ≤ s.kst.cer.shares.length + 1 then u.cerCombine else u) ∧
      u.kst = { s.kst with cer := cerTaken s.kst.cer x m n y } ∧ u.mem = s.mem ∧ u.life = s.life) := by
  unfold cerTake
  simp only [hjudge]
  refine ⟨fun hc => if_pos hc, fun hc => ?_⟩
  rw [if_neg (not_not_intro hc)]
  refine ⟨(({ s with kst := { s.kst with cer := { s.kst.cer with
    m := m, n := n, acc := setBit s.kst.cer.acc (x - 1) % 256, shares := s.kst.cer.shares ++ [(x, y)] } } }) : State).cerResult 0,
    ?_, rfl, rfl, rfl⟩
  rw [← show (s.kst.cer.shares ++ [(x, y)]).length = s.kst.cer.shares.length + 1 from List.length_append]
  rfl

/-- What the answer of a card in WRITE, and of one in COLLECT, is carried to once the card is let go (R263). -/
theorem cardResult_write {s : State} {i : Fin 2} (hslot : (s.cslot i).st = 4) (hst : s.kst.cer.st = 1)
    (resp : Option (List Byte)) (put : Bool) :
    execCeremonyCardResult i resp put s = .next ((s.ccDeact i).cerPut resp put).ccKick := by
  have hcer : (s.ccDeact i).kst.cer.st = 1 := (congrArg (fun k : Kst => k.cer.st) (s.ccDeact_outcome i).1.kst).trans hst
  unfold execCeremonyCardResult
  rw [if_neg (not_not_intro hslot)]
  dsimp only
  rw [if_pos hcer]

theorem cardResult_collect {s : State} {i : Fin 2} (hslot : (s.cslot i).st = 4) (hst : s.kst.cer.st = 2)
    (resp : Option (List Byte)) (put : Bool) :
    execCeremonyCardResult i resp put s = .next ((s.ccDeact i).cerTake resp) := by
  have hcer : (s.ccDeact i).kst.cer.st = 2 := (congrArg (fun k : Kst => k.cer.st) (s.ccDeact_outcome i).1.kst).trans hst
  unfold execCeremonyCardResult
  rw [if_neg (not_not_intro hslot)]
  dsimp only
  rw [if_neg (by rw [hcer]; decide), if_pos hcer]

/-- Shares whose secret has another KCV fail the ceremony (R263). -/
theorem cerCombine_wrong {s : State} (hkcv : kcvOf (interpolate s.kst.cer.shares) ≠ s.kst.cer.kcv) :
    s.cerCombine.kst.cer.st = 6 ∧ s.cerCombine.kst.cer.fail = 3 ∧ s.cerCombine.kst.cer.shares = [] ∧
      s.cerCombine.life = s.life ∧ s.cerCombine.mem = s.mem := by
  unfold cerCombine
  dsimp only
  rw [if_pos hkcv]
  generalize hu : ({ s with kst := { s.kst with cer := { s.kst.cer with st := 4, shares := [], secret := [] } } } : State) = u
  obtain ⟨hkst, hmem, -⟩ := u.cerEnd_outcome 6 3
  have hlife := (Cut.cerEnd u 6 3).life
  have hcer := congrArg Kst.cer hkst
  rw [show u.mem = s.mem from hu ▸ rfl] at hmem
  rw [show u.life = s.life from hu ▸ rfl] at hlife
  have hall : (u.cerEnd 6 3).kst.cer.st = 6 ∧ (u.cerEnd 6 3).kst.cer.fail = 3 ∧ (u.cerEnd 6 3).kst.cer.shares = [] ∧
      (u.cerEnd 6 3).life = s.life ∧ (u.cerEnd 6 3).mem = s.mem :=
    ⟨congrArg Cer.st hcer, congrArg Cer.fail hcer, congrArg Cer.shares hcer, hlife, hmem⟩
  split
  · exact hall
  · exact hall

theorem ticketEnd_kst (s : State) (code : Nat) : (s.ticketEnd code).kst = s.kst := by
  have hpairs (u : State) (l : List Nat) : (l.foldl (fun s p =>
      s.modPair p (fun k => { k with run := if k.run = .debugHalt then .running else k.run })) u).kst = u.kst := by
    induction l generalizing u with
    | nil => rfl
    | cons p l ih => exact ih _
  unfold ticketEnd
  dsimp only
  split
  · rfl
  split
  · exact hpairs _ _
  · exact hpairs _ _

theorem otpFill_kst (s : State) (o : Nat) (l : List Byte) : (s.otpFill o l).kst = s.kst := by
  unfold otpFill
  split
  · rw [setBytes_eq]
  · rfl

theorem raiseWord_kst (s : State) (n : Nat) : (s.raiseWord n).kst = s.kst := by
  rw [raiseWord, setBytes_eq]

/-- The customer's secret is held, and the lifecycle raised (R262). -/
theorem actCommission_outcome (s : State) (c : Cer) (k : List Byte) : (s.actCommission c k).kst.cer = cerOver s.kst.cer 5 0 ∧
    (s.actCommission c k).kst.kcust = some k ∧ (s.actCommission c k).kst.setId = c.setId ∧
    (s.actCommission c k).life = .commissioned := by
  unfold actCommission
  extract_lets _ s1 s2 s3
  obtain ⟨q, hq⟩ := s1.imgAppend_kept 0 (.custody c.setId c.m c.n k) .none
  have hraised : s3.kst = s2.kst := (raiseWord_kst ..).trans (otpFill_kst ..)
  have hbefore : s3.kst = { s1.kst with queue := q } := hraised.trans hq.kst
  clear_value s3
  generalize hv : ({ s3 with life := .commissioned } : State) = v
  have hend := (ticketEnd_kst (v.cerEnd 5 0) 6).trans (v.cerEnd_outcome 5 0).1
  rw [show v.kst = s3.kst from hv ▸ rfl, hbefore] at hend
  exact ⟨congrArg Kst.cer hend, congrArg Kst.kcust hend, congrArg Kst.setId hend,
    ((Cut.ticketEnd _ 6).life.trans (Cut.cerEnd v 5 0).life).trans (hv ▸ rfl)⟩

theorem cerCombine_commission {s : State} (hkcv : kcvOf (interpolate s.kst.cer.shares) = s.kst.cer.kcv)
    (hkind : s.kst.cer.kind = 1) : s.cerCombine.kst.cer.st = 5 ∧ s.cerCombine.kst.kcust = some (interpolate s.kst.cer.shares) ∧
      s.cerCombine.kst.setId = s.kst.cer.setId ∧ s.cerCombine.life = .commissioned := by
  unfold cerCombine
  dsimp only
  rw [if_neg (not_not_intro hkcv), if_pos hkind]
  obtain ⟨hcer, hcust, hid, hlife⟩ := actCommission_outcome
    { s with kst := { s.kst with cer := { s.kst.cer with st := 4, shares := [], secret := [] } } } s.kst.cer
    (interpolate s.kst.cer.shares)
  exact ⟨congrArg Cer.st hcer, hcust, hid, hlife⟩

end State

/-! ### What follows a quench -/

/-- From `s` to `t` the context cache and the stream slots are as they were. -/
structure StreamsKept (s t : State) : Prop where
  ctxs : t.ctxs = s.ctxs
  streams : t.streams = s.streams

namespace StreamsKept

variable {s t u : State}

theorem refl (s : State) : StreamsKept s s := ⟨rfl, rfl⟩

theorem trans (h : StreamsKept s t) (g : StreamsKept t u) : StreamsKept s u :=
  ⟨g.ctxs.trans h.ctxs, g.streams.trans h.streams⟩

theorem ite {c : Prop} [Decidable c] (ht : StreamsKept s t) (hu : StreamsKept s u) : StreamsKept s (if c then t else u) := by
  split
  · exact ht
  · exact hu

theorem foldl {α : Type} {f : State → α → State} (hf : ∀ s a, StreamsKept s (f s a)) (l : List α) (s : State) :
    StreamsKept s (l.foldl f s) := by
  induction l generalizing s with
  | nil => exact refl s
  | cons a l ih => exact (hf s a).trans (ih _)

theorem releaseLeave (s : State) (what : Purpose) : StreamsKept s (s.releaseLeave what) :=
  ⟨(LeaveOnly.releaseLeave s what).ctxs, (LeaveOnly.releaseLeave s what).field State.streams fun _ => rfl⟩

theorem withdraw (s : State) (what : Purpose) : StreamsKept s (s.withdraw what) := ite (refl s) (releaseLeave ..)

theorem modPair (s : State) (n : Nat) (f : KPair → KPair) : StreamsKept s (s.modPair n f) := ⟨rfl, rfl⟩

theorem ccDeact (s : State) (i : Nat) : StreamsKept s (s.ccDeact i) := by
  have hslot (c : CSlot) : StreamsKept s (s.setCslot i c) := ⟨rfl, rfl⟩
  exact (hslot _).trans (releaseLeave ..)

theorem dbgModeEnd (s : State) : StreamsKept s s.dbgModeEnd := by
  have hrefuse : StreamsKept s (s.ticketRefuse 7) := ⟨rfl, rfl⟩
  have hinj (u : State) : StreamsKept u (u.injEnd 4) := ⟨rfl, rfl⟩
  unfold State.dbgModeEnd
  dsimp only
  split
  · split
    · exact hrefuse.trans (hinj _)
    · exact hrefuse
  · split
    · exact hinj s
    · exact refl s

theorem ticketEnd (s : State) (code : Nat) : StreamsKept s (s.ticketEnd code) := by
  have hdbg : StreamsKept s { s with dbg := { s.dbg with st := 0, scope := 0, minutes := 0 } } := ⟨rfl, rfl⟩
  have hpairs (u : State) : StreamsKept u ((List.range 3).foldl (fun s p =>
      s.modPair p (fun k => { k with run := if k.run = .debugHalt then .running else k.run })) u) :=
    foldl (fun _ _ => modPair ..) _ u
  have hevent (u : State) : StreamsKept u (u.event Blk.DBG 0 3) := ⟨rfl, rfl⟩
  have hfault (u : State) (n : Nat) : StreamsKept u (u.fault Blk.DBG 0 Kind.CEREMONY n) := ⟨rfl, rfl⟩
  unfold State.ticketEnd
  exact ite (refl s) (hdbg.trans ((hpairs _).trans ((hevent _).trans (ite (refl _) (hfault ..)))))

theorem scramble (s : State) (a n : Nat) : StreamsKept s (s.scramble a n) := by
  unfold State.scramble State.drawBytes
  dsimp only
  rw [State.setBytes_eq]
  exact ⟨rfl, rfl⟩

theorem tagCut (s : State) : StreamsKept s s.tagCut := by
  have htag (u : State) : StreamsKept u { u with tag := { u.tag with commit := none } } := ⟨rfl, rfl⟩
  unfold State.tagCut
  split
  · exact refl s
  · exact (ite (refl s) (foldl (fun _ _ => scramble ..) _ s)).trans (htag _)

theorem tagHostCut (s : State) : StreamsKept s s.tagHostCut := by
  have htag (u : State) : StreamsKept u { u with tag := { u.tag with hostQ := [], hostOn := none } } := ⟨rfl, rfl⟩
  unfold State.tagHostCut
  refine .trans ?_ (htag _)
  split
  · exact ite (tagCut s) (refl s)
  · exact refl s

theorem lockRest (s : State) : StreamsKept s s.lockRest := by
  have hcard : StreamsKept s (if s.crd.op ≠ 0 then s.custEnd St.MODE_DENIED 4 else s) := ite ⟨rfl, rfl⟩ (refl s)
  have hcrd (u : State) (c : Crd) : StreamsKept u { u with crd := c } := ⟨rfl, rfl⟩
  have hvault (u : State) (v : Vault) : StreamsKept u { u with vault := v } := ⟨rfl, rfl⟩
  have hpairs (u : State) : StreamsKept u ((List.range 3).foldl (fun s p =>
      if (s.pair p).role = 2 ∧ ((s.pair p).run = .running ∨ (s.pair p).run = .waiting) then
        s.modPair p (fun k => { k with run := .halted })
      else s) u) := foldl (fun _ _ => ite (modPair ..) (refl _)) _ u
  have hinst (u : State) : StreamsKept u ((List.range 4).foldl State.uninstantiate u) := foldl (by exact fun _ _ => ⟨rfl, rfl⟩) _ u
  have hrng (u : State) (r : Rng) : StreamsKept u { u with rng := r } := ⟨rfl, rfl⟩
  have hdormant (u : State) (n : Nat) : StreamsKept u (u.laneDormant n) := by
    have hlane (f : Lane → Lane) : StreamsKept u (u.modLane n f) := ⟨rfl, rfl⟩
    exact (hlane _).trans (releaseLeave ..)
  have hlanes (u : State) : StreamsKept u ((List.range 9).foldl (fun s n => if (s.lane n).leave then s.laneDormant n else s) u) :=
    foldl (fun _ _ => ite (hdormant ..) (refl _)) _ u
  have hports (u : State) (l : Tbl HPort) : StreamsKept u { u with ports := l } := ⟨rfl, rfl⟩
  have hwithdraw (u : State) (p q : Purpose) : StreamsKept u ((u.withdraw p).withdraw q) := (withdraw ..).trans (withdraw ..)
  have hdeact (u : State) : StreamsKept u ((u.ccDeact 0).ccDeact 1) := (ccDeact ..).trans (ccDeact ..)
  unfold State.lockRest
  exact hcard.trans ((hcrd ..).trans ((hwithdraw ..).trans ((hdeact _).trans ((hwithdraw ..).trans ((hvault ..).trans
    ((hpairs _).trans ((hinst _).trans ((hrng ..).trans ((tagHostCut _).trans ((hlanes _).trans (hports ..)))))))))))

theorem lockTail (s : State) (old : Mode) : StreamsKept s ((s.gateEng.tagUnkey).tagApp old .lockdown) := by
  have hgate : StreamsKept s s.gateEng := ite (refl s) ⟨rfl, rfl⟩
  have hunkey (u : State) : StreamsKept u u.tagUnkey := ⟨rfl, rfl⟩
  have happ (u : State) : StreamsKept u (u.tagApp old .lockdown) := ite (refl u) (ite ⟨rfl, rfl⟩ ⟨rfl, rfl⟩)
  exact hgate.trans ((hunkey _).trans (happ _))

end StreamsKept

namespace State

theorem quench_streams (s : State) (kbb : Bool) : (s.quench kbb).ctxs = [] ∧ (s.quench kbb).streams = [] := ⟨rfl, rfl⟩

/-- Lockdown leaves no context and no stream slot (R267). -/
theorem lockdown_streams {s : State} (reason : Nat) (kbb : Bool) (hmode : s.mode ≠ .lockdown) (hrun : s.clk.waiting = false) :
    (s.lockdown reason kbb).ctxs = [] ∧ (s.lockdown reason kbb).streams = [] := by
  have hwait : ¬s.clk.waiting = true := by simp [hrun]
  rw [lockdown, if_neg hmode, if_neg hwait]
  extract_lets old s1 s2 s3 sys s4 s5 s6
  have h3 : StreamsKept (s2.quench kbb) s3 := .dbgModeEnd _
  have h4 : StreamsKept s3 s4 := ⟨rfl, rfl⟩
  have h5 : StreamsKept s4 s5 := (StreamsKept.ticketEnd ..).trans (.lockRest _)
  have h6 : StreamsKept s5 s6 := .lockTail s5 old
  have h7 : StreamsKept s6 (s6.event Blk.SYS 0 2) := ⟨rfl, rfl⟩
  obtain ⟨hctxs, hstreams⟩ := s2.quench_streams kbb
  have hall := h3.trans (h4.trans (h5.trans (h6.trans h7)))
  exact ⟨hall.ctxs.trans hctxs, hall.streams.trans hstreams⟩

/-- A firmware quench leaves Esnan in Lockdown with no volatile secret but K_bb (R266, R267). -/
theorem quenchLock_outcome {s : State} (reason : Nat) (hrun : s.clk.waiting = false) :
    (s.quenchLock reason false).mode = .lockdown ∧ (s.quenchLock reason false).slots = [] ∧
    (s.quenchLock reason false).ctxs = [] ∧ (s.quenchLock reason false).streams = [] ∧
    (s.quenchLock reason false).kst.kseal = none ∧ (s.quenchLock reason false).kst.keph = none ∧
    (s.quenchLock reason false).kst.kcust = none ∧ (s.quenchLock reason false).flk.kbb = s.flk.kbb ∧
    (s.mode ≠ .lockdown → (s.quenchLock reason false).sys.reason = reason) := by
  unfold quenchLock
  split
  next hmode =>
    obtain ⟨u, hu, hq⟩ := s.quench_cut false
    exact ⟨hq.mode.trans (hu.mode.trans hmode), hq.slots rfl, rfl, rfl, hq.kseal, hq.field (fun t => t.kst.keph) fun _ => rfl,
      hq.field (fun t => t.kst.kcust) fun _ => rfl, (congrArg Flk.kbb hq.flk).trans (congrArg Flk.kbb hu.flk),
      fun h => absurd hmode h⟩
  next hmode =>
    obtain ⟨u, hu, hl, -⟩ := lockdown_cut reason false hmode hrun
    obtain ⟨hctxs, hstreams⟩ := lockdown_streams reason false hmode hrun
    exact ⟨hl.mode, hl.slots rfl, hctxs, hstreams, hl.kseal, hl.field (fun t => t.kst.keph) fun _ => rfl,
      hl.field (fun t => t.kst.kcust) fun _ => rfl, (congrArg Flk.kbb hl.flk).trans (congrArg Flk.kbb hu.flk),
      fun _ => congrArg Sys.reason hl.sys⟩

end State
end Sys2Proof.Machine

open Sys2Proof Sys2Proof.Machine

/-- Settles O51: a ceremony that opens keeps what it was opened with but LAST, one that ends keeps nothing secret, and a card
judged changes the ceremony alone until M shares are combined. -/
theorem ceremoniesAndQuench : Obligations.CeremoniesAndQuench := by
  intro s rq m n i o y x m' n' h c k coef sum
  have hword (kind a b : Nat) (hk : kind < 5) (ha : a < 16) (hb : b < 16) (hw : s.writable rq Blk.KST 0 R.KST_CER_CMD = true) :
      s.asWrite rq Blk.KST 0 R.KST_CER_CMD (cerWord kind a b) (fun s => s.cerCmdWrite (cerWord kind a b)) =
        if s.cerRuns ∨ !s.cerMay kind a b then s.refuse rq R.KST_CER_CMD Blk.KST 0
        else (s.setReg R.KST_CER_CMD (cerWord kind a b &&& 0xFFF)).cerOpen kind a b := by
    rw [s.asWrite_of_writable _ _ hw, State.cerCmdWrite_open hk ha hb]
    (repeat' split) <;> rfl
  have habort (hw : s.writable rq Blk.KST 0 R.KST_CER_CMD = true) :
      exec (.abort rq) s = .next ((s.setReg R.KST_CER_CMD 0).cerFail 2) :=
    congrArg Host.Outcome.next ((s.asWrite_of_writable _ _ hw).trans (by rw [State.cerCmdWrite_abort]; rfl))
  have hopen (kind a b : Nat) (hk : kind < 5) (ha : a < 16) (hb : b < 16) (hw : s.writable rq Blk.KST 0 R.KST_CER_CMD = true)
      (hidle : s.cerRuns = false) (hmay : s.cerMay kind a b = true) :=
    (hword kind a b hk ha hb hw).trans (if_neg (by simp [hidle, hmay]))
  have hdeact : CardsOnly s (s.ccDeact i) := .ccDeact s i
  have hkstD : (s.ccDeact i).kst = s.kst := (s.ccDeact_outcome i).1.kst
  have hput (hslot : (s.cslot i).st = 4) (hst : c.st = 1) : ∃ t, exec (.ceremonyCardResult i none true) s = .next t ∧
      ((c.acc * 2 + 2 ≠ 2 ^ c.n → t.kst.cer = { c with acc := c.acc * 2 + 1, last := t.kst.cer.last }) ∧
      (c.acc * 2 + 2 = 2 ^ c.n → t.kst.cer =
        { c with acc := 0, last := t.kst.cer.last, st := 2, shares := [], secret := [] })) ∧ t.mem = s.mem := by
    have hexec := State.cardResult_write hslot hst none true
    obtain ⟨hmore, hend, hmem⟩ := (s.ccDeact i).cerPut_outcome
    rw [hkstD] at hmore hend
    have hkick := CardsOnly.ccKick ((s.ccDeact i).cerPut none true)
    obtain ⟨l, hl⟩ := hkick.cer
    refine ⟨_, hexec, ⟨fun hleft => ?_, fun hlast => ?_⟩, hkick.mem.trans (hmem.trans hdeact.mem)⟩
    · rw [hl, hmore hleft]
    · rw [hl, hend hlast]
  have htake {code x m n : Nat} {y : List Byte} (hslot : (s.cslot i).st = 4) (hst : c.st = 2)
      (hjudge : s.judgeShare o = (code, x, m, n, y)) (hok : code = 0) : ∃ u : State,
      exec (.ceremonyCardResult i (some o) false) s = .next (if m ≤ c.shares.length + 1 then u.cerCombine else u) ∧
      u.kst = { s.kst with cer := State.cerTaken c x m n y } ∧ u.mem = s.mem ∧ u.life = s.life := by
    have hexec := State.cardResult_collect hslot hst (some o) false
    rw [← State.judgeShare_congr hkstD hdeact.mem] at hjudge
    obtain ⟨u, hu, hkst, hmem, hlife⟩ := ((s.ccDeact i).cerTake_eq o hjudge).2 hok
    rw [hkstD] at hu hkst
    rw [hu] at hexec
    exact ⟨u, hexec, hkst, hmem.trans hdeact.mem, hlife.trans (Cut.ccDeact s i).life⟩
  refine ⟨fun hw => ⟨fun hidle => ⟨fun hlife hmode hm hmn hn => ?commission, fun hbar => ?barred, fun hlife hmode hset => ?restore,
    fun hlife hmode => ?raise, fun hlife hmode hcust => ?decommission, ?abortIdle⟩, fun hruns => ⟨?second, ?abort⟩⟩,
    fun hruns => ?timeout, fun hslot hst => ⟨fun hleft => ?put, fun hlast => ?last⟩,
    fun hslot hst hjudge => ⟨fun hfew => ?taken, fun hall hkcv => ?wrong, fun hall hkcv hkind => ?held⟩,
    fun hslot hst hjudge => ?judged, fun hw hrun => ?quench⟩
  case commission =>
    have hmay : s.cerMay 1 m n = true := by simp [State.cerMay, hlife, hmode, hm, Fin.le_def.mp hmn, hn]
    have heq := hopen 1 m n (by decide) m.isLt n.isLt hw hidle hmay
    generalize hu : s.setReg R.KST_CER_CMD (cerWord 1 m n &&& 0xFFF) = u at heq
    have hfresh : u.fresh = s.fresh := hu ▸ rfl
    obtain ⟨l, hcer, hslots, hmem, e, he, hkind⟩ := ({ u with fresh := u.fresh + 1 + 1 + 1 } : State).cerStart_outcome
      (State.newCer 1 m n (slice (Config.rnd u.fresh 32) 0 32) (slice (Config.rnd (u.fresh + 1) 8) 0 8)
        (Config.rnd (u.fresh + 1 + 1) 256))
    rw [← u.cerWrite_eq] at hcer hslots hmem he
    rw [hfresh] at hcer
    rw [show u.cerOpen 1 m n = u.cerWrite 1 m n from if_pos rfl] at heq
    generalize u.cerWrite 1 m n = t at heq hcer hslots hmem he
    refine ⟨t, e, congrArg Host.Outcome.next heq, ?_⟩
    rw [hcer]
    dsimp only
    exact ⟨rfl, rfl, rfl, rfl, rfl, State.newCer_kcv .., rfl, State.newCer_shares .., he, hkind, hslots.trans (hu ▸ rfl), hmem.trans (hu ▸ rfl)⟩
  case barred =>
    have hmay : s.cerMay 1 m n = false := by
      rcases hbar with h | h | h | h | h
      · simp [State.cerMay, h]
      · simp [State.cerMay, h]
      · simp [State.cerMay, Nat.not_le.mpr h]
      · simp [State.cerMay, Nat.not_le.mpr (Fin.lt_def.mp h)]
      · simp [State.cerMay, Nat.not_le.mpr h]
    exact congrArg Host.Outcome.next ((hword 1 m n (by decide) m.isLt n.isLt hw).trans (if_pos (.inr (by rw [hmay]; rfl))))
  case restore =>
    have hmay : s.cerMay 2 0 0 = true := by simp [State.cerMay, hlife, hmode]
    refine ⟨_, congrArg Host.Outcome.next (hopen 2 0 0 (by decide) (by decide) (by decide) hw hidle hmay), ?_⟩
    generalize hu : s.setReg R.KST_CER_CMD (cerWord 2 0 0 &&& 0xFFF) = u
    have hset' : u.cardSet = some h := hu ▸ hset
    obtain ⟨l, hcer, -, hmem, -⟩ := u.cerStart_outcome { st := 2, kind := 2, m := h.m, n := h.n, setId := h.setId, kcv := h.kcv }
    have heq : u.cerOpen 2 0 0 = u.cerCollect 2 h.m h.n h.setId h.kcv := by simp [State.cerOpen, hset']
    rw [heq]
    exact ⟨congrArg Cer.st hcer, congrArg Cer.kind hcer, congrArg Cer.setId hcer, congrArg Cer.kcv hcer, hmem.trans (hu ▸ rfl)⟩
  case raise =>
    have hmay : s.cerMay 3 0 0 = true := by simp [State.cerMay, hlife, hmode]
    refine ⟨_, congrArg Host.Outcome.next (hopen 3 0 0 (by decide) (by decide) (by decide) hw hidle hmay), ?_⟩
    generalize hu : s.setReg R.KST_CER_CMD (cerWord 3 0 0 &&& 0xFFF) = u
    have hbytes (a n : Nat) : u.bytes a n = s.bytes a n := State.bytes_congr fun _ _ => hu ▸ rfl
    obtain ⟨l, hcer, -, hmem, -⟩ := u.cerStart_outcome
      { st := 2, kind := 3, m := 0, n := 0, setId := u.bytes 0x0C800140 8, kcv := u.bytes 0x0C800148 8 }
    exact ⟨congrArg Cer.st hcer, congrArg Cer.kind hcer, (congrArg Cer.setId hcer).trans (hbytes ..),
      (congrArg Cer.kcv hcer).trans (hbytes ..), hmem.trans (hu ▸ rfl)⟩
  case decommission =>
    have hmay : s.cerMay 4 0 0 = true := by simpa [State.cerMay, hlife] using hmode
    refine ⟨_, congrArg Host.Outcome.next (hopen 4 0 0 (by decide) (by decide) (by decide) hw hidle hmay), ?_⟩
    generalize hu : s.setReg R.KST_CER_CMD (cerWord 4 0 0 &&& 0xFFF) = u
    have hkst : u.kst = s.kst := hu ▸ rfl
    obtain ⟨l, hcer, -, hmem, -⟩ := u.cerStart_outcome
      { st := 2, kind := 4, m := s.kst.setM, n := s.kst.setN, setId := s.kst.setId, kcv := kcvOf y }
    have heq : u.cerOpen 4 0 0 = u.cerCollect 4 s.kst.setM s.kst.setN s.kst.setId (kcvOf y) := by
      simp [State.cerOpen, hkst, hcust]
    rw [heq]
    exact ⟨congrArg Cer.st hcer, congrArg Cer.kind hcer, congrArg Cer.setId hcer, congrArg Cer.kcv hcer, hmem.trans (hu ▸ rfl)⟩
  case abortIdle =>
    exact (habort hw).trans (congrArg _ (State.cerFail_of_idle (s := s.setReg R.KST_CER_CMD 0) hidle 2))
  case second => exact congrArg Host.Outcome.next ((hword 1 m n (by decide) m.isLt n.isLt hw).trans (if_pos (.inl hruns)))
  case abort =>
    obtain ⟨hcer, -, hslots⟩ := State.cerFail_outcome (s := s.setReg R.KST_CER_CMD 0) hruns 2
    exact ⟨_, habort hw, congrArg Cer.st hcer, congrArg Cer.fail hcer, congrArg Cer.secret hcer, congrArg Cer.shares hcer, hslots⟩
  case timeout =>
    obtain ⟨hcer, hmem, -⟩ := State.cerFail_outcome hruns 2
    refine ⟨_, rfl, ?_⟩
    dsimp only
    split
    · exact ⟨congrArg Cer.st hcer, congrArg Cer.fail hcer, congrArg Cer.secret hcer, congrArg Cer.shares hcer, hmem⟩
    · exact ⟨congrArg Cer.st hcer, congrArg Cer.fail hcer, congrArg Cer.secret hcer, congrArg Cer.shares hcer, hmem⟩
  case put =>
    obtain ⟨t, ht, ⟨hmore, -⟩, hmem⟩ := hput hslot hst
    have hcer := hmore hleft
    refine ⟨t, ht, ?_, ?_, ?_, hmem⟩
    · rw [hcer]; exact hst
    · rw [hcer]
    · rw [hcer]
  case last =>
    obtain ⟨t, ht, ⟨-, hend⟩, hmem⟩ := hput hslot hst
    have hcer := hend hlast
    refine ⟨t, ht, ?_, ?_, ?_, ?_, hmem⟩
    all_goals rw [hcer]
  case taken =>
    obtain ⟨u, hu, hkst, hmem, -⟩ := htake hslot hst hjudge rfl
    rw [if_neg (by omega)] at hu
    have hcer := congrArg Kst.cer hkst
    exact ⟨u, hu, (congrArg Cer.st hcer).trans hst, congrArg Cer.last hcer, congrArg Cer.shares hcer, hmem⟩
  case wrong =>
    obtain ⟨u, hu, hkst, hmem, hlife⟩ := htake hslot hst hjudge rfl
    rw [if_pos hall] at hu
    obtain ⟨hst6, hfail, hshares, hlife', hmem'⟩ := State.cerCombine_wrong (s := u) (by rw [hkst]; exact hkcv)
    exact ⟨_, hu, hst6, hfail, hshares, hlife'.trans hlife, hmem'.trans hmem⟩
  case held =>
    obtain ⟨u, hu, hkst, hmem, hlife⟩ := htake hslot hst hjudge rfl
    rw [if_pos hall] at hu
    obtain ⟨hst5, hcust, hset, hlife'⟩ := State.cerCombine_commission (s := u) (by rw [hkst]; exact hkcv)
      (by rw [hkst]; exact hkind)
    rw [hkst] at hcust hset
    exact ⟨_, hu, hst5, hcust, hset, hlife'⟩
  case judged =>
    have hexec := State.cardResult_collect hslot hst (some o) false
    have hcong := State.judgeShare_congr hkstD hdeact.mem o
    generalize s.judgeShare o = j at hjudge hcong ⊢
    obtain ⟨code, x, m, n, y⟩ := j
    rw [((s.ccDeact i).cerTake_eq o hcong).1 hjudge] at hexec
    have hcer : ((s.ccDeact i).cerResult code).kst.cer = { c with last := code } :=
      congrArg (fun k : Kst => { k.cer with last := code }) hkstD
    exact ⟨_, hexec, (congrArg Cer.st hcer).trans hst, congrArg Cer.last hcer,
      (congrArg Cer.shares hcer).trans rfl, hdeact.mem⟩
  case quench =>
    exact ⟨_, congrArg Host.Outcome.next (s.asWrite_of_writable _ _ hw), State.quenchLock_outcome 3 hrun⟩
end

section
/-! SUPPORT. What the steps of a Start leave alone (R456, R457): the lifecycle, the mode and its reason, the clocks that wait,
the Riser's evaluation and the vault's rebuild. -/

namespace Sys2Proof.Machine

/-- What a step of a Start may rely on from the steps before it. -/
structure StartView where
  life : Life
  decom : Bool
  mode : Mode
  reason : Nat
  waiting : Bool
  evalDone : Bool
  ready : Bool

/-- That part of a state. -/
def State.startView (s : State) : StartView :=
  ⟨s.life, s.flk.decom, s.mode, s.sys.reason, s.clk.waiting, s.ris.evalDone, s.vault.ready⟩

/-- From `s` to `t` nothing the steps of a Start rely on has changed. -/
structure StartKept (s t : State) : Prop where
  view : t.startView = s.startView

namespace StartKept

variable {s t u : State}

theorem refl (s : State) : StartKept s s := ⟨rfl⟩

theorem trans (h : StartKept s t) (g : StartKept t u) : StartKept s u := ⟨g.view.trans h.view⟩

theorem ite {c : Prop} [Decidable c] (ht : StartKept s t) (hu : StartKept s u) : StartKept s (if c then t else u) := by
  split
  · exact ht
  · exact hu

theorem foldl {α : Type} {f : State → α → State} (hf : ∀ s a, StartKept s (f s a)) (l : List α) (s : State) :
    StartKept s (l.foldl f s) := by
  induction l generalizing s with
  | nil => exact refl s
  | cons a l ih => exact (hf s a).trans (ih _)

theorem ofCut (h : Cut s t) : StartKept s t := by
  have hflk := congrArg Flk.decom h.flk
  have hsys := congrArg Sys.reason h.sys
  exact ⟨by simp only [State.startView, h.life, hflk, h.mode, hsys, h.waiting, h.evalDone, h.ready]⟩

theorem ofLeave (h : LeaveOnly s t) : StartKept s t := ofCut (.ofLeave h)

theorem ofEnded (h : JobEnded s t) : StartKept s t := ⟨h.field State.startView fun _ => rfl⟩

theorem setReg (s : State) (a : Nat) (v : Word) : StartKept s (s.setReg a v) := ⟨rfl⟩
theorem setHdr (s : State) (b i : Nat) (h : Hdr) : StartKept s (s.setHdr b i h) := ⟨rfl⟩
theorem event (s : State) (b i n : Nat) : StartKept s (s.event b i n) := ⟨rfl⟩
theorem fault (s : State) (b i k a : Nat) : StartKept s (s.fault b i k a) := ⟨rfl⟩
theorem faultFree (s : State) (b i k : Nat) : StartKept s (s.faultFree b i k) := ⟨rfl⟩
theorem modPort (s : State) (p : Nat) (f : HPort → HPort) : StartKept s (s.modPort p f) := ⟨rfl⟩
theorem modLane (s : State) (p : Nat) (f : Lane → Lane) : StartKept s (s.modLane p f) := ⟨rfl⟩
theorem setUnit (s : State) (p : Nat) (u : CUnit) : StartKept s (s.setUnit p u) := ⟨rfl⟩
theorem setPair (s : State) (p : Nat) (k : KPair) : StartKept s (s.setPair p k) := ⟨rfl⟩
theorem setSrc (s : State) (p : Nat) (k : Src) : StartKept s (s.setSrc p k) := ⟨rfl⟩
theorem setSlot (s : State) (p : Nat) (k : KSlot) : StartKept s (s.setSlot p k) := ⟨rfl⟩
theorem setSkm (s : State) (k : Skm) : StartKept s { s with skm := k } := ⟨rfl⟩
theorem setKst (s : State) (k : Kst) : StartKept s { s with kst := k } := ⟨rfl⟩
theorem setRng (s : State) (k : Rng) : StartKept s { s with rng := k } := ⟨rfl⟩
theorem setTag (s : State) (k : Tag) : StartKept s { s with tag := k } := ⟨rfl⟩
theorem forget (s : State) (lo hi : Nat) : StartKept s (s.forget lo hi) := ⟨rfl⟩
theorem setFence (s : State) (b i n : Nat) : StartKept s (s.setFence b i n) := ofCut (.setFence ..)
theorem mapAdd (s : State) (typ pool unit spare kind : Nat) : StartKept s (s.mapAdd typ pool unit spare kind) := ofCut (.mapAdd ..)

theorem setBytes (s : State) (a : Nat) (l : List Byte) : StartKept s (s.setBytes a l) := by
  rw [State.setBytes_eq]
  exact ⟨rfl⟩

/-! ### Sectors healed and remapped (R338, R340) -/

theorem exhausted (s : State) (pool unit : Nat) : StartKept s (s.exhausted pool unit) := ⟨rfl⟩

theorem untear (s : State) (b n : Nat) : StartKept s (s.untear b n) := by
  have htorn (l : List Torn) : StartKept s { s with torn := l } := ⟨rfl⟩
  exact (htorn _).trans (ite (event ..) (refl _))

theorem remap (s : State) (b n : Nat) : StartKept s (s.remap b n) := by
  have hused (l : Tbl Nat) (w : List (Nat × Nat)) : StartKept s { s with flashUsed := l, weak := w } := ⟨rfl⟩
  exact (hused ..).trans (mapAdd ..)

theorem weaken (s : State) (b n a : Nat) : StartKept s (s.weaken b n a) := by
  have hweak : StartKept s (if s.weak.contains (b, n) then s else { s with weak := s.weak ++ [(b, n)] }) := ite (refl s) ⟨rfl⟩
  exact hweak.trans ((event ..).trans (fault ..))

theorem tear (s : State) (b n : Nat) : StartKept s (s.tear b n) := ite (refl s) ⟨rfl⟩

theorem eraseEnd (s : State) (b n : Nat) (ok : Bool) (pulses : Nat) : StartKept s (s.eraseEnd b n ok pulses) := by
  have hlost (u : State) (l w : List (Nat × Nat)) : StartKept u { u with lostSec := l, weak := w } := ⟨rfl⟩
  have hremap : StartKept s (if s.weak.contains (b, n) ∧ decide (0 < s.spareLeft b) then s.remap b n else s) :=
    ite (remap ..) (refl s)
  unfold State.eraseEnd
  refine hremap.trans (ite ?_ ?_)
  · exact ((forget ..).trans (untear ..)).trans (ite (weaken ..) (refl _))
  · exact (weaken ..).trans (ite ((hlost ..).trans ((untear ..).trans (exhausted ..))) (tear ..))

theorem healOwned (s : State) (b lo hi : Nat) : StartKept s (s.healOwned b lo hi) := foldl (fun _ _ => eraseEnd ..) _ s

theorem stepFlash (s : State) : StartKept s s.stepFlash := by
  have htorn (l : List Torn) : StartKept s { s with torn := l } := ⟨rfl⟩
  have hfaults (u : State) (l : List Torn) :
      StartKept u (l.foldl (fun s x => s.fault Blk.FLC 0 Kind.FLASH_TORN (sectorAddr x.bank x.sector)) u) :=
    foldl (fun _ _ => fault ..) l u
  exact (htorn _).trans ((hfaults ..).trans ((healOwned ..).trans ((healOwned ..).trans ((healOwned ..).trans (healOwned ..)))))

/-! ### Messages taken (R417-R421) -/

theorem auditKick (s : State) : StartKept s s.auditKick := ite (refl s) (ofLeave (.askFlash ..))

theorem mirror (s : State) (r : SRec) : StartKept s (s.mirror r) := by
  have hflush (u : State) : StartKept u u.auditFlush := ite (refl u) ((setSkm ..).trans (auditKick _))
  exact ite (refl s) ((setSkm ..).trans (ite (hflush _) (refl _)))

theorem newRecord (s : State) (m : Msg) : StartKept s (s.newRecord m) := by
  have hclock (n t : Nat) : StartKept s { s with fresh := n, rtc := t } := ⟨rfl⟩
  have hdrop (u : State) : StartKept u u.ringDrop :=
    ite (refl u) ((setSkm ..).trans (ite ((setSkm ..).trans (event ..)) (refl _)))
  have hview (u : State) (r : SRec) (d : Nat) : StartKept u (u.viewAdd r d) := ite (modPort ..) (refl u)
  have hviews (u : State) (r : SRec) : StartKept u ((List.range 4).foldl (fun s d => s.viewAdd r d) u) :=
    foldl (fun _ _ => hview ..) _ u
  exact (hclock ..).trans ((hdrop _).trans ((setSkm ..).trans ((hviews ..).trans (mirror ..))))

theorem openOrJoin (s : State) (m : Msg) (seq : Nat) : StartKept s (s.openOrJoin m seq) := by
  have hopen (u : State) (i : Nat) (f : OpenF) : StartKept u (u.setOpenF i f) := ⟨rfl⟩
  have hnew (u : State) : StartKept u u.newFault := (event ..).trans (ite (setSkm ..) (refl _))
  unfold State.openOrJoin
  refine ite (refl s) ?_
  split
  · exact hopen ..
  · split
    · exact (hopen ..).trans (hnew _)
    · exact ite (refl s) ((setSkm ..).trans (hnew _))

theorem takeMsg (s : State) (m : Msg) (ms : Nat) : StartKept s (s.takeMsg m ms) := by
  have hloss (u : State) : StartKept u (u.lossRecord m) := ite ((setSkm ..).trans (fault ..)) (refl u)
  have hentered : StartKept s (if s.coalesces m ms then
      { s with skm := { s.skm with ring := match s.skm.ring with
        | r :: t => { r with rep := satSucc 0xFFFF r.rep } :: t
        | [] => [] } } else (s.newRecord m).lossRecord m) := ite (setSkm ..) ((newRecord ..).trans (hloss _))
  exact hentered.trans ((openOrJoin ..).trans (setSkm ..))

theorem stepEarly (s : State) : StartKept s s.stepEarly := by
  have hfree (u : State) (m : Msg) : StartKept u (u.withFree (fun ms s => s.takeMsg m ms)) := by
    have hfresh : StartKept u { u with fresh := u.fresh + 1 } := ⟨rfl⟩
    exact hfresh.trans (takeMsg ..)
  have hall (u : State) (l : List Msg) : StartKept u (l.foldl (fun s m => s.withFree (fun ms s => s.takeMsg m ms)) u) :=
    foldl (fun _ _ => hfree ..) l u
  exact (setSkm ..).trans ((hall ..).trans (auditKick _))

theorem stepLimits (s : State) : StartKept s s.stepLimits := by
  refine foldl (fun u d => ?_) _ s
  dsimp only
  exact (setReg ..).trans ((setReg ..).trans ((setReg ..).trans ((setReg ..).trans ((setReg ..).trans
    ((setReg ..).trans (modPort ..))))))

/-! ### The Riser's steps (R425-R428) -/

theorem risMsg (s : State) (kind pool unit n : Nat) : StartKept s (s.risMsg kind pool unit n) := fault ..

theorem bistFail (s : State) (p u : Nat) : StartKept s (s.bistFail p u) :=
  ((risMsg ..).trans (mapAdd ..)).trans (ite (fault ..) (ite ((event ..).trans (fault ..)) (refl _)))

theorem retireAll (s : State) (now : Nat) : StartKept s (s.retireAll now) :=
  foldl (fun _ _ => foldl (fun _ _ => ite (mapAdd ..) (refl _)) _ _) _ s

theorem assignUnits (s : State) (warm : Bool) (bad : List (Nat × Nat)) : StartKept s (s.assignUnits warm bad) := by
  unfold State.assignUnits
  refine (foldl (fun u n => ?_) _ s).trans (foldl (fun u n => ?_) _ _)
  · exact (modLane ..).trans (ite (setHdr ..) (setFence ..))
  · exact (setUnit ..).trans (ite ((setHdr ..).trans (setReg ..)) (setFence ..))

theorem assignSrcs (s : State) : StartKept s s.assignSrcs := by
  unfold State.assignSrcs
  extract_lets u take pass
  have hretired : StartKept s u := foldl (fun _ _ => ite ((setSrc ..).trans (setFence ..)) (refl _)) _ s
  have hpass (v : State) (st : SrcSt) : StartKept v (pass v st) := foldl (fun _ _ => ite (setSrc ..) (refl _)) _ v
  exact hretired.trans ((hpass ..).trans ((hpass ..).trans (hpass ..)))

theorem belowAll (s : State) : StartKept s s.belowAll := foldl (fun _ _ => ite (exhausted ..) (refl _)) _ s

theorem mapKick (s : State) : StartKept s s.mapKick := ofLeave (State.mapKick_leaveOnly s)

/-! ### The RNG, the vault's rebuild, deferred alarms (R224, R154, R403) -/

theorem rngDrain (s : State) : StartKept s s.rngDrain := by
  have hwords {n d : Nat} {k : State → State} {u t : State} (h : (u.hostWords n d).map k = some t) (hk : ∀ v, StartKept v (k v)) :
      StartKept u t := by
    obtain ⟨v, hv, rfl⟩ := Option.map_eq_some_iff.mp h
    simp only [State.hostWords, State.takeWords, Option.ite_none_right_eq_some, Option.ite_none_left_eq_some] at hv
    obtain ⟨-, -, hv⟩ := hv
    exact (Option.some.inj hv ▸ setRng u _).trans (hk v)
  have hgenerate (u : State) (j : Job) : StartKept u (u.generate j) := by
    have hdraw (r : Rng) (n : Nat) : StartKept u { u with rng := r, fresh := n } := ⟨rfl⟩
    exact (hdraw ..).trans (ofEnded (.deliver ..))
  have hseeded (u : State) (d : Nat) : StartKept u (u.seeded d) := setRng ..
  have htry {u t : State} {j : Job} (ht : u.rngTry j = some t) : StartKept u t := by
    unfold State.rngTry at ht
    dsimp only at ht
    split at ht
    · exact Option.some.inj ht ▸ ofEnded (.failJob ..)
    split at ht
    · have hold : StartKept u (if (u.port j.dom).drbg then u.uninstantiate j.dom else u) := ite ⟨rfl⟩ (refl u)
      refine hold.trans (hwords ht fun v => ?_)
      exact (hseeded ..).trans ((modPort ..).trans (ofEnded (.succeed ..)))
    split at ht
    · exact Option.some.inj ht ▸ ofEnded (.failJob ..)
    split at ht
    · exact hwords ht (by exact fun v => (hseeded ..).trans (ofEnded (.succeed ..)))
    split at ht
    · exact hwords ht (by exact fun v => (hseeded ..).trans (hgenerate ..))
    · exact Option.some.inj ht ▸ hgenerate ..
  have hserve (fuel : Nat) (u : State) : StartKept u (u.rngServe fuel) := by
    induction fuel generalizing u with
    | zero => exact refl u
    | succ fuel ih =>
      have hwait (v : State) : StartKept v v.waitEnds := ⟨rfl⟩
      unfold State.rngServe
      split
      · exact refl u
      dsimp only
      split
      · exact (setRng ..).trans (ih _)
      split
      · exact (setRng ..).trans (ih _)
      split
      · exact refl u
      next t ht =>
        have hdrop (r : Rng) : StartKept t { t.waitEnds with rng := r } := ⟨rfl⟩
        exact (htry ht).trans ((hdrop _).trans (ih _))
  exact hserve _ s

theorem stepRng (s : State) (warm : Bool) : StartKept s (s.stepRng warm) := by
  have hports (u : State) : StartKept u ((List.range 4).foldl (fun s p =>
      if warm then s.modPort p (fun k => { k with gen := k.gen + 1 })
      else s.withFree (fun n s => s.modPort p (fun k => { k with gen := w32 n }))) u) :=
    foldl (by exact fun _ _ => ite ⟨rfl⟩ ⟨rfl⟩) _ u
  have hfailed (u : State) : StartKept u u.rngFailed := (setRng ..).trans (rngDrain _)
  exact (ite (refl s) (ite ((event ..).trans (hfailed _)) ((setRng ..).trans (event ..)))).trans (hports _)

theorem flkDeferred (s : State) : StartKept s s.flkDeferred := by
  have hflk (u : State) : StartKept u { u with flk := { u.flk with pend := 0 } } := ⟨rfl⟩
  have hpush (u : State) (e : MirE) : StartKept u (u.mirPush e) := ite ⟨rfl⟩ ⟨rfl⟩
  have htamper (u : State) (i r t : Nat) : StartKept u (u.tamperMsg i r t true) := ⟨rfl⟩
  refine StartKept.trans (foldl (fun u i => ?_) _ s) (hflk _)
  exact (ite (htamper ..) (refl u)).trans (hpush ..)

/-! ### The KEYS step (R239, R254, R264, R265) -/

theorem rangesDefault (s : State) : StartKept s s.rangesDefault := foldl (fun _ _ => setReg ..) _ s

theorem imgKick (s : State) : StartKept s s.imgKick := ite (refl s) (ofLeave (.askFlash ..))

theorem imgAppend (s : State) (n : Nat) (body : ImgBody) (who : ImgWait) : StartKept s (s.imgAppend n body who) :=
  (setKst ..).trans (imgKick _)

theorem imgWipe (s : State) : StartKept s s.imgWipe := (forget ..).trans (setKst ..)

theorem badRecord (s : State) : StartKept s s.badRecord := (setReg ..).trans (faultFree ..)

theorem unsealed (s : State) : StartKept s s.unsealed := (setKst ..).trans (event ..)

theorem pickRecord (s : State) (key : List Byte) (l : List ImgRec) : StartKept s (s.pickRecord key l).1 := by
  induction l with
  | nil => exact refl s
  | cons r l ih =>
    unfold State.pickRecord
    split
    next t x ht => rwa [ht] at ih
    next t ht =>
      rw [ht] at ih
      split
      · exact ih
      · exact ih.trans (badRecord _)

theorem loadSlot (s : State) (key : List Byte) (n : Nat) : StartKept s (s.loadSlot key n) := by
  unfold State.loadSlot
  dsimp only
  have hpick := pickRecord s key (s.kst.log.filter (fun r => r.slot == n && (r.body.code == 2 || r.body.code == 3)))
  split
  next t ht => rwa [ht] at hpick
  next t r ht =>
    rw [ht] at hpick
    split
    · exact hpick.trans ((setSlot ..).trans (imgAppend ..))
    · exact hpick

theorem loadRanges (s : State) (l : List Nat) :
    StartKept s ((List.range 4).foldl (fun (s : State) d => s.setReg (R.KST_DOM_SL + 4 * d) (w32 (l.getD d 0))) s) :=
  foldl (fun _ _ => setReg ..) _ s

theorem loadOthers (s : State) (key : List Byte) : StartKept s (s.loadOthers key) := by
  unfold State.loadOthers
  extract_lets u
  have hranges : StartKept s u := by
    have hpick := pickRecord s key (s.kst.log.filter (fun r => r.body.code == 5))
    simp only [u]
    split
    next t r ht =>
      rw [ht] at hpick
      split
      · exact hpick.trans (loadRanges ..)
      · exact hpick
    next t ht =>
      rw [ht] at hpick
      exact hpick.trans (rangesDefault _)
  refine hranges.trans ?_
  split
  · split
    · exact setKst ..
    · exact refl _
  · exact refl _

theorem loadIdKey (s : State) : StartKept s s.loadIdKey := ite (refl s) ⟨rfl⟩

theorem drawEph (s : State) : StartKept s s.drawEph := ⟨rfl⟩

theorem tryResolve (s : State) : StartKept s s.tryResolve := by
  have hcrd (b : Bool) : StartKept s { s with crd := { s.crd with resolving := b } } := ⟨rfl⟩
  have hwake (u : State) : StartKept u u.cardWake.1 := by
    unfold State.cardWake
    split
    · exact refl u
    · exact ofLeave (.askLeave ..)
  exact ite (refl s) ((hcrd _).trans (hwake _))

theorem commitWrite (s : State) (recs : List (Nat × List Byte)) : StartKept s (s.commitWrite recs) := by
  have hput (u : State) (x : Nat × List Byte) (n a : Nat) :
      StartKept u (((if u.weak.contains (4, n) ∧ 0 < u.spareLeft 4 then u.remap 4 n else u).setBytes a x.2).untear 4 n) :=
    (ite (remap ..) (refl u)).trans ((setBytes ..).trans (untear ..))
  have hmark (u : State) : StartKept u u.markNext.1 := by
    unfold State.markNext
    split
    · exact refl u
    · dsimp only
      exact ite (refl u) ((forget ..).trans (untear ..))
  unfold State.commitWrite
  extract_lets put u map
  have hall : StartKept s u := foldl (fun _ _ => hput ..) _ s
  exact hall.trans ((hmark u).trans ((setBytes ..).trans (setTag ..)))

/-! ### Links, clocks and the end (R64, R437, R456) -/

theorem stepLinks (s : State) : StartKept s s.stepLinks := foldl (fun _ _ => modPort ..) _ s

theorem stepClocks (s : State) (xtal : Bool) : StartKept s (s.stepClocks xtal) := by
  have hclk (u : State) (j x : Bool) (d : Tbl PDom) : StartKept u { u with clk := { u.clk with judged := j, refX := x, doms := d } } :=
    ⟨rfl⟩
  have hdom (u : State) (d : PDom) : StartKept u (u.setPdom 1 d) := ⟨rfl⟩
  exact (ite (event ..) (refl s)).trans ((hclk ..).trans ((ite (event ..) (refl _)).trans (ite (hdom ..) (refl _))))

theorem stepDone (s : State) (warm : Bool) : StartKept s (s.stepDone warm) := by
  have hsys (u : State) : StartKept u { u with sys := { u.sys with start := none } } := ⟨rfl⟩
  have hdone (u : State) : StartKept u u.smsDone := ite ⟨rfl⟩ (refl u)
  exact (ite (setReg ..) (refl s)).trans ((setReg ..).trans ((hsys _).trans (hdone _)))

end StartKept
end Sys2Proof.Machine
end

section
/-! SUPPORT. The steps of a Start as a whole (R456, R457): what has been evaluated and rebuilt stays so, and a Lockdown that is
entered on the way is the last mode. -/

namespace Sys2Proof.Machine

/-- From `s` to `t` steps of a Start have been carried out, which may enter Lockdown but not leave it. -/
structure StartRuns (s t : State) : Prop where
  waiting : t.clk.waiting = s.clk.waiting
  evalDone : s.ris.evalDone → t.ris.evalDone
  ready : s.vault.ready → t.vault.ready
  life : s.flk.decom = false → t.life = s.life ∧ t.flk.decom = false
  locked : s.mode = .lockdown → t.mode = .lockdown ∧ t.sys.reason = s.sys.reason

namespace StartKept

variable {s t : State} (h : StartKept s t)
include h

theorem life : t.life = s.life := congrArg StartView.life h.view
theorem decom : t.flk.decom = s.flk.decom := congrArg StartView.decom h.view
theorem mode : t.mode = s.mode := congrArg StartView.mode h.view
theorem reason : t.sys.reason = s.sys.reason := congrArg StartView.reason h.view
theorem waiting : t.clk.waiting = s.clk.waiting := congrArg StartView.waiting h.view
theorem evalDone : t.ris.evalDone = s.ris.evalDone := congrArg StartView.evalDone h.view
theorem ready : t.vault.ready = s.vault.ready := congrArg StartView.ready h.view

end StartKept

namespace StartRuns

variable {s t u : State}

theorem ofKept (h : StartKept s t) : StartRuns s t :=
  ⟨h.waiting, fun he => h.evalDone.trans he, fun hr => h.ready.trans hr, fun hd => ⟨h.life, h.decom.trans hd⟩,
    fun hm => ⟨h.mode.trans hm, h.reason⟩⟩

theorem refl (s : State) : StartRuns s s := ofKept (.refl s)

theorem trans (h : StartRuns s t) (g : StartRuns t u) : StartRuns s u where
  waiting := g.waiting.trans h.waiting
  evalDone := g.evalDone ∘ h.evalDone
  ready := g.ready ∘ h.ready
  life hd := ⟨(g.life (h.life hd).2).1.trans (h.life hd).1, (g.life (h.life hd).2).2⟩
  locked hm := ⟨(g.locked (h.locked hm).1).1, (g.locked (h.locked hm).1).2.trans (h.locked hm).2⟩

theorem ite {c : Prop} [Decidable c] (ht : StartRuns s t) (hu : StartRuns s u) : StartRuns s (if c then t else u) := by
  split
  · exact ht
  · exact hu

theorem foldl {α : Type} {f : State → α → State} (hf : ∀ s a, StartRuns s (f s a)) (l : List α) (s : State) :
    StartRuns s (l.foldl f s) := by
  induction l generalizing s with
  | nil => exact refl s
  | cons a l ih => exact (hf s a).trans (ih _)

/-- A quench erases secrets, and nothing a Start relies on. -/
theorem quench (s : State) (kbb : Bool) : StartKept s (s.quench kbb) := by
  obtain ⟨u, hu, hq⟩ := s.quench_cut kbb
  have herased : StartKept u (u.quenched kbb) := ⟨rfl⟩
  exact (StartKept.ofCut hu).trans (herased.trans (.ofCut hq))

theorem lockdown (s : State) (reason : Nat) (kbb : Bool) : StartRuns s (s.lockdown reason kbb) := by
  rcases Decidable.em (s.mode = .lockdown) with hmode | hmode
  · rw [State.lockdown, if_pos hmode]
    exact refl s
  rcases Bool.eq_false_or_eq_true s.clk.waiting with hwait | hrun
  · have hq := quench s kbb
    rw [State.lockdown, if_neg hmode, if_pos hwait]
    exact ⟨hq.waiting, fun he => hq.evalDone.trans he, fun hr => hq.ready.trans hr, fun hd => ⟨hq.life, hq.decom.trans hd⟩,
      fun h => absurd h hmode⟩
  · obtain ⟨u, hu, hl, -⟩ := State.lockdown_cut reason kbb hmode hrun
    have h1 := StartKept.ofCut hu
    have h2 := StartKept.ofCut hl
    exact ⟨h2.waiting.trans h1.waiting, fun he => h2.evalDone.trans (h1.evalDone.trans he),
      fun hr => h2.ready.trans (h1.ready.trans hr), fun hd => ⟨h2.life.trans h1.life, h2.decom.trans (h1.decom.trans hd)⟩,
      fun h => absurd h hmode⟩

/-- Lockdown entered for a reason, with no clock waited for. -/
theorem lockdown_mode {s : State} (reason : Nat) (kbb : Bool) (hrun : s.clk.waiting = false) :
    (s.lockdown reason kbb).mode = .lockdown ∧ (s.mode ≠ .lockdown → (s.lockdown reason kbb).sys.reason = reason) := by
  rcases Decidable.em (s.mode = .lockdown) with hmode | hmode
  · rw [State.lockdown, if_pos hmode]
    exact ⟨hmode, fun h => absurd hmode h⟩
  · obtain ⟨u, -, hl, -⟩ := State.lockdown_cut reason kbb hmode hrun
    exact ⟨hl.mode, fun _ => congrArg Sys.reason hl.sys⟩

/-! ### The steps that may enter Lockdown -/

theorem rowFail (s : State) (m row : Nat) : StartRuns s (s.rowFail m row).1 := by
  have hbad (u : State) : StartKept u { u with sramBad := u.sramBad ++ [m] } := ⟨rfl⟩
  have hout := StartKept.exhausted s 13 m
  unfold State.rowFail
  dsimp only
  split
  · exact ofKept (.mapAdd ..)
  split
  · exact ofKept (hout.trans (hbad _))
  · split
    · exact ofKept hout
    · exact (ofKept hout).trans (lockdown ..)

theorem setPairs (s : State) (l : List Nat) : StartKept s ((List.range 3).foldl (fun s p =>
    s.setPair p { fenced := !l.contains p, role := if l[0]? = some p then 1 else if l[1]? = some p then 2 else 0 }) s) :=
  .foldl (fun _ _ => .setPair ..) _ s

theorem assignRoles (s : State) (warm : Bool) (bad : List (Nat × Nat)) : StartRuns s (s.assignRoles warm bad) := by
  unfold State.assignRoles
  extract_lets l u
  have hu : StartKept s u := setPairs s l
  clear_value u l
  refine (ofKept hu).trans ?_
  cases l with
  | nil => exact lockdown ..
  | cons p l => exact ofKept ⟨rfl⟩

theorem unsealImage (s : State) : StartRuns s s.unsealImage := by
  have hlock (u : State) : StartRuns u (u.rangesDefault.lockdown 4 false) := (ofKept (.rangesDefault _)).trans (lockdown ..)
  have hslots (u : State) (key : List Byte) (l : List Nat) : StartKept u (l.foldl (fun s n => s.loadSlot key n) u) :=
    .foldl (fun _ _ => .loadSlot ..) l u
  unfold State.unsealImage
  refine (ofKept (.healOwned s 3 0 1024)).trans ?_
  dsimp only
  split
  · exact hlock _
  split
  · split
    · exact hlock _
    · exact ofKept ((StartKept.setKst ..).trans ((StartKept.loadOthers ..).trans ((hslots ..).trans (.unsealed _))))
  · exact ofKept ((StartKept.setKst ..).trans ((StartKept.imgAppend ..).trans ((StartKept.loadOthers ..).trans (.unsealed _))))

theorem restoreLoad (s : State) (recs : List (List Byte)) : StartRuns s (s.restoreLoad recs) := by
  unfold State.restoreLoad
  split
  · exact lockdown ..
  · extract_lets u ukst v w one x y ykst
    have hone (a : State) (r : List Byte) : StartKept a (one a r) := by
      simp only [one]
      split
      · exact (StartKept.setSlot ..).trans (.imgAppend ..)
      · exact (StartKept.loadRanges ..).trans (.imgAppend ..)
      · exact .badRecord a
    have hv : StartKept u v := .setKst ..
    have hw : StartKept v w := .imgAppend ..
    have hx : StartKept w x := .foldl hone recs w
    have hy : StartKept x y := .imgAppend ..
    exact ofKept ((StartKept.imgWipe s).trans (hv.trans (hw.trans (hx.trans (hy.trans ((StartKept.setKst ..).trans (.unsealed _)))))))

theorem wiped (s : State) (a : Nat) (l : List Byte) (recs : List (Nat × List Byte)) :
    StartKept s (((s.imgWipe.setBytes a l).raiseWord 3).commitWrite recs) :=
  (StartKept.imgWipe s).trans ((StartKept.setBytes ..).trans ((StartKept.setBytes ..).trans (.commitWrite ..)))

theorem decommissioned {s t : State} (hdecom : s.flk.decom = true) (h : StartKept s t) : StartRuns s { t with
    life := .decommissioned, flk := { t.flk with decom := false }, tag := { t.tag with ctr := none } } :=
  ⟨h.waiting, fun he => h.evalDone.trans he, fun hr => h.ready.trans hr,
    fun hd => absurd (hdecom.symm.trans hd) (by decide), fun hm => ⟨h.mode.trans hm, h.reason⟩⟩

theorem decommission {s : State} (hdecom : s.flk.decom = true) : StartRuns s s.decommission :=
  decommissioned hdecom (wiped ..)

theorem stepKeys (s : State) (warm : Bool) (recs : List (List Byte)) : StartRuns s (s.stepKeys warm recs) := by
  have hfirst : StartRuns s (if s.flk.decom then (if warm then s else s.rangesDefault).decommission else s) := by
    have hranges : StartKept s (if warm then s else s.rangesDefault) := .ite (.refl s) (.rangesDefault s)
    generalize (if warm then s else s.rangesDefault) = u at hranges ⊢
    rcases Bool.eq_false_or_eq_true s.flk.decom with hdecom | hdecom
    · rw [if_pos hdecom]
      exact (ofKept hranges).trans (decommission (hranges.decom.trans hdecom))
    · rw [if_neg (by rw [hdecom]; decide)]
      exact refl s
  unfold State.stepKeys
  dsimp only
  refine hfirst.trans ((ite (ite (refl _) (ofKept (.rangesDefault _))) (ite (ite (restoreLoad ..) (ofKept (.imgKick _)))
    (ite ((unsealImage _).trans (ofKept (.loadIdKey _))) ?_))).trans (ofKept (.tryResolve _)))
  exact ofKept ((StartKept.rangesDefault _).trans ((StartKept.drawEph _).trans (.loadIdKey _)))

/-- The vault is ready once its table is rebuilt (R154). -/
theorem stepVault (s : State) (warm : Bool) : StartRuns s (s.stepVault warm) ∧ (s.stepVault warm).vault.ready := by
  have hbinds (u : State) : StartKept u ((List.range 4).foldl (fun s d =>
      (s.setReg (R.CTX_DOM_VB + d * 0x10) (w32 (s.bind d).vbase)).setReg (R.CTX_DOM_VC + d * 0x10) (w32 (s.bind d).vcnt)) u) :=
    .foldl (fun _ _ => (StartKept.setReg ..).trans (.setReg ..)) _ u
  have hready (u : State) (x : Tbl VSlot) (c : Bool) :
      StartRuns u { u with vslots := x, vault := { u.vault with ready := true, lastClean := c } } :=
    ⟨rfl, id, fun _ => rfl, fun hd => ⟨rfl, hd⟩, fun hm => ⟨hm, rfl⟩⟩
  have hheal := ofKept (StartKept.healOwned s 2 0 2048)
  unfold State.stepVault
  extract_lets u clean uvault v
  have hv : StartRuns u v := hready ..
  have hvready : v.vault.ready = true := rfl
  clear_value v
  exact ⟨hheal.trans (hv.trans (ofKept (hbinds v))), (hbinds v).ready.trans hvready⟩

/-! ### The Riser's evaluation -/

theorem rows (s : State) (l : List (Nat × Nat)) (own : List (Nat × Nat)) :
    StartRuns s (l.foldl (fun (x : State × List (Nat × Nat)) r =>
      let (t, o) := x.1.rowFail r.1 r.2
      (t, match o with
        | some u => u :: x.2
        | none => x.2)) (s, own)).1 :=
  List.foldlRecOn (motive := fun x : State × List (Nat × Nat) => StartRuns s x.1) l _ (refl s)
    fun _ hx _ _ => hx.trans (rowFail ..)

/-- A Lockdown entered with no clock waited for, for reason 2 alone. -/
theorem lockdown_two {s : State} (hrun : s.clk.waiting = false) (htwo : s.mode = .lockdown → s.sys.reason = 2) :
    (s.lockdown 2 false).mode = .lockdown ∧ (s.lockdown 2 false).sys.reason = 2 := by
  obtain ⟨hmode, hreason⟩ := lockdown_mode (s := s) 2 false hrun
  refine ⟨hmode, ?_⟩
  rcases Decidable.em (s.mode = .lockdown) with h | h
  · exact ((lockdown s 2 false).locked h).2.trans (htwo h)
  · exact hreason h

theorem rowFail_two {s : State} (hrun : s.clk.waiting = false) (htwo : s.mode = .lockdown → s.sys.reason = 2) (m row : Nat) :
    (s.rowFail m row).1.mode = .lockdown → (s.rowFail m row).1.sys.reason = 2 := by
  have hkept {t : State} (h : StartKept s t) : t.mode = .lockdown → t.sys.reason = 2 := fun hm =>
    h.reason.trans (htwo (h.mode.symm.trans hm))
  have hout := StartKept.exhausted s 13 m
  unfold State.rowFail
  dsimp only
  split
  · exact hkept (.mapAdd ..)
  split
  · exact hkept (hout.trans ⟨rfl⟩)
  · split
    · exact hkept hout
    · exact fun _ => (lockdown_two (hout.waiting.trans hrun) (hkept hout)).2

theorem rows_two {s : State} (hrun : s.clk.waiting = false) (htwo : s.mode = .lockdown → s.sys.reason = 2)
    (l own : List (Nat × Nat)) {t : State} {out : List (Nat × Nat)}
    (ht : l.foldl (fun (x : State × List (Nat × Nat)) r =>
      let (t, o) := x.1.rowFail r.1 r.2
      (t, match o with
        | some u => u :: x.2
        | none => x.2)) (s, own) = (t, out)) : t.mode = .lockdown → t.sys.reason = 2 := by
  have hall := List.foldlRecOn (motive := fun x : State × List (Nat × Nat) =>
      x.1.clk.waiting = false ∧ (x.1.mode = .lockdown → x.1.sys.reason = 2)) l
    (fun (x : State × List (Nat × Nat)) r =>
      let (t, o) := x.1.rowFail r.1 r.2
      (t, match o with
        | some u => u :: x.2
        | none => x.2)) (b := (s, own)) ⟨hrun, htwo⟩
    fun x hx r _ => ⟨(rowFail x.1 r.1 r.2).waiting.trans hx.1, rowFail_two hx.1 hx.2 r.1 r.2⟩
  rw [ht] at hall
  exact hall.2

end StartRuns

namespace State

/-! ### Units retired stay retired (R426) -/

/-- No entry of the field map is lost from `s` to `t`. -/
structure MapGrows (s t : State) : Prop where
  ents : s.ris.ents <+: t.ris.ents

namespace MapGrows

variable {s t u : State}

theorem same (h : t.ris = s.ris) : MapGrows s t := ⟨h ▸ List.prefix_refl _⟩

theorem refl (s : State) : MapGrows s s := same rfl

theorem trans (h : MapGrows s t) (g : MapGrows t u) : MapGrows s u := ⟨h.ents.trans g.ents⟩

theorem ite {c : Prop} [Decidable c] (ht : MapGrows s t) (hu : MapGrows s u) : MapGrows s (if c then t else u) := by
  split
  · exact ht
  · exact hu

theorem foldl {α : Type} {f : State → α → State} (hf : ∀ s a, MapGrows s (f s a)) (l : List α) (s : State) :
    MapGrows s (l.foldl f s) := by
  induction l generalizing s with
  | nil => exact refl s
  | cons a l ih => exact (hf s a).trans (ih _)

theorem mapAdd (s : State) (typ pool unit spare kind : Nat) : MapGrows s (s.mapAdd typ pool unit spare kind) := by
  have hadd (n t : Nat) (e : MapEnt) :
      MapGrows s { s with fresh := n, rtc := t, ris := { s.ris with ents := s.ris.ents ++ [e] } } := ⟨List.prefix_append _ _⟩
  exact (hadd ..).trans (same (mapKick_leaveOnly _).ris)

theorem bistFail (s : State) (p u : Nat) : MapGrows s (s.bistFail p u) := by
  have hmsg : MapGrows s (s.risMsg Kind.BIST_FAIL p u 0) := same rfl
  have hfault (v : State) (b i k a : Nat) : MapGrows v (v.fault b i k a) := same rfl
  have hevent (v : State) (b i n : Nat) : MapGrows v (v.event b i n) := same rfl
  exact (hmsg.trans (mapAdd ..)).trans (ite (hfault ..) (ite ((hevent ..).trans (hfault ..)) (refl _)))

theorem retireAll (s : State) (now : Nat) : MapGrows s (s.retireAll now) :=
  foldl (fun _ _ => foldl (fun _ _ => ite (mapAdd ..) (refl _)) _ _) _ s

theorem assignUnits (s : State) (warm : Bool) (bad : List (Nat × Nat)) : MapGrows s (s.assignUnits warm bad) := by
  have hfence (u : State) (b i n : Nat) : MapGrows u (u.setFence b i n) := ite (refl u) (same rfl)
  have hlane (u : State) (n : Nat) (f : Lane → Lane) : MapGrows u (u.modLane n f) := same rfl
  have hunit (u : State) (n : Nat) (k : CUnit) : MapGrows u (u.setUnit n k) := same rfl
  unfold State.assignUnits
  refine (foldl (fun u n => ?_) _ s).trans (foldl (fun u n => ?_) _ _)
  · exact (hlane ..).trans (ite (same rfl) (hfence ..))
  · exact (hunit ..).trans (ite (same rfl) (hfence ..))

theorem retired (h : MapGrows s t) {p n : Nat} (hr : s.retired p n = true) : t.retired p n = true := by
  unfold State.retired at hr ⊢
  obtain ⟨e, he, heq⟩ := List.any_eq_true.mp hr
  exact List.any_eq_true.mpr ⟨e, h.ents.subset he, heq⟩

end MapGrows

/-- With every pair retired or bad there is no pair for a role, and Lockdown is entered (R275). -/
theorem assignRoles_none {s : State} {bad : List (Nat × Nat)} (hout : ∀ u < 3, s.retired 2 u = true ∨ (2, u) ∈ bad)
    (hrun : s.clk.waiting = false) (htwo : s.mode = .lockdown → s.sys.reason = 2) :
    (s.assignRoles false bad).mode = .lockdown ∧ (s.assignRoles false bad).sys.reason = 2 := by
  have hnone : (List.range 3).filter (s.startOk false bad 2) = [] := by
    refine List.filter_eq_nil_iff.mpr fun u hu => ?_
    rcases hout u (List.mem_range.mp hu) with h | h
    · simp [startOk, h]
    · simp [startOk, h]
  have hpairs := StartRuns.setPairs s []
  unfold assignRoles
  rw [hnone]
  exact StartRuns.lockdown_two (hpairs.waiting.trans hrun) fun hm => hpairs.reason.trans (htwo (hpairs.mode.symm.trans hm))

/-- The Riser's evaluation ends with roles and serving units given; without a pair that can take a role, in Lockdown 2
(R275, R425-R428). -/
theorem stepRepair_outcome (s : State) (warm : Bool) (bad rows : List (Nat × Nat)) :
    StartRuns s (s.stepRepair warm bad rows) ∧ (s.stepRepair warm bad rows).ris.evalDone ∧
    (warm = false → s.mode ≠ .lockdown → s.clk.waiting = false → (∀ u < 3, (2, u) ∈ bad) →
      (s.stepRepair warm bad rows).mode = .lockdown ∧ (s.stepRepair warm bad rows).sys.reason = 2) := by
  unfold stepRepair
  extract_lets ris s1 rows
  have h1 : StartKept s s1 := ⟨rfl⟩
  clear_value s1
  have hrows := StartRuns.rows s1 rows []
  have htwo (hmode : s1.mode ≠ .lockdown) (hrun : s1.clk.waiting = false) := @StartRuns.rows_two s1 hrun (fun h => absurd h hmode) rows []
  generalize List.foldl _ (s1, []) rows = x at hrows htwo ⊢
  obtain ⟨s2, own⟩ := x
  dsimp only at hrows ⊢
  generalize htested : bad.filter (fun x => decide (x.1 < 3) && decide (x.2 < poolUnits x.1) && !s2.retired x.1 x.2 &&
    (!warm || s2.unitFenced x.1 x.2)) = tested
  have hbist : StartKept s2 (tested.foldl (fun s x => s.bistFail x.1 x.2) s2) := .foldl (fun _ _ => .bistFail ..) tested s2
  have hmap : MapGrows s2 (tested.foldl (fun s x => s.bistFail x.1 x.2) s2) := .foldl (fun _ _ => .bistFail ..) tested s2
  generalize tested.foldl (fun s x => s.bistFail x.1 x.2) s2 = s3 at hbist hmap ⊢
  obtain ⟨now, f, hnow⟩ : ∃ now f, ∀ k, s3.rtcNow k = k now { s3 with fresh := f, rtc := now } := ⟨_, _, fun _ => rfl⟩
  rw [hnow]
  generalize hs4 : ({ s3 with fresh := f, rtc := now } : State) = s4
  have h4 : StartKept s3 s4 := hs4 ▸ ⟨rfl⟩
  have hmap4 : MapGrows s3 s4 := .same (hs4 ▸ rfl)
  have h5 : StartKept s4 ((s4.retireAll now).assignUnits warm (tested ++ own)) := (StartKept.retireAll ..).trans (.assignUnits ..)
  have hmap5 : MapGrows s4 ((s4.retireAll now).assignUnits warm (tested ++ own)) := (MapGrows.retireAll ..).trans (.assignUnits ..)
  generalize (s4.retireAll now).assignUnits warm (tested ++ own) = s5 at h5 hmap5 ⊢
  have h6 := StartRuns.assignRoles s5 warm (tested ++ own)
  have hnone (hwarm : warm = false) (hout : ∀ u < 3, s5.retired 2 u = true ∨ (2, u) ∈ tested ++ own)
      (hrun : s5.clk.waiting = false) (htwo : s5.mode = .lockdown → s5.sys.reason = 2) :
      (s5.assignRoles warm (tested ++ own)).mode = .lockdown ∧ (s5.assignRoles warm (tested ++ own)).sys.reason = 2 := by
    rw [hwarm]
    exact assignRoles_none hout hrun htwo
  generalize s5.assignRoles warm (tested ++ own) = s6 at h6 hnone ⊢
  have h7 : StartKept s6 s6.assignSrcs.belowAll := (StartKept.assignSrcs _).trans (.belowAll _)
  generalize s6.assignSrcs.belowAll = s7 at h7 ⊢
  have hdone : StartRuns s7 { s7 with ris := { s7.ris with evalDone := true } } :=
    ⟨rfl, fun _ => rfl, id, fun hd => ⟨rfl, hd⟩, fun hm => ⟨hm, rfl⟩⟩
  have h8 := StartKept.mapKick { s7 with ris := { s7.ris with evalDone := true } }
  have hbefore : StartRuns s1 s5 := hrows.trans (.ofKept (hbist.trans (h4.trans h5)))
  have hafter : StartRuns s6 ({ s7 with ris := { s7.ris with evalDone := true } } : State).mapKick :=
    (StartRuns.ofKept h7).trans (hdone.trans (.ofKept h8))
  refine ⟨(StartRuns.ofKept h1).trans (hbefore.trans (h6.trans hafter)), h8.evalDone.trans rfl, fun hwarm hmode hrun hbad => ?_⟩
  have hkept : StartKept s2 s5 := hbist.trans (h4.trans h5)
  have hgrows : MapGrows s2 s5 := hmap.trans (hmap4.trans hmap5)
  have hs1run : s1.clk.waiting = false := h1.waiting.trans hrun
  have hout : ∀ u < 3, s5.retired 2 u = true ∨ (2, u) ∈ tested ++ own := by
    intro u hu
    rcases Bool.eq_false_or_eq_true (s2.retired 2 u) with hr | hr
    · exact .inl (hgrows.retired hr)
    · refine .inr (List.mem_append_left _ (htested ▸ List.mem_filter.mpr ⟨hbad u hu, ?_⟩))
      simp [hr, hwarm, poolUnits, hu]
  obtain ⟨hlock, htwo6⟩ := hnone hwarm hout (hbefore.waiting.trans hs1run) fun hm =>
    hkept.reason.trans (htwo (fun h => hmode (h1.mode.symm.trans h)) hs1run rfl (hkept.mode.symm.trans hm))
  obtain ⟨hend, hreason⟩ := hafter.locked hlock
  exact ⟨hend, hreason.trans htwo6⟩

/-! ### The Start as a whole -/

/-- The OTP step reads the lifecycle (R462). -/
theorem stepOtp_outcome (s : State) : s.stepOtp.startView = { s.startView with life := lifeOf s.lifeCount } := by
  have hraise : StartKept s ((List.range s.lifeCount).foldl raiseWord s) := .foldl (fun _ _ => .setBytes ..) _ s
  unfold stepOtp
  extract_lets n u dbg skm v
  have hv : v.startView = { u.startView with life := lifeOf n } := rfl
  have hu : u.startView = s.startView := hraise.view
  clear_value v u
  exact ((StartKept.setBytes v _ _).view.trans hv).trans (by rw [hu])

/-- The last step leaves no Start to carry out, and every milestone but XTAL reached (R456). -/
theorem stepDone_outcome (s : State) (warm : Bool) : (s.stepDone warm).sys.start = none ∧
    (s.stepDone warm).reg R.SYS_SMS &&& 0x3EF = 0x3EF := by
  unfold stepDone
  extract_lets u v
  have hv : v.reg R.SYS_SMS = 0x3EF ∨ v.reg R.SYS_SMS = 0x3FF := by
    simp only [v, reg_setReg]
    split
    · exact .inr rfl
    · exact .inl rfl
  clear_value v
  generalize hw : ({ v with sys := { v.sys with start := none } } : State) = w
  have hstart : w.sys.start = none := hw ▸ rfl
  have hreg : w.reg R.SYS_SMS = 0x3EF ∨ w.reg R.SYS_SMS = 0x3FF := hw ▸ hv
  unfold smsDone
  split
  · refine ⟨hstart, ?_⟩
    have hsms : (((w.setReg R.SYS_SMS 0x83FF).withFree (fun n s => s.setReg R.SYS_STIME (w32 n))).event Blk.SYS 0 3).reg
        R.SYS_SMS = 0x83FF :=
      (reg_setReg_ne _ (w32 _) (by decide)).trans (reg_setReg w R.SYS_SMS 0x83FF)
    rw [hsms]
    decide
  · refine ⟨hstart, ?_⟩
    rcases hreg with h | h
    · rw [h]; decide
    · rw [h]; decide

/-- The steps of a Start, carried out (R456, R457). -/
theorem runStart_outcome (s : State) (r : StartReq) (xtal : Bool) (bad rows : List (Nat × Nat)) (recs : List (List Byte)) :
    ((s.runStart r xtal bad rows recs).sys.start = none ∧ (s.runStart r xtal bad rows recs).ris.evalDone ∧
      (s.runStart r xtal bad rows recs).vault.ready ∧
      (s.flk.decom = false → (s.runStart r xtal bad rows recs).life = lifeOf s.lifeCount) ∧
      (s.runStart r xtal bad rows recs).reg R.SYS_SMS &&& 0x3EF = 0x3EF) ∧
    (r.warm = false → s.mode ≠ .lockdown → s.clk.waiting = false → (∀ u < 3, (2, u) ∈ bad) →
      (s.runStart r xtal bad rows recs).mode = .lockdown ∧ (s.runStart r xtal bad rows recs).sys.reason = 2) := by
  unfold runStart
  extract_lets s1 s2 s3 s4 s5 flk s6 s7
  have h0 := s.stepOtp_outcome
  have h1 : StartKept s.stepOtp s1 := .stepFlash _
  have h2 : StartKept s1 s2 := .ite (.auditKick _) (.stepEarly _)
  have h3 : StartKept s2 s3 := .stepLimits _
  have hpre := h1.trans (h2.trans h3)
  clear_value s3
  obtain ⟨h4, heval, hnone⟩ := s3.stepRepair_outcome r.warm bad rows
  have h5 := StartKept.stepRng (s3.stepRepair r.warm bad rows) r.warm
  obtain ⟨h6, hready⟩ := StartRuns.stepVault ((s3.stepRepair r.warm bad rows).stepRng r.warm) r.warm
  have h7 : StartRuns s4 s5 := .ofKept (.flkDeferred s4)
  have h8 : StartRuns s5 s6 := by
    have hpend : StartKept s5 { s5 with flk := { s5.flk with pendLock := false } } := ⟨rfl⟩
    exact .ite ((StartRuns.ofKept hpend).trans (.lockdown ..)) (.refl _)
  have h9 : StartRuns s6 s7 := .ite (.lockdown ..) (.refl _)
  have h10 : StartRuns s7 (((s7.stepKeys r.warm recs).stepLinks).stepClocks xtal) :=
    (StartRuns.stepKeys ..).trans ((StartRuns.ofKept (.stepLinks _)).trans (.ofKept (.stepClocks ..)))
  have h11 := h10.trans (.ofKept (.stepDone _ r.warm))
  obtain ⟨hstart, hsms⟩ := (((s7.stepKeys r.warm recs).stepLinks).stepClocks xtal).stepDone_outcome r.warm
  have hlate : StartRuns s4 _ := h7.trans (h8.trans (h9.trans h11))
  have hrebuilt : StartRuns (s3.stepRepair r.warm bad rows) s4 := (StartRuns.ofKept h5).trans h6
  have hview : s3.startView = { s.startView with life := lifeOf s.lifeCount } := hpre.view.trans h0
  refine ⟨⟨hstart, hlate.evalDone (hrebuilt.evalDone heval), hlate.ready hready, fun hd => ?_, hsms⟩,
    fun hwarm hmode hrun hbad => ?_⟩
  · have hd3 : s3.flk.decom = false := (congrArg StartView.decom hview).trans hd
    exact ((h4.trans (hrebuilt.trans hlate)).life hd3).1.trans (congrArg StartView.life hview)
  · obtain ⟨hlock, hreason⟩ := hnone hwarm (fun h => hmode ((congrArg StartView.mode hview).symm.trans h))
      ((congrArg StartView.waiting hview).trans hrun) hbad
    obtain ⟨hlock', hreason'⟩ := (hrebuilt.trans hlate).locked hlock
    exact ⟨hlock', hreason'.trans hreason⟩

end State
end Sys2Proof.Machine
end

section
/-! SUPPORT. Loss of main power, the entry of Hold and the release of the SERVICE pair (R449, R454, R271). -/

namespace Sys2Proof.Machine

/-- With no flash operation under way, from `s` to `t` memory is as it was and none has begun. -/
structure BanksIdle (s t : State) : Prop where
  idle : s.flashOn = [] → t.flashOn = [] ∧ t.mem = s.mem

namespace BanksIdle

variable {s t u : State}

theorem same (hon : t.flashOn = s.flashOn) (hmem : t.mem = s.mem) : BanksIdle s t := ⟨fun h => ⟨hon.trans h, hmem⟩⟩

theorem refl (s : State) : BanksIdle s s := same rfl rfl

theorem trans (h : BanksIdle s t) (g : BanksIdle t u) : BanksIdle s u := by
  refine ⟨fun hs => ?_⟩
  obtain ⟨ht, hmem⟩ := h.idle hs
  obtain ⟨hu, hmem'⟩ := g.idle ht
  exact ⟨hu, hmem'.trans hmem⟩

theorem ite {c : Prop} [Decidable c] (ht : BanksIdle s t) (hu : BanksIdle s u) : BanksIdle s (if c then t else u) := by
  split
  · exact ht
  · exact hu

theorem foldl {α : Type} {f : State → α → State} (hf : ∀ s a, BanksIdle s (f s a)) (l : List α) (s : State) :
    BanksIdle s (l.foldl f s) := by
  induction l generalizing s with
  | nil => exact refl s
  | cons a l ih => exact (hf s a).trans (ih _)

/-- A bank that nothing holds takes nothing when leave is returned. -/
theorem releaseLeave (s : State) (what : Purpose) : BanksIdle s (s.releaseLeave what) := by
  refine ⟨fun h => ⟨?_, (LeaveOnly.releaseLeave s what).mem⟩⟩
  simp [State.releaseLeave, h]

theorem ccDeact (s : State) (i : Nat) : BanksIdle s (s.ccDeact i) := by
  have hslot (c : CSlot) : BanksIdle s (s.setCslot i c) := same rfl rfl
  exact (hslot _).trans (releaseLeave ..)

theorem cerFail (s : State) (fail : Nat) : BanksIdle s (s.cerFail fail) := by
  have hcer (c : Cer) : BanksIdle s { s with kst := { s.kst with cer := c } } := same rfl rfl
  have hevent (u : State) : BanksIdle u ((u.event Blk.KST 0 4).faultFree Blk.KST 0 Kind.CEREMONY) := same rfl rfl
  have hinj (u : State) : BanksIdle u (u.injEnd 4) := same rfl rfl
  have hend : BanksIdle s (s.cerEnd 6 fail) := (hcer _).trans ((hevent _).trans ((ccDeact ..).trans (ccDeact ..)))
  unfold State.cerFail
  exact ite (hend.trans (ite (hinj _) (refl _))) (refl s)

theorem abandon (s : State) (j : Job) : BanksIdle s (s.abandon j) := by
  have hlane (u : State) (n : Nat) (f : Lane → Lane) : BanksIdle u (u.modLane n f) := same rfl rfl
  have hunit (u : State) (n : Nat) (f : CUnit → CUnit) : BanksIdle u (u.modUnit n f) := same rfl rfl
  have hslot (u : State) (n : Nat) : BanksIdle u ((u.dropRecord j.id n).setSlot n {}) := same rfl rfl
  unfold State.abandon
  extract_lets u v
  have hu : BanksIdle s u := by
    simp only [u]
    split
    · exact hlane ..
    · exact refl s
  have hv : BanksIdle u v := by
    simp only [v]
    split
    · exact ite ((hunit ..).trans (releaseLeave ..)) (hunit ..)
    · exact refl u
  refine (hu.trans hv).trans ?_
  split
  · exact ite (refl v) (hslot ..)
  · exact refl v

theorem flashCut (s : State) : BanksIdle s s.flashCut := by
  refine ⟨fun h => ?_⟩
  rw [State.flashCut, h]
  exact ⟨rfl, rfl⟩

theorem allCut (s : State) : BanksIdle s s.allCut := (foldl abandon (s.jobs ++ s.fwJob.toList ++ s.fwWait.toList) s).trans (flashCut _)

end BanksIdle

namespace State

/-- A cold clear leaves the backup domain, and all of memory but system SRAM (R449). -/
theorem coldClear_kept (s : State) : s.coldClear.flk.kbb = s.flk.kbb ∧ s.coldClear.flags = s.flags ∧
    (s.flashOn = [] → ∀ a, s.coldClear.byte a = if 0x10000000 ≤ a ∧ a < 0x10800000 then memDefault a else s.byte a) := by
  have hcut := allCut_cut s
  have hidle := (BanksIdle.allCut s).idle
  have hdrop : (s.dropAll false).flk.kbb = s.allCut.flk.kbb ∧ (s.dropAll false).flags = s.allCut.flags ∧
      (s.dropAll false).mem = s.allCut.mem := ⟨rfl, rfl, rfl⟩
  have hbyte (u : State) (a : Nat) : u.coldClear.byte a = ((u.dropAll false).forget 0x10000000 0x10800000).byte a := rfl
  have hkept (u : State) : u.coldClear.flk.kbb = (u.dropAll false).flk.kbb ∧ u.coldClear.flags = (u.dropAll false).flags := ⟨rfl, rfl⟩
  refine ⟨(hkept s).1.trans (hdrop.1.trans (congrArg Flk.kbb hcut.flk)), (hkept s).2.trans (hdrop.2.1.trans hcut.flags),
    fun hon a => ?_⟩
  have hmem : (s.dropAll false).byte a = s.byte a :=
    congrArg (fun l => Tbl.get memDefault l a) (hdrop.2.2.trans (hidle hon).2)
  rw [hbyte, byte_forget, hmem]

/-- What remains when main power is lost with no commit and no flash operation under way (R449). -/
theorem powerLost_outcome {s : State} (hcommit : s.tag.commit = none) (hon : s.flashOn = []) :
    s.powerLost.mode = (if s.tag.field then .field else .backup) ∧ s.powerLost.jobs = [] ∧ s.powerLost.slots = [] ∧
    s.powerLost.flk.kbb = s.flk.kbb ∧ s.powerLost.flags = s.flags ∧
    ∀ a, s.powerLost.byte a = if 0x10000000 ≤ a ∧ a < 0x10800000 then 0 else s.byte a := by
  have hnocut : s.tagCut = s := by rw [tagCut, hcommit]
  have hcer := Cut.cerFail s 4
  obtain ⟨hon', hmem'⟩ := (BanksIdle.cerFail s 4).idle hon
  obtain ⟨hcleared, hslots, -⟩ := (s.cerFail 4).coldClear_outcome
  obtain ⟨hkbb, hflags, hbyte⟩ := (s.cerFail 4).coldClear_kept
  unfold powerLost
  rw [hnocut]
  generalize (s.cerFail 4).coldClear = u at hcleared hslots hkbb hflags hbyte ⊢
  refine ⟨rfl, hcleared.jobs, hslots, hkbb.trans (congrArg Flk.kbb hcer.flk), hflags.trans hcer.flags, fun a => ?_⟩
  refine (hbyte hon' a).trans ?_
  split
  next ha =>
    exact if_neg (by omega)
  next ha =>
    exact congrArg (fun l => Tbl.get memDefault l a) hmem'

/-! ### Modes (R450-R454) -/

/-- In Service, with what a change of mode leaves as it was. -/
structure InService (s t : State) : Prop where
  mode : t.mode = .service
  sys : t.sys = s.sys
  slots : t.slots = s.slots
  jobs : t.jobs = s.jobs
  mem : t.mem = s.mem

/-- Service is entered (R451). -/
theorem enterService_outcome (s : State) : InService s s.enterService ∧ bit (s.enterService.hdr Blk.SYS 0).evt 2 := by
  unfold enterService
  extract_lets old u v w
  have hu : InService s u := ⟨rfl, rfl, rfl, rfl, rfl⟩
  have hv : InService s v := by
    simp only [v]
    split
    · exact ⟨rfl, rfl, rfl, rfl, rfl⟩
    · exact hu
  have hw : InService s w := by
    simp only [w]
    split
    · exact ⟨hv.mode, hv.sys, hv.slots, hv.jobs, hv.mem⟩
    · exact hv
  have happ : InService s (w.tagApp old .service) := by
    unfold tagApp
    split
    · exact hw
    split
    · exact ⟨hw.mode, hw.sys, hw.slots, hw.jobs, hw.mem⟩
    · exact ⟨hw.mode, hw.sys, hw.slots, hw.jobs, hw.mem⟩
  exact ⟨⟨happ.mode, happ.sys, happ.slots, happ.jobs, happ.mem⟩, evt_event_self _ Blk.SYS 0 (by decide)⟩

/-- A request that the table of modes does not allow (R450). -/
def modeDenied (s : State) : State := { s with sys := { s.sys with reqRefused := true } }

/-- What SUPERVISOR's requests for Service, Hold and Lockdown do (R450). -/
theorem mreqWrite_service {s : State} {rq : Rq} (hsup : s.isSup rq = true) : s.mreqWrite rq 0x4D440001 =
    if s.serviceOk then some ({ s with sys := { s.sys with reqRefused := false } } : State).enterService
    else some s.modeDenied := by
  unfold mreqWrite
  rw [hsup]
  rfl

theorem mreqWrite_hold {s : State} {rq : Rq} (hsup : s.isSup rq = true) : s.mreqWrite rq 0x4D440002 =
    if s.mode = .service ∧ !s.clk.waiting then
      some ({ s with sys := { s.sys with reqRefused := false, holdPend := true } } : State).flushLog
    else some s.modeDenied := by
  unfold mreqWrite
  rw [hsup]
  rfl

theorem mreqWrite_lockdown {s : State} {rq : Rq} (hsup : s.isSup rq = true) : s.mreqWrite rq 0x4D440003 =
    if (s.mode = .start ∨ s.mode = .service ∨ s.mode = .hold) ∧ !s.clk.waiting then
      some (({ s with sys := { s.sys with reqRefused := false } } : State).lockdown 3 false)
    else some s.modeDenied := by
  unfold mreqWrite
  rw [hsup]
  rfl

/-- A lane that goes dormant, one after another, holds no leave. -/
theorem lanesDormant_leave (l : List Nat) (s : State) {n : Nat} (hn : n ∈ l ∨ (s.lane n).leave = false) :
    ((l.foldl (fun s n => if (s.lane n).leave then s.laneDormant n else s) s).lane n).leave = false := by
  induction l generalizing s with
  | nil => exact hn.resolve_left List.not_mem_nil
  | cons m l ih =>
    refine ih _ ?_
    have hlane (f : Lane → Lane) (k : Nat) : ((s.modLane m f).releaseLeave (.lane m)).lane k = (s.modLane m f).lane k :=
      congrArg (fun t => Tbl.get (fun _ => ({} : Lane)) t k) (LeaveOnly.releaseLeave (s.modLane m f) (.lane m)).lanes
    rcases Decidable.em (n = m) with rfl | hne
    · right
      dsimp only
      split
      next hleave =>
        rw [laneDormant, hlane, lane_modLane]
        rfl
      next hleave =>
        exact Bool.not_eq_true _ ▸ hleave
    · refine hn.imp (fun h => (List.mem_cons.mp h).resolve_left hne) fun h => ?_
      dsimp only
      split
      · rw [laneDormant, hlane, lane_modLane_ne _ _ hne]
        exact h
      · exact h

/-- Pairs started one after another run in the role, and the others are as they were. -/
theorem startPairs_outcome (l : List Nat) (role : Nat) (s : State) (p : Nat) :
    (p ∉ l → (l.foldl (fun s p => s.startPair p role false) s).pair p = s.pair p) ∧
    (p ∈ l → ((l.foldl (fun s p => s.startPair p role false) s).pair p).run = .running ∧
      ((l.foldl (fun s p => s.startPair p role false) s).pair p).role = role) := by
  induction l generalizing s with
  | nil => exact ⟨fun _ => rfl, fun h => absurd h List.not_mem_nil⟩
  | cons q l ih =>
    obtain ⟨hother, hrun⟩ := ih (s.startPair q role false)
    rw [List.foldl_cons]
    refine ⟨fun hp => ?_, fun hp => ?_⟩
    · rw [List.mem_cons, not_or] at hp
      exact (hother hp.2).trans (s.pair_setPair_ne _ hp.1)
    · rcases Classical.em (p ∈ l) with h | h
      · exact hrun h
      · obtain rfl : p = q := (List.mem_cons.mp hp).resolve_right h
        rw [hother h, startPair, modPair, pair_setPair]
        exact ⟨rfl, rfl⟩

/-- Hold is entered with no lane awake (R454). -/
theorem enterHold_outcome (s : State) : s.enterHold.mode = .hold ∧ s.enterHold.sys.holdPend = false ∧
    bit (s.enterHold.hdr Blk.SYS 0).evt 2 ∧ s.enterHold.slots = s.slots ∧ s.enterHold.mem = s.mem ∧
    ∀ n < 9, (s.enterHold.lane n).leave = false := by
  unfold enterHold
  extract_lets u v crd w x
  have hu : u.slots = s.slots ∧ u.mem = s.mem :=
    List.foldlRecOn (motive := fun t : State => t.slots = s.slots ∧ t.mem = s.mem) _ _ ⟨rfl, rfl⟩ fun t ht q _ => by
      have hrep := Reported.reportAll (t.modQp q (fun k => { k with closing := true, reread := none })) q
      exact ⟨(hrep.field State.slots fun _ => rfl).trans ht.1, (hrep.field State.mem fun _ => rfl).trans ht.2⟩
  have hv : v.slots = u.slots ∧ v.mem = u.mem :=
    List.foldlRecOn (motive := fun t : State => t.slots = u.slots ∧ t.mem = u.mem) _ _ ⟨rfl, rfl⟩ fun t ht n _ => by
      have hleave := LeaveOnly.releaseLeave (t.modLane n (fun l => { l with
        st := .dormant, work := .none, done := 0, since := 0, seed := none, next := none })) (.lane n)
      split
      · exact ⟨hleave.slots.trans ht.1, hleave.mem.trans ht.2⟩
      · exact ht
  have hlanes (n : Nat) (hn : n < 9) : (v.lane n).leave = false := lanesDormant_leave _ u (.inl (List.mem_range.mpr hn))
  clear_value v u
  have hw : w.slots = v.slots ∧ w.mem = v.mem ∧ w.lanes = v.lanes := by
    simp only [w]
    split
    · have hleave (c : Crd) := LeaveOnly.releaseLeave { v with crd := c } .sd
      exact ⟨(hleave _).slots, (hleave _).mem, (hleave _).lanes⟩
    · exact ⟨rfl, rfl, rfl⟩
  clear_value w crd
  have hx : x.slots = w.slots ∧ x.mem = w.mem ∧ x.lanes = w.lanes := ⟨rfl, rfl, rfl⟩
  clear_value x
  refine ⟨rfl, rfl, evt_event_self _ Blk.SYS 0 (by decide), hx.1.trans (hw.1.trans (hv.1.trans hu.1)),
    hx.2.1.trans (hw.2.1.trans (hv.2.trans hu.2)), fun n hn => ?_⟩
  have hlane : x.lane n = v.lane n := congrArg (fun t => Tbl.get (fun _ => ({} : Lane)) t n) (hx.2.2.trans hw.2.2)
  exact (congrArg Lane.leave hlane).trans (hlanes n hn)

end State
end Sys2Proof.Machine

open Sys2Proof Sys2Proof.Machine

/-- Settles O58: every step of a Start keeps what the steps before it have evaluated and may enter Lockdown but not leave it;
a request for a mode changes that mode's own state, and Lockdown quenches. -/
theorem startsModesAndPower : Obligations.StartsModesAndPower := by
  intro s rq x bad rows recs r p began ended refused denied
  have hbegan (u : State) (warm : Bool) (cause : Nat) : began (u.startBegin warm cause 0) warm cause := by
    obtain ⟨hcleared, hmode, hstart, -, -⟩ := u.startBegin_outcome warm cause 0
    exact ⟨hmode, hstart, hcleared.jobs, hcleared.qps, hcleared.ctxs, hcleared.leaveHeld⟩
  have hcold (u : State) (cause : Nat) : (u.startBegin false cause 0).slots = [] ∧ (u.startBegin false cause 0).kst.kseal = none :=
    (u.startBegin_outcome false cause 0).2.2.2.1 rfl
  have hrst (hw : s.writable rq Blk.SYS 0 R.SYS_RST = true) (v : Word) :
      s.asWrite rq Blk.SYS 0 R.SYS_RST v (fun s => s.sysRstWrite v) = (s.sysRstWrite v).getD (s.refuse rq R.SYS_RST Blk.SYS 0) :=
    s.asWrite_of_writable _ _ hw
  have hmreq (hw : s.writable rq Blk.SYS 0 R.SYS_MREQ = true) (v : Word) :
      s.asWrite rq Blk.SYS 0 R.SYS_MREQ v (fun s => s.mreqWrite rq v) = (s.mreqWrite rq v).getD (s.refuse rq R.SYS_MREQ Blk.SYS 0) :=
    s.asWrite_of_writable _ _ hw
  have hnext (hw : s.writable rq Blk.SYS 0 R.SYS_MREQ = true) {v : Word} {t : State} (h : s.mreqWrite rq v = some t) :
      Host.Outcome.next (s.asWrite rq Blk.SYS 0 R.SYS_MREQ v (fun s => s.mreqWrite rq v)) =
        (Host.Outcome.next t : Host.Outcome State Fault Refusal) :=
    congrArg Host.Outcome.next ((hmreq hw v).trans (congrArg (Option.getD · _) h))
  have hpair (hw : s.writable rq Blk.SYS 0 R.SYS_PAIR = true) :
      s.asWrite rq Blk.SYS 0 R.SYS_PAIR 1 (fun s => s.sysPairWrite rq 1) = (s.sysPairWrite rq 1).getD (s.refuse rq R.SYS_PAIR Blk.SYS 0) :=
    s.asWrite_of_writable _ _ hw
  refine ⟨fun hfield => ?powerGood, fun hfield hcommit hon => ?powerLost, fun hfield => ?rstn,
    fun hw => ⟨?cold, fun hmode hpend => ?warm, fun hmode => ?warmLocked⟩,
    fun hstart hrun => ⟨fun hwarm => ?coldSteps, fun hwarm => ?warmSteps, fun hwarm hmode hbad => ?noPair⟩,
    fun hw => ⟨fun hsup => ?notSup, fun hsup hrun => ⟨fun hpend hmode => ?service, fun hmode => ?serviceDenied,
      fun hmode => ?hold, fun hmode => ?holdDenied, fun hmode => ?lockdown, fun hmode => ?lockdownDenied⟩⟩,
    fun hpend hmode hready => ?holdComplete, fun hw => ⟨fun hsup hmode => ?release, fun hsup hdebug => ?releaseBarred⟩⟩
  case powerGood =>
    have heq : exec .mainPowerGood s = .next (({ s with tag := { s.tag with
        commit := s.tag.commit.map (fun c => { c with waits := false }) } } : State).startBegin false 1 0) :=
      congrArg Host.Outcome.next (if_neg (by rw [hfield]; decide))
    exact ⟨_, heq, hbegan _ false 1, (hcold _ 1).1⟩
  case powerLost =>
    have heq : exec .mainPowerLost s = .next s.powerLost :=
      congrArg Host.Outcome.next (if_neg (by rw [hfield]; decide))
    exact ⟨_, heq, State.powerLost_outcome hcommit hon⟩
  case rstn =>
    have heq : exec .rstn s = .next (s.startBegin false 2 0) := congrArg Host.Outcome.next (if_neg (by rw [hfield]; decide))
    exact ⟨_, heq, hbegan s false 2, (hcold s 2).1⟩
  case cold =>
    have hkey : s.sysRstWrite 0x52530002 = some (s.startBegin false 3 0) := by
      unfold State.sysRstWrite
      rw [if_neg (by decide), if_pos (by decide)]
    exact ⟨_, congrArg Host.Outcome.next ((hrst hw _).trans (congrArg (Option.getD · _) hkey)), hbegan s false 3, hcold s 3⟩
  case warm =>
    have hkey : s.sysRstWrite 0x52530001 = some (s.startBegin true 5 0) := by
      unfold State.sysRstWrite
      rw [if_neg (by decide), if_neg (by decide), if_pos (by decide), if_neg hmode, hpend]
      rfl
    obtain ⟨hkseal, -, hslots⟩ := (s.startBegin_outcome true 5 0).2.2.2.2 rfl
    exact ⟨_, congrArg Host.Outcome.next ((hrst hw _).trans (congrArg (Option.getD · _) hkey)), hbegan s true 5, hslots, hkseal⟩
  case warmLocked =>
    have hkey : s.sysRstWrite 0x52530001 = none := by
      unfold State.sysRstWrite
      rw [if_neg (by decide), if_neg (by decide), if_pos (by decide), if_pos hmode]
    exact congrArg Host.Outcome.next ((hrst hw _).trans (congrArg (Option.getD · _) hkey))
  case coldSteps =>
    have heq : exec (.coldStart x bad rows) s = .next (s.runStart r x bad rows []) := by
      simp [exec, execColdStart, hstart, hwarm, hrun]
    exact ⟨_, heq, (s.runStart_outcome r x bad rows []).1⟩
  case warmSteps =>
    have heq : exec (.warmStart bad recs) s = .next (s.runStart r true bad [] recs) := by
      simp [exec, execWarmStart, hstart, hwarm, hrun]
    exact ⟨_, heq, (s.runStart_outcome r true bad [] recs).1⟩
  case noPair =>
    have heq : exec (.coldStart x bad rows) s = .next (s.runStart r x bad rows []) := by
      simp [exec, execColdStart, hstart, hwarm, hrun]
    exact ⟨_, heq, (s.runStart_outcome r x bad rows []).2 hwarm hmode hrun hbad⟩
  case notSup =>
    have hnone (v : Word) : s.mreqWrite rq v = none := by
      unfold State.mreqWrite
      dsimp only
      exact if_pos (.inr (by rw [hsup]; rfl))
    have hrefused (v : Word) : Host.Outcome.next (s.asWrite rq Blk.SYS 0 R.SYS_MREQ v (fun s => s.mreqWrite rq v)) =
        (Host.Outcome.next (s.refuse rq R.SYS_MREQ Blk.SYS 0) : Host.Outcome State Fault Refusal) :=
      congrArg Host.Outcome.next ((hmreq hw v).trans (congrArg (Option.getD · _) (hnone v)))
    exact ⟨hrefused _, hrefused _, hrefused _⟩
  case service =>
    have hok : s.serviceOk = true := by
      rcases hmode with h | ⟨hm, hs, hsms, hlife⟩
      · simp [State.serviceOk, hpend, hrun, h]
      · simp only [State.serviceOk, hpend, hrun, hm, hs, hsms, Bool.not_false, Bool.true_and, Option.isNone_none]
        simpa [or_assoc] using hlife
    have heq : exec (.service rq) s = .next ({ s with sys := { s.sys with reqRefused := false } } : State).enterService :=
      hnext hw ((State.mreqWrite_service hsup).trans (if_pos hok))
    obtain ⟨hin, hevt⟩ := State.enterService_outcome { s with sys := { s.sys with reqRefused := false } }
    exact ⟨_, heq, hin.mode, congrArg Sys.reqRefused hin.sys, hevt, hin.slots, hin.jobs, hin.mem⟩
  case serviceDenied =>
    have hbar : ¬s.serviceOk = true := by
      rcases hmode with h | h
      · simp [State.serviceOk, h]
      · simp [State.serviceOk, h]
    exact hnext hw ((State.mreqWrite_service hsup).trans (if_neg hbar))
  case hold =>
    have heq : exec (.hold rq) s = .next ({ s with sys := { s.sys with reqRefused := false, holdPend := true } } : State).flushLog :=
      hnext hw ((State.mreqWrite_hold hsup).trans (if_pos ⟨hmode, by rw [hrun]; rfl⟩))
    obtain ⟨hpages, hlog⟩ := State.flushLog_only { s with sys := { s.sys with reqRefused := false, holdPend := true } }
    exact ⟨_, heq, hpages.field (fun t => t.sys.holdPend) fun _ => rfl, (hpages.field State.mode fun _ => rfl).trans hmode, hlog,
      hpages.jobs, hpages.field State.slots fun _ => rfl, hpages.mem⟩
  case holdDenied =>
    exact hnext hw ((State.mreqWrite_hold hsup).trans (if_neg fun h => hmode h.1))
  case lockdown =>
    have hne : s.mode ≠ .lockdown := by
      rcases hmode with h | h | h <;> simp [h]
    have heq : exec (.lockdown rq) s = .next (({ s with sys := { s.sys with reqRefused := false } } : State).lockdown 3 false) :=
      hnext hw ((State.mreqWrite_lockdown hsup).trans (if_pos ⟨hmode, by rw [hrun]; rfl⟩))
    obtain ⟨u, hu, hl, hevt⟩ := State.lockdown_cut (s := { s with sys := { s.sys with reqRefused := false } }) 3 false hne hrun
    exact ⟨_, heq, hl.mode, congrArg Sys.reason hl.sys, hl.slots rfl, hl.kseal,
      (congrArg Flk.kbb hl.flk).trans (congrArg Flk.kbb hu.flk), hevt⟩
  case lockdownDenied =>
    exact hnext hw ((State.mreqWrite_lockdown hsup).trans (if_neg (by simp [hmode])))
  case holdComplete =>
    have heq : exec .holdComplete s = .next s.enterHold := congrArg Host.Outcome.next (if_pos ⟨hpend, hmode, hready⟩)
    exact ⟨_, heq, s.enterHold_outcome⟩
  case release =>
    have hkey : s.sysPairWrite rq 1 = some (((List.range 3).filter (fun p =>
        (s.pair p).role == 2 && (s.pair p).run == PRun.held && !(s.pair p).fenced)).foldl
        (fun s p => s.startPair p 2 false) { s with sys := { s.sys with released := true } }) := by
      unfold State.sysPairWrite
      rw [if_neg (by rw [hsup]; simp), if_neg (by rw [not_or]; exact ⟨by decide, hmode⟩)]
    refine ⟨_, congrArg Host.Outcome.next ((hpair hw).trans (congrArg (Option.getD · _) hkey)), ?_⟩
    generalize hl : (List.range 3).filter (fun p =>
      (s.pair p).role == 2 && (s.pair p).run == PRun.held && !(s.pair p).fenced) = l
    obtain ⟨hother, hstarted⟩ := State.startPairs_outcome l 2 { s with sys := { s.sys with released := true } } p
    have hkept : (l.foldl (fun s p => s.startPair p 2 false) ({ s with sys := { s.sys with released := true } } : State)).sys.released = true ∧
        (l.foldl (fun s p => s.startPair p 2 false) ({ s with sys := { s.sys with released := true } } : State)).mem = s.mem :=
      List.foldlRecOn (motive := fun t : State => t.sys.released = true ∧ t.mem = s.mem) l _ ⟨rfl, rfl⟩ fun t ht _ _ => ht
    refine ⟨hkept.1, fun hrole hheld hfence => ?_, fun hrole => hother ?_, hkept.2⟩
    · exact hstarted (hl ▸ List.mem_filter.mpr ⟨List.mem_range.mpr p.isLt, by simp [hrole, hheld, hfence]⟩)
    · intro h
      have hheld := (List.mem_filter.mp (hl ▸ h : p.val ∈ (List.range 3).filter (fun p =>
        (s.pair p).role == 2 && (s.pair p).run == PRun.held && !(s.pair p).fenced))).2
      simp only [Bool.and_eq_true, beq_iff_eq] at hheld
      exact hrole hheld.1.1
  case releaseBarred =>
    have hkey : s.sysPairWrite rq 1 = none := by
      unfold State.sysPairWrite
      exact if_pos ⟨hdebug, by rw [hsup]; rfl⟩
    exact congrArg Host.Outcome.next ((hpair hw).trans (congrArg (Option.getD · _) hkey))
end
